-- ==== Sys2Proof/Config.lean ====
section
/-! DEFINITION. Config.lean: what the spec leaves open. Every constant here is opaque: no proof can see its value, so a
claim about the model holds for every value (logs 3, 6, 13, 14, 15, 16). -/

namespace Sys2Proof.Config

/-- A free value for each use, indexed by `State.freeCount` (log 3): a value the spec says is not defined. -/
opaque free : Nat → Nat

/-- Whether a real-valued result that is not a whole number of the entry's unit is shown rounded up; the spec gives no
rounding outside R74, R244 and R405 (log 13). -/
opaque roundsUp : Rat → Bool

/-- What a TPDO carries for an entry that holds one value per host, by its key: a PDO has no reading host (R273, R275; log 3). -/
opaque pdoPerHost : Nat → Int

/-- Square root as the datapaths form it; the spec gives no accuracy (R148, R211; log 14). -/
opaque sqrt : Rat → Rat

/-- e to the minus x as the estimator forms it (R210, R217; log 14). -/
opaque expNeg : Rat → Rat

/-- Thermistor temperature in degrees Celsius from x, R_REF_OHM, R_NOM_OHM and B_CONST: the formula of R240 holds a
natural logarithm whose accuracy is stated only for the whole conversion (log 14). -/
opaque ntc : Rat → Nat → Nat → Nat → Rat

/-- Quotient VIN_NOM / vin of R76, formed to a relative error of at most 2^-20 (log 14). -/
opaque quotientError : Int → Int → Rat

/-- Comparator threshold of a PHASE or LINE cell as a fraction of CS full scale: R42 leaves it to the role's own chapter, and no rule gives
it (log 114). -/
opaque limitRatio : Nat → Rat

/-- Quotient of a number by 0, where an algorithm of the spec divides and the divisor can be 0 (R197, R209 to R212, R216, R217, R221;
log 139). -/
opaque overZero : Rat → Rat

/-- UNIQUE_ID, set at manufacture (R293; log 6). -/
opaque uniqueId : BitVec 64

/-- HMAC-SHA-256, first 16 bytes (R207, Table 18-3; log 15). -/
opaque hmacBytes : List (BitVec 8) → List (BitVec 8) → Vector (BitVec 8) 16
/-- The same as a list of 16 bytes. -/
def hmac16 (key message : List (BitVec 8)) : List (BitVec 8) := (hmacBytes key message).toList

/-- SHA-256 (R358, R369; log 15). -/
opaque shaBytes : List (BitVec 8) → Vector (BitVec 8) 32
/-- The same as a list of 32 bytes. -/
def sha256 (message : List (BitVec 8)) : List (BitVec 8) := (shaBytes message).toList

/-- ECDSA P-256 verification: key, message, signature (R359; log 15). -/
opaque ecdsaOk : List (BitVec 8) → List (BitVec 8) → List (BitVec 8) → Bool

/-- Byerastra's public key in the boot ROM (R359; log 15). -/
opaque byerastraKey : List (BitVec 8)

/-- RFC 3394 key unwrap under a key: none when it fails (R358, R369; log 15). -/
opaque keyUnwrap : List (BitVec 8) → List (BitVec 8) → Option (List (BitVec 8))

/-- AES-256-GCM decryption of the body: key, IV, associated data, ciphertext (R358; log 15). -/
opaque gcmDecrypt : List (BitVec 8) → List (BitVec 8) → List (BitVec 8) → List (BitVec 8) → List (BitVec 8)

/-- The AES-256-GCM tag of the same operands (R358; log 15). -/
opaque gcmTagBytes : List (BitVec 8) → List (BitVec 8) → List (BitVec 8) → List (BitVec 8) → Vector (BitVec 8) 16
/-- The same as a list of 16 bytes. -/
def gcmTag (key iv associated text : List (BitVec 8)) : List (BitVec 8) := (gcmTagBytes key iv associated text).toList

/-- Fresh random bytes for a challenge or a nonce (R207, Table 18-3; log 16). -/
opaque randomBytes : Nat → Vector (BitVec 8) 16
/-- The same as a list of 16 bytes. -/
def random16 (n : Nat) : List (BitVec 8) := (randomBytes n).toList

/-- Factory service key and transit key of the part (R369; log 16). -/
opaque factoryServiceKey : List (BitVec 8)
opaque factoryTransitKey : List (BitVec 8)

/-- Minor release and build of the base firmware that the part is delivered with; its major release is 1 (R1; log 9). -/
opaque factoryRelease : BitVec 24

/-- What an undefined byte of memory reads as (R340, the DAP buffer of Table 13-6; log 11). -/
opaque undefinedByte : Nat → BitVec 8

end Sys2Proof.Config
end

