-- ==== Sys2Proof/Word.lean ====
section
/-! DEFINITION. Word.lean: the byte type, the instance numbers of the OL4880's units (spec/00, "Names follow these
conventions"), and the sparse store type of the dictionary. -/

namespace Sys2Proof

/-- One byte of an entry's value, a record or a frame. -/
abbrev Byte := BitVec 8

/-- A value as it travels: little-endian bytes (R291). -/
abbrev Bytes := List Byte

/-- Cells 00 to 47. -/
abbrev CellNo := Fin 48
/-- Loops L0 to L15. -/
abbrev LoopNo := Fin 16
/-- Line groups G00 to G23. -/
abbrev GroupNo := Fin 24
/-- Battery strings S0 to S3. -/
abbrev StringNo := Fin 4
/-- Rails 0 to 31 (R224). -/
abbrev RailNo := Fin 32
/-- Hosts H00 to H31. -/
abbrev HostNo := Fin 32
/-- Two-wire ports TW0 to TW11. -/
abbrev TwNo := Fin 12
/-- CAN A is 0, CAN B is 1. -/
abbrev CanNo := Fin 2
/-- Management cores 0 to 3. -/
abbrev CoreNo := Fin 4
/-- Sinks 0x00 to 0x3F (R184). -/
abbrev SinkNo := Fin 64
/-- Rows of the grant table (R188). -/
abbrev GrantNo := Fin 64
/-- Thermal inputs 0x00 to 0x15 (Table 11-1). -/
abbrev InputNo := Fin 22
/-- Trace units of the moth trap (R88). -/
abbrev TraceNo := Fin 4
/-- LEAK0 to LEAK7 (R140). -/
abbrev LeakNo := Fin 8
/-- Firmware slot: A is 0, B is 1. -/
abbrev FwSlot := Fin 2
/-- Channel blocks CB0 to CB5. -/
abbrev BlockNo := Fin 6
/-- Shared interrupt sources 0 to 159 (Table 16-3). -/
abbrev SharedNo := Fin 160
/-- DAP channels 0 (core 2) and 1 (core 3). -/
abbrev DapNo := Fin 2
/-- Source number of the allocator: groups 0x00 to 0x17, loops 0x20 to 0x2F (R144). -/
abbrev SourceNo := Fin 48

/-- A sparse store of entry values: key (index * 256 + subindex) and value, keys strictly rising. -/
abbrev Dict := List (Nat × Int)

end Sys2Proof
end

