-- ==== Sys2Proof/Syntax.lean ====
section
/-! DEFINITION. Syntax.lean: the commands of the block, one constructor for each row of spec/opcode_table.json in the
table's order, with the operands that the row's rule needs (log 1): the instance concerned, a host's key and the bytes it
writes, the samples a sampling step reads, or the measurement an event carries in its record. -/

namespace Sys2Proof

/-- Channel kinds of Table 13-5; the CAN port of a USDO or SDO channel stands in `Key.port`. -/
inductive ChanKind | usdo | sdo | twoWire | dap | service
  deriving DecidableEq, Repr

/-- The key of a host's channel (Table 13-5a). -/
structure Key where
  kind : ChanKind
  port : Nat
  addr : Nat
  deriving DecidableEq, Repr

/-- A dictionary access of a USDO or SDO request (R272, R273, R303). -/
inductive Access
  | read (index sub offset : Nat)
  | write (index sub : Nat) (data : Bytes)
  deriving DecidableEq, Repr

/-- Cause of a cold reset (2000:10, Table 19-9). -/
inductive ColdCause | powerOn | rstN | supply | vaon
  deriving DecidableEq, Repr

/-- A part that failed the memory self-test (Table 16-8, Table 16-11). -/
inductive MemFail
  | bank (b : Fin 8) | loopMemory | checker | mothTrap
  deriving DecidableEq, Repr

/-- The die that loses the link (R12). -/
inductive Die | mixedSignal | digital
  deriving DecidableEq, Repr

/-- What a discarded die-link slot carried (R10). -/
inductive SlotKind
  | sample (c : CellNo) | command (c : CellNo) | other
  deriving DecidableEq, Repr

/-- A block of Table 01-3: a channel block, or another by its source byte (Table 17-2). -/
inductive BlockId | cb (b : BlockNo) | other (source : BitVec 8)
  deriving DecidableEq, Repr

/-- What a member's period samples (R39 to R41) and how its duty word fared (R70, R13). Conversions are 12-bit results as the
ADC gives them; bits are those of a bitstream, oldest first. -/
structure MemberSample where
  /-- The CS conversion at the sample point. -/
  csPoint : BitVec 12
  /-- Every CS conversion that started in the period (R40, R117). -/
  csAll : List (BitVec 12)
  /-- The VS conversion at the sample point. -/
  vs : BitVec 12
  /-- Bits of the CS and AUX bitstreams from the last sample point to this one (R41). -/
  csBits : List Bool
  auxBits : List Bool
  /-- The duty word reached the cell by load setup (R70). -/
  inTime : Bool
  /-- Loop memory read without an uncorrectable error (R13). -/
  memoryOk : Bool
  deriving DecidableEq, Repr

/-- The four CS and four VS conversions of one 1 µs control period (R40). -/
structure ControlSample where
  cs : Vector (BitVec 12) 4
  vs : Vector (BitVec 12) 4
  deriving DecidableEq, Repr

/-- The 16 conversions of one frame of a block voltage ADC, by slot (R52). -/
structure AdcFrame where
  slots : Vector (BitVec 12) 16
  deriving DecidableEq, Repr

/-- What a comparator or a short-window detector sees (R42): the CS pins in µV, or the last 16 bits of the bitstream. -/
inductive TripSense
  | analog (uv : Int)
  | stream (bits : BitVec 16)
  deriving DecidableEq, Repr

/-- Why a start aborts (event 0x202A). -/
inductive AbortCause | voltShort | sourceLimit | tooFew
  deriving DecidableEq, Repr

/-- Why a member fails (R117, event 0x2022). -/
inductive DropCause | deviation | stuckSense | invalidSense | driverFault | startShort
  deriving DecidableEq, Repr

/-- The sense at its range limit (R48). -/
inductive Sense | cs | vs
  deriving DecidableEq, Repr

/-- One calibrated channel of REPAIR step 3 (R59): channel 0 to 3, mean of the offset point, mean of the gain point. -/
structure CalPoint where
  channel : Fin 4
  offset : Rat
  gainMean : Rat
  deriving DecidableEq, Repr

/-- What the repair steps found (Table 03-12), and how many bytes of the record step 4 wrote: fewer than 112 when PFI tore
the copy (Table 03-13). -/
structure RepairFinding where
  selfTestOk : Bool
  points : List CalPoint
  written : Nat
  deriving DecidableEq, Repr

/-- Stop causes of Table 06-3 that a lane finds. -/
inductive StopCause
  | lineLost | energy | sense | startShort | reverse | maint | loopStopped
  deriving DecidableEq, Repr

/-- Causes of the held tests (R136). -/
inductive HeldCause | reverse | energy | limit
  deriving DecidableEq, Repr

/-- Pass-device faults 0x11 to 0x13 (R166). -/
inductive PassCause | gateMin | gateOn | offCurrent
  deriving DecidableEq, Repr

/-- Why a rest window ends (R214). -/
inductive WindowEnd | time | shortfall | mode | string
  deriving DecidableEq, Repr

/-- A transfer on TW11 and its one repeat (R202): what came, none for a NACK or a failed PEC. -/
structure Tries where
  first : Option Bytes
  again : Option Bytes
  deriving DecidableEq, Repr

/-- A poll of a pack (R202): BLOCK_COUNT and BLOCK_VOLTS of each device, in rising address order, or PACK_TEMP. -/
inductive PackPoll
  | blocks (devices : List (Tries × Tries))
  | temperature (t : Tries)
  deriving DecidableEq, Repr

/-- What a pack answered in AUTHENTICATING (R207, Table 09-1): PACK_ID, whether the CHALLENGE write was acknowledged at its two tries, the
reads of RESPONSE, and HISTORY. -/
structure PackAnswer where
  packId : Tries
  challenge : Bool × Bool
  responses : List Tries
  history : Tries
  deriving DecidableEq, Repr

/-- A known-vector self-test of a lane (R258): pass and signature. -/
structure LaneTest where
  pass : Bool
  signature : BitVec 64
  deriving DecidableEq, Repr

/-- A lane (R252). -/
inductive Lane | a | b
  deriving DecidableEq, Repr

/-- How a read frame of a two-wire host ends (R307 to R310): with P or with a data byte after the source byte, or with `n` bytes
clocked out before P, the COUNT byte and the PEC included. -/
inductive TwRead | stop | extra | clocked (n : Nat)
  deriving DecidableEq, Repr

/-- A transaction of the part's own on a two-wire port (R319): a Host Notify, or the poll of a regulator's address. -/
inductive OwnFrame | notify | poll (c : CellNo) (addr : Nat)
  deriving DecidableEq, Repr

/-- What a regulator answered at a poll (R321): the reads of Table 15-7, each with its one repeat. -/
structure RegAnswer where
  addr : Nat
  revision : Tries
  capability : Tries
  voutMode : Tries
  mfrId : Tries
  statusWord : Tries
  vin : Tries
  vout : Tries
  iout : Tries
  temp : Tries
  pout : Tries
  deriving DecidableEq, Repr

/-- A memory of Table 16-11. -/
inductive Memory | sram | mothTrap | loopMemory | mram
  deriving DecidableEq, Repr

/-- An interrupt source (Table 16-3). -/
inductive IrqSource | priv (c : CoreNo) (p : Fin 32) | shared (n : SharedNo)
  deriving DecidableEq, Repr

/-- The register that holds the priority written (R336): SRC_CFG of a shared source, or PRIV_PRIO[m] of a core. -/
inductive PrioReg | shared (n : SharedNo) | priv (c : CoreNo) (m : Fin 4)
  deriving DecidableEq, Repr

/-- Words that a core stores to a page of its registers, in order: offset and word (Tables 13-6, 16-9). -/
abbrev Stores := List (BitVec 12 × BitVec 32)

/-- What a core asked of a memory (R341): a fetch, a load, or the read of a sub-word store. -/
inductive CoreAccess | fetch | load | store
  deriving DecidableEq, Repr

/-- Whose operation an uncorrectable error ends (R341, Table 16-11): a core's access, a dictionary read through a channel, or an operation
of the recorder, the scrubber or the MRAM controller. -/
inductive Requester
  | core (c : CoreNo) (kind : CoreAccess) | host (k : Key) | recorder | scrubber | mramController
  deriving DecidableEq, Repr

/-- The ring or the Peat log (R354, R355). -/
inductive Store | ring | peat
  deriving DecidableEq, Repr

/-- A request frame on the service port (R361): sequence number, the length field, payload and CRC-32 as they came; the row is its type. -/
structure Fafort where
  seq : BitVec 8
  length : BitVec 16
  payload : Bytes
  crc : BitVec 32
  deriving DecidableEq, Repr

/-- A PLL (R372). -/
inductive Pll | s | l | h
  deriving DecidableEq, Repr

/-- What a class notice runs on: a grant, or a sink to be shed (R192). -/
inductive NoticeItem | grant (g : GrantNo) | sink (s : SinkNo)
  deriving DecidableEq, Repr

/-- The commands of the block. -/
inductive Instr
  -- resets, boot and the die link
  | coldReset (cause : ColdCause) (supplyFault : BitVec 6)
  | boot (bootsel : Fin 4) (fails : List MemFail) (crystalOk : Bool) (laneA laneB : LaneTest)
  | bootComplete
  | manageRestart
  | watchdogExpiry (core : Fin 2)
  | slotCrcFail (what : SlotKind)
  | linkLoss (die : Die)
  | lclkLoss
  | blockLocalReset (block : BlockId) (firstOk secondOk : Bool)
  -- the tick, the ledger and the mode
  | ledgerTick
  | phaseShed (k : LoopNo)
  | burstEntry (k : LoopNo)
  | sinkRestore (s : SinkNo)
  | grantExpiry (g : GrantNo)
  | noticeExpiry (what : NoticeItem)
  | throttleOverCap (s : SinkNo)
  | throttleEnforce (s : SinkNo)
  | modeRequest (who : Key) (data : Bytes)
  | shutdownLatchClear (who : Key) (data : Bytes)
  | profileSelect (who : Key) (data : Bytes)
  | latencyBudgetWrite (who : Key) (budget : Fin 4) (data : Bytes)
  | ownPowerPeakClear (who : Key) (data : Bytes)
  | consumptionUpdate (watch loop channel manage : Nat)
  | hostWake (who : Key) (fails : List MemFail)
  -- loops and stages
  | loopPeriod (k : LoopNo) (m : CellNo) (x : MemberSample)
  | overrunStop (k : LoopNo)
  | shareRampComplete (m : CellNo)
  | syncinEdge (stamp : Nat)
  | syncLocked (k : LoopNo)
  | syncLost
  | loopEnable (who : Key) (k : LoopNo) (data : Bytes)
  | softStartEnd (k : LoopNo)
  | pgRise (k : LoopNo)
  | startAbort (k : LoopNo) (cause : AbortCause)
  | hiccupRetry (k : LoopNo)
  | hiccupReload (k : LoopNo)
  | phaseDrop (m : CellNo) (cause : DropCause)
  | startInputQualified (k : LoopNo)
  | activeSetWrite (who : Key) (k : LoopNo) (data : Bytes)
  | safeLockWrite (who : Key) (k : LoopNo) (data : Bytes)
  | coefficientWordLand (k : LoopNo)
  | arm (who : Key) (u : TraceNo)
  | forceTrigger (who : Key) (u : TraceNo)
  | disarm (who : Key) (u : TraceNo)
  -- cells and maintenance
  | cycleByCycleLimit (c : CellNo) (step : Nat) (sense : TripSense)
  | fastTrip (c : CellNo) (sense : TripSense)
  | oringReverse (c : CellNo) (sense : TripSense)
  | driverFlt (c : CellNo) (present : Bool)
  | senseRangeFault (c : CellNo) (sense : Sense) (present : Bool)
  | bitclkLoss (c : CellNo) (present : Bool)
  | bitstreamStuck (c : CellNo) (present : Bool)
  | holdWindow (c : CellNo)
  | faultLatchClear (who : Key) (c : CellNo) (data : Bytes)
  | safeActionWrite (who : Key) (c : CellNo) (data : Bytes)
  | calRecordWrite (who : Key) (c : CellNo) (data : Bytes)
  | blockAdcFrame (b : BlockNo) (frame : AdcFrame)
  | drain (who : Key) (c : CellNo)
  | drainForce (who : Key) (c : CellNo)
  | commit (who : Key) (c : CellNo)
  | repair (who : Key) (c : CellNo)
  | release (who : Key) (c : CellNo)
  | abandon (who : Key) (c : CellNo)
  | maintCmdStart (c : CellNo)
  | drainComplete (c : CellNo)
  | drainTimeout (c : CellNo)
  | repairDone (c : CellNo) (finding : RepairFinding)
  | cellStartComplete (c : CellNo)
  -- line harvest
  | lineVendSample (g : GroupNo) (bits : List Bool)
  | lineQualified (g : GroupNo)
  | groupEnable (who : Key) (g : GroupNo) (data : Bytes)
  | groupStart (g : GroupNo)
  | groupRampComplete (g : GroupNo)
  | groupStop (g : GroupNo) (cause : StopCause)
  | heldTestMet (g : GroupNo) (cause : HeldCause)
  | leakTrip (l : LeakNo) (asserted : Bool)
  | dischargeEnd (g : GroupNo)
  | groupRetry (g : GroupNo)
  | groupRetryReload (g : GroupNo)
  | groupClear (who : Key) (g : GroupNo) (data : Bytes)
  | idCycle
  | identificationDone (g : GroupNo)
  | busLoopSample
  -- feeders and ideal diodes
  | slotPresent (c : CellNo)
  | unseat (c : CellNo)
  | unseat50ms (c : CellNo)
  | insertionCountDone (c : CellNo)
  | feederStart (c : CellNo)
  | feederControlPeriod (c : CellNo) (x : ControlSample)
  | inrushTimeout (c : CellNo)
  | passDeviceFault (c : CellNo) (cause : PassCause)
  | feederUnloaded (c : CellNo)
  | feederRetry (c : CellNo)
  | feederRetryReload (c : CellNo)
  | feederClear (who : Key) (c : CellNo) (data : Bytes)
  | feedEnable (who : Key) (c : CellNo) (data : Bytes)
  | oringControlPeriod (c : CellNo) (x : ControlSample)
  | oringRearm (c : CellNo)
  | orClear (who : Key) (c : CellNo) (data : Bytes)
  | orEnable (who : Key) (c : CellNo) (data : Bytes)
  | grantRequest (who : Key) (data : Bytes)
  -- battery
  | estimatorUpdate (s : StringNo)
  | restWindowEnd (s : StringNo) (cause : WindowEnd)
  | restAnchor (s : StringNo)
  | fullAnchor (s : StringNo)
  | absorbTimeout (s : StringNo)
  | impedanceRcUpdate (s : StringNo)
  | packPoll (s : StringNo) (poll : PackPoll)
  | stringAuthenticate (s : StringNo) (answer : PackAnswer)
  | stringAbsent (s : StringNo)
  | stringLvd (s : StringNo)
  | stringBlockLimit (s : StringNo)
  | stringEnable (who : Key) (s : StringNo) (data : Bytes)
  | stringClear (who : Key) (s : StringNo) (data : Bytes)
  | recordReset (who : Key) (s : StringNo) (data : Bytes)
  | recordWriteback (s : StringNo)
  -- sequencing and hold-up
  | pgSample (pins : BitVec 16)
  | railSlot (r : RailNo)
  | railPgTimeout (r : RailNo)
  | railRetry (r : RailNo)
  | railNotOff (r : RailNo)
  | railClear (who : Key) (r : RailNo) (data : Bytes)
  | settleCommitted
  | restartDelayEnd
  | pfiAssert
  | lastgaspCommitted (us : Nat)
  | pfiRelease
  -- thermal
  | thermalEvaluation (i : InputNo) (mean : Option Rat)
  | thermalRateEvaluation (i : InputNo)
  | thermalRelease (i : InputNo)
  | derateStep (k : LoopNo)
  | regionDiffClear
  -- lanes
  | mismatch (kind : Nat) (inst : Nat) (active standby : BitVec 32)
  | selftestDecision (a b : LaneTest) (gapNs : Nat)
  | standbyInternalError
  | bgSelftestFail (lane : Lane) (unit : Nat)
  | laneWindow (test : LaneTest) (copyUs : Nat)
  | returnA (who : Key)
  | returnB (who : Key)
  | retireStandby (who : Key)
  | autoReturn (lane : Lane)
  | laneReturnSelftestDone (test : LaneTest)
  | laneResyncDone (us : Nat)
  | laneCopyTimeout
  -- field network and hosts
  | canBusOff (p : CanNo)
  | busOffRecovery (p : CanNo)
  | nmtResetNode (p : CanNo)
  | nmtResetCommunication (p : CanNo)
  | nmtStart (p : CanNo)
  | nmtStop (p : CanNo)
  | nmtEnterPreoperational (p : CanNo)
  | heartbeatReceived (p : CanNo) (node : Nat)
  | heartbeatLost (p : CanNo) (node : Nat)
  | heartbeatProduce (p : CanNo)
  | syncReceived (p : CanNo)
  | timeReceived (p : CanNo) (days ms : Nat)
  | lssConfigureBitTiming (p : CanNo) (rateK : Nat)
  | lssConfigureNodeId (p : CanNo) (node : Nat)
  | lssStoreConfiguration (p : CanNo)
  | usdoRequest (who : Key) (access : Access)
  | segmentedTransferTimeout (who : Key)
  | dictWrite (who : Key) (index sub : Nat) (data : Bytes)
  | agreementAdoption (set inst band : Nat)
  | multiWrite (who : Key) (data : Bytes)
  | rpdoReceived (n : Fin 16) (data : Bytes)
  | tpdoEventCheck
  | emcyInhibitExpiry (p : CanNo)
  | lingerExpiry (h : HostNo)
  | lockCmd (who : Key) (data : Bytes)
  | lockLeaseExpiry
  | dapRead (ch : DapNo) (stores : Stores) (index sub offset : Nat)
  | dapWrite (ch : DapNo) (stores : Stores) (index sub : Nat) (data : Bytes)
  | dapMultiWrite (ch : DapNo) (stores : Stores) (data : Bytes)
  | dapAbort (ch : DapNo)
  | dapRequestEnd (ch : DapNo)
  | storeSave (who : Key) (sub : Nat) (data : Bytes)
  | storeWritten (ms : Nat)
  | restoreLoad (who : Key) (sub : Nat) (data : Bytes)
  -- two-wire ports
  | twStatus (p : TwNo) (src : BitVec 7) (r : TwRead)
  | dictSelect (p : TwNo) (src : BitVec 7) (bytes : Bytes)
  | twDictRead (p : TwNo) (src : BitVec 7) (r : TwRead)
  | twDictWrite (p : TwNo) (src : BitVec 7) (bytes : Bytes)
  | dictResult (p : TwNo) (src : BitVec 7) (r : TwRead)
  | eventCursor (p : TwNo) (src : BitVec 7) (bytes : Bytes)
  | eventWindow (p : TwNo) (src : BitVec 7) (r : TwRead)
  | twGrantRequest (p : TwNo) (src : BitVec 7) (bytes : Bytes)
  | grantState (p : TwNo) (src : BitVec 7) (r : TwRead)
  | alertCause (p : TwNo) (src : BitVec 7) (r : TwRead)
  | portInfo (p : TwNo) (src : BitVec 7) (r : TwRead)
  | quickCommand (p : TwNo)
  | alertResponse (p : TwNo) (rival : Option (BitVec 7)) (pec : Bool)
  | twBusError (p : TwNo) (src : Option (BitVec 7))
  | stretchLimit (p : TwNo)
  | portSleep (p : TwNo)
  | hostNotify (p : TwNo) (acked : Bool)
  | hostNotifyRetry (p : TwNo) (acked : Bool)
  | arbitrationLost (p : TwNo) (own : OwnFrame)
  | twTimeout (p : TwNo) (controller : Bool)
  | busRecovery (p : TwNo) (sda : List Bool)
  | portFaultCheck (p : TwNo) (linesHigh : Bool)
  | regulatorPoll (c : CellNo) (answers : List RegAnswer)
  -- cores, interrupts and memory
  | appFault (c : CoreNo) (mcause mtval : BitVec 32)
  | icuSourceEvent (src : IrqSource)
  | swset (c : CoreNo) (mask : BitVec 8)
  | moderationRelease (n : SharedNo)
  | coreWfi (c : CoreNo)
  | claim (c : CoreNo)
  | complete (c : CoreNo) (id : BitVec 8)
  | targetWrite (c : CoreNo) (n : SharedNo) (word : BitVec 32)
  | timerCompareWrite (c : CoreNo) (n : Fin 4) (hi : BitVec 16) (lo : BitVec 32)
  | timerCompareMatch (c : CoreNo) (n : Fin 4)
  | timeLoRead (c : CoreNo)
  | eccCorrected (mem : Memory) (addr : BitVec 32) (requester : Fin 12)
  | eccUncorrectable (mem : Memory) (addr : BitVec 32) (requester : Requester)
  | scrubGo (c : CoreNo) (stores : Stores) (machineMode : Bool) (start words : Nat)
  | scrubAbort (c : CoreNo) (atWord : Bool) (corr uncorr : Nat) (firstBad : BitVec 32)
  | scrubDone (c : CoreNo) (corr uncorr : Nat) (firstBad : BitVec 32)
  -- event recorder
  | foldTimeout (source : BitVec 8)
  | peatAppend (seq : Nat)
  | numberReserveWrite
  | window (who : Key) (store : Store)
  | cursor (who : Key) (store : Store) (data : Bytes)
  | ringRetire (who : Key) (store : Store) (data : Bytes)
  | gaspClear (who : Key) (data : Bytes)
  -- Fafort, keys and boot
  | identify (f : Fafort)
  | authBegin (f : Fafort)
  | authProve (f : Fafort)
  | fafortDictRead (f : Fafort)
  | fafortDictWrite (f : Fafort)
  | imageBegin (f : Fafort)
  | imageData (f : Fafort)
  | imageEnd (f : Fafort)
  | activate (f : Fafort)
  | keyWrite (f : Fafort)
  | close (f : Fafort)
  | sessionTimeout
  | authLockoutEnd
  | activation
  | activateCancelled
  | appConfirm (d : DapNo) (data : Bytes)
  | trialConfirm
  | rollback (who : Key) (data : Bytes)
  | fallback
  -- clocks and late rows of the table
  | xinLost
  | pllUnlock (pll : Pll)
  | xinLocked (errorCentiPct : Int)
  | x32Fail
  | wispTrim (trim : Int)
  | linkRetrain (upstream : Bool) (lane : Fin 8) (step : Int) (corrected : Bool)
  | addressRecognisedAsleep (p : TwNo)
  | errCmd (p : TwNo)
  | errorPassive (p : CanNo) (into : Bool)
  | tpdoEventTimer (n : Fin 32)
  | prioWrite (c : CoreNo) (reg : PrioReg) (word : BitVec 32)
  | thresholdWrite (c : CoreNo) (threshold : Fin 16)
  | pllRelockRetry (pll : Pll) (lockedCentiPct : Option Int)
  deriving DecidableEq, Repr

end Sys2Proof
end

