-- ==== Sys2Proof/Machine/State.lean ====
section
/-! DEFINITION. Machine/State.lean: everything the spec gives the OL4880 to hold, as plain data, and the state right
after a cold reset (RST_N just released, BOOT still to come). INVENTORY.md, "State", lists each piece with its rule. -/

namespace Sys2Proof.Machine

/-- Why a step faults. No command of the block faults (log 20): every row of the table has an effect. The one fault is
raised by no meaning and is kept so that the type is not empty: safe. -/
inductive Fault
  | noSuchUnit
  deriving DecidableEq, Repr

/-- Why a step is refused by the model. -/
inductive Refusal
  /-- Raised by an arm of `exec` that has no meaning yet, by the row's name: safe (the model stops). -/
  | notModelled (mnemonic : String)
  deriving DecidableEq, Repr

/-- Modes of Table 02-1. -/
inductive Mode | dormant | rising | serving | rationed | holdup | lifeline | settling | tending
  deriving DecidableEq, Repr

/-- Access classes, rising (spec/00). -/
inductive Class | obs | slt | opr | eng | vnd
  deriving DecidableEq, Repr

/-- Level of a PWA or PWB output: low, high, or switching. -/
inductive Drive | low | high | switching
  deriving DecidableEq, Repr

/-- Roles of Table 03-5. -/
inductive Role | idle | phase | line | feeder | oring
  deriving DecidableEq, Repr

/-- STATE of a cell (3000+nn:06). -/
inductive CellState | inService | draining | drained | testing | starting
  deriving DecidableEq, Repr

/-- MAINT_CMD codes 1 to 6 (3000+nn:09). -/
inductive MaintCmd | drain | drainForce | commit | repair | release | abandon
  deriving DecidableEq, Repr

/-- Feeder states of Table 07-1. -/
inductive FeedState | disabled | empty | inserting | held | inrush | on | retryWait | latched
  deriving DecidableEq, Repr

/-- ORING states of Table 07-6. -/
inductive OrState | disabled | blocking | regulating | fullOn | rearming | latched
  deriving DecidableEq, Repr

/-- LOOP_STATE (3100+k:03). -/
inductive LoopState | stopped | starting | running | stoppedByCause
  deriving DecidableEq, Repr

/-- STAGE_STATE (3100+k:7B). -/
inductive StageState | continuous | burst | braking | softStart | hiccupWait
  deriving DecidableEq, Repr

/-- SYNC_STATE (3100+k:76). -/
inductive SyncState | free | acquiring | locked | returning | outOfRange
  deriving DecidableEq, Repr

/-- Coefficient sets (R80). -/
inductive SetName | set0 | set1 | safe
  deriving DecidableEq, Repr

/-- Group states of Table 06-2. -/
inductive GroupState
  | disabled | signature | waiting | qualifying | qualified | starting | delivering | identifying | discharging
  | retryWait | lockedOut
  deriving DecidableEq, Repr

/-- String states of Table 09-2. -/
inductive StringState | disabled | absent | authenticating | open | connected | rejected
  deriving DecidableEq, Repr

/-- CHARGE_STAGE (R220): none while not connected, 0x05 in a rest window (R214). -/
inductive ChargeStage | none | float | bulk | absorb | inhibited | window
  deriving DecidableEq, Repr

/-- Rail states of Table 10-3. -/
inductive RailState | off | waiting | judging | good | failed | retryWait | skipped | shed | latchedOff
  deriving DecidableEq, Repr

/-- SEQ_STATE (2300:01). -/
inductive SeqState | idle | onSequence | onComplete | offSequence | offDone | restartWait
  deriving DecidableEq, Repr

/-- INPUT_STATE (Table 11-2). -/
inductive InputState | normal | warn | throttle | invalid | off
  deriving DecidableEq, Repr

/-- LANE_STATE (Table 12-1). -/
inductive LaneState | active | standby | testing | syncing | retired | off
  deriving DecidableEq, Repr

/-- PAIR_STATE (2500:01). -/
inductive PairState | paired | switching | simplex | window | syncing | safe | off
  deriving DecidableEq, Repr

/-- Grant states of Table 08-6. -/
inductive GrantStateCode | free | active | notice | ended
  deriving DecidableEq, Repr

/-- NMT states of a CAN port. -/
inductive Nmt | initialising | preOperational | operational | stopped
  deriving DecidableEq, Repr

/-- PORT_STATE of a CAN port (2102:07). -/
inductive CanState | active | passive | busOff | off
  deriving DecidableEq, Repr

/-- PORT_STATE of a two-wire port (2800+p:07). -/
inductive TwState | off | idle | asleep | active | fault
  deriving DecidableEq, Repr

/-- Slot states of Table 18-5. -/
inductive SlotState | empty | writing | valid | trial | confirmed | failed
  deriving DecidableEq, Repr

/-- UNIT_STATE of a trace unit (2610+u:01). -/
inductive TraceState | idle | armed | triggered | done
  deriving DecidableEq, Repr

/-- How far the device has come since its last cold reset (R367, R368, R384). -/
inductive BootPhase | held | booted | running | recovery
  deriving DecidableEq, Repr

/-- What MANAGE does (R36, R384): running, in a warm reset, or in a Cocoon depth. -/
inductive Manage | running | warmReset | shallow | deep
  deriving DecidableEq, Repr

/-- Where the service cores stand (Table 02-9, R326). -/
inductive CoreRun | held | running | wfi | retention | halted
  deriving DecidableEq, Repr

/-- An event record (Table 17-1); the payload as bytes. -/
structure Rec where
  code : Nat
  payload : Bytes
  severity : Nat
  suppressed : Bool
  peat : Bool
  pfi : Bool
  stamp : Nat
  inst : Nat
  source : Nat
  rep : Nat
  /-- Timestamp of the last occurrence folded into it (R349). -/
  last : Nat
  seq : Nat
  closed : Bool
  deriving DecidableEq, Repr

/-- Token bucket of a code and instance (R348). -/
structure Bucket where
  code : Nat
  inst : Nat
  tokens : Rat
  stamp : Nat
  suppressedLast : Bool
  deriving DecidableEq, Repr

/-- A copy of the number reserve in MRAM: sequence number limit, copy sequence, CRC-32 (R347). -/
structure Reserve where
  limit : Nat
  seq : Nat
  crc : Nat
  deriving DecidableEq, Repr

/-- The event recorder and the Peat core (R345 to R357). -/
structure Recorder where
  /-- Ring, oldest first (R350). -/
  ring : List Rec
  /-- Next sequence number and the number reserve's limit (R347). -/
  nextSeq : Nat
  limit : Nat
  reserveA : Reserve
  reserveB : Reserve
  reserveDue : Bool
  /-- Records waiting for the new limit (R347). -/
  waiting : List Rec
  suppressed : Nat
  buckets : List Bucket
  /-- Queue of 8 KiB while MANAGE is down or in record mode, and how many it lost (R351). -/
  queue : List Rec
  dropped : Nat
  /-- Peat log, oldest first, and closed records still to be appended (R352). -/
  log : List Rec
  appendDue : List Rec
  /-- Entries of the log that fail their CRC (R352). -/
  torn : Nat
  /-- Last-gasp slots, newest first (R353). -/
  gasps : List Bytes
  /-- Last numbers accepted by RING_RETIRE and PEAT_RETIRE (R355). -/
  ringRetired : Nat
  peatRetired : Nat
  /-- Highest numbers that the ring and the log have lost, 0 for none (R354). -/
  ringGone : Nat
  peatGone : Nat
  deriving DecidableEq, Repr

/-- A message the OL4880 sends (R269, R275, R277, R318). -/
inductive Msg
  | emcy (p : CanNo) (code : Nat) (bytes : Bytes)
  | bootUp (p : CanNo)
  | heartbeat (p : CanNo) (nmt : Nmt)
  | tpdo (p : CanNo) (n : Nat) (bytes : Bytes)
  | notify (p : TwNo) (sinkCode cause : Nat)
  | lss (p : CanNo) (errorCode : Nat)
  deriving DecidableEq, Repr

/-- The answer to the last access or frame: status (0 done, an abort code, or a frame status), bytes, whole length. -/
structure Reply where
  code : Nat
  data : Bytes
  total : Nat
  deriving DecidableEq, Repr

/-- Feeder part of a cell (Table 07-8, R158 to R173). -/
structure Feeder where
  st : FeedState
  /-- How often ON has been entered (R321). -/
  onCount : Nat
  tripCause : Nat
  retryLeft : Nat
  retryTimerUs : Nat
  tripCount : Nat
  present : Bool
  countDone : Bool
  /-- Inrush regulator u of R163. -/
  u : Rat
  /-- SOA dissipation in µJ and time since the start in µs (R164). -/
  soaE : Rat
  startUs : Nat
  soaUsed : Nat
  inrushUs : Nat
  /-- V_DS has been below 500 mV: PWA held high, gate awaited (R165). -/
  fetOn : Bool
  /-- Lowest trip cause met since the last control period, none for none, and when it was met (R170, Table 07-7). -/
  tripDue : Option Nat
  tripAt : Nat
  /-- Counts of control periods, each 1 µs: insertion count, time unseated, time in ON, time without load, time with the gate off and
  with current all the same, gate below GATE_ON_MV in ON; and V_gate has reached GATE_MIN_MV since the start (R161, R162, R166, R171,
  R173). -/
  countUs : Nat
  unseatUs : Nat
  onUs : Nat
  unloadUs : Nat
  offUs : Nat
  offOverUs : Nat
  gateLowUs : Nat
  gateSeen : Bool
  /-- Slow-trip accumulator in mA µs, let-through in mA² µs, periods below the level (R168, R169). -/
  slowQ : Rat
  letA : Rat
  below : Nat
  /-- Latest control-period values (R158). -/
  iMa : Rat
  vDsMv : Rat
  gateMv : Rat
  /-- Tick accumulators and tick means (R158, R17). -/
  sumI : Rat
  sumV : Rat
  sumP : Rat
  count : Nat
  meanI : Rat
  meanV : Rat
  meanP : Rat
  /-- Power over the present 100 µs of the bus loop (R17, R149). -/
  busP : Rat
  busI : Rat
  busN : Nat
  busMeanP : Rat
  busMeanI : Rat
  deriving DecidableEq, Repr

/-- ORING part of a cell (Table 07-9, R176 to R179). -/
structure Oring where
  st : OrState
  revCount : Nat
  revTimes : List Nat
  vdsUv : Rat
  inMv : Rat
  outMv : Rat
  onRun : Nat
  fullRun : Nat
  negRun : Nat
  rearmRun : Nat
  w : Rat
  sumVds : Rat
  sumP : Rat
  count : Nat
  meanVds : Rat
  meanP : Rat
  /-- Power over the present 100 µs of the bus loop (R17, R149). -/
  busP : Rat
  busI : Rat
  busN : Nat
  busMeanP : Rat
  busMeanI : Rat
  deriving DecidableEq, Repr

/-- History of one biquad: two inputs and two outputs, Q1.23 (R75). -/
structure Biquad where
  x1 : Int
  x2 : Int
  y1 : Int
  y2 : Int
  deriving DecidableEq, Repr

/-- A sinc3 decimator (R41): the latest bits, newest first, bit clocks since its last output, and that output. -/
structure Sinc where
  bits : List Bool
  since : Nat
  out : Int
  deriving DecidableEq, Repr

/-- One channel cell (spec/03; its loop, feeder and ORING parts too). -/
structure Cell where
  st : CellState
  role : Role
  pinMode : BitVec 16
  safeHold : Bool
  faultLatch : BitVec 16
  safeCause : Nat
  maintained : Bool
  /-- Maintained only by the command that waits (R55). -/
  freshMaint : Bool
  /-- Accepted commands that start at the next tick boundary, in order of arrival (R55). -/
  waiting : List MaintCmd
  /-- Time in µs of the last poll of the slot's regulators (R321). -/
  regUs : Nat
  maintCmd : Nat
  maintResult : Nat
  /-- A REPAIR has passed since the cell was dropped (R60). -/
  repaired : Bool
  /-- Left DRAINED outside maintenance by ABANDON (R61). -/
  heldOut : Bool
  /-- ABANDON or the end of TENDING asked TESTING to stop at the end of its step (R61). -/
  stopTest : Bool
  /-- Pair pending at COMMIT: adopted at the first agreeing write (R58). -/
  commitPending : Bool
  calBand : Nat
  /-- The band has changed since step 1 of the repair under way (Table 03-12). -/
  bandMoved : Bool
  /-- Causes of bits 1 to 5 of the fault latch that stand at the pins now (R49). -/
  causes : BitVec 16
  /-- Decimators of the CS and AUX bitstreams (R41). -/
  csSinc : Sinc
  auxSinc : Sinc
  faultCount : Nat
  compCount : Nat
  /-- The two MRAM copies of the calibration record, each with its validity (R45). -/
  calA : Option Bytes
  calB : Option Bytes
  /-- Latest corrected words of 16 bits and whether AUX is valid (R39, R43, R52). -/
  cs : Int
  vs : Int
  aux : Int
  auxValid : Bool
  /-- Time in µs of the last CS sample not below 2 % of full scale (Table 03-11). -/
  csHighUs : Nat
  /-- Time in µs at which the drain's power removal began (R56, R57). -/
  removalUs : Nat
  pwa : Drive
  pwb : Drive
  onSteps : Nat
  /-- Steps of the period at which PWA falls, PWB rises and PWB falls (R72). -/
  pwaFall : Nat
  pwbRise : Nat
  pwbFall : Nat
  /-- Result computed and to be applied at the next period start (R66). -/
  nextSteps : Nat
  /-- A sample or a command of this period was discarded with its slot (R10). -/
  lostSample : Bool
  lostCommand : Bool
  offset : Nat
  weight : Rat
  weightGoal : Rat
  /-- Inner integrator x_m, share integrator c_m (Q3.44) and this member's clamp flags (R74, R76, R99). -/
  x : Int
  c : Int
  clampHi : Bool
  clampLo : Bool
  bq : Biquad
  /-- V_end of the previous period for the shaping term (R153). -/
  vEndPrev : Int
  /-- Own target in CELL_TARGET mode, Q1.23 (R76, R148). -/
  target : Int
  /-- That target in the snapshot of the last loop boundary (R67), and the share ρ recomputed there (R99). -/
  targetSnap : Int
  rho : Rat
  /-- Corrected CS of the last period, Q1.23. -/
  iNow : Int
  devRun : Nat
  stuckRun : Nat
  /-- Peak-to-peak spread of the CS conversions of the last period in LSB, none when there were fewer than two (R117). -/
  spread : Option Rat
  compRun : Nat
  compThis : Bool
  holdVs : Int
  holdRun : Nat
  feeder : Feeder
  oring : Oring
  deriving DecidableEq, Repr

/-- The 27 words of a coefficient set in the subindex order of Table 04-6. -/
structure CoefSet where
  flags : Nat
  kp : Int
  ki : Int
  kd : Int
  kdf : Int
  pidShift : Int
  imax : Int
  imin : Int
  b10 : Int
  b11 : Int
  b12 : Int
  a11 : Int
  a12 : Int
  shift1 : Int
  b20 : Int
  b21 : Int
  b22 : Int
  a21 : Int
  a22 : Int
  shift2 : Int
  kff : Int
  vinNom : Int
  kpi : Int
  kii : Int
  innerShift : Int
  xmax : Int
  xmin : Int
  deriving DecidableEq, Repr

/-- The flutter detector of a loop (R85). -/
structure Flutter where
  lastS : Int
  win : BitVec 64
  /-- |e| of the last 64 periods, newest first. -/
  mags : List Int
  holdoff : Nat
  deriving DecidableEq, Repr

/-- One converter loop (spec/04, spec/05). -/
structure Loop where
  st : LoopState
  stage : StageState
  stopCause : Nat
  /-- Turned on by sequencing: its rail is on, or no rail names it and the on-sequence has begun (R113, R224). -/
  railOn : Bool
  setInForce : SetName
  activeCode : Nat
  resumeSet : SetName
  safeByFlutter : Bool
  /-- Switch that takes effect at the next boundary: the set and its cause (R81). -/
  setNext : Option (SetName × Nat)
  computeLat : Nat
  overrunCount : Nat
  /-- Overruns of the last 64 loop periods, newest first (R70). -/
  overruns : List Nat
  flCount : Nat
  fl : Flutter
  /-- Words waiting to land, in request order: key and value (R80). -/
  landing : List (Nat × Int)
  snap : CoefSet
  /-- Outer-path state of R75: Q1.23 signals, Q3.44 integrator. -/
  r : Int
  e : Int
  i : Int
  d : Int
  v0 : Int
  v1 : Int
  v2 : Int
  bq1 : Biquad
  bq2 : Biquad
  g : Rat
  /-- Mean corrected CS of the running members' samples of period k-1 (R99). -/
  iBar : Int
  /-- Reference from the bus layer, Q1.23 (R17, Table 04-1). -/
  ref : Int
  /-- That reference in the snapshot of the last loop boundary (R67). -/
  refSnap : Int
  /-- Lead cell of the present loop period, members whose period has begun in it, and whether the boundary grid runs (R63). -/
  leadCell : Option CellNo
  seen : BitVec 48
  gridOn : Bool
  /-- Stopped by a loop-memory error, and the coefficient words that have not landed since (Table 03-8). -/
  rewrite : List Nat
  /-- Soft start: steps elapsed, reference at the start (R113). -/
  ssSteps : Nat
  r0 : Int
  /-- Started since the cold reset (R83). -/
  started : Bool
  /-- Steps without a break of the VOLT and SOURCE abort tests (R115). -/
  shortRun : Nat
  compAll : Nat
  /-- A member's comparator has ended a pulse since the last boundary (R101). -/
  compSeen : Bool
  pg : Bool
  pgOutRun : Nat
  /-- Steps in the window since the ramp ended (R114). -/
  pgIn : Nat
  /-- Steps for which PG has been 1, and milliseconds left of a hiccup wait (R116). -/
  pgRun : Nat
  hiccupLeft : Nat
  waitMs : Nat
  burstLeft : Nat
  burstAsleep : Bool
  /-- Burst ends at the next boundary (R106). -/
  burstExit : Bool
  /-- A sample has ended the sleep; the switch phase begins at the next boundary (R105). -/
  wakeDue : Bool
  sleepPeriods : Nat
  shortSleeps : Nat
  /-- Braking under way, periods braked, and entry due at the next boundary (R112). -/
  braking : Bool
  brakeCount : Nat
  brakeDue : Bool
  brakeArmed : Bool
  shedRun : Nat
  burstRun : Nat
  shed : BitVec 48
  /-- Cause of event 0x2021 for members returned because shedding is disallowed: 3 or 4 (R102). -/
  returnCause : Nat
  dropped : BitVec 48
  capacityW : Nat
  periodInForce : Nat
  sync : SyncState
  phaseErr : Int
  lockRun : Nat
  /-- Credit of the rate limit of R108, and the boundary's place in PWM steps. -/
  slew : Rat
  boundaryAt : Nat
  /-- Timestamp in µs from which the next derating step counts (R246). -/
  derateUs : Nat
  derate : Nat
  /-- Latest measures and their accumulators (R96): 100 µs and tick. -/
  iOutMa : Rat
  vOutMv : Rat
  pOutMw : Rat
  sumI : Rat
  sumP : Rat
  count : Nat
  meanI : Rat
  meanP : Rat
  /-- Sums over the present 100 µs of the bus layer, and the means of the last interval (R17). -/
  busI : Rat
  busP : Rat
  busN : Nat
  busMeanI : Rat
  busMeanP : Rat
  startInWindow : Bool
  /-- µs for which the start input has stayed in its window (R406). -/
  qualUs : Nat
  startQualified : Bool
  deriving DecidableEq, Repr

/-- One trace unit of the moth trap (R88 to R91). -/
structure Trace where
  st : TraceState
  clocks : Nat
  /-- Samples in capture order, each the node values in node order. -/
  samples : List (List Int)
  trigIndex : Nat
  post : Nat
  trigTime : Nat
  trigSource : Nat
  flagGap : Bool
  flagForced : Bool
  periodAtTrig : Nat
  eventSeen : Bool
  stoppedCapture : Bool
  memory : Nat
  /-- Slower nodes as they stood at the last boundary of the clock loop (R89). -/
  slow : List Int
  /-- Configuration of the capture, as it stood at ARM: node codes, clock source, DECIMATE, PRE_DEPTH (R91). -/
  codes : List Nat
  source : Nat
  decimate : Nat
  preDepth : Nat
  deriving DecidableEq, Repr

/-- Sums of one segment of an identification: current in µA, voltage in mV, samples (R141). -/
structure Segment where
  i : Rat
  v : Rat
  n : Nat
  deriving DecidableEq, Repr

/-- One line group (spec/06). -/
structure Group where
  st : GroupState
  stopCause : Nat
  vOpenMv : Nat
  /-- Latest V_end in mV and I_conv in µA (R125). -/
  vEndMv : Rat
  iConvUa : Rat
  vPrevMv : Rat
  sumConv : Rat
  sumEnd : Rat
  convCount : Nat
  vLineMv : Nat
  iLineUa : Rat
  sumV : Rat
  sumI : Rat
  tickCount : Nat
  meanV : Rat
  meanI : Rat
  pBusMw : Rat
  /-- Loop resistance in Ω and Vs in V in use (R131, R141). -/
  rOhm : Rat
  vsV : Rat
  rKnown : Bool
  idDone : Bool
  startTick : Bool
  exchLimit : Bool
  ceilingUa : Rat
  targetUa : Rat
  energyUj : Nat
  retryLeft : Nat
  /-- Timestamp in µs at which the group entered its state (R134, R133, R141). -/
  sinceUs : Nat
  /-- Reference and start of the stability time of QUALIFYING, and the V_end samples of its last 10 ms, newest first, with their
  timestamps (R128). -/
  refMv : Rat
  qualUs : Nat
  vends : List (Nat × Rat)
  /-- Decay time in ms of a discharge that has reached DISCH_SAFE_V (R134). -/
  decayMs : Option Nat
  deficitRun : Nat
  /-- Consecutive periods in which a held test has failed: reverse current, energy, current or voltage limit (R136). -/
  revRun : Nat
  energyRun : Nat
  limitRun : Nat
  /-- PWM steps for which V_end has stayed below QUAL_OFF_V, and E above E_MAX_MJ (Table 06-3). -/
  lostSteps : Nat
  overSteps : Nat
  /-- µs for which the delivered current has stayed below 2 % of the limit (Table 03-11). -/
  lowUs : Nat
  /-- Cause of a held test that no lane has taken over yet (R136), 0 for none; the die then holds the outputs low. -/
  heldCause : Nat
  dieLow : Bool
  /-- DISCHARGING was entered by a drain of the cell (Table 03-11). -/
  fromDrain : Bool
  /-- PWM steps since the member joined (R131). -/
  rampSteps : Nat
  /-- Timestamp in µs at which the delivery began (R133). -/
  deliverUs : Nat
  /-- Centre and step of an identification in µA, the ceiling at its start, and the sums of its two segments (R141, R142). -/
  idC : Rat
  idDelta : Rat
  idCeil : Rat
  idA : Segment
  idB : Segment
  deriving DecidableEq, Repr

/-- Result of the allocator: one half of the double buffer (R146, Table 01-7). -/
structure AllocResult where
  lam : Rat
  demandMw : Rat
  shortfallMw : Rat
  target : Vector Rat 48
  factor : Vector Rat 48
  pMin : Vector Rat 48
  pMax : Vector Rat 48
  deriving DecidableEq, Repr

/-- The bus-voltage loop (R149). -/
structure Bus where
  vBusMv : Rat
  vSetMv : Rat
  ibMw : Rat
  demandMw : Rat
  ffMw : Rat
  valid : Bool
  noReading : Nat
  deriving DecidableEq, Repr

/-- A sink's ledger state (Table 08-12). -/
structure Sink where
  capW : Nat
  bookedMw : Int
  measMw : Int
  throttle : Nat
  targetW : Nat
  allowedMs : Nat
  shed : Nat
  bShedMw : Int
  overRun : Nat
  /-- SHED_CAUSE of a running notice of a shed, 0 for none, and what is left of it in ms. -/
  notice : Nat
  noticeMs : Nat
  restoreMs : Nat
  /-- End cause that the next tick gives every grant with a part on this sink, 0 for none (R196). -/
  broken : Nat
  deriving DecidableEq, Repr

/-- One part of a grant (Table 08-2). -/
structure Part where
  sink : Nat
  watts : Nat
  deriving DecidableEq, Repr

/-- A decoded grant request (Table 08-2). -/
structure GrantReq where
  cls : Nat
  keep : Bool
  id : Nat
  durationS : Nat
  reserveWh : Nat
  parts : List Part
  deriving DecidableEq, Repr

/-- A row of the grant table (Table 08-15). -/
structure Grant where
  st : GrantStateCode
  owner : Option HostNo
  generation : Nat
  req : GrantReq
  record : Bytes
  remainMs : Nat
  resRemainUj : Rat
  noticeMs : Nat
  endCause : Nat
  /-- Order of acceptance and of ending, for "newest first" and "ended longest ago". -/
  born : Nat
  died : Nat
  deriving DecidableEq, Repr

/-- A request latched for a tick (R187). -/
structure Latched where
  host : HostNo
  req : GrantReq
  record : Bytes
  /-- Two-wire port of the submission, for the Host Notify of R318. -/
  port : Option TwNo
  deriving DecidableEq, Repr

/-- Ledger status (Table 08-13), all powers in mW. -/
structure LedgerNow where
  availMw : Int
  ownMw : Int
  bookedMw : Int
  headroomMw : Int
  residualMw : Int
  shortfall : Bool
  kEffMw : Int
  eLbMwh : Nat
  guardMwh : Nat
  reservedMwh : Nat
  runtimeS : Nat
  deriving DecidableEq, Repr

/-- The ledger (spec/08). -/
structure Ledger where
  now : LedgerNow
  /-- The inactive half: in force at the next boundary (R18). -/
  next : LedgerNow
  tickCount : Nat
  sinks : Vector Sink 64
  grants : Vector Grant 64
  /-- The inactive half of the grant table: in force at the next boundary (R18, R190). -/
  grantsNext : Vector Grant 64
  requests : List Latched
  /-- Results decided and to be shown at the next boundary: host, record, port (R190). -/
  results : List (HostNo × Bytes × Option TwNo)
  order : Nat
  holdupMs : Nat
  /-- Own use lies above OWN_USE_W (0x500B), and the lifeline is at risk (0x500C), as last judged. -/
  ownOver : Bool
  /-- A LIFELINE request was in force at the last tick (R192). -/
  lifelineSeen : Bool
  /-- A known step's kind has been booked since the last tick (R217), and ms for which the shortfall flag has been 0 (R214). -/
  stepDue : Bool
  shortFreeMs : Nat
  atRisk : Bool
  /-- Host Notify and EMCY of throttle requests held back while MANAGE is down (R198). -/
  heldBack : List (SinkNo × Nat × Nat)
  deriving DecidableEq, Repr

/-- A known step of R217 under way. -/
structure KnownStep where
  /-- Ticks since the boundary, means before, and sums after. -/
  ticks : Nat
  iBefore : Rat
  vBefore : Rat
  sumI : Rat
  sumV : Rat
  dI : Rat
  rsM : Rat
  /-- Its grid point, whose factors it teaches. -/
  g : Fin 48
  deriving DecidableEq, Repr

/-- One battery string (spec/09). Voltages in mV, currents in mA, SOC in %. -/
structure Batt where
  st : StringState
  present : Bool
  packId : Option Bytes
  authResult : Nat
  disconnectCause : Nat
  stage : ChargeStage
  /-- Stage to resume after a rest window, and why INHIBITED was entered: 1 CHG_MC, 2 FLOAT_UV, 3 CHARGE_UV is 0. -/
  stageWas : ChargeStage
  inhibit : Nat
  bsvMv : Rat
  bsvSum : Rat
  bsvCount : Nat
  /-- Sum and number of the present tick's readings (R217). -/
  tickV : Rat
  tickN : Nat
  soc : Rat
  va : Rat
  vb : Rat
  p11 : Rat
  p22 : Rat
  p33 : Rat
  p12 : Rat
  p13 : Rat
  p23 : Rat
  bias : Rat
  capAh : Rat
  cycles : Rat
  frs : Vector Rat 48
  frc : Vector Rat 48
  updates : Vector Nat 48
  sigma : Rat
  socLb : Rat
  eLbMwh : Rat
  pLimMw : Rat
  /-- Mean of the last second (I_EST_MA), and the current of the last tick (R209). -/
  iMa : Rat
  iTick : Rat
  sumI : Rat
  sumSigma : Rat
  sumBeta : Rat
  tickCount : Nat
  iLast60 : List Rat
  iTicks : List Rat
  vTicks : List Rat
  vStringMv : Rat
  /-- Sums and numbers of the BSV readings of the last 60 s, newest first (R212). -/
  bsv60 : List (Rat × Nat)
  restS : Nat
  /-- Seconds in ABSORB below the taper current, and timestamp in µs of the last change of stage (R213, R220). -/
  taperS : Nat
  stageUs : Nat
  anchorAgeS : Nat
  sigmaHigh : Bool
  blocks : List Nat
  packTempDc : Option Int
  /-- Timestamps in µs since which BSV has been below LVD_MV and a block outside its limits without a break, and at which the string
  ceased to be present (R203, R204). -/
  lvdUs : Option Nat
  lowUs : Option Nat
  highUs : Option Nat
  goneUs : Nat
  /-- The last CHALLENGE written to the pack (R207). -/
  challenge : Option Bytes
  /-- Consecutive failed polls of BLOCK_COUNT, of BLOCK_VOLTS and of PACK_TEMP (R202). -/
  silentCount : Nat
  silentBlocks : Nat
  silentTemp : Nat
  /-- Times in µs of the last polls of the blocks and of the temperature (R202). -/
  pollUs : Nat
  tempUs : Nat
  /-- Band of the pack temperature (R201). -/
  packBand : Option Nat
  band : Nat
  /-- Capacity interval: SOC and sigma of the last anchor, charge since in mAs, unbroken (R216). -/
  learnSoc : Option Rat
  learnSigma : Rat
  netMas : Rat
  learnOk : Bool
  /-- A known step whose 60 s run, and candidates whose 10 ticks run (R217). -/
  step : Option KnownStep
  cands : List KnownStep
  sinceStepMs : Option Nat
  windowOpen : Bool
  windowS : Nat
  windowSettled : Bool
  /-- Seconds since a window was last open, none before the first. -/
  windowGapS : Option Nat
  resetDue : Bool
  writeDue : Bool
  writebackS : Nat
  /-- Estimator runs from defaults with no record (UNVERIFIED, Table 09-4). -/
  unverified : Bool
  /-- Not resumed since the last cold reset (R208). -/
  coldResume : Bool
  steering : Bool
  steerMs : Nat
  anchoredSince : Bool
  deriving DecidableEq, Repr

/-- A pack record slot of MRAM: two copies, each none when its CRC fails (R218). -/
structure PackSlot where
  packId : Bytes
  a : Option Bytes
  b : Option Bytes
  seen : Nat
  deriving DecidableEq, Repr

/-- One rail (spec/10). -/
structure Rail where
  st : RailState
  pgLevel : Bool
  lastSample : Bool
  retriesLeft : Nat
  /-- Its slot of the present sequence, or after its parent's new turn-on, is still to come (R226, R227). -/
  slotDue : Bool
  /-- RETRY_WAIT is its own, not its parent's (R227). -/
  retryOwn : Bool
  /-- Restored after a shed: a timeout acts as CONTINUE (Table 10-4). -/
  asContinue : Bool
  /-- Power-good was lost under LOG and is awaited again (R230). -/
  pgLost : Bool
  /-- Timestamps in µs at which its slot falls, and of its last turn-on or turn-off (R226, R227, R231). -/
  slotUs : Nat
  markUs : Nat
  /-- Turned off in the off-sequence, the fall of its power-good still awaited (R231). -/
  offWatch : Bool
  deriving DecidableEq, Repr

/-- Sequencer and hold-up (Tables 10-6). -/
structure Seq where
  st : SeqState
  /-- Timestamps in µs: the common start of the present sequence (R226), the later of the commit and the off-sequence being done (R232),
  and the last assertion of PFI (R236). -/
  startUs : Nat
  doneUs : Nat
  pfiUs : Nat
  count : Nat
  rails : Vector Rail 32
  onComplete : Bool
  offDone : Bool
  committed : Bool
  delayElapsed : Bool
  abortAll : Bool
  /-- An external source or a connected string has been there since RISING was entered (cause 0x0E). -/
  supplied : Bool
  pfi : Bool
  pfiCount : Nat
  recordMode : Bool
  /-- Last-gasp and settling records built and not yet committed (R353). -/
  gaspPending : Option Bytes
  settlePending : Option Bytes
  commitUs : Nat
  commitBytes : Nat
  deriving DecidableEq, Repr

/-- One thermal input (spec/11); temperatures in degrees Celsius. -/
structure Thermal where
  st : InputState
  temp : Rat
  rateNow : Rat
  band : Nat
  seen : Bool
  /-- Conversions of the present 100 ms: their sum and their number; timestamp in µs of the last evaluation (R241). -/
  rawSum : Nat
  rawN : Nat
  evalUs : Nat
  /-- Timestamp in µs since which the throttle condition has been clear (R243). -/
  clearUs : Nat
  /-- 100 ms means of the present second and 1 s means, newest first. -/
  tenths : List Rat
  seconds : List Rat
  warnAbs : Bool
  warnRate : Bool
  limAbs : Bool
  limRate : Bool
  /-- INVALID was entered from THROTTLE: its actions stay in force (R243). -/
  stillThrottling : Bool
  /-- Thermal caps fixed at the entry to THROTTLE: sink and watts (R244). -/
  caps : List (SinkNo × Nat)
  deriving DecidableEq, Repr

/-- One control lane (Table 12-10). -/
structure LaneUnit where
  st : LaneState
  retireCause : Nat
  passCount : Nat
  failCount : Nat
  bgFails : Nat
  signature : BitVec 64
  bgSweeps : Nat
  corrected : Nat
  autoLeft : Nat
  copyUs : Nat
  ownError : Bool
  /-- Timestamp in µs of the last retirement (R265). -/
  retiredUs : Nat
  deriving DecidableEq, Repr

/-- The lane pair (Table 12-9, R257). -/
structure Lanes where
  a : LaneUnit
  b : LaneUnit
  pair : PairState
  /-- Holder of the interlock token (R257). -/
  token : Option Lane
  /-- The active lane, kept through a gap as the lane active at the mismatch. -/
  active : Option Lane
  switchCount : Nat
  mismatchCount : Nat
  transientCount : Nat
  gapNs : Nat
  lastMismatch : Bytes
  bootCheck : Bool
  transients : List Nat
  cmd : Nat
  cmdResult : Nat
  cmdRunning : Bool
  returning : Option Lane
  windowPassUs : Option Nat
  /-- Timestamp in µs of the last whole-lane window (R263). -/
  windowUs : Nat
  deriving DecidableEq, Repr

/-- A CAN port (spec/13). -/
structure Can where
  nmt : Nmt
  port : CanState
  busOffCount : Nat
  /-- An EMCY was sent and its inhibit time of 1015h runs; the time of that message in µs (R277). -/
  inhibited : Bool
  emcyUs : Nat
  emcyQueue : List (Nat × Bytes)
  /-- Nodes whose heartbeat has timed out, and the time in µs of the last heartbeat of every other consumed node (R271). -/
  lost : List Nat
  heard : List (Nat × Nat)
  /-- Time in µs of the last heartbeat or boot-up message sent (1017h). -/
  beatUs : Nat
  lssNode : Option Nat
  deriving DecidableEq, Repr

/-- The read copy or selection of a two-wire host (R311). -/
structure TwCtx where
  selWrite : Option (Nat × Nat)
  copy : Bytes
  /-- Content at the select that started the read in parts (R303). -/
  first : Bytes
  buffer : Bytes
  bufferOver : Bool
  result : Nat
  op : Nat
  index : Nat
  sub : Nat
  abort : Nat
  total : Nat
  frameError : Nat
  /-- Number of the record whose first part was read, and how many of its bytes (R313). -/
  partSeq : Nat
  part : Nat
  deriving DecidableEq, Repr

/-- A segmented read that an open session carries (R272, R303): the entry, the next offset, and the content that its first
part was read from, which stands for the DOMAIN's version; and the time in µs of its last frame. -/
structure Transfer where
  index : Nat
  sub : Nat
  next : Nat
  content : Bytes
  frameUs : Nat
  deriving DecidableEq, Repr

/-- A host context (R279 to R282). -/
structure HostCtx where
  used : Bool
  key : Key
  cls : Class
  ownSink : Option SinkNo
  silenceMs : Nat
  /-- Open sessions with a read under way (R272). -/
  sessions : List Transfer
  /-- Own mode request (Table 02-3) and its order of arrival (R30). -/
  request : Nat
  requestOrder : Nat
  /-- Class code that the request ranks with (R29, R30). -/
  requestRank : Nat
  budgets : Vector Nat 4
  grantResult : Bytes
  grantPending : Bool
  multiResult : Bytes
  ringCursor : Nat
  peatCursor : Nat
  tw : TwCtx
  deriving DecidableEq, Repr

/-- A DAP request (Table 13-6). -/
inductive DapReq
  | read (index sub offset : Nat)
  | write (index sub : Nat) (data : Bytes)
  | multi (data : Bytes)
  deriving DecidableEq, Repr

/-- A DAP channel (Table 13-6). -/
structure Dap where
  req : Option DapReq
  done : Bool
  err : Bool
  rlen : Nat
  abort : Nat
  irqErr : Bool
  irqDone : Bool
  index : Nat
  sub : Nat
  op : Nat
  len : Nat
  offset : Nat
  total : Nat
  buffer : Bytes
  /-- Content at the first part of a read through OFFSET (R303). -/
  first : Bytes
  deriving DecidableEq, Repr

/-- A pending agreement set (R295, Table 14-6). -/
structure Pending where
  set : Nat
  inst : Nat
  band : Nat
  since : Nat
  deriving DecidableEq, Repr

/-- A stored image (R299). -/
structure Image where
  seq : Nat
  vals : Dict
  crc : Nat
  deriving DecidableEq, Repr

/-- The dictionary's own state (spec/14). -/
structure DictState where
  written : Dict
  force : Dict
  pending : List Pending
  /-- Sets pending since their last adoption, with how long they were pending (R295). -/
  wasPending : List Pending
  imageA : Option Image
  imageB : Option Image
  imageInForce : Option Image
  storing : Option (Nat × Image × Key)
  restore : BitVec 8
  lastStoreMs : Nat
  deriving DecidableEq, Repr

/-- A two-wire port (Table 15-9). -/
structure Tw where
  st : TwState
  errPec : Nat
  errLen : Nat
  errCmd : Nat
  errSeq : Nat
  timeouts : Nat
  arbLost : Nat
  recoveries : Nat
  notifyFails : Nat
  alertPending : Bool
  /-- Host Notify messages waiting: sink byte and cause (R318). -/
  notifies : List (Nat × Nat)
  nacks : Nat
  arbRun : Nat
  attempts : Nat
  /-- A read frame for which SCL is held low (Table 15-6): its caller, its end, and since when in µs. -/
  stretch : Option (BitVec 7 × TwRead × Nat)
  /-- Times in µs: the last frame at the port's address, the last try of a Host Notify, the last attempt to free SDA, and the last
  check of a faulted port's lines (R317, R318, R320). -/
  frameUs : Nat
  notifyUs : Nat
  attemptUs : Nat
  faultUs : Nat
  deriving DecidableEq, Repr

/-- A discovered regulator (Table 15-11). -/
structure Reg where
  st : Nat
  /-- FEEDER cell, and the entry to ON in which it was discovered: its index is free once that ON has ended (R321). -/
  cell : Nat
  epoch : Nat
  port : Nat
  addr : Nat
  slot : Nat
  status : Nat
  vout : Int
  iout : Int
  vin : Int
  temp : Int
  pout : Int
  mfr : Bytes
  fails : Nat
  failRun : Nat
  /-- VOUT_MODE, and whether CAPABILITY reports PEC (R321). -/
  mode : Nat
  pec : Bool
  deriving DecidableEq, Repr

/-- A shared interrupt source (Table 16-4). -/
structure Src where
  modCount : Nat
  modHold : Nat
  target : Fin 4
  prio : Nat
  pending : Bool
  released : Bool
  events : Nat
  claimedBy : Option CoreNo
  duringClaim : Nat
  /-- Timestamp in µs of the first counted event (R332). -/
  firstUs : Nat
  /-- Events accrued while MANAGE's clock is stopped or MANAGE is in reset (R379). -/
  waiting : Nat
  deriving DecidableEq, Repr

/-- A management core with its ICU context, timers and scrubber channel (Tables 16-5, 16-7, 16-9). -/
structure Core where
  run : CoreRun
  faultTimes : List Nat
  threshold : Nat
  privPrio : Vector Nat 32
  privLevel : BitVec 32
  privClaimed : BitVec 32
  snapId : Nat
  snapEvents : Nat
  snapLevel : Bool
  cmp : Vector Nat 4
  cmpLo : Vector Nat 4
  timeHi : Nat
  scrubWriteback : Bool
  scrubStart : Nat
  scrubWords : Nat
  scrubBusy : Bool
  scrubQueued : Bool
  scrubDone : Bool
  scrubErr : Bool
  scrubAborted : Bool
  scrubAbortDue : Bool
  corr : Nat
  uncorr : Nat
  firstBad : BitVec 32
  scrubIrq : Bool
  deriving DecidableEq, Repr

/-- A firmware slot (R360, Table 18-1). -/
structure Fw where
  st : SlotState
  /-- Programmed at manufacture: its image passes the checks at boot (log 9). -/
  factory : Bool
  header : Bytes
  body : Bytes
  activation : Nat
  trialBegun : Bool
  deriving DecidableEq, Repr

/-- A key slot (Table 18-7). -/
structure KeySlot where
  slot : Nat
  key : Bytes
  locked : Bool
  deriving DecidableEq, Repr

/-- The Fafort session (R362). -/
structure Session where
  open_ : Bool
  authed : Bool
  nonce : Bytes
  failures : Nat
  lockout : Bool
  /-- Times in µs of the last request, and of the lockout's start (R362). -/
  requestUs : Nat
  lockoutUs : Nat
  host : Option HostNo
  lastSeq : Option (BitVec 8)
  lastReply : Reply
  writeSel : Option (Nat × Nat)
  writeBuf : Bytes
  /-- Transfer: next offset, last chunk, plaintext so far. -/
  transfer : Bool
  nextOffset : Nat
  lastChunk : Option (Nat × Nat)
  cipher : Bytes
  /-- Entry and content of the read under way in parts (R303). -/
  readOf : Option (Nat × Nat)
  first : Bytes
  /-- Service key of the session: a new one takes effect at the next (R369). -/
  wrapKey : Bytes
  deriving DecidableEq, Repr

/-- Firmware, keys and boot (spec/18). -/
structure Firmware where
  slots : Vector Fw 2
  active : FwSlot
  trial : Option FwSlot
  appConfirmed : Bool
  /-- Milliseconds without a fault since base firmware started, and milliseconds left of the trial (R365). -/
  settleMs : Nat
  trialLeftMs : Nat
  lastUpdate : Nat
  secVersion : Nat
  /-- An accepted ACTIVATE, and its time in µs (R364). -/
  activating : Option FwSlot
  activateUs : Nat
  /-- The TENDING request held for the service port with no context (R364). -/
  tendingHeld : Option Nat
  rollbackDue : Bool
  keys : List KeySlot
  session : Session
  bootsel : Fin 4
  deriving DecidableEq, Repr

/-- Clocks and resets (spec/19). -/
structure Clocks where
  timeUs : Nat
  xin : Bool
  pllS : Bool
  pllL : Bool
  pllH : Bool
  holdover : Bool
  wclkCrystal : Bool
  holdovers : Nat
  dieDiff : Rat
  regionDiff : Bool
  retrains : Nat
  crcErrors : Nat
  samplePoints : Vector Int 16
  wispTrim : Int
  /-- Times in µs: the loss of XIN (R374), each PLL's last loss of lock or try, the last trim (R375), each link lane's last step (R382),
  the arming of the MANAGE watchdog (R385), and the last time the die temperatures differed by more than 18 °C (R383). -/
  lostUs : Nat
  retryUs : Vector Nat 3
  trimUs : Nat
  retrainUs : Vector Nat 16
  armedUs : Nat
  diffUs : Nat
  resetCause : ColdCause
  supplyFault : BitVec 6
  warmCause : Nat
  warmResets : Nat
  bootCount : Nat
  deriving DecidableEq, Repr

/-- SYNCIN and SYNCOUT (R107, R111). -/
structure SyncPins where
  edges : List Nat
  count : Nat
  present : Bool
  deriving DecidableEq, Repr

/-- Output pins held outside a cell (Table 20-4). -/
structure Pins where
  safeN : Bool
  laneAct : Bool
  /-- True while ALERTn_N is driven low. -/
  alert : Vector Bool 4
  en : BitVec 16
  blvd : BitVec 4
  leak : BitVec 8
  pg : BitVec 16
  deriving DecidableEq, Repr

/-- Own consumption (Table 02-10). -/
structure OwnPower where
  total : Nat
  watch : Nat
  loop : Nat
  channel : Nat
  manage : Nat
  peak : Nat
  /-- Time of the last update in µs (R37). -/
  us : Nat
  deriving DecidableEq, Repr

/-- The mode arbiter (spec/02). -/
structure ModeState where
  mode : Option Mode
  safe : Bool
  safeWhy : Nat
  /-- Timestamp in µs of its entry. -/
  safeUs : Nat
  requestInForce : Nat
  requestOwner : Option HostNo
  shutdownLatch : Bool
  lastCause : Nat
  shortRun : Nat
  okRun : Nat
  extRun : Nat
  profile : Nat
  wakeHeld : Nat
  orderCount : Nat
  deriving DecidableEq, Repr

/-- The whole block. -/
structure State where
  pending : List Instr
  freeCount : Nat
  reply : Reply
  sent : List Msg
  phase : BootPhase
  manage : Manage
  clk : Clocks
  pins : Pins
  syncPins : SyncPins
  modes : ModeState
  own : OwnPower
  cells : Vector Cell 48
  loops : Vector Loop 16
  traces : Vector Trace 4
  groups : Vector Group 24
  bus : Bus
  alloc : AllocResult
  allocNext : AllocResult
  solveCount : Nat
  idGroup : Option GroupNo
  /-- Next group that the identification cycle visits; none outside a cycle (R141). -/
  idAt : Option Nat
  /-- Timestamp in µs of the last identification cycle's start (R141). -/
  idCycleUs : Nat
  /-- The next reference check of a block's ADC converts half-scale (R52). -/
  refHalf : BitVec 6
  /-- Latest conversions of CB3's slow slots: MS0, MS1, VDDA/2, VDD_MS, VREF_OUT (Table 03-9). -/
  monitors : Vector (BitVec 12) 5
  ledger : Ledger
  strings : Vector Batt 4
  packs : List PackSlot
  seq : Seq
  thermal : Vector Thermal 22
  lanes : Lanes
  can : Vector Can 2
  hosts : Vector HostCtx 32
  hostsRefused : Nat
  lockOwner : Option HostNo
  lockMs : Nat
  wallOffsetMs : Int
  tpdoLast : Vector Bytes 32
  tpdoInhibit : Vector Bool 32
  tpdoDue : Vector Bool 32
  /-- Time in µs at which each TPDO was last sent (R275). -/
  tpdoUs : Vector Nat 32
  /-- Time in µs of the last check of mapped values (R275, R36). -/
  checkUs : Nat
  /-- SYNC messages since each synchronous TPDO was sent (R275). -/
  tpdoSync : Vector Nat 32
  rpdoSecond : Vector Nat 16
  dap : Vector Dap 2
  dict : DictState
  tw : Vector Tw 12
  regs : Vector Reg 256
  cores : Vector Core 4
  srcs : Vector Src 160
  scrubOrder : List CoreNo
  badBanks : List MemFail
  recorder : Recorder
  fw : Firmware
  heldBlocks : BitVec 6
  /-- Other blocks held in reset after two failed checks, by source byte (R13). -/
  heldOther : List (BitVec 8)
  deriving DecidableEq, Repr

/-- `Recorder` right after a cold reset (INVENTORY.md, State). -/
def Recorder.reset : Recorder where
  ring := []
  nextSeq := 1
  limit := 65537
  reserveA := { limit := 65537, seq := 1, crc := 0xDA686B37 }
  reserveB := { limit := 65537, seq := 0, crc := 0x62D40C52 }
  reserveDue := false
  waiting := []
  suppressed := 0
  buckets := []
  queue := []
  dropped := 0
  log := []
  appendDue := []
  torn := 0
  gasps := []
  ringRetired := 0
  peatRetired := 0
  ringGone := 0
  peatGone := 0

/-- `Reply` right after a cold reset (INVENTORY.md, State). -/
def Reply.reset : Reply where
  code := 0
  data := []
  total := 0

/-- `Feeder` right after a cold reset (INVENTORY.md, State). -/
def Feeder.reset : Feeder where
  st := .disabled
  onCount := 0
  tripCause := 0
  retryLeft := 3
  retryTimerUs := 0
  tripCount := 0
  present := false
  countDone := false
  u := 0
  soaE := 0
  startUs := 0
  soaUsed := 0
  inrushUs := 0
  fetOn := false
  tripDue := none
  tripAt := 0
  countUs := 0
  unseatUs := 0
  onUs := 0
  unloadUs := 0
  offUs := 0
  offOverUs := 0
  gateLowUs := 0
  gateSeen := false
  slowQ := 0
  letA := 0
  below := 0
  iMa := 0
  vDsMv := 0
  gateMv := 0
  sumI := 0
  sumV := 0
  sumP := 0
  count := 0
  meanI := 0
  meanV := 0
  meanP := 0
  busP := 0
  busI := 0
  busN := 0
  busMeanP := 0
  busMeanI := 0

/-- `Oring` right after a cold reset (INVENTORY.md, State). -/
def Oring.reset : Oring where
  st := .disabled
  revCount := 0
  revTimes := []
  vdsUv := 0
  inMv := 0
  outMv := 0
  onRun := 0
  fullRun := 0
  negRun := 0
  rearmRun := 0
  w := 0
  sumVds := 0
  sumP := 0
  count := 0
  meanVds := 0
  meanP := 0
  busP := 0
  busI := 0
  busN := 0
  busMeanP := 0
  busMeanI := 0

/-- `Biquad` right after a cold reset (INVENTORY.md, State). -/
def Biquad.reset : Biquad where
  x1 := 0
  x2 := 0
  y1 := 0
  y2 := 0

/-- `Sinc` right after a cold reset (INVENTORY.md, State). -/
def Sinc.reset : Sinc where
  bits := []
  since := 0
  out := 0

/-- `Cell` right after a cold reset (INVENTORY.md, State). -/
def Cell.reset : Cell where
  st := .drained
  role := .idle
  pinMode := 0
  safeHold := false
  faultLatch := 0
  safeCause := 0
  maintained := false
  freshMaint := false
  waiting := []
  regUs := 0
  maintCmd := 0
  maintResult := 0
  repaired := false
  heldOut := false
  stopTest := false
  commitPending := false
  calBand := 2
  bandMoved := false
  causes := 0
  csSinc := Sinc.reset
  auxSinc := Sinc.reset
  faultCount := 0
  compCount := 0
  calA := none
  calB := none
  cs := 0
  csHighUs := 0
  removalUs := 0
  vs := 0
  aux := 0
  auxValid := false
  pwa := .low
  pwb := .low
  onSteps := 0
  pwaFall := 0
  pwbRise := 0
  pwbFall := 0
  nextSteps := 0
  lostSample := false
  lostCommand := false
  offset := 0
  weight := 1
  weightGoal := 1
  x := 0
  c := 0
  clampHi := false
  clampLo := false
  bq := Biquad.reset
  vEndPrev := 0
  target := 0
  targetSnap := 0
  rho := 1
  iNow := 0
  devRun := 0
  stuckRun := 0
  spread := none
  compRun := 0
  compThis := false
  holdVs := 0
  holdRun := 0
  feeder := Feeder.reset
  oring := Oring.reset

/-- `CoefSet` right after a cold reset (INVENTORY.md, State). -/
def CoefSet.reset : CoefSet where
  flags := 0
  kp := 0
  ki := 0
  kd := 0
  kdf := 0
  pidShift := 0
  imax := 0
  imin := 0
  b10 := 0
  b11 := 0
  b12 := 0
  a11 := 0
  a12 := 0
  shift1 := 0
  b20 := 0
  b21 := 0
  b22 := 0
  a21 := 0
  a22 := 0
  shift2 := 0
  kff := 0
  vinNom := 0
  kpi := 0
  kii := 0
  innerShift := 0
  xmax := 0
  xmin := 0

/-- `Flutter` right after a cold reset (INVENTORY.md, State). -/
def Flutter.reset : Flutter where
  lastS := 0
  win := 0
  mags := []
  holdoff := 0

/-- `Loop` right after a cold reset (INVENTORY.md, State). -/
def Loop.reset : Loop where
  st := .stopped
  stage := .continuous
  stopCause := 0
  railOn := false
  setInForce := .set0
  activeCode := 0
  resumeSet := .set0
  safeByFlutter := false
  setNext := none
  computeLat := 0
  overrunCount := 0
  overruns := []
  flCount := 0
  fl := Flutter.reset
  landing := []
  snap := CoefSet.reset
  r := 0
  e := 0
  i := 0
  d := 0
  v0 := 0
  v1 := 0
  v2 := 0
  bq1 := Biquad.reset
  bq2 := Biquad.reset
  g := 1
  iBar := 0
  ref := 0
  refSnap := 0
  leadCell := none
  seen := 0
  gridOn := false
  rewrite := []
  ssSteps := 0
  r0 := 0
  started := false
  shortRun := 0
  compAll := 0
  compSeen := false
  pg := false
  pgOutRun := 0
  pgIn := 0
  pgRun := 0
  hiccupLeft := 3
  waitMs := 0
  burstLeft := 0
  burstAsleep := false
  burstExit := false
  wakeDue := false
  sleepPeriods := 0
  shortSleeps := 0
  braking := false
  brakeCount := 0
  brakeDue := false
  brakeArmed := true
  shedRun := 0
  burstRun := 0
  shed := 0
  returnCause := 0
  dropped := 0
  capacityW := 0
  periodInForce := 20480
  sync := .free
  phaseErr := 0
  lockRun := 0
  slew := 0
  boundaryAt := 0
  derateUs := 0
  derate := 0
  iOutMa := 0
  vOutMv := 0
  pOutMw := 0
  sumI := 0
  sumP := 0
  count := 0
  meanI := 0
  meanP := 0
  busI := 0
  busP := 0
  busN := 0
  busMeanI := 0
  busMeanP := 0
  startInWindow := false
  qualUs := 0
  startQualified := false

/-- `Trace` right after a cold reset (INVENTORY.md, State). -/
def Trace.reset : Trace where
  st := .idle
  clocks := 0
  samples := []
  trigIndex := 0
  post := 0
  trigTime := 0
  trigSource := 0
  flagGap := false
  flagForced := false
  periodAtTrig := 0
  eventSeen := false
  stoppedCapture := false
  memory := 0
  slow := []
  codes := []
  source := 0
  decimate := 0
  preDepth := 0

/-- `Group` right after a cold reset (INVENTORY.md, State). -/
def Group.reset : Group where
  st := .disabled
  stopCause := 0
  vOpenMv := 0
  vEndMv := 0
  iConvUa := 0
  vPrevMv := 0
  sumConv := 0
  sumEnd := 0
  convCount := 0
  vLineMv := 0
  iLineUa := 0
  sumV := 0
  sumI := 0
  tickCount := 0
  meanV := 0
  meanI := 0
  pBusMw := 0
  rOhm := 0
  vsV := 0
  rKnown := false
  idDone := false
  startTick := false
  exchLimit := false
  ceilingUa := 0
  targetUa := 0
  energyUj := 0
  retryLeft := 3
  sinceUs := 0
  refMv := 0
  qualUs := 0
  vends := []
  decayMs := none
  deficitRun := 0
  revRun := 0
  energyRun := 0
  limitRun := 0
  lostSteps := 0
  overSteps := 0
  lowUs := 0
  heldCause := 0
  dieLow := false
  fromDrain := false
  rampSteps := 0
  deliverUs := 0
  idC := 0
  idDelta := 0
  idCeil := 0
  idA := ⟨0, 0, 0⟩
  idB := ⟨0, 0, 0⟩

/-- `AllocResult` right after a cold reset (INVENTORY.md, State). -/
def AllocResult.reset : AllocResult where
  lam := 0
  demandMw := 0
  shortfallMw := 0
  target := Vector.replicate 48 0
  factor := Vector.replicate 48 0
  pMin := Vector.replicate 48 0
  pMax := Vector.replicate 48 0

/-- `Bus` right after a cold reset (INVENTORY.md, State). -/
def Bus.reset : Bus where
  vBusMv := 0
  vSetMv := 54000
  ibMw := 0
  demandMw := 0
  ffMw := 0
  valid := false
  noReading := 0

/-- `Sink` right after a cold reset (INVENTORY.md, State). -/
def Sink.reset : Sink where
  capW := 0
  bookedMw := 0
  measMw := 0
  throttle := 0
  targetW := 0
  allowedMs := 0
  shed := 0
  bShedMw := 0
  overRun := 0
  notice := 0
  noticeMs := 0
  restoreMs := 0
  broken := 0

/-- `GrantReq` right after a cold reset (INVENTORY.md, State). -/
def GrantReq.reset : GrantReq where
  cls := 0
  keep := false
  id := 0
  durationS := 0
  reserveWh := 0
  parts := []

/-- `Grant` right after a cold reset (INVENTORY.md, State). -/
def Grant.reset : Grant where
  st := .free
  owner := none
  generation := 0
  req := GrantReq.reset
  record := []
  remainMs := 0
  resRemainUj := 0
  noticeMs := 0
  endCause := 0
  born := 0
  died := 0

/-- `LedgerNow` right after a cold reset (INVENTORY.md, State). -/
def LedgerNow.reset : LedgerNow where
  availMw := 0
  ownMw := 25000
  bookedMw := 0
  headroomMw := 0
  residualMw := 0
  shortfall := false
  kEffMw := 0
  eLbMwh := 0
  guardMwh := 0
  reservedMwh := 0
  runtimeS := 0

/-- `Ledger` right after a cold reset (INVENTORY.md, State). -/
def Ledger.reset : Ledger where
  now := LedgerNow.reset
  next := LedgerNow.reset
  tickCount := 0
  sinks := Vector.replicate 64 Sink.reset
  grants := Vector.replicate 64 Grant.reset
  grantsNext := Vector.replicate 64 Grant.reset
  requests := []
  results := []
  order := 1
  holdupMs := 0
  ownOver := false
  lifelineSeen := false
  stepDue := false
  shortFreeMs := 0
  atRisk := false
  heldBack := []

/-- `Batt` right after a cold reset (INVENTORY.md, State). -/
def Batt.reset : Batt where
  st := .disabled
  present := false
  packId := none
  authResult := 0
  disconnectCause := 0
  stage := .none
  stageWas := .none
  inhibit := 0
  bsvMv := 0
  bsvSum := 0
  bsvCount := 0
  tickV := 0
  tickN := 0
  soc := 0
  va := 0
  vb := 0
  p11 := 0
  p22 := 0
  p33 := 0
  p12 := 0
  p13 := 0
  p23 := 0
  bias := 0
  capAh := 0
  cycles := 0
  frs := Vector.replicate 48 1
  frc := Vector.replicate 48 1
  updates := Vector.replicate 48 0
  sigma := 0
  socLb := 0
  eLbMwh := 0
  pLimMw := 0
  iMa := 0
  iTick := 0
  sumI := 0
  sumSigma := 0
  sumBeta := 0
  tickCount := 0
  iLast60 := []
  iTicks := []
  vTicks := []
  vStringMv := 0
  bsv60 := []
  restS := 0
  taperS := 0
  stageUs := 0
  anchorAgeS := 0
  sigmaHigh := false
  blocks := []
  packTempDc := none
  lvdUs := none
  lowUs := none
  highUs := none
  goneUs := 0
  challenge := none
  silentCount := 0
  silentBlocks := 0
  silentTemp := 0
  pollUs := 0
  tempUs := 0
  packBand := none
  band := 2
  learnSoc := none
  learnSigma := 0
  netMas := 0
  learnOk := false
  step := none
  cands := []
  sinceStepMs := none
  windowOpen := false
  windowS := 0
  windowSettled := false
  windowGapS := none
  resetDue := false
  writeDue := false
  writebackS := 0
  unverified := false
  coldResume := true
  steering := false
  steerMs := 0
  anchoredSince := false

/-- `Rail` right after a cold reset (INVENTORY.md, State). -/
def Rail.reset : Rail where
  st := .off
  pgLevel := false
  lastSample := false
  retriesLeft := 0
  slotDue := false
  retryOwn := false
  asContinue := false
  pgLost := false
  slotUs := 0
  markUs := 0
  offWatch := false

/-- `Seq` right after a cold reset (INVENTORY.md, State). -/
def Seq.reset : Seq where
  st := .idle
  startUs := 0
  doneUs := 0
  pfiUs := 0
  count := 0
  rails := Vector.replicate 32 Rail.reset
  onComplete := false
  offDone := false
  committed := false
  delayElapsed := false
  abortAll := false
  supplied := false
  pfi := false
  pfiCount := 0
  recordMode := false
  gaspPending := none
  settlePending := none
  commitUs := 0
  commitBytes := 0

/-- `Thermal` right after a cold reset (INVENTORY.md, State). -/
def Thermal.reset : Thermal where
  st := .normal
  temp := 0
  rateNow := 0
  band := 2
  seen := false
  rawSum := 0
  rawN := 0
  evalUs := 0
  clearUs := 0
  tenths := []
  seconds := []
  warnAbs := false
  warnRate := false
  limAbs := false
  limRate := false
  stillThrottling := false
  caps := []

/-- `LaneUnit` right after a cold reset (INVENTORY.md, State). -/
def LaneUnit.reset : LaneUnit where
  st := .off
  retireCause := 0
  passCount := 0
  failCount := 0
  bgFails := 0
  signature := 0
  bgSweeps := 0
  corrected := 0
  autoLeft := 3
  copyUs := 0
  retiredUs := 0
  ownError := false

/-- `Lanes` right after a cold reset (INVENTORY.md, State). -/
def Lanes.reset : Lanes where
  a := LaneUnit.reset
  b := LaneUnit.reset
  pair := .off
  token := none
  active := none
  switchCount := 0
  mismatchCount := 0
  transientCount := 0
  gapNs := 0
  lastMismatch := []
  bootCheck := false
  transients := []
  cmd := 0
  cmdResult := 0
  cmdRunning := false
  returning := none
  windowUs := 0
  windowPassUs := none

/-- `Can` right after a cold reset (INVENTORY.md, State). -/
def Can.reset : Can where
  nmt := .initialising
  port := .active
  busOffCount := 0
  inhibited := false
  emcyUs := 0
  emcyQueue := []
  lost := []
  heard := []
  beatUs := 0
  lssNode := none

/-- `TwCtx` right after a cold reset (INVENTORY.md, State). -/
def TwCtx.reset : TwCtx where
  selWrite := none
  copy := []
  first := []
  buffer := []
  bufferOver := false
  result := 0
  op := 0
  index := 0
  sub := 0
  abort := 0
  total := 0
  frameError := 0
  partSeq := 0
  part := 0

/-- `HostCtx` right after a cold reset (INVENTORY.md, State). -/
def HostCtx.reset : HostCtx where
  used := false
  key := { kind := .usdo, port := 0, addr := 0 }
  cls := .obs
  ownSink := none
  silenceMs := 0
  sessions := []
  request := 0
  requestOrder := 0
  requestRank := 0
  budgets := Vector.replicate 4 0
  grantResult := []
  grantPending := false
  multiResult := []
  ringCursor := 0
  peatCursor := 0
  tw := TwCtx.reset

/-- `Dap` right after a cold reset (INVENTORY.md, State). -/
def Dap.reset : Dap where
  req := none
  done := false
  err := false
  rlen := 0
  abort := 0
  irqErr := false
  irqDone := false
  index := 0
  sub := 0
  op := 0
  len := 0
  offset := 0
  total := 0
  buffer := []
  first := []

/-- `DictState` right after a cold reset (INVENTORY.md, State). -/
def DictState.reset : DictState where
  written := []
  force := []
  pending := []
  wasPending := []
  imageA := none
  imageB := none
  imageInForce := none
  storing := none
  restore := 0
  lastStoreMs := 0

/-- `Tw` right after a cold reset (INVENTORY.md, State). -/
def Tw.reset : Tw where
  st := .off
  errPec := 0
  errLen := 0
  errCmd := 0
  errSeq := 0
  timeouts := 0
  arbLost := 0
  recoveries := 0
  notifyFails := 0
  alertPending := false
  notifies := []
  nacks := 0
  arbRun := 0
  attempts := 0
  stretch := none
  frameUs := 0
  notifyUs := 0
  attemptUs := 0
  faultUs := 0

/-- `Reg` right after a cold reset (INVENTORY.md, State). -/
def Reg.reset : Reg where
  st := 0
  cell := 0
  epoch := 0
  port := 0
  addr := 0
  slot := 0
  status := 0
  vout := 0
  iout := 0
  vin := 0
  temp := 0
  pout := 0
  mfr := []
  fails := 0
  failRun := 0
  mode := 0
  pec := false

/-- `Src` right after a cold reset (INVENTORY.md, State). -/
def Src.reset : Src where
  modCount := 0
  modHold := 0
  target := 0
  prio := 0
  pending := false
  released := false
  events := 0
  claimedBy := none
  duringClaim := 0
  firstUs := 0
  waiting := 0

/-- `Core` right after a cold reset (INVENTORY.md, State). -/
def Core.reset : Core where
  run := .held
  faultTimes := []
  threshold := 0
  privPrio := Vector.replicate 32 0
  privLevel := 0
  privClaimed := 0
  snapId := 0
  snapEvents := 0
  snapLevel := false
  cmp := Vector.replicate 4 0xFFFFFFFFFFFF
  cmpLo := Vector.replicate 4 0
  timeHi := 0
  scrubWriteback := true
  scrubStart := 0
  scrubWords := 0
  scrubBusy := false
  scrubQueued := false
  scrubDone := false
  scrubErr := false
  scrubAborted := false
  scrubAbortDue := false
  corr := 0
  uncorr := 0
  firstBad := 0xFFFFFFFF
  scrubIrq := false

/-- `Fw` right after a cold reset (INVENTORY.md, State). -/
def Fw.reset : Fw where
  st := .empty
  factory := false
  header := []
  body := []
  activation := 0
  trialBegun := false

/-- `Session` right after a cold reset (INVENTORY.md, State). -/
def Session.reset : Session where
  open_ := false
  authed := false
  nonce := []
  failures := 0
  lockout := false
  requestUs := 0
  lockoutUs := 0
  host := none
  lastSeq := none
  lastReply := Reply.reset
  writeSel := none
  writeBuf := []
  transfer := false
  nextOffset := 0
  lastChunk := none
  cipher := []
  readOf := none
  first := []
  wrapKey := []

/-- `Firmware` right after a cold reset (INVENTORY.md, State). -/
def Firmware.reset : Firmware where
  slots := #v[{ Fw.reset with st := .confirmed, factory := true, activation := 1 }, Fw.reset]
  active := 0
  trial := none
  appConfirmed := false
  settleMs := 0
  trialLeftMs := 0
  lastUpdate := 0
  secVersion := 0
  activating := none
  activateUs := 0
  tendingHeld := none
  rollbackDue := false
  keys := [⟨0x20, Config.factoryTransitKey, false⟩, ⟨0x22, Config.factoryServiceKey, false⟩]
  session := Session.reset
  bootsel := 0

/-- `Clocks` right after a cold reset (INVENTORY.md, State). -/
def Clocks.reset : Clocks where
  timeUs := 0
  xin := false
  pllS := false
  pllL := false
  pllH := false
  holdover := false
  wclkCrystal := false
  holdovers := 0
  dieDiff := 0
  regionDiff := false
  retrains := 0
  crcErrors := 0
  samplePoints := Vector.replicate 16 0
  wispTrim := 0
  lostUs := 0
  retryUs := Vector.replicate 3 0
  trimUs := 0
  retrainUs := Vector.replicate 16 0
  armedUs := 0
  diffUs := 0
  resetCause := .powerOn
  supplyFault := 0
  warmCause := 0
  warmResets := 0
  bootCount := 1

/-- `SyncPins` right after a cold reset (INVENTORY.md, State). -/
def SyncPins.reset : SyncPins where
  edges := []
  count := 0
  present := false

/-- `Pins` right after a cold reset (INVENTORY.md, State). -/
def Pins.reset : Pins where
  safeN := false
  laneAct := false
  alert := Vector.replicate 4 false
  en := 0
  blvd := 0
  leak := 0
  pg := 0

/-- `OwnPower` right after a cold reset (INVENTORY.md, State). -/
def OwnPower.reset : OwnPower where
  total := 0
  watch := 0
  loop := 0
  channel := 0
  manage := 0
  peak := 0
  us := 0

/-- `ModeState` right after a cold reset (INVENTORY.md, State). -/
def ModeState.reset : ModeState where
  mode := none
  safe := false
  safeWhy := 0
  safeUs := 0
  requestInForce := 1
  requestOwner := none
  shutdownLatch := false
  lastCause := 1
  shortRun := 0
  okRun := 0
  extRun := 0
  profile := 2
  wakeHeld := 200
  orderCount := 0

/-- The machine right after a power-on reset: every output inactive, nothing running, BOOT still to come (R384, R387);
the values the spec does not give are those of logs 3 to 10. -/
def State.reset : State where
  pending := []
  freeCount := 0
  reply := Reply.reset
  sent := []
  phase := .held
  manage := .warmReset
  clk := Clocks.reset
  pins := Pins.reset
  syncPins := SyncPins.reset
  modes := ModeState.reset
  own := OwnPower.reset
  cells := Vector.replicate 48 Cell.reset
  loops := Vector.replicate 16 Loop.reset
  traces := Vector.replicate 4 Trace.reset
  groups := Vector.replicate 24 Group.reset
  bus := Bus.reset
  alloc := AllocResult.reset
  allocNext := AllocResult.reset
  solveCount := 0
  idGroup := none
  idAt := none
  idCycleUs := 0
  refHalf := 0
  monitors := Vector.replicate 5 0
  ledger := Ledger.reset
  strings := Vector.replicate 4 Batt.reset
  packs := []
  seq := Seq.reset
  thermal := Vector.replicate 22 Thermal.reset
  lanes := Lanes.reset
  can := Vector.replicate 2 Can.reset
  hosts := Vector.replicate 32 HostCtx.reset
  hostsRefused := 0
  lockOwner := none
  lockMs := 0
  wallOffsetMs := 0
  tpdoLast := Vector.replicate 32 []
  tpdoInhibit := Vector.replicate 32 false
  tpdoDue := Vector.replicate 32 false
  tpdoUs := Vector.replicate 32 0
  checkUs := 0
  tpdoSync := Vector.replicate 32 0
  rpdoSecond := Vector.replicate 16 0
  dap := Vector.replicate 2 Dap.reset
  dict := DictState.reset
  tw := Vector.replicate 12 Tw.reset
  regs := Vector.replicate 256 Reg.reset
  cores := Vector.replicate 4 Core.reset
  srcs := Vector.replicate 160 Src.reset
  scrubOrder := []
  badBanks := []
  recorder := Recorder.reset
  fw := Firmware.reset
  heldBlocks := 0
  heldOther := []

end Sys2Proof.Machine
end

