-- ==== Sys2Proof/Machine/Ops.lean ====
section
/-! DEFINITION. Machine/Ops.lean: the named operations every meaning is built from: one writer per kind of instance,
byte order, rounding, the CRC, free values and the messages sent. -/

namespace Sys2Proof.Machine

/-- Outcome of a command that goes on. -/
abbrev Out := Host.Outcome State Fault Refusal

/-! Writers: each changes one instance and nothing else. -/

/-- Change cell `c`. -/
def State.modCell (s : State) (c : CellNo) (f : Cell → Cell) : State :=
  { s with cells := s.cells.set c (f s.cells[c]) }
/-- Change the feeder part of cell `c`. -/
def State.modFeeder (s : State) (c : CellNo) (f : Feeder → Feeder) : State :=
  s.modCell c fun x => { x with feeder := f x.feeder }
/-- Change the ORING part of cell `c`. -/
def State.modOring (s : State) (c : CellNo) (f : Oring → Oring) : State :=
  s.modCell c fun x => { x with oring := f x.oring }
/-- Change loop `k`. -/
def State.modLoop (s : State) (k : LoopNo) (f : Loop → Loop) : State :=
  { s with loops := s.loops.set k (f s.loops[k]) }
/-- Change trace unit `u`. -/
def State.modTrace (s : State) (u : TraceNo) (f : Trace → Trace) : State :=
  { s with traces := s.traces.set u (f s.traces[u]) }
/-- Change line group `g`. -/
def State.modGroup (s : State) (g : GroupNo) (f : Group → Group) : State :=
  { s with groups := s.groups.set g (f s.groups[g]) }
/-- Change string `n`. -/
def State.modString (s : State) (n : StringNo) (f : Batt → Batt) : State :=
  { s with strings := s.strings.set n (f s.strings[n]) }
/-- Change the ledger. -/
def State.modLedger (s : State) (f : Ledger → Ledger) : State := { s with ledger := f s.ledger }
/-- Change sink `x` of the ledger. -/
def State.modSink (s : State) (x : SinkNo) (f : Sink → Sink) : State :=
  s.modLedger fun l => { l with sinks := l.sinks.set x (f l.sinks[x]) }
/-- Change row `g` of the grant table. -/
def State.modGrant (s : State) (g : GrantNo) (f : Grant → Grant) : State :=
  s.modLedger fun l => { l with grants := l.grants.set g (f l.grants[g]) }
/-- Change the sequencer. -/
def State.modSeq (s : State) (f : Seq → Seq) : State := { s with seq := f s.seq }
/-- Change rail `r`. -/
def State.modRail (s : State) (r : RailNo) (f : Rail → Rail) : State :=
  s.modSeq fun q => { q with rails := q.rails.set r (f q.rails[r]) }
/-- Change thermal input `i`. -/
def State.modThermal (s : State) (i : InputNo) (f : Thermal → Thermal) : State :=
  { s with thermal := s.thermal.set i (f s.thermal[i]) }
/-- Change the lane pair. -/
def State.modLanes (s : State) (f : Lanes → Lanes) : State := { s with lanes := f s.lanes }
/-- Change CAN port `p`. -/
def State.modCan (s : State) (p : CanNo) (f : Can → Can) : State :=
  { s with can := s.can.set p (f s.can[p]) }
/-- Change host context `h`. -/
def State.modHost (s : State) (h : HostNo) (f : HostCtx → HostCtx) : State :=
  { s with hosts := s.hosts.set h (f s.hosts[h]) }
/-- Change DAP channel `d`. -/
def State.modDap (s : State) (d : DapNo) (f : Dap → Dap) : State :=
  { s with dap := s.dap.set d (f s.dap[d]) }
/-- Change two-wire port `p`. -/
def State.modTw (s : State) (p : TwNo) (f : Tw → Tw) : State :=
  { s with tw := s.tw.set p (f s.tw[p]) }
/-- Change core `c`. -/
def State.modCore (s : State) (c : CoreNo) (f : Core → Core) : State :=
  { s with cores := s.cores.set c (f s.cores[c]) }
/-- Change shared interrupt source `n`. -/
def State.modSrc (s : State) (n : SharedNo) (f : Src → Src) : State :=
  { s with srcs := s.srcs.set n (f s.srcs[n]) }
/-- Change the recorder. -/
def State.modRec (s : State) (f : Recorder → Recorder) : State := { s with recorder := f s.recorder }
/-- Change the dictionary's own state. -/
def State.modDict (s : State) (f : DictState → DictState) : State := { s with dict := f s.dict }
/-- Change the mode arbiter. -/
def State.modModes (s : State) (f : ModeState → ModeState) : State := { s with modes := f s.modes }
/-- Change the clocks. -/
def State.modClk (s : State) (f : Clocks → Clocks) : State := { s with clk := f s.clk }
/-- Change the pins. -/
def State.modPins (s : State) (f : Pins → Pins) : State := { s with pins := f s.pins }
/-- Change firmware. -/
def State.modFw (s : State) (f : Firmware → Firmware) : State := { s with fw := f s.fw }
/-- Change the Fafort session. -/
def State.modSession (s : State) (f : Session → Session) : State :=
  s.modFw fun w => { w with session := f w.session }
/-- Change the bus loop. -/
def State.modBus (s : State) (f : Bus → Bus) : State := { s with bus := f s.bus }

/-- Apply `f` for every number below `n`, in rising order. -/
def State.each (s : State) (n : Nat) (f : Fin n → State → State) : State :=
  (List.finRange n).foldl (fun t i => f i t) s

/-- The numbers below `n` for which `p` holds, rising. -/
def pick (n : Nat) (p : Fin n → Bool) : List (Fin n) := (List.finRange n).filter p

/-- Sum of `f` over the numbers below `n`. -/
def sumOf {α : Type} [Add α] [Zero α] (n : Nat) (f : Fin n → α) : α :=
  ((List.finRange n).map f).foldl (· + ·) 0

/-- Apply `f` for each number of a list, in its order. -/
def State.over {α : Type} (s : State) (xs : List α) (f : α → State → State) : State :=
  xs.foldl (fun t x => f x t) s

/-- The number `n` as an instance below `b`, when it is one. -/
def toFin? (b n : Nat) : Option (Fin b) := if h : n < b then some ⟨n, h⟩ else none

/-- The instance that an index names among `n` that start at `base`. -/
def inst? (base n index : Nat) : Option (Fin n) := if base ≤ index then toFin? n (index - base) else none

/-- Apply `f` when `n` is an instance below `b`. -/
def State.onFin (s : State) (b n : Nat) (f : Fin b → State → State) : State :=
  match toFin? b n with
  | some i => f i s
  | none => s

/-! Bytes and numbers. -/

/-- `v` as `n` little-endian bytes (R291). -/
def le : Nat → Nat → Bytes
  | 0, _ => []
  | n + 1, v => BitVec.ofNat 8 v :: le n (v / 256)

/-- Two's-complement `v` as `n` little-endian bytes. -/
def leI (n : Nat) (v : Int) : Bytes := le n (v % (2 ^ (8 * n) : Int)).toNat

/-- Little-endian bytes as a number. -/
def unle : Bytes → Nat
  | [] => 0
  | b :: bs => b.toNat + 256 * unle bs

/-- Little-endian bytes as a two's-complement number. -/
def unleI (bs : Bytes) : Int :=
  let v := unle bs
  if v < 2 ^ (8 * bs.length - 1) ∨ bs = [] then v else (v : Int) - 2 ^ (8 * bs.length)

/-- One byte. -/
def byte (n : Nat) : Bytes := [BitVec.ofNat 8 n]

/-- Bytes `i` to `i + n - 1`. -/
def slice (b : Bytes) (i n : Nat) : Bytes := (b.drop i).take n

/-- Number held in bytes `i` to `i + n - 1`. -/
def numAt (b : Bytes) (i n : Nat) : Nat := unle (slice b i n)

/-- Eight steps of the reflected CRC-32 polynomial. -/
def crcBits : Nat → BitVec 32 → BitVec 32
  | 0, c => c
  | n + 1, c => crcBits n (if c.getLsbD 0 then (c >>> 1) ^^^ 0xEDB88320#32 else c >>> 1)

/-- CRC-32 of IEEE 802.3 (R302). -/
def crc32 (b : Bytes) : Nat :=
  (~~~ (b.foldl (fun c x => crcBits 8 (c ^^^ x.zeroExtend 32)) 0xFFFFFFFF#32)).toNat

/-- Eight steps of the CRC-8 polynomial of a PEC (Table 15-1). -/
def crc8Bits : Nat → Byte → Byte
  | 0, c => c
  | n + 1, c => crc8Bits n (if c.getLsbD 7 then (c <<< 1) ^^^ 0x07#8 else c <<< 1)

/-- PEC of a two-wire frame (R308). -/
def crc8 (b : Bytes) : Byte := b.foldl (fun c x => crc8Bits 8 (c ^^^ x)) 0

/-- What a transfer brought, its repeat included. -/
def triesGot (t : Tries) : Option Bytes := t.first <|> t.again

/-- What a transfer brought, when it has the length of its command (Table 09-1). -/
def triesSized (n : Nat) (t : Tries) : Option Bytes := (triesGot t).filter fun (b : Bytes) => decide (b.length = n)

/-- round(x) of R405: the nearest integer, a tie towards plus infinity. -/
def roundR (x : Rat) : Int := (x + 1 / 2).floor

/-- A real result shown in whole units: exact when whole, else free between the two neighbours (log 13). -/
def quant (x : Rat) : Int :=
  if x.den = 1 then x.num else if Config.roundsUp x then x.floor + 1 else x.floor

/-- `quant` of a value whose entry is unsigned. -/
def quantN (x : Rat) : Nat := (quant x).toNat

/-- x limited to lo and hi. -/
def clampR (lo hi x : Rat) : Rat := max lo (min hi x)

/-- a / b; by 0 the spec gives no value (log 139). -/
def ratio (a b : Rat) : Rat := if b = 0 then Config.overZero a else a / b

/-- x limited to lo and hi. -/
def clampI (lo hi x : Int) : Int := max lo (min hi x)

/-- Bit `n` of a mask. -/
def bit (m n : Nat) : Bool := m.testBit n

/-- A mask with the bits of `xs`. -/
def maskOf (xs : List Nat) : Nat := xs.foldl (fun m i => m ||| 2 ^ i) 0

/-- 1 for true. -/
def b2n (b : Bool) : Nat := if b then 1 else 0

/-- 32-bit counter one higher; it wraps. -/
def wrap32 (n : Nat) : Nat := n % 0x100000000

/-- A free value (log 3) and the state whose counter has moved on. -/
def State.fresh (s : State) : Nat × State :=
  (Config.free s.freeCount, { s with freeCount := s.freeCount + 1 })

/-- Send a message. -/
def State.send (s : State) (m : Msg) : State := { s with sent := s.sent ++ [m] }

/-- Answer an access. -/
def State.answer (s : State) (code : Nat) (data : Bytes) (total : Nat) : State :=
  { s with reply := { code := code, data := data, total := total } }

/-- Timestamp in µs, 48 bits (R377). -/
def State.now (s : State) : Nat := s.clk.timeUs % 0x1000000000000

/-! Codes shown in entries. -/

/-- Codes of Table 02-1. -/
def Mode.code : Mode → Nat
  | .dormant => 1 | .rising => 2 | .serving => 3 | .rationed => 4
  | .holdup => 5 | .lifeline => 6 | .settling => 7 | .tending => 8

/-- Codes of Table 13-5 by kind and port. -/
def Key.code (k : Key) : Nat :=
  match k.kind with
  | .usdo => 1 + k.port
  | .sdo => 3 + k.port
  | .twoWire => 5
  | .dap => 6
  | .service => 7

/-- Rank of an access class, 1 to 5. -/
def Class.code : Class → Nat
  | .obs => 1 | .slt => 2 | .opr => 3 | .eng => 4 | .vnd => 5

/-- The class of a code; codes outside 1 to 5 are never stored. -/
def Class.ofCode (n : Nat) : Class :=
  if n = 1 then .obs else if n = 2 then .slt else if n = 3 then .opr else if n = 4 then .eng else .vnd

/-- True when `a` ranks at or above `b`. -/
def Class.atLeast (a b : Class) : Bool := decide (b.code ≤ a.code)

/-- Codes of Table 03-5. -/
def Role.code : Role → Nat
  | .idle => 0 | .phase => 1 | .line => 2 | .feeder => 3 | .oring => 4

/-- Role of a code. -/
def Role.ofCode (n : Nat) : Role :=
  if n = 1 then .phase else if n = 2 then .line else if n = 3 then .feeder else if n = 4 then .oring else .idle

/-- STATE of a cell (3000+nn:06). -/
def CellState.code : CellState → Nat
  | .inService => 1 | .draining => 2 | .drained => 3 | .testing => 4 | .starting => 5

/-- MAINT_CMD codes. -/
def MaintCmd.code : MaintCmd → Nat
  | .drain => 1 | .drainForce => 2 | .commit => 3 | .repair => 4 | .release => 5 | .abandon => 6

/-- Table 07-1. -/
def FeedState.code : FeedState → Nat
  | .disabled => 1 | .empty => 2 | .inserting => 3 | .held => 4 | .inrush => 5 | .on => 6 | .retryWait => 7 | .latched => 8

/-- Table 07-6. -/
def OrState.code : OrState → Nat
  | .disabled => 1 | .blocking => 2 | .regulating => 3 | .fullOn => 4 | .rearming => 5 | .latched => 6

/-- LOOP_STATE. -/
def LoopState.code : LoopState → Nat
  | .stopped => 1 | .starting => 2 | .running => 3 | .stoppedByCause => 4

/-- STAGE_STATE. -/
def StageState.code : StageState → Nat
  | .continuous => 1 | .burst => 2 | .braking => 3 | .softStart => 4 | .hiccupWait => 5

/-- SYNC_STATE. -/
def SyncState.code : SyncState → Nat
  | .free => 1 | .acquiring => 2 | .locked => 3 | .returning => 4 | .outOfRange => 5

/-- SET_IN_FORCE. -/
def SetName.code : SetName → Nat
  | .set0 => 0 | .set1 => 1 | .safe => 2

/-- Table 06-2. -/
def GroupState.code : GroupState → Nat
  | .disabled => 1 | .signature => 2 | .waiting => 3 | .qualifying => 4 | .qualified => 5 | .starting => 6
  | .delivering => 7 | .identifying => 8 | .discharging => 9 | .retryWait => 10 | .lockedOut => 11

/-- Table 09-2. -/
def StringState.code : StringState → Nat
  | .disabled => 1 | .absent => 2 | .authenticating => 3 | .open => 4 | .connected => 5 | .rejected => 6

/-- CHARGE_STAGE. -/
def ChargeStage.code : ChargeStage → Nat
  | .none => 0 | .float => 1 | .bulk => 2 | .absorb => 3 | .inhibited => 4 | .window => 5

/-- Table 10-3. -/
def RailState.code : RailState → Nat
  | .off => 1 | .waiting => 2 | .judging => 3 | .good => 4 | .failed => 5 | .retryWait => 6 | .skipped => 7
  | .shed => 8 | .latchedOff => 9

/-- SEQ_STATE. -/
def SeqState.code : SeqState → Nat
  | .idle => 1 | .onSequence => 2 | .onComplete => 3 | .offSequence => 4 | .offDone => 5 | .restartWait => 6

/-- Table 11-2. -/
def InputState.code : InputState → Nat
  | .normal => 1 | .warn => 2 | .throttle => 3 | .invalid => 4 | .off => 5

/-- Table 12-1. -/
def LaneState.code : LaneState → Nat
  | .active => 1 | .standby => 2 | .testing => 3 | .syncing => 4 | .retired => 5 | .off => 6

/-- PAIR_STATE. -/
def PairState.code : PairState → Nat
  | .paired => 1 | .switching => 2 | .simplex => 3 | .window => 4 | .syncing => 5 | .safe => 6 | .off => 7

/-- Table 08-6. -/
def GrantStateCode.code : GrantStateCode → Nat
  | .free => 0 | .active => 1 | .notice => 2 | .ended => 3

/-- PORT_STATE of a CAN port. -/
def CanState.code : CanState → Nat
  | .active => 1 | .passive => 2 | .busOff => 3 | .off => 4

/-- PORT_STATE of a two-wire port. -/
def TwState.code : TwState → Nat
  | .off => 1 | .idle => 2 | .asleep => 3 | .active => 4 | .fault => 5

/-- Table 18-5. -/
def SlotState.code : SlotState → Nat
  | .empty => 1 | .writing => 2 | .valid => 3 | .trial => 4 | .confirmed => 5 | .failed => 6

/-- UNIT_STATE. -/
def TraceState.code : TraceState → Nat
  | .idle => 1 | .armed => 2 | .triggered => 3 | .done => 4

/-- RESET_CAUSE. -/
def ColdCause.code : ColdCause → Nat
  | .powerOn => 1 | .rstN => 2 | .supply => 3 | .vaon => 4

/-- ACTIVE_LANE: 0 for A, 1 for B. -/
def Lane.code : Lane → Nat
  | .a => 0 | .b => 1

/-- The other lane. -/
def Lane.other : Lane → Lane
  | .a => .b | .b => .a

end Sys2Proof.Machine
end

