-- ==== Sys2Proof/Machine/Dictionary.lean ====
section
/-! DEFINITION. Machine/Dictionary.lean: the object dictionary's entries, as the entry tables of the chapters give them
(index, subindex, type, write class, default, range), and the store of written and in-force values (R291, R295). Every
defined entry has read class OBS, so R292 refuses no read of one. The standard objects 1001 and 1005 to 1A1F are those
of CiA 301 (PRESUMED, log 17). -/

namespace Sys2Proof.Machine

/-- Data types of Table 14-3. -/
inductive Ty | bool | u8 | u16 | u32 | u64 | i8 | i16 | i32 | i64 | str | dom
  deriving DecidableEq, Repr

/-- Value ranges; a value outside one is refused with 0x0609_0030. -/
inductive Check
  | any
  | nonzero
  | range (lo hi : Int)
  /-- A range and one more value. -/
  | rangeOr (lo hi extra : Int)
  /-- 0, or within a range. -/
  | zeroOr (lo hi : Int)
  | oneOf (vs : List Int)
  /-- A period: 0 is refused with 0x0609_0032 (3100+k:05). -/
  | period (lo hi : Int)
  /-- FLAGS: reserved bits are ignored. -/
  | flags
  deriving DecidableEq, Repr

/-- What a write of the entry does: configuration and coefficient words replace the value, a per-host entry the caller's
own value, a command acts; a status entry has no write class. -/
inductive EKind | status | config | word | perHost | command
  deriving DecidableEq, Repr

/-- Entries of one index range: first subindex, how many, type, write class, default, range, kind, and whether the
in-force value is held apart from the written one. -/
structure Entry where
  sub : Nat
  count : Nat
  ty : Ty
  wr : Option Class
  dflt : Int
  chk : Check
  kind : EKind
  late : Bool
  deriving DecidableEq, Repr

/-- 0x1000. -/
def e1000 : List Entry := [
  ⟨0x0, 1, .u32, none, 0, .any, .status, false⟩]  -- DEVICE_TYPE

/-- 0x1001. -/
def e1001 : List Entry := [
  ⟨0x0, 1, .u8, none, 0, .any, .status, false⟩]  -- ERROR_REGISTER

/-- 0x1005. -/
def e1005 : List Entry := [
  ⟨0x0, 1, .u32, (some .eng), 128, .any, .config, false⟩]  -- COB_ID_SYNC

/-- 0x1008. -/
def e1008 : List Entry := [
  ⟨0x0, 1, .str, none, 0, .any, .status, false⟩]  -- DEVICE_NAME

/-- 0x1009. -/
def e1009 : List Entry := [
  ⟨0x0, 1, .str, none, 0, .any, .status, false⟩]  -- HW_VERSION

/-- 0x100A. -/
def e100A : List Entry := [
  ⟨0x0, 1, .str, none, 0, .any, .status, false⟩]  -- SW_VERSION

/-- 0x1010. -/
def e1010 : List Entry := [
  ⟨0x1, 4, .u32, (some .eng), 1, .any, .command, false⟩]  -- STORE

/-- 0x1011. -/
def e1011 : List Entry := [
  ⟨0x1, 4, .u32, (some .eng), 1, .any, .command, false⟩]  -- RESTORE

/-- 0x1012. -/
def e1012 : List Entry := [
  ⟨0x0, 1, .u32, (some .eng), 2147483904, .any, .config, false⟩]  -- COB_ID_TIME

/-- 0x1015. -/
def e1015 : List Entry := [
  ⟨0x0, 1, .u16, (some .eng), 0, .any, .config, false⟩]  -- EMCY_INHIBIT

/-- 0x1016. -/
def e1016 : List Entry := [
  ⟨0x1, 8, .u32, (some .eng), 0, .any, .config, false⟩]  -- HEARTBEAT_CONSUMER

/-- 0x1017. -/
def e1017 : List Entry := [
  ⟨0x0, 1, .u16, (some .eng), 0, .any, .config, false⟩]  -- HEARTBEAT_PRODUCER

/-- 0x1018. -/
def e1018 : List Entry := [
  ⟨0x1, 1, .u32, none, 2942, .any, .status, false⟩,  -- VENDOR_ID
  ⟨0x2, 1, .u32, none, 18560, .any, .status, false⟩,  -- PRODUCT_CODE
  ⟨0x3, 1, .u32, none, 0, .any, .status, false⟩,  -- REVISION
  ⟨0x4, 1, .u32, none, 0, .any, .status, false⟩]  -- SERIAL

/-- 0x1200 to 0x1207. -/
def e1200 : List Entry := [
  ⟨0x1, 2, .u32, (some .eng), 0, .any, .config, false⟩,  -- SDO_COB_IDS
  ⟨0x3, 1, .u8, (some .eng), 0, .any, .config, false⟩]  -- SDO_CLIENT

/-- 0x1400 to 0x140F. -/
def e1400 : List Entry := [
  ⟨0x1, 1, .u32, (some .eng), 2147483648, .any, .config, false⟩,  -- PDO_COB_ID
  ⟨0x2, 1, .u8, (some .eng), 254, .any, .config, false⟩,  -- PDO_TYPE
  ⟨0x3, 1, .u16, (some .eng), 0, .any, .config, false⟩,  -- PDO_INHIBIT
  ⟨0x5, 1, .u16, (some .eng), 0, .any, .config, false⟩]  -- PDO_EVENT_TIMER

/-- 0x1600 to 0x160F. -/
def e1600 : List Entry := [
  ⟨0x0, 1, .u8, (some .eng), 0, .any, .config, false⟩,  -- PDO_COUNT
  ⟨0x1, 64, .u32, (some .eng), 0, .any, .config, false⟩]  -- PDO_MAP

/-- 0x1800 to 0x181F. -/
def e1800 : List Entry := [
  ⟨0x1, 1, .u32, (some .eng), 2147483648, .any, .config, false⟩,  -- PDO_COB_ID
  ⟨0x2, 1, .u8, (some .eng), 254, .any, .config, false⟩,  -- PDO_TYPE
  ⟨0x3, 1, .u16, (some .eng), 0, .any, .config, false⟩,  -- PDO_INHIBIT
  ⟨0x5, 1, .u16, (some .eng), 0, .any, .config, false⟩]  -- PDO_EVENT_TIMER

/-- 0x1A00 to 0x1A1F. -/
def e1A00 : List Entry := [
  ⟨0x0, 1, .u8, (some .eng), 0, .any, .config, false⟩,  -- PDO_COUNT
  ⟨0x1, 64, .u32, (some .eng), 0, .any, .config, false⟩]  -- PDO_MAP

/-- 0x2000. -/
def e2000 : List Entry := [
  ⟨0x1, 1, .str, none, 0, .any, .status, false⟩,  -- ORDERING_CODE
  ⟨0x2, 1, .u16, none, 161, .any, .status, false⟩,  -- SILICON_REV
  ⟨0x3, 1, .u32, none, 0, .any, .status, false⟩,  -- FIRMWARE_RELEASE
  ⟨0x4, 1, .u64, none, 0, .any, .status, false⟩,  -- UNIQUE_ID
  ⟨0x5, 1, .u32, none, 0, .any, .status, false⟩,  -- CONFIG_CRC
  ⟨0x6, 1, .u32, none, 0, .any, .status, false⟩,  -- BOOT_COUNT
  ⟨0x7, 1, .u64, none, 0, .any, .status, false⟩,  -- TIMESTAMP_US
  ⟨0x8, 1, .u32, none, 0, .any, .status, false⟩,  -- WARM_RESETS
  ⟨0x10, 1, .u8, none, 0, .any, .status, false⟩,  -- RESET_CAUSE
  ⟨0x11, 1, .u8, none, 0, .any, .status, false⟩,  -- SUPPLY_FAULT
  ⟨0x12, 1, .u8, none, 0, .any, .status, false⟩,  -- WARM_CAUSE
  ⟨0x13, 1, .u8, none, 0, .any, .status, false⟩,  -- CLOCK_STATE
  ⟨0x14, 1, .u32, none, 0, .any, .status, false⟩,  -- HOLDOVER_COUNT
  ⟨0x15, 1, .i16, none, 0, .any, .status, false⟩,  -- DIE_TEMP_DIFF
  ⟨0x16, 1, .u16, (some .eng), 500, .range 100 5000, .config, false⟩,  -- WATCHDOG_MS
  ⟨0x17, 1, .u32, none, 0, .any, .status, false⟩,  -- LINK_RETRAINS
  ⟨0x18, 1, .u32, none, 0, .any, .status, false⟩]  -- LINK_CRC_ERRORS

/-- 0x2001. -/
def e2001 : List Entry := [
  ⟨0x1, 1, .u8, none, 0, .any, .status, false⟩,  -- MODE_STATE
  ⟨0x2, 1, .bool, none, 0, .any, .status, false⟩,  -- SAFE_STATE
  ⟨0x3, 1, .u8, (some .opr), 0, .any, .perHost, false⟩,  -- MODE_REQUEST
  ⟨0x4, 1, .u8, none, 1, .any, .status, false⟩,  -- REQUEST_IN_FORCE
  ⟨0x5, 1, .u8, none, 255, .any, .status, false⟩,  -- REQUEST_OWNER
  ⟨0x6, 1, .bool, (some .eng), 1, .any, .config, false⟩,  -- BATTERY_START
  ⟨0x7, 1, .bool, (some .eng), 0, .oneOf [0], .command, false⟩,  -- SHUTDOWN_LATCH
  ⟨0x8, 1, .u8, none, 1, .any, .status, false⟩,  -- LAST_CAUSE
  ⟨0x9, 1, .u16, (some .eng), 20, .any, .config, false⟩]  -- SETTLE_RESERVE

/-- 0x2002. -/
def e2002 : List Entry := [
  ⟨0x1, 1, .u8, none, 1, .any, .status, false⟩,  -- STORE_STATE
  ⟨0x2, 1, .u32, none, 0, .any, .status, false⟩,  -- STORE_SEQUENCE
  ⟨0x3, 1, .u32, none, 0, .any, .status, false⟩,  -- IMAGE_BYTES
  ⟨0x4, 1, .u16, none, 0, .any, .status, false⟩,  -- LAST_STORE_MS
  ⟨0x5, 1, .u8, none, 0, .any, .status, false⟩]  -- RESTORE_SCOPE

/-- 0x2003. -/
def e2003 : List Entry := [
  ⟨0x0, 1, .u32, none, 0, .any, .status, false⟩]  -- ENTRY_COUNT

/-- 0x2004. -/
def e2004 : List Entry := [
  ⟨0x1, 1, .u8, (some .opr), 2, .range 1 3, .config, false⟩,  -- PROFILE_SELECT
  ⟨0x2, 1, .u8, none, 2, .any, .status, false⟩]  -- PROFILE_IN_FORCE

/-- 0x2005. -/
def e2005 : List Entry := [
  ⟨0x1, 1, .u32, (some .slt), 0, .zeroOr 10 60000, .perHost, false⟩,  -- TELEMETRY_FRESHNESS
  ⟨0x2, 1, .u32, (some .slt), 0, .zeroOr 1 1000, .perHost, false⟩,  -- HOST_RESPONSE
  ⟨0x3, 1, .u32, (some .slt), 0, .zeroOr 3 1000, .perHost, false⟩,  -- GRANT_DECISION
  ⟨0x4, 1, .u32, (some .slt), 0, .zeroOr 5 10000, .perHost, false⟩,  -- WAKE
  ⟨0x11, 4, .u32, none, 0, .any, .status, false⟩]  -- BUDGET_IN_FORCE_1–4

/-- 0x2006. -/
def e2006 : List Entry := [
  ⟨0x1, 1, .u32, none, 0, .any, .status, false⟩,  -- OWN_POWER
  ⟨0x2, 1, .u32, none, 0, .any, .status, false⟩,  -- OWN_POWER_WATCH
  ⟨0x3, 1, .u32, none, 0, .any, .status, false⟩,  -- OWN_POWER_LOOP
  ⟨0x4, 1, .u32, none, 0, .any, .status, false⟩,  -- OWN_POWER_CHANNEL
  ⟨0x5, 1, .u32, none, 0, .any, .status, false⟩,  -- OWN_POWER_MANAGE
  ⟨0x6, 1, .u32, (some .opr), 0, .oneOf [0], .command, false⟩]  -- OWN_POWER_PEAK

/-- 0x2007. -/
def e2007 : List Entry := [
  ⟨0x1, 1, .dom, none, 0, .any, .status, false⟩]  -- DIRECTORY

/-- 0x2008. -/
def e2008 : List Entry := [
  ⟨0x1, 1, .u8, (some .eng), 255, .rangeOr 0 15 255, .config, false⟩,  -- SYNCOUT_SOURCE
  ⟨0x2, 1, .u32, none, 0, .any, .status, false⟩,  -- SYNCIN_FREQ
  ⟨0x3, 1, .bool, none, 0, .any, .status, false⟩]  -- SYNCIN_PRESENT

/-- 0x2009. -/
def e2009 : List Entry := [
  ⟨0x1, 1, .u16, none, 0, .any, .status, false⟩,  -- PENDING_COUNT
  ⟨0x2, 1, .dom, none, 0, .any, .status, false⟩]  -- PENDING_LIST

/-- 0x2100. -/
def e2100 : List Entry := [
  ⟨0x1, 1, .u8, none, 0, .any, .status, false⟩,  -- HOSTS_IN_USE
  ⟨0x2, 1, .u16, (some .eng), 30, .range 1 3600, .config, false⟩,  -- LINGER_S
  ⟨0x3, 1, .bool, (some .eng), 0, .any, .command, false⟩,  -- LOCK_CMD
  ⟨0x4, 1, .u8, none, 255, .any, .status, false⟩,  -- LOCK_OWNER
  ⟨0x5, 1, .u16, (some .eng), 60, .range 10 3600, .config, false⟩,  -- LOCK_LEASE_S
  ⟨0x6, 1, .u16, none, 0, .any, .status, false⟩,  -- LOCK_REMAIN_S
  ⟨0x7, 1, .u32, none, 0, .any, .status, false⟩,  -- HOSTS_REFUSED
  ⟨0x8, 1, .u8, none, 0, .any, .status, false⟩,  -- SELF
  ⟨0xA, 1, .i64, none, 0, .any, .status, false⟩]  -- WALL_OFFSET_MS

/-- 0x2101. -/
def e2101 : List Entry := [
  ⟨0x1, 1, .u8, (some .eng), 4, .range 1 4, .config, false⟩,  -- DEFAULT_CLASS_1–7
  ⟨0x2, 1, .u8, (some .eng), 3, .range 1 4, .config, false⟩,  -- DEFAULT_CLASS_1–7
  ⟨0x3, 1, .u8, (some .eng), 4, .range 1 4, .config, false⟩,  -- DEFAULT_CLASS_1–7
  ⟨0x4, 1, .u8, (some .eng), 3, .range 1 4, .config, false⟩,  -- DEFAULT_CLASS_1–7
  ⟨0x5, 1, .u8, (some .eng), 1, .range 1 4, .config, false⟩,  -- DEFAULT_CLASS_1–7
  ⟨0x6, 1, .u8, (some .eng), 3, .range 1 4, .config, false⟩,  -- DEFAULT_CLASS_1–7
  ⟨0x7, 1, .u8, (some .eng), 5, .range 1 5, .config, false⟩]  -- DEFAULT_CLASS_1–7

/-- 0x2102. -/
def e2102 : List Entry := [
  ⟨0x1, 1, .u8, (some .eng), 0, .range 0 1, .config, true⟩,  -- PROTOCOL
  ⟨0x2, 1, .u8, (some .eng), 48, .rangeOr 1 127 255, .config, false⟩,  -- NODE_ID
  ⟨0x3, 1, .u16, (some .eng), 500, .oneOf [125, 250, 500, 800, 1000], .config, true⟩,  -- ARB_RATE_K
  ⟨0x4, 1, .u16, (some .eng), 2000, .oneOf [1000, 2000, 4000, 5000], .config, true⟩,  -- DATA_RATE_K
  ⟨0x5, 1, .u16, (some .eng), 875, .range 500 900, .config, true⟩,  -- SAMPLE_ARB
  ⟨0x6, 1, .u16, (some .eng), 750, .range 500 900, .config, true⟩,  -- SAMPLE_DATA
  ⟨0x7, 1, .u8, none, 1, .any, .status, false⟩,  -- PORT_STATE
  ⟨0x8, 1, .u32, none, 0, .any, .status, false⟩]  -- BUS_OFF_COUNT

/-- 0x2103. -/
def e2103 : List Entry := [
  ⟨0x1, 1, .u8, (some .eng), 0, .range 0 1, .config, true⟩,  -- PROTOCOL
  ⟨0x2, 1, .u8, (some .eng), 48, .rangeOr 1 127 255, .config, false⟩,  -- NODE_ID
  ⟨0x3, 1, .u16, (some .eng), 500, .oneOf [125, 250, 500, 800, 1000], .config, true⟩,  -- ARB_RATE_K
  ⟨0x4, 1, .u16, (some .eng), 2000, .oneOf [1000, 2000, 4000, 5000], .config, true⟩,  -- DATA_RATE_K
  ⟨0x5, 1, .u16, (some .eng), 875, .range 500 900, .config, true⟩,  -- SAMPLE_ARB
  ⟨0x6, 1, .u16, (some .eng), 750, .range 500 900, .config, true⟩,  -- SAMPLE_DATA
  ⟨0x7, 1, .u8, none, 1, .any, .status, false⟩,  -- PORT_STATE
  ⟨0x8, 1, .u32, none, 0, .any, .status, false⟩]  -- BUS_OFF_COUNT

/-- 0x2104. -/
def e2104 : List Entry := [
  ⟨0x1, 1, .dom, (some .obs), 0, .any, .command, false⟩,  -- MULTI_WRITE
  ⟨0x2, 1, .dom, none, 0, .any, .status, false⟩]  -- MULTI_RESULT

/-- 0x2106. -/
def e2106 : List Entry := [
  ⟨0x1, 32, .u8, (some .eng), 0, .range 0 1, .config, false⟩]  -- TPDO_PORT

/-- 0x2107. -/
def e2107 : List Entry := [
  ⟨0x1, 16, .u8, (some .eng), 0, .range 0 1, .config, false⟩]  -- RPDO_PORT

/-- 0x2108. -/
def e2108 : List Entry := [
  ⟨0x1, 16, .u8, (some .eng), 0, .range 0 127, .config, false⟩]  -- RPDO_OWNER

/-- 0x2120 to 0x212F. -/
def e2120 : List Entry := [
  ⟨0x1, 1, .u8, (some .eng), 0, .range 0 7, .config, false⟩,  -- BIND_KIND
  ⟨0x2, 1, .u8, (some .eng), 0, .any, .config, false⟩,  -- BIND_PORT
  ⟨0x3, 1, .u8, (some .eng), 0, .any, .config, false⟩,  -- BIND_ADDR
  ⟨0x4, 1, .u8, (some .eng), 1, .range 1 4, .config, false⟩]  -- BIND_CLASS

/-- 0x2140 to 0x215F. -/
def e2140 : List Entry := [
  ⟨0x1, 1, .u8, none, 0, .any, .status, false⟩,  -- CTX_STATE
  ⟨0x2, 1, .u8, none, 0, .any, .status, false⟩,  -- CTX_KIND
  ⟨0x3, 1, .u8, none, 0, .any, .status, false⟩,  -- CTX_PORT
  ⟨0x4, 1, .u8, none, 0, .any, .status, false⟩,  -- CTX_ADDR
  ⟨0x5, 1, .u8, none, 0, .any, .status, false⟩,  -- CTX_CLASS
  ⟨0x6, 1, .u32, none, 0, .any, .status, false⟩,  -- SILENCE_MS
  ⟨0x7, 1, .u8, none, 0, .any, .status, false⟩,  -- GRANTS_OWNED
  ⟨0x8, 1, .u8, none, 0, .any, .status, false⟩,  -- SESSIONS_OPEN
  ⟨0x9, 1, .u8, none, 255, .any, .status, false⟩]  -- OWN_SINK

/-- 0x2200. -/
def e2200 : List Entry := [
  ⟨0x1, 1, .u32, (some .eng), 14400, .any, .config, true⟩,  -- LL_TARGET_S
  ⟨0x2, 1, .u16, (some .eng), 25, .any, .config, true⟩,  -- OWN_USE_W
  ⟨0x3, 1, .u16, (some .eng), 55706, .nonzero, .config, true⟩,  -- HK_EFF
  ⟨0x4, 1, .u16, (some .eng), 500, .any, .config, true⟩,  -- CHARGE_BUDGET_W
  ⟨0x5, 1, .u8, (some .eng), 1, .range 0 3, .config, true⟩,  -- CHARGE_AFTER
  ⟨0x6, 1, .u16, (some .eng), 50, .any, .config, true⟩,  -- CAP_TOLERANCE
  ⟨0x7, 1, .u16, (some .eng), 100, .any, .config, true⟩,  -- CAP_DWELL_TICKS
  ⟨0x8, 1, .u16, (some .eng), 50, .any, .config, true⟩,  -- REVOKE_MARGIN_W
  ⟨0x9, 1, .u16, (some .eng), 60, .any, .config, true⟩,  -- RESTORE_DELAY_S
  ⟨0xA, 1, .bool, (some .eng), 0, .any, .config, true⟩,  -- P0_ORPHAN_KEEP
  ⟨0xB, 1, .u16, (some .eng), 0, .any, .config, true⟩]  -- EXT_FEED_CAP_W

/-- 0x2201. -/
def e2201 : List Entry := [
  ⟨0x1, 1, .i32, none, 0, .any, .status, false⟩,  -- SOURCE_AVAIL_W
  ⟨0x2, 1, .i32, none, 0, .any, .status, false⟩,  -- BOOKED_TOTAL_W
  ⟨0x3, 1, .i32, none, 0, .any, .status, false⟩,  -- HEADROOM_W
  ⟨0x4, 1, .u32, none, 25, .any, .status, false⟩,  -- OWN_USE_BOOKED_W
  ⟨0x5, 1, .i32, none, 0, .any, .status, false⟩,  -- RESIDUAL_W
  ⟨0x6, 1, .bool, none, 0, .any, .status, false⟩,  -- SHORTFALL
  ⟨0x7, 1, .u32, none, 0, .any, .status, false⟩,  -- TICK_COUNT
  ⟨0x8, 1, .u32, none, 0, .any, .status, false⟩,  -- K_EFF_W
  ⟨0x9, 1, .u32, none, 0, .any, .status, false⟩,  -- E_LB_WH
  ⟨0xA, 1, .u32, none, 0, .any, .status, false⟩,  -- GUARD_WH
  ⟨0xB, 1, .u32, none, 0, .any, .status, false⟩,  -- RESERVED_WH
  ⟨0xD, 1, .u32, none, 0, .any, .status, false⟩]  -- LL_RUNTIME_S

/-- 0x2202. -/
def e2202 : List Entry := [
  ⟨0x2, 1, .u32, (some .eng), 30000, .any, .config, true⟩,  -- NOTICE_MS_P1–P3
  ⟨0x3, 1, .u32, (some .eng), 5000, .any, .config, true⟩,  -- NOTICE_MS_P1–P3
  ⟨0x4, 1, .u32, (some .eng), 2000, .any, .config, true⟩,  -- NOTICE_MS_P1–P3
  ⟨0x6, 2, .u8, (some .eng), 100, .range 1 100, .config, true⟩,  -- BOOK_PCT_P0–P3
  ⟨0x8, 1, .u8, (some .eng), 80, .range 1 100, .config, true⟩,  -- BOOK_PCT_P0–P3
  ⟨0x9, 1, .u8, (some .eng), 50, .range 1 100, .config, true⟩,  -- BOOK_PCT_P0–P3
  ⟨0xB, 1, .u32, (some .eng), 4294967295, .any, .config, true⟩,  -- HOLDUP_MAX_S_P1–P3
  ⟨0xC, 1, .u32, (some .eng), 900, .any, .config, true⟩,  -- HOLDUP_MAX_S_P1–P3
  ⟨0xD, 1, .u32, (some .eng), 0, .any, .config, true⟩]  -- HOLDUP_MAX_S_P1–P3

/-- 0x2220. -/
def e2220 : List Entry := [
  ⟨0x1, 1, .dom, (some .slt), 0, .any, .command, false⟩,  -- GRANT_REQUEST
  ⟨0x2, 1, .dom, none, 0, .any, .status, false⟩,  -- GRANT_RESULT
  ⟨0x3, 1, .u8, none, 0, .any, .status, false⟩]  -- GRANTS_STANDING

/-- 0x2230. -/
def e2230 : List Entry := [
  ⟨0x1, 1, .u32, none, 0, .any, .status, false⟩,  -- LAMBDA
  ⟨0x2, 1, .i32, none, 0, .any, .status, false⟩,  -- DEMAND_SOLVED_W
  ⟨0x3, 1, .u32, none, 0, .any, .status, false⟩,  -- SHORTFALL_W
  ⟨0x4, 1, .u32, none, 0, .any, .status, false⟩]  -- SOLVE_COUNT

/-- 0x2231. -/
def e2231 : List Entry := [
  ⟨0x1, 1, .u32, none, 0, .any, .status, false⟩,  -- V_BUS_MV
  ⟨0x2, 1, .u32, none, 0, .any, .status, false⟩,  -- V_SET_MV
  ⟨0x3, 1, .u16, (some .eng), 200, .any, .config, false⟩,  -- KPB
  ⟨0x4, 1, .u32, (some .eng), 2000, .any, .config, false⟩,  -- KIB
  ⟨0x5, 1, .u16, (some .eng), 500, .any, .config, false⟩,  -- IB_LIM_W
  ⟨0x6, 1, .i32, none, 0, .any, .status, false⟩,  -- DEMAND_W
  ⟨0x7, 1, .u32, (some .eng), 54000, .nonzero, .config, false⟩]  -- BUS_SET_MV

/-- 0x2232. -/
def e2232 : List Entry := [
  ⟨0x1, 1, .u16, (some .eng), 60, .any, .config, false⟩,  -- ID_PERIOD_S
  ⟨0x2, 1, .u16, (some .eng), 50, .range 10 200, .config, false⟩,  -- ID_STEP
  ⟨0x3, 1, .u16, (some .eng), 50, .range 20 500, .config, false⟩,  -- ID_SEG_MS
  ⟨0x4, 1, .u16, (some .eng), 1000, .range 100 9900, .config, false⟩,  -- LEAK_FILTER_US
  ⟨0x5, 1, .u8, none, 0, .any, .status, false⟩]  -- LEAK_STATE

/-- 0x2233. -/
def e2233 : List Entry := [
  ⟨0x1, 48, .i32, none, 0, .any, .status, false⟩]  -- P_TARGET_1–48

/-- 0x2234. -/
def e2234 : List Entry := [
  ⟨0x1, 48, .u16, none, 0, .any, .status, false⟩]  -- PARTICIPATION_1–48

/-- 0x2240 to 0x227F. -/
def e2240 : List Entry := [
  ⟨0x1, 1, .u16, (some .eng), 0, .any, .config, true⟩,  -- ALLOWANCE_W
  ⟨0x2, 1, .u8, (some .eng), 3, .range 0 3, .config, true⟩,  -- CLASS
  ⟨0x3, 1, .u8, (some .eng), 255, .rangeOr 0 3 255, .config, false⟩,  -- ALERT_PIN
  ⟨0x4, 1, .u32, (some .eng), 5000, .any, .config, false⟩,  -- GRACE_MS
  ⟨0x5, 1, .u32, none, 0, .any, .status, false⟩,  -- CAP_W
  ⟨0x6, 1, .u32, none, 0, .any, .status, false⟩,  -- BOOKED_W
  ⟨0x7, 1, .i32, none, 0, .any, .status, false⟩,  -- P_MEAS_MW
  ⟨0x8, 1, .u8, none, 0, .any, .status, false⟩,  -- THROTTLE_STATE
  ⟨0x9, 1, .u32, none, 0, .any, .status, false⟩,  -- THROTTLE_TARGET_W
  ⟨0xA, 1, .u8, none, 0, .any, .status, false⟩]  -- SHED_CAUSE

/-- 0x2280 to 0x22BF. -/
def e2280 : List Entry := [
  ⟨0x1, 1, .u8, none, 0, .any, .status, false⟩,  -- STATE
  ⟨0x2, 1, .u8, none, 255, .any, .status, false⟩,  -- OWNER
  ⟨0x3, 1, .u16, none, 0, .any, .status, false⟩,  -- ID
  ⟨0x4, 1, .u32, none, 0, .any, .status, false⟩,  -- TOTAL_W
  ⟨0x5, 1, .u32, none, 0, .any, .status, false⟩,  -- REMAIN_S
  ⟨0x6, 1, .u32, none, 0, .any, .status, false⟩,  -- RES_REMAIN_WH
  ⟨0x7, 1, .dom, none, 0, .any, .status, false⟩,  -- RECORD
  ⟨0x8, 1, .u8, none, 0, .any, .status, false⟩]  -- END_CAUSE

/-- 0x2300. -/
def e2300 : List Entry := [
  ⟨0x1, 1, .u8, none, 1, .any, .status, false⟩,  -- SEQ_STATE
  ⟨0x2, 1, .u32, none, 0, .any, .status, false⟩,  -- SEQ_TIME_MS
  ⟨0x3, 1, .u32, (some .eng), 2000, .any, .config, false⟩,  -- RESTART_DELAY_MS
  ⟨0x4, 1, .u32, none, 0, .any, .status, false⟩,  -- RAILS_GOOD
  ⟨0x5, 1, .u32, none, 0, .any, .status, false⟩,  -- RAILS_FAILED
  ⟨0x6, 1, .u32, none, 0, .any, .status, false⟩]  -- SEQ_COUNT

/-- 0x2301. -/
def e2301 : List Entry := [
  ⟨0x1, 1, .bool, none, 0, .any, .status, false⟩,  -- PFI_STATE
  ⟨0x2, 1, .u32, none, 0, .any, .status, false⟩,  -- PFI_COUNT
  ⟨0x3, 1, .bool, none, 0, .any, .status, false⟩,  -- RECORD_MODE
  ⟨0x4, 1, .u16, (some .eng), 50, .any, .config, false⟩,  -- PFI_RELEASE_MS
  ⟨0x5, 1, .u32, none, 0, .any, .status, false⟩,  -- LAST_COMMIT_US
  ⟨0x6, 1, .u16, none, 0, .any, .status, false⟩]  -- LAST_COMMIT_BYTES

/-- 0x2310 to 0x232F. -/
def e2310 : List Entry := [
  ⟨0x1, 1, .u8, (some .eng), 0, .range 0 3, .config, true⟩,  -- KIND
  ⟨0x2, 1, .u8, (some .eng), 0, .range 0 0x2F, .config, true⟩,  -- TARGET
  ⟨0x3, 1, .u8, (some .eng), 255, .rangeOr 0 15 255, .config, true⟩,  -- PG_INPUT
  ⟨0x4, 1, .u16, (some .eng), 0, .any, .config, true⟩,  -- ON_DELAY
  ⟨0x5, 1, .u16, (some .eng), 0, .any, .config, true⟩,  -- OFF_DELAY
  ⟨0x6, 1, .u8, (some .eng), 255, .rangeOr 0 31 255, .config, true⟩,  -- PARENT
  ⟨0x7, 1, .u16, (some .eng), 100, .any, .config, true⟩,  -- PG_TIMEOUT_MS
  ⟨0x8, 1, .u8, (some .eng), 0, .range 0 2, .config, true⟩,  -- PG_POLICY
  ⟨0x9, 1, .u8, (some .eng), 2, .range 0 15, .config, true⟩,  -- RETRIES
  ⟨0xA, 1, .u16, (some .eng), 100, .any, .config, true⟩,  -- RETRY_DELAY_MS
  ⟨0xB, 1, .u8, (some .eng), 0, .range 0 1, .config, true⟩,  -- PG_LOSS_ACTION
  ⟨0xC, 1, .u8, none, 1, .any, .status, false⟩,  -- RAIL_STATE
  ⟨0xD, 1, .bool, none, 0, .any, .status, false⟩,  -- PG_LEVEL
  ⟨0xE, 1, .bool, (some .opr), 0, .any, .command, false⟩,  -- RAIL_CLEAR
  ⟨0xF, 1, .u16, (some .eng), 100, .any, .config, true⟩]  -- PG_OFF_TIMEOUT_MS

/-- 0x2400. -/
def e2400 : List Entry := [
  ⟨0x1, 1, .i16, (some .eng), -200, .any, .config, true⟩,  -- BAND_EDGE_1–5
  ⟨0x2, 1, .i16, (some .eng), 0, .any, .config, true⟩,  -- BAND_EDGE_1–5
  ⟨0x3, 1, .i16, (some .eng), 250, .any, .config, true⟩,  -- BAND_EDGE_1–5
  ⟨0x4, 1, .i16, (some .eng), 450, .any, .config, true⟩,  -- BAND_EDGE_1–5
  ⟨0x5, 1, .i16, (some .eng), 600, .any, .config, true⟩,  -- BAND_EDGE_1–5
  ⟨0x6, 1, .u16, (some .eng), 20, .any, .config, true⟩,  -- BAND_HYST
  ⟨0x7, 1, .u16, (some .eng), 20, .any, .config, false⟩,  -- THRESH_HYST
  ⟨0x8, 1, .u16, (some .eng), 30, .any, .config, false⟩,  -- DERATE_STEP_S
  ⟨0x9, 1, .u16, (some .eng), 300, .any, .config, false⟩,  -- RELEASE_S
  ⟨0xA, 1, .u16, (some .eng), 250, .any, .config, false⟩,  -- FSW_DERATE
  ⟨0xB, 1, .u8, (some .eng), 75, .range 1 100, .config, false⟩,  -- CAP_STEP2_PCT
  ⟨0xC, 1, .u8, (some .eng), 50, .range 1 100, .config, false⟩]  -- CAP_STEP3_PCT

/-- 0x2402. -/
def e2402 : List Entry := [
  ⟨0x1, 16, .u8, none, 0, .any, .status, false⟩]  -- DERATE_STEP_L0–L15

/-- 0x2403. -/
def e2403 : List Entry := [
  ⟨0x1, 6, .u8, (some .eng), 2, .range 0 3, .config, false⟩]  -- PW_SLEW_B0–B5

/-- 0x2410 to 0x241F. -/
def e2410n16 : List Entry := [
  ⟨0x1, 1, .u8, (some .eng), 1, .range 0 1, .config, false⟩,  -- SENSOR_KIND
  ⟨0x6, 1, .i16, (some .eng), 700, .any, .config, true⟩,  -- WARN_DC
  ⟨0x7, 1, .i16, (some .eng), 800, .any, .config, true⟩,  -- LIMIT_DC
  ⟨0x8, 1, .u16, (some .eng), 150, .any, .config, false⟩,  -- RATE_WARN
  ⟨0xA, 1, .u16, (some .eng), 400, .any, .config, false⟩]  -- RATE_THR

/-- 0x2410 to 0x2425. -/
def e2410n22 : List Entry := [
  ⟨0x2, 1, .u32, (some .eng), 10000, .nonzero, .config, false⟩,  -- R_REF_OHM
  ⟨0x3, 1, .u32, (some .eng), 10000, .nonzero, .config, false⟩,  -- R_NOM_OHM
  ⟨0x4, 1, .u16, (some .eng), 3435, .nonzero, .config, false⟩,  -- B_CONST
  ⟨0x5, 1, .i16, (some .eng), 0, .any, .config, false⟩,  -- OFFSET_DC
  ⟨0x9, 1, .u16, (some .eng), 600, .range 10 600, .config, false⟩,  -- RATE_WARN_WIN_S
  ⟨0xB, 1, .u16, (some .eng), 120, .range 10 600, .config, false⟩,  -- RATE_THR_WIN_S
  ⟨0xC, 1, .u64, (some .eng), 0, .any, .config, false⟩,  -- SINK_MASK
  ⟨0xD, 1, .u16, (some .eng), 0, .any, .config, false⟩,  -- LOOP_MASK
  ⟨0xE, 1, .u8, (some .eng), 50, .range 0 100, .config, false⟩,  -- THR_TARGET_PCT
  ⟨0x10, 1, .i16, none, 0, .any, .status, false⟩,  -- TEMP_DC
  ⟨0x11, 1, .i16, none, 0, .any, .status, false⟩,  -- RATE
  ⟨0x12, 1, .u8, none, 1, .any, .status, false⟩,  -- INPUT_STATE
  ⟨0x13, 1, .u8, none, 2, .any, .status, false⟩]  -- BAND

/-- 0x2420 to 0x2425. -/
def e2420 : List Entry := [
  ⟨0x1, 1, .u8, none, 1, .any, .status, false⟩,  -- SENSOR_KIND
  ⟨0x6, 1, .i16, (some .eng), 1050, .any, .config, true⟩,  -- WARN_DC
  ⟨0x7, 1, .i16, (some .eng), 1150, .any, .config, true⟩,  -- LIMIT_DC
  ⟨0x8, 1, .u16, (some .eng), 0, .any, .config, false⟩,  -- RATE_WARN
  ⟨0xA, 1, .u16, (some .eng), 0, .any, .config, false⟩]  -- RATE_THR

/-- 0x2500. -/
def e2500 : List Entry := [
  ⟨0x1, 1, .u8, none, 7, .any, .status, false⟩,  -- PAIR_STATE
  ⟨0x2, 1, .u8, none, 255, .any, .status, false⟩,  -- ACTIVE_LANE
  ⟨0x3, 1, .u32, none, 0, .any, .status, false⟩,  -- SWITCH_COUNT
  ⟨0x4, 1, .u32, none, 0, .any, .status, false⟩,  -- MISMATCH_COUNT
  ⟨0x5, 1, .u32, none, 0, .any, .status, false⟩,  -- TRANSIENT_COUNT
  ⟨0x6, 1, .u32, none, 0, .any, .status, false⟩,  -- LAST_GAP_NS
  ⟨0x7, 1, .dom, none, 0, .any, .status, false⟩,  -- LAST_MISMATCH
  ⟨0x8, 1, .u16, (some .eng), 10, .any, .config, true⟩,  -- WINDOW_PERIOD_S
  ⟨0x9, 1, .u8, (some .eng), 4, .any, .config, true⟩,  -- TRANSIENT_MAX
  ⟨0xA, 1, .u8, (some .eng), 3, .any, .config, true⟩,  -- AUTO_RETURN_MAX
  ⟨0xB, 1, .u16, (some .eng), 60, .any, .config, true⟩,  -- AUTO_RETURN_DELAY_S
  ⟨0xC, 1, .u8, (some .eng), 0, .range 0 3, .command, false⟩,  -- LANE_CMD
  ⟨0xD, 1, .u8, none, 0, .any, .status, false⟩,  -- LANE_CMD_RESULT
  ⟨0x10, 1, .dom, none, 0, .any, .status, false⟩]  -- HEALTH

/-- 0x2501 to 0x2502. -/
def e2501 : List Entry := [
  ⟨0x1, 1, .u8, none, 6, .any, .status, false⟩,  -- LANE_STATE
  ⟨0x2, 1, .u8, none, 0, .any, .status, false⟩,  -- RETIRE_CAUSE
  ⟨0x3, 1, .u32, none, 0, .any, .status, false⟩,  -- SELFTEST_PASS
  ⟨0x4, 1, .u32, none, 0, .any, .status, false⟩,  -- SELFTEST_FAIL
  ⟨0x5, 1, .u32, none, 0, .any, .status, false⟩,  -- BG_FAIL_COUNT
  ⟨0x6, 1, .u64, none, 0, .any, .status, false⟩,  -- LAST_SIGNATURE
  ⟨0x7, 1, .u32, none, 0, .any, .status, false⟩,  -- BG_SWEEPS
  ⟨0x8, 1, .u32, none, 0, .any, .status, false⟩,  -- CORRECTED_COUNT
  ⟨0x9, 1, .u8, none, 3, .any, .status, false⟩,  -- AUTO_RETURN_LEFT
  ⟨0xA, 1, .u16, none, 0, .any, .status, false⟩]  -- LAST_COPY_US

/-- 0x2600. -/
def e2600 : List Entry := [
  ⟨0x1, 1, .u8, (some .eng), 4, .any, .config, false⟩,  -- RATE_PER_S
  ⟨0x2, 1, .u8, (some .eng), 8, .nonzero, .config, false⟩,  -- BURST
  ⟨0x3, 1, .u8, (some .eng), 4, .range 0 5, .config, false⟩,  -- PEAT_SEVERITY
  ⟨0x4, 1, .u32, none, 0, .any, .status, false⟩,  -- SUPPRESSED_COUNT
  ⟨0x5, 1, .u16, (some .eng), 2000, .any, .config, false⟩,  -- FOLD_MS
  ⟨0x6, 1, .u32, none, 0, .any, .status, false⟩,  -- NEWEST_SEQ
  ⟨0x7, 1, .u32, none, 0, .any, .status, false⟩]  -- OLDEST_SEQ

/-- 0x2601. -/
def e2601 : List Entry := [
  ⟨0x1, 1, .dom, none, 0, .any, .status, false⟩,  -- WINDOW
  ⟨0x2, 1, .u32, (some .obs), 0, .any, .perHost, false⟩]  -- CURSOR

/-- 0x2602. -/
def e2602 : List Entry := [
  ⟨0x1, 1, .u32, (some .eng), 0, .any, .command, false⟩,  -- RING_RETIRE
  ⟨0x2, 1, .u32, (some .eng), 0, .any, .command, false⟩,  -- PEAT_RETIRE
  ⟨0x3, 1, .bool, (some .eng), 0, .any, .command, false⟩]  -- GASP_CLEAR

/-- 0x2603. -/
def e2603 : List Entry := [
  ⟨0x1, 1, .u32, (some .obs), 0, .any, .perHost, false⟩,  -- PEAT_CURSOR
  ⟨0x2, 1, .dom, none, 0, .any, .status, false⟩,  -- PEAT_WINDOW
  ⟨0x3, 1, .u8, none, 0, .any, .status, false⟩,  -- GASP_COUNT
  ⟨0x4, 8, .dom, none, 0, .any, .status, false⟩]  -- GASP_1–GASP_8

/-- 0x2606. -/
def e2606 : List Entry := [
  ⟨0x1, 1, .dom, none, 0, .any, .status, false⟩]  -- CODE_LIST

/-- 0x2610 to 0x2613. -/
def e2610 : List Entry := [
  ⟨0x1, 1, .u8, none, 1, .any, .status, false⟩,  -- UNIT_STATE
  ⟨0x2, 1, .u8, (some .eng), 0, .range 0 17, .config, false⟩,  -- CLOCK_SOURCE
  ⟨0x3, 1, .u16, (some .eng), 1, .nonzero, .config, false⟩,  -- DECIMATE
  ⟨0x4, 1, .u8, (some .eng), 1, .range 1 8, .config, false⟩,  -- NODE_COUNT
  ⟨0x5, 8, .u16, (some .eng), 0, .any, .config, false⟩,  -- NODE_0–NODE_7
  ⟨0xD, 1, .u32, (some .eng), 0, .any, .config, false⟩,  -- PRE_DEPTH
  ⟨0xE, 1, .u32, (some .eng), 0, .any, .config, false⟩,  -- POST_DEPTH
  ⟨0xF, 1, .u8, (some .eng), 0, .range 0 3, .config, false⟩,  -- TRIG_SOURCE
  ⟨0x10, 1, .u16, (some .eng), 0, .any, .config, false⟩,  -- TRIG_EVENT
  ⟨0x11, 1, .u8, (some .eng), 0, .range 0 7, .config, false⟩,  -- TRIG_NODE
  ⟨0x12, 1, .i32, (some .eng), 0, .any, .config, false⟩,  -- TRIG_LEVEL
  ⟨0x13, 1, .u8, (some .eng), 0, .range 0 2, .config, false⟩,  -- TRIG_EDGE
  ⟨0x14, 1, .u8, (some .eng), 0, .range 0 3, .command, false⟩,  -- COMMAND
  ⟨0x15, 1, .dom, none, 0, .any, .status, false⟩,  -- CAPTURE
  ⟨0x16, 1, .u32, none, 0, .any, .status, false⟩]  -- PRE_CAPTURED

/-- 0x2700. -/
def e2700 : List Entry := [
  ⟨0x1, 1, .u8, none, 0, .any, .status, false⟩,  -- ACTIVE_SLOT
  ⟨0x2, 2, .u8, none, 0, .any, .status, false⟩,  -- SLOT_A_STATE, SLOT_B_STATE
  ⟨0x4, 2, .u32, none, 0, .any, .status, false⟩,  -- SLOT_A_RELEASE, SLOT_B_RELEASE
  ⟨0x6, 1, .u16, (some .eng), 600, .range 120 3600, .config, false⟩,  -- TRIAL_WINDOW_S
  ⟨0x7, 1, .u16, (some .eng), 60, .any, .config, false⟩,  -- TRIAL_SETTLE_S
  ⟨0x8, 1, .bool, (some .opr), 0, .any, .command, false⟩,  -- APP_CONFIRM
  ⟨0x9, 1, .bool, (some .eng), 0, .any, .command, false⟩,  -- ROLLBACK
  ⟨0xA, 1, .u32, none, 0, .any, .status, false⟩,  -- SEC_VERSION
  ⟨0xB, 1, .u16, none, 0, .any, .status, false⟩,  -- TRIAL_REMAIN_S
  ⟨0xC, 1, .u8, none, 0, .any, .status, false⟩,  -- LAST_UPDATE
  ⟨0xD, 1, .u8, none, 0, .any, .status, false⟩]  -- BOOTSEL_SAMPLED

/-- 0x2710. -/
def e2710 : List Entry := [
  ⟨0x1, 16, .u8, none, 0, .any, .status, false⟩,  -- KEY_STATE
  ⟨0x21, 3, .u8, none, 0, .any, .status, false⟩]  -- KEY_STATE

/-- 0x2711. -/
def e2711 : List Entry := [
  ⟨0x1, 16, .u32, none, 0, .any, .status, false⟩,  -- KEY_CHECK
  ⟨0x21, 3, .u32, none, 0, .any, .status, false⟩]  -- KEY_CHECK

/-- 0x2800 to 0x280B. -/
def e2800 : List Entry := [
  ⟨0x1, 1, .u16, (some .eng), 400, .oneOf [100, 400, 1000], .config, false⟩,  -- SPEED_K
  ⟨0x2, 1, .u8, (some .eng), 2, .range 0 2, .config, false⟩,  -- STRETCH_POLICY
  ⟨0x3, 1, .u8, (some .eng), 0, .any, .config, false⟩,  -- NODE_COUNT
  ⟨0x4, 1, .u8, (some .eng), 48, .rangeOr 0 127 255, .config, false⟩,  -- TARGET_ADDR
  ⟨0x5, 1, .u8, (some .eng), 0, .range 0 1, .config, false⟩,  -- PEC_MODE
  ⟨0x6, 1, .u8, none, 0, .any, .status, false⟩,  -- POLICY_IN_FORCE
  ⟨0x7, 1, .u8, none, 1, .any, .status, false⟩,  -- PORT_STATE
  ⟨0x8, 4, .u32, none, 0, .any, .status, false⟩,  -- ERR_PEC, ERR_LEN, ERR_CMD, ERR_SEQ
  ⟨0xC, 1, .u32, none, 0, .any, .status, false⟩,  -- TIMEOUTS
  ⟨0xD, 1, .u32, none, 0, .any, .status, false⟩,  -- ARB_LOST
  ⟨0xE, 1, .u32, none, 0, .any, .status, false⟩,  -- RECOVERIES
  ⟨0xF, 1, .u32, none, 0, .any, .status, false⟩,  -- NOTIFY_FAILS
  ⟨0x10, 1, .bool, none, 0, .any, .status, false⟩]  -- ALERT_PENDING

/-- 0x3000 to 0x302F. -/
def e3000 : List Entry := [
  ⟨0x1, 1, .u8, (some .eng), 0, .range 0 4, .config, true⟩,  -- ROLE
  ⟨0x2, 1, .u16, (some .eng), 0, .any, .config, true⟩,  -- PIN_MODE
  ⟨0x3, 1, .u8, none, 0, .any, .status, false⟩,  -- ROLE_IN_FORCE
  ⟨0x4, 1, .u16, none, 0, .any, .status, false⟩,  -- PIN_MODE_IN_FORCE
  ⟨0x5, 1, .u8, (some .eng), 0, .range 0 1, .config, false⟩,  -- SAFE_ACTION
  ⟨0x6, 1, .u8, none, 0, .any, .status, false⟩,  -- STATE
  ⟨0x7, 1, .u16, (some .opr), 0, .any, .command, false⟩,  -- FAULT_LATCH
  ⟨0x8, 1, .u8, none, 0, .any, .status, false⟩,  -- SAFE_CAUSE
  ⟨0x9, 1, .u8, (some .eng), 0, .range 0 6, .command, false⟩,  -- MAINT_CMD
  ⟨0xA, 1, .u8, none, 0, .any, .status, false⟩,  -- MAINT_RESULT
  ⟨0xB, 1, .u8, (some .eng), 128, .any, .config, false⟩,  -- SAMPLE_POINT
  ⟨0xC, 1, .u8, (some .eng), 0, .range 0 1, .config, false⟩,  -- CS_SAMPLE
  ⟨0xD, 1, .u8, (some .eng), 32, .oneOf [8, 16, 32, 64], .config, false⟩,  -- SINC_OSR
  ⟨0xE, 1, .u8, (some .eng), 1, .range 0 8, .config, true⟩,  -- AUX_WEIGHT
  ⟨0xF, 1, .u16, (some .eng), 5, .any, .config, false⟩,  -- DRAIN_RAMP
  ⟨0x10, 1, .u16, (some .eng), 5000, .any, .config, false⟩,  -- DRAIN_TIMEOUT
  ⟨0x11, 1, .u8, none, 0, .any, .status, false⟩,  -- CAL_BAND
  ⟨0x12, 1, .u32, none, 0, .any, .status, false⟩,  -- FAULT_COUNT
  ⟨0x13, 1, .u32, none, 0, .any, .status, false⟩,  -- COMP_COUNT
  ⟨0x14, 1, .u32, (some .eng), 0, .any, .config, false⟩,  -- VS_RATIO
  ⟨0x15, 1, .u32, (some .eng), 0, .any, .config, false⟩,  -- AUX_RATIO
  ⟨0x20, 1, .bool, (some .eng), 0, .any, .config, false⟩,  -- FEED_ENABLE
  ⟨0x21, 1, .u8, (some .eng), 0, .range 0 1, .config, true⟩,  -- START_POLICY
  ⟨0x22, 1, .u16, (some .eng), 39, .any, .config, true⟩,  -- WIN_LOW_V
  ⟨0x23, 1, .u16, (some .eng), 60, .nonzero, .config, true⟩,  -- WIN_HIGH_V
  ⟨0x24, 1, .u16, (some .eng), 200, .any, .config, true⟩,  -- INSERT_DELAY_MS
  ⟨0x25, 1, .u32, (some .eng), 0, .any, .config, true⟩,  -- SHUNT_UOHM
  ⟨0x26, 1, .u16, (some .eng), 20, .any, .config, true⟩,  -- PRESENT_V
  ⟨0x27, 1, .u16, (some .eng), 50, .any, .config, true⟩,  -- PRESENT_MA
  ⟨0x28, 1, .u16, (some .eng), 3000, .nonzero, .config, true⟩,  -- GATE_MIN_MV
  ⟨0x29, 1, .u16, (some .eng), 9000, .nonzero, .config, true⟩,  -- GATE_ON_MV
  ⟨0x2A, 1, .u16, (some .eng), 2000, .nonzero, .config, true⟩,  -- I_INRUSH_MA
  ⟨0x2B, 1, .u16, (some .eng), 64, .nonzero, .config, true⟩,  -- INRUSH_GAIN
  ⟨0x2C, 1, .u16, (some .eng), 100, .any, .config, true⟩,  -- INRUSH_MAX_MS
  ⟨0x2D, 1, .u32, (some .eng), 8000, .nonzero, .config, true⟩,  -- SLOW_LEVEL_MA
  ⟨0x2E, 1, .u32, (some .eng), 400, .any, .config, true⟩,  -- SLOW_Q_MAS
  ⟨0x2F, 1, .u32, (some .eng), 500, .any, .config, true⟩,  -- LET_THROUGH
  ⟨0x30, 1, .u32, (some .eng), 30000, .nonzero, .config, true⟩,  -- FAST_LEVEL_MA
  ⟨0x31, 1, .u8, (some .eng), 3, .range 0 15, .config, true⟩,  -- RETRY_COUNT
  ⟨0x32, 1, .u16, (some .eng), 10, .any, .config, true⟩,  -- RETRY_DELAY_S
  ⟨0x33, 1, .u8, (some .eng), 255, .rangeOr 1 10 255, .config, true⟩,  -- SLOT_PORT
  ⟨0x34, 1, .u8, (some .eng), 0, .range 0 127, .config, true⟩,  -- SLOT_ADDR
  ⟨0x35, 1, .u8, (some .eng), 0, .range 0 48, .config, false⟩,  -- SLOT_NUMBER
  ⟨0x36, 1, .u8, none, 1, .any, .status, false⟩,  -- FEED_STATE
  ⟨0x37, 1, .u8, none, 0, .any, .status, false⟩,  -- TRIP_CAUSE
  ⟨0x38, 1, .bool, (some .slt), 0, .any, .command, false⟩,  -- CLEAR
  ⟨0x39, 1, .u32, none, 0, .any, .status, false⟩,  -- RETRY_REMAIN_MS
  ⟨0x3A, 1, .u8, none, 3, .any, .status, false⟩,  -- RETRY_LEFT
  ⟨0x3B, 1, .i32, none, 0, .any, .status, false⟩,  -- I_SLOT_MA
  ⟨0x3C, 1, .u32, none, 0, .any, .status, false⟩,  -- V_SLOT_MV
  ⟨0x3D, 1, .u16, none, 0, .any, .status, false⟩,  -- SOA_USED
  ⟨0x3E, 1, .u32, none, 0, .any, .status, false⟩,  -- TRIP_COUNT
  ⟨0x3F, 1, .u32, none, 0, .any, .status, false⟩,  -- INRUSH_TIME_US
  ⟨0x40, 1, .bool, (some .eng), 0, .any, .config, false⟩,  -- OR_ENABLE
  ⟨0x41, 1, .u8, (some .eng), 0, .range 0 1, .config, false⟩,  -- OR_KIND
  ⟨0x42, 1, .u32, (some .eng), 20000, .nonzero, .config, true⟩,  -- FWD_UV
  ⟨0x43, 1, .u32, (some .eng), 40000, .nonzero, .config, true⟩,  -- FWD_ON_UV
  ⟨0x44, 1, .u32, (some .eng), 5000, .any, .config, false⟩,  -- REV_UV
  ⟨0x45, 1, .u16, (some .eng), 256, .nonzero, .config, false⟩,  -- OR_GAIN
  ⟨0x46, 1, .u16, (some .eng), 50, .any, .config, false⟩,  -- REARM_US
  ⟨0x47, 1, .u32, (some .eng), 0, .any, .config, false⟩,  -- RDSON_UOHM
  ⟨0x48, 1, .u16, (some .eng), 39, .any, .config, true⟩,  -- EXT_MIN_V
  ⟨0x49, 1, .u16, (some .eng), 60, .nonzero, .config, true⟩,  -- EXT_MAX_V
  ⟨0x4A, 1, .u8, none, 1, .any, .status, false⟩,  -- OR_STATE
  ⟨0x4B, 1, .u32, none, 0, .any, .status, false⟩,  -- REV_COUNT
  ⟨0x4C, 1, .bool, (some .opr), 0, .any, .command, false⟩,  -- OR_CLEAR
  ⟨0x4D, 1, .i32, none, 0, .any, .status, false⟩,  -- I_OR_MA
  ⟨0x4E, 1, .u32, none, 0, .any, .status, false⟩,  -- V_IN_MV
  ⟨0x4F, 1, .u32, none, 0, .any, .status, false⟩,  -- V_OUT_MV
  ⟨0x50, 1, .u8, (some .eng), 0, .range 0 127, .config, false⟩,  -- REG_ADDR_FIRST
  ⟨0x51, 1, .u8, (some .eng), 0, .range 0 16, .config, false⟩]  -- REG_COUNT

/-- 0x3100 to 0x310F. -/
def e3100 : List Entry := [
  ⟨0x1, 1, .u64, (some .eng), 0, .any, .config, false⟩,  -- MEMBERS
  ⟨0x2, 1, .bool, (some .eng), 0, .any, .config, false⟩,  -- ENABLE
  ⟨0x3, 1, .u8, none, 1, .any, .status, false⟩,  -- LOOP_STATE
  ⟨0x4, 1, .u8, (some .eng), 1, .range 1 3, .config, false⟩,  -- CONTROL_MODE
  ⟨0x5, 1, .u32, (some .eng), 20480, .period 10240 1024000, .config, true⟩,  -- PERIOD_STEPS
  ⟨0x6, 1, .u32, (some .eng), 0, .any, .config, true⟩,  -- PERIOD_MIN_STEPS
  ⟨0x7, 1, .u8, (some .eng), 0, .range 0 2, .config, false⟩,  -- INTERLEAVE
  ⟨0x8, 1, .u32, (some .eng), 0, .any, .config, false⟩,  -- VREF_MV
  ⟨0x9, 1, .u32, (some .eng), 1000, .nonzero, .config, false⟩,  -- VS_RATIO
  ⟨0xA, 1, .u8, (some .eng), 0, .range 0 3, .command, false⟩,  -- ACTIVE_SET
  ⟨0xB, 1, .u8, none, 0, .any, .status, false⟩,  -- SET_IN_FORCE
  ⟨0xC, 1, .bool, (some .eng), 1, .any, .config, false⟩,  -- PROFILE_LINK
  ⟨0xD, 1, .bool, (some .eng), 0, .any, .config, false⟩,  -- SAFE_LOCK
  ⟨0xE, 1, .u16, (some .eng), 0, .any, .config, true⟩,  -- DUTY_MIN
  ⟨0xF, 1, .u16, (some .eng), 58982, .any, .config, true⟩,  -- DUTY_MAX
  ⟨0x10, 1, .u16, none, 0, .any, .status, false⟩,  -- COMPUTE_LAT
  ⟨0x11, 1, .u32, none, 0, .any, .status, false⟩,  -- OVERRUN_COUNT
  ⟨0x12, 1, .u8, (some .eng), 1, .range 0 2, .config, false⟩,  -- FL_ACTION
  ⟨0x13, 1, .u16, (some .eng), 66, .any, .config, false⟩,  -- FL_HYST
  ⟨0x14, 1, .u16, (some .eng), 328, .any, .config, false⟩,  -- FL_AMP_MIN
  ⟨0x15, 1, .u8, (some .eng), 6, .range 0 63, .config, false⟩,  -- FL_ALT_MIN
  ⟨0x16, 1, .u8, (some .eng), 128, .any, .config, false⟩,  -- FL_DECAY
  ⟨0x17, 1, .u32, none, 0, .any, .status, false⟩,  -- FL_COUNT
  ⟨0x18, 1, .u8, none, 0, .any, .status, false⟩,  -- STOP_CAUSE
  ⟨0x19, 1, .u16, (some .eng), 0, .any, .config, true⟩,  -- START_WIN_LO
  ⟨0x1A, 1, .u16, (some .eng), 0, .any, .config, true⟩,  -- START_WIN_HI
  ⟨0x1B, 1, .u16, (some .eng), 1000, .any, .config, false⟩,  -- START_QUAL_MS
  ⟨0x20, 6, .u16, (some .eng), 1024, .any, .config, false⟩,  -- DT_RISE_B0–B5
  ⟨0x26, 6, .u16, (some .eng), 1024, .any, .config, false⟩,  -- DT_FALL_B0–B5
  ⟨0x30, 48, .u32, (some .eng), 0, .any, .config, false⟩,  -- PHASE_OFFSET
  ⟨0x60, 1, .u16, (some .eng), 0, .any, .config, false⟩,  -- PHASE_POWER_W
  ⟨0x61, 1, .u32, (some .eng), 0, .any, .config, false⟩,  -- I_FS_MA
  ⟨0x62, 1, .i32, (some .eng), 20972, .range (-8388608) 8388607, .config, false⟩,  -- SHARE_GAIN
  ⟨0x63, 1, .u16, (some .eng), 3277, .any, .config, false⟩,  -- SHARE_LIM
  ⟨0x64, 1, .u8, (some .eng), 1, .nonzero, .config, false⟩,  -- PHASES_MIN
  ⟨0x65, 1, .u16, (some .eng), 10, .any, .config, false⟩,  -- SHED_DWELL
  ⟨0x66, 1, .u16, (some .eng), 32768, .any, .config, false⟩,  -- PHASE_DEV
  ⟨0x67, 1, .u16, (some .eng), 4, .any, .config, false⟩,  -- RIPPLE_MIN
  ⟨0x68, 1, .u8, (some .eng), 4, .any, .config, false⟩,  -- BURST_PERIODS
  ⟨0x69, 1, .u16, (some .eng), 15, .any, .config, false⟩,  -- BURST_WAKE
  ⟨0x6A, 1, .u16, (some .eng), 5, .any, .config, false⟩,  -- BURST_DWELL
  ⟨0x6B, 1, .u16, (some .eng), 20, .any, .config, false⟩,  -- BRAKE_ENTRY
  ⟨0x6C, 1, .u8, (some .eng), 8, .range 0 8, .config, false⟩,  -- BRAKE_MAX
  ⟨0x6D, 1, .u32, (some .eng), 10000, .range 100 1000000, .config, false⟩,  -- SS_TIME
  ⟨0x6E, 1, .u8, (some .eng), 3, .range 0 15, .config, false⟩,  -- HICCUP_COUNT
  ⟨0x6F, 1, .u16, (some .eng), 500, .any, .config, false⟩,  -- HICCUP_DELAY
  ⟨0x70, 1, .bool, none, 0, .any, .status, false⟩,  -- PG
  ⟨0x71, 1, .u16, (some .eng), 50, .any, .config, false⟩,  -- PG_WINDOW
  ⟨0x72, 1, .bool, (some .eng), 0, .any, .config, false⟩,  -- SYNC_ENABLE
  ⟨0x73, 1, .u8, (some .eng), 1, .range 1 16, .config, false⟩,  -- SYNC_DIV
  ⟨0x74, 1, .u32, (some .eng), 0, .any, .config, false⟩,  -- SYNC_PHASE
  ⟨0x75, 1, .u32, (some .eng), 0, .range 0 1024000, .config, true⟩,  -- PERIOD_MAX_STEPS
  ⟨0x76, 1, .u8, none, 1, .any, .status, false⟩,  -- SYNC_STATE
  ⟨0x77, 1, .u32, none, 20480, .any, .status, false⟩,  -- PERIOD_IN_FORCE
  ⟨0x78, 1, .u32, none, 0, .any, .status, false⟩,  -- CAPACITY_W
  ⟨0x79, 1, .u64, none, 0, .any, .status, false⟩,  -- PHASES_SHED
  ⟨0x7A, 1, .u64, none, 0, .any, .status, false⟩,  -- PHASES_DROPPED
  ⟨0x7B, 1, .u8, none, 1, .any, .status, false⟩,  -- STAGE_STATE
  ⟨0x7C, 1, .u8, none, 3, .any, .status, false⟩,  -- HICCUP_LEFT
  ⟨0x7D, 1, .u16, (some .eng), 2621, .any, .config, false⟩,  -- LOSS_A1
  ⟨0x7E, 1, .u32, (some .eng), 10000, .nonzero, .config, false⟩,  -- LOSS_A2
  ⟨0x7F, 1, .u16, (some .opr), 0, .any, .config, false⟩]  -- PRICE

/-- 0x3200 to 0x3217. -/
def e3200n24 : List Entry := [
  ⟨0x2, 1, .bool, (some .eng), 0, .any, .config, false⟩,  -- ENABLE
  ⟨0x3, 1, .u8, none, 1, .any, .status, false⟩,  -- GROUP_STATE
  ⟨0x4, 1, .u8, none, 0, .any, .status, false⟩,  -- STOP_CAUSE
  ⟨0x5, 1, .u16, (some .eng), 0, .any, .config, false⟩,  -- I_LIMIT_MA
  ⟨0x6, 1, .u16, (some .eng), 0, .any, .config, false⟩,  -- V_END_MIN_V
  ⟨0x7, 1, .u32, (some .eng), 0, .any, .config, false⟩,  -- LINE_C_NF
  ⟨0x8, 1, .u16, (some .eng), 100, .any, .config, false⟩,  -- E_MAX_MJ
  ⟨0x9, 1, .u16, (some .eng), 60, .any, .config, true⟩,  -- SIG_CEIL_V
  ⟨0xA, 1, .u16, (some .eng), 200, .nonzero, .config, true⟩,  -- QUAL_ON_V
  ⟨0xB, 1, .u16, (some .eng), 150, .nonzero, .config, true⟩,  -- QUAL_OFF_V
  ⟨0xC, 1, .u16, (some .eng), 500, .any, .config, false⟩,  -- QUAL_TIME_MS
  ⟨0xD, 1, .u16, (some .eng), 50, .any, .config, false⟩,  -- QUAL_BAND
  ⟨0xE, 1, .u8, (some .eng), 255, .rangeOr 0 7 255, .config, false⟩,  -- LEAK_INPUT
  ⟨0xF, 1, .u16, (some .eng), 60, .nonzero, .config, true⟩,  -- DISCH_SAFE_V
  ⟨0x10, 1, .u16, (some .eng), 250, .range 10 10000, .config, false⟩,  -- DISCH_TIME_MS
  ⟨0x11, 1, .u32, (some .eng), 0, .any, .config, false⟩,  -- I_FS_UA
  ⟨0x12, 1, .u16, (some .eng), 0, .any, .config, false⟩,  -- V_FS_V
  ⟨0x13, 1, .u16, (some .eng), 61604, .nonzero, .config, false⟩,  -- ETA
  ⟨0x14, 1, .u16, (some .eng), 1500, .any, .config, false⟩,  -- P_NOLOAD_MW
  ⟨0x15, 1, .u16, (some .opr), 0, .any, .config, false⟩,  -- PRICE
  ⟨0x16, 1, .u8, (some .eng), 3, .range 0 15, .config, false⟩,  -- RETRY_COUNT
  ⟨0x17, 1, .u16, (some .eng), 60, .any, .config, false⟩,  -- RETRY_DELAY_S
  ⟨0x18, 1, .u32, (some .eng), 0, .any, .config, false⟩,  -- RLOOP_NOM_MOHM
  ⟨0x19, 1, .bool, (some .eng), 1, .any, .config, false⟩,  -- ID_ENABLE
  ⟨0x1A, 1, .bool, (some .opr), 0, .any, .command, false⟩,  -- CLEAR
  ⟨0x20, 1, .u32, none, 0, .any, .status, false⟩,  -- V_LINE_MV
  ⟨0x21, 1, .i32, none, 0, .any, .status, false⟩,  -- I_LINE_UA
  ⟨0x22, 1, .i32, none, 0, .any, .status, false⟩,  -- P_BUS_MW
  ⟨0x23, 1, .u32, none, 0, .any, .status, false⟩,  -- RLOOP_MOHM
  ⟨0x24, 1, .u32, none, 0, .any, .status, false⟩,  -- VS_MV
  ⟨0x25, 1, .bool, none, 0, .any, .status, false⟩,  -- EXCH_LIMIT
  ⟨0x26, 1, .u32, none, 0, .any, .status, false⟩,  -- CEILING_UA
  ⟨0x27, 1, .u32, none, 0, .any, .status, false⟩,  -- TARGET_UA
  ⟨0x28, 1, .u32, none, 0, .any, .status, false⟩,  -- ENERGY_UJ
  ⟨0x29, 1, .u8, none, 3, .any, .status, false⟩]  -- RETRY_LEFT

/-- 0x3300 to 0x3303. -/
def e3300 : List Entry := [
  ⟨0x1, 1, .bool, (some .eng), 0, .any, .config, false⟩,  -- STRING_ENABLE
  ⟨0x2, 1, .u8, none, 1, .any, .status, false⟩,  -- STRING_STATE
  ⟨0x3, 1, .u8, (some .eng), 0, .range 0 24, .config, false⟩,  -- CELLS_SERIES
  ⟨0x4, 1, .u16, (some .eng), 0, .any, .config, false⟩,  -- RATED_DAH
  ⟨0x5, 1, .u32, (some .eng), 0, .any, .config, false⟩,  -- BSV_RATIO
  ⟨0x6, 1, .u8, (some .eng), 255, .rangeOr 0 15 255, .config, false⟩,  -- TH_INPUT
  ⟨0x7, 1, .u8, (some .eng), 0, .range 0 2, .config, false⟩,  -- PACK_IF
  ⟨0x8, 1, .u8, (some .eng), 0, .range 0 127, .config, false⟩,  -- PACK_ADDR
  ⟨0x9, 1, .u8, (some .eng), 1, .range 0 2, .config, false⟩,  -- AUTH_POLICY
  ⟨0xA, 1, .u8, (some .eng), 0, .range 0 0xF, .config, false⟩,  -- KEY_SLOT
  ⟨0xB, 1, .u32, (some .eng), 0, .any, .config, true⟩,  -- LVD_MV
  ⟨0xC, 1, .u16, (some .eng), 5000, .any, .config, false⟩,  -- LVD_DELAY_MS
  ⟨0xD, 1, .u32, (some .eng), 0, .any, .config, true⟩,  -- RECONNECT_MV
  ⟨0xE, 1, .u16, (some .eng), 500, .any, .config, false⟩,  -- RECON_DELTA_MV
  ⟨0xF, 1, .bool, (some .eng), 1, .any, .config, false⟩,  -- DEAD_BUS_CLOSE
  ⟨0x10, 1, .u16, (some .eng), 0, .any, .config, true⟩,  -- BLOCK_MIN_MV
  ⟨0x11, 1, .u16, (some .eng), 0, .any, .config, true⟩,  -- BLOCK_MAX_MV
  ⟨0x12, 1, .u16, (some .eng), 0, .any, .config, false⟩,  -- DIS_MAX_DA
  ⟨0x13, 1, .bool, (some .eng), 0, .any, .config, false⟩,  -- HISTORY_SOURCE
  ⟨0x14, 1, .u16, (some .eng), 2, .any, .config, true⟩,  -- RESID_NOISE
  ⟨0x15, 1, .u16, (some .eng), 3, .any, .config, true⟩,  -- RESID_BIAS
  ⟨0x16, 1, .u16, (some .eng), 16, .any, .config, true⟩,  -- BSV_ERR_MV
  ⟨0x17, 1, .u16, (some .eng), 1000, .any, .config, true⟩,  -- OCV_ERR_UV
  ⟨0x18, 1, .u8, (some .eng), 20, .any, .config, true⟩,  -- LB_SIGMAS
  ⟨0x19, 1, .u16, (some .eng), 400, .any, .config, true⟩,  -- SIGMA_TRIGGER
  ⟨0x1A, 1, .u16, (some .eng), 30, .nonzero, .config, true⟩,  -- REST_TIME_MIN
  ⟨0x1B, 1, .u16, (some .eng), 45, .any, .config, true⟩,  -- REST_WINDOW_MIN
  ⟨0x1C, 1, .u16, (some .eng), 24, .any, .config, true⟩,  -- REST_GAP_H
  ⟨0x1D, 1, .u16, (some .eng), 20, .any, .config, true⟩,  -- TAPER_MC
  ⟨0x1E, 1, .u16, (some .eng), 120, .any, .config, true⟩,  -- ABSORB_MAX_MIN
  ⟨0x1F, 1, .u16, (some .eng), 9000, .any, .config, true⟩,  -- RECHARGE_SOC
  ⟨0x20, 1, .u16, (some .eng), 100, .any, .config, true⟩,  -- FULL_SIGMA
  ⟨0x21, 1, .u16, (some .eng), 60, .any, .config, true⟩,  -- WRITEBACK_MIN
  ⟨0x22, 1, .u16, (some .eng), 2, .nonzero, .config, true⟩,  -- CHG_SLEW_MV
  ⟨0x23, 1, .u16, (some .eng), 3000, .any, .config, true⟩,  -- LEARN_MIN_DELTA
  ⟨0x30, 1, .u16, none, 0, .any, .status, false⟩,  -- SOC
  ⟨0x31, 1, .u16, none, 0, .any, .status, false⟩,  -- SOC_SIGMA
  ⟨0x32, 1, .u16, none, 0, .any, .status, false⟩,  -- SOC_LB
  ⟨0x33, 1, .u32, none, 0, .any, .status, false⟩,  -- E_LB_WH
  ⟨0x34, 1, .u32, none, 0, .any, .status, false⟩,  -- P_DIS_LIM_W
  ⟨0x35, 1, .i32, none, 0, .any, .status, false⟩,  -- I_EST_MA
  ⟨0x36, 1, .u32, none, 0, .any, .status, false⟩,  -- V_STRING_MV
  ⟨0x37, 1, .u32, none, 0, .any, .status, false⟩,  -- CAPACITY_CAH
  ⟨0x38, 1, .u32, none, 0, .any, .status, false⟩,  -- CYCLES_C
  ⟨0x39, 1, .u32, none, 0, .any, .status, false⟩,  -- REST_S
  ⟨0x3A, 1, .u32, none, 0, .any, .status, false⟩,  -- ANCHOR_AGE_S
  ⟨0x3B, 1, .u8, none, 0, .any, .status, false⟩,  -- CHARGE_STAGE
  ⟨0x3C, 1, .dom, none, 0, .any, .status, false⟩,  -- PACK_ID
  ⟨0x3D, 1, .u8, none, 0, .any, .status, false⟩,  -- AUTH_RESULT
  ⟨0x3E, 1, .u8, none, 0, .any, .status, false⟩,  -- DISCONNECT_CAUSE
  ⟨0x3F, 1, .u16, none, 0, .any, .status, false⟩,  -- BLOCK_V_MIN_MV
  ⟨0x40, 1, .u16, none, 0, .any, .status, false⟩,  -- BLOCK_V_MAX_MV
  ⟨0x41, 1, .bool, (some .opr), 0, .any, .command, false⟩,  -- CLEAR
  ⟨0x50, 6, .u32, (some .eng), 0, .any, .config, true⟩,  -- FLOAT_UV_B0–B5
  ⟨0x56, 6, .u32, (some .eng), 0, .any, .config, true⟩,  -- CHARGE_UV_B0–B5
  ⟨0x5C, 6, .u16, (some .eng), 0, .any, .config, true⟩]  -- CHG_MC_B0–B5

/-- 0x3400 to 0x34FF. -/
def e3400 : List Entry := [
  ⟨0x1, 1, .u8, none, 0, .any, .status, false⟩,  -- REG_STATE
  ⟨0x2, 1, .u8, none, 0, .any, .status, false⟩,  -- REG_PORT
  ⟨0x3, 1, .u8, none, 0, .any, .status, false⟩,  -- REG_ADDR
  ⟨0x4, 1, .u8, none, 0, .any, .status, false⟩,  -- REG_SLOT
  ⟨0x5, 1, .u16, none, 0, .any, .status, false⟩,  -- STATUS_WORD
  ⟨0x6, 3, .i32, none, 0, .any, .status, false⟩,  -- VOUT_MV, IOUT_MA, VIN_MV
  ⟨0x9, 1, .i16, none, 0, .any, .status, false⟩,  -- TEMP_DC
  ⟨0xA, 1, .i32, none, 0, .any, .status, false⟩,  -- POUT_MW
  ⟨0xB, 1, .dom, none, 0, .any, .status, false⟩,  -- MFR_ID
  ⟨0xC, 1, .u32, none, 0, .any, .status, false⟩]  -- POLL_FAILS

/-- 0x4100 to 0x412F. -/
def e4100 : List Entry := [
  ⟨0x1, 1, .u32, (some .eng), 0, .flags, .word, true⟩,  -- FLAGS
  ⟨0x2, 4, .i32, (some .eng), 0, .range (-8388608) 8388607, .word, true⟩,  -- KP,KI,KD,KDF
  ⟨0x6, 1, .i8, (some .eng), 0, .range (-8) 7, .word, true⟩,  -- PID_SHIFT
  ⟨0x7, 2, .i32, (some .eng), 0, .range (-8388608) 8388607, .word, true⟩,  -- IMAX,IMIN
  ⟨0x9, 5, .i32, (some .eng), 0, .range (-8388608) 8388607, .word, true⟩,  -- BQ1
  ⟨0xE, 1, .i8, (some .eng), 0, .range (-8) 7, .word, true⟩,  -- BQ1_SHIFT
  ⟨0xF, 5, .i32, (some .eng), 0, .range (-8388608) 8388607, .word, true⟩,  -- BQ2
  ⟨0x14, 1, .i8, (some .eng), 0, .range (-8) 7, .word, true⟩,  -- BQ2_SHIFT
  ⟨0x15, 2, .i32, (some .eng), 0, .range (-8388608) 8388607, .word, true⟩,  -- KFF,VIN_NOM
  ⟨0x17, 2, .i32, (some .eng), 0, .range (-8388608) 8388607, .word, true⟩,  -- KPI,KII
  ⟨0x19, 1, .i8, (some .eng), 0, .range (-8) 7, .word, true⟩,  -- INNER_SHIFT
  ⟨0x1A, 2, .i32, (some .eng), 0, .range (-8388608) 8388607, .word, true⟩]  -- XMAX,XMIN

/-- 0x4200 to 0x422F. -/
def e4200 : List Entry := [
  ⟨0x1, 1, .u8, (some .eng), 0, .range 0 8, .config, true⟩,  -- POINT_COUNT
  ⟨0x2, 8, .u32, (some .eng), 0, .any, .config, true⟩,  -- T_US_1–8
  ⟨0xA, 8, .u32, (some .eng), 0, .any, .config, true⟩]  -- E_UJ_1–8

/-- 0x4300 to 0x4303. -/
def e4300 : List Entry := [
  ⟨0x1, 192, .u16, (some .eng), 0, .any, .config, true⟩]  -- OCV_b_j

/-- 0x4310 to 0x4313. -/
def e4310 : List Entry := [
  ⟨0x1, 48, .u32, (some .eng), 0, .any, .config, true⟩,  -- RS_BASE
  ⟨0x31, 48, .u32, (some .eng), 0, .any, .config, true⟩,  -- RA_BASE
  ⟨0x61, 48, .u32, (some .eng), 0, .any, .config, true⟩,  -- TAUA_MS
  ⟨0x91, 48, .u32, (some .eng), 0, .any, .config, true⟩,  -- RB_BASE
  ⟨0xC1, 48, .u32, (some .eng), 0, .any, .config, true⟩]  -- TAUB_MS

/-- 0x4320 to 0x4323. -/
def e4320 : List Entry := [
  ⟨0x1, 1, .dom, none, 0, .any, .status, false⟩,  -- RECORD
  ⟨0x2, 1, .bool, (some .eng), 0, .any, .command, false⟩]  -- RECORD_RESET

/-- 0x4400 to 0x442F. -/
def e4400 : List Entry := [
  ⟨0x1, 1, .dom, (some .eng), 0, .any, .command, false⟩]  -- CAL_RECORD

/-- Every index range with its entries (Table 14-1). -/
def entryMap : List (Nat × Nat × List Entry) := [
  (0x1000, 1, e1000),
  (0x1001, 1, e1001),
  (0x1005, 1, e1005),
  (0x1008, 1, e1008),
  (0x1009, 1, e1009),
  (0x100A, 1, e100A),
  (0x1010, 1, e1010),
  (0x1011, 1, e1011),
  (0x1012, 1, e1012),
  (0x1015, 1, e1015),
  (0x1016, 1, e1016),
  (0x1017, 1, e1017),
  (0x1018, 1, e1018),
  (0x1200, 8, e1200),
  (0x1400, 16, e1400),
  (0x1600, 16, e1600),
  (0x1800, 32, e1800),
  (0x1A00, 32, e1A00),
  (0x2000, 1, e2000),
  (0x2001, 1, e2001),
  (0x2002, 1, e2002),
  (0x2003, 1, e2003),
  (0x2004, 1, e2004),
  (0x2005, 1, e2005),
  (0x2006, 1, e2006),
  (0x2007, 1, e2007),
  (0x2008, 1, e2008),
  (0x2009, 1, e2009),
  (0x2100, 1, e2100),
  (0x2101, 1, e2101),
  (0x2102, 1, e2102),
  (0x2103, 1, e2103),
  (0x2104, 1, e2104),
  (0x2106, 1, e2106),
  (0x2107, 1, e2107),
  (0x2108, 1, e2108),
  (0x2120, 16, e2120),
  (0x2140, 32, e2140),
  (0x2200, 1, e2200),
  (0x2201, 1, e2201),
  (0x2202, 1, e2202),
  (0x2220, 1, e2220),
  (0x2230, 1, e2230),
  (0x2231, 1, e2231),
  (0x2232, 1, e2232),
  (0x2233, 1, e2233),
  (0x2234, 1, e2234),
  (0x2240, 64, e2240),
  (0x2280, 64, e2280),
  (0x2300, 1, e2300),
  (0x2301, 1, e2301),
  (0x2310, 32, e2310),
  (0x2400, 1, e2400),
  (0x2402, 1, e2402),
  (0x2403, 1, e2403),
  (0x2410, 16, e2410n16),
  (0x2410, 22, e2410n22),
  (0x2420, 6, e2420),
  (0x2500, 1, e2500),
  (0x2501, 2, e2501),
  (0x2600, 1, e2600),
  (0x2601, 1, e2601),
  (0x2602, 1, e2602),
  (0x2603, 1, e2603),
  (0x2606, 1, e2606),
  (0x2610, 4, e2610),
  (0x2700, 1, e2700),
  (0x2710, 1, e2710),
  (0x2711, 1, e2711),
  (0x2800, 12, e2800),
  (0x3000, 48, e3000),
  (0x3100, 16, e3100),
  (0x3200, 24, e3200n24),
  (0x3300, 4, e3300),
  (0x3400, 256, e3400),
  (0x4100, 48, e4100),
  (0x4200, 48, e4200),
  (0x4300, 4, e4300),
  (0x4310, 4, e4310),
  (0x4320, 4, e4320),
  (0x4400, 48, e4400)]

/-- Bytes of a type; none for strings and DOMAINs. -/
def Ty.size : Ty → Option Nat
  | .bool | .u8 | .i8 => some 1
  | .u16 | .i16 => some 2
  | .u32 | .i32 => some 4
  | .u64 | .i64 => some 8
  | .str | .dom => none

/-- A value of a type from its bytes (R291). -/
def Ty.decode (t : Ty) (b : Bytes) : Int :=
  match t with
  | .i8 | .i16 | .i32 | .i64 => unleI b
  | _ => unle b

/-- Bytes of a value of a fixed-size type. -/
def Ty.encode (t : Ty) (v : Int) : Bytes :=
  match t.size with
  | some n => leI n v
  | none => []

/-- Subindex 00 of an ARRAY or RECORD: the highest subindex (R290). -/
def highest (index : Nat) : Nat :=
  entryMap.foldl (fun m r => if r.1 ≤ index ∧ index < r.1 + r.2.1 then
    r.2.2.foldl (fun m e => max m (e.sub + e.count - 1)) m else m) 0

/-- The entry at an index and subindex, if the release defines it (R6, R288, R290). -/
def entryOf (index sub : Nat) : Option Entry :=
  if 0x3200 ≤ index ∧ index < 0x3218 ∧ sub = 1 then
    some ⟨1, 1, .u8, some .eng, (index : Int) - 0x3200, .range 0 47, .config, false⟩
  else
    match entryMap.findSome? (fun r => if r.1 ≤ index ∧ index < r.1 + r.2.1 then
        r.2.2.find? (fun e => e.sub ≤ sub ∧ sub < e.sub + e.count) else none) with
    | some e => some e
    | none => if sub = 0 ∧ 0 < highest index then some ⟨0, 1, .u8, none, highest index, .any, .status, false⟩ else none

/-- Key of an entry in the dictionary stores. -/
def keyOf (index sub : Nat) : Nat := index * 256 + sub

/-- Value under a key. -/
def Dict.get (d : Dict) (k : Nat) : Option Int :=
  match d with
  | [] => none
  | (k', v) :: r => if k' = k then some v else Dict.get r k

/-- Put a value under a key; keys stay strictly rising. -/
def Dict.put (d : Dict) (k : Nat) (v : Int) : Dict :=
  match d with
  | [] => [(k, v)]
  | (k', v') :: r =>
    if k < k' then (k, v) :: (k', v') :: r else if k = k' then (k, v) :: r else (k', v') :: Dict.put r k v

/-- Remove a key. -/
def Dict.del (d : Dict) (k : Nat) : Dict := d.filter (fun p => p.1 ≠ k)

/-- Canonical form: keys strictly rising. -/
abbrev Dict.wf (d : Dict) : Prop := (d.map (·.1)).Pairwise (· < ·)

/-- Default of an entry. -/
def dfltOf (index sub : Nat) : Int :=
  match entryOf index sub with
  | some e => e.dflt
  | none => 0

/-- Value in a sparse store: the default where the store lists nothing. -/
def Dict.value (d : Dict) (index sub : Nat) : Int := (Dict.get d (keyOf index sub)).getD (dfltOf index sub)

/-- Store a value; the default is not listed. -/
def Dict.store (d : Dict) (index sub : Nat) (v : Int) : Dict :=
  if v = dfltOf index sub then Dict.del d (keyOf index sub) else Dict.put d (keyOf index sub) v

/-- Written value of an entry (R295). -/
def State.writ (s : State) (index sub : Nat) : Int := Dict.value s.dict.written index sub

/-- Value in force of an entry: its own where it is held apart from the written one. -/
def State.cfg (s : State) (index sub : Nat) : Int :=
  match entryOf index sub with
  | some e => if e.late then Dict.value s.dict.force index sub else Dict.value s.dict.written index sub
  | none => 0

/-- `cfg` of an unsigned entry. -/
def State.cfgN (s : State) (index sub : Nat) : Nat := (s.cfg index sub).toNat

/-- `cfg` of a BOOLEAN entry. -/
def State.cfgB (s : State) (index sub : Nat) : Bool := s.cfg index sub ≠ 0

/-- Replace the written value. -/
def State.setWritten (s : State) (index sub : Nat) (v : Int) : State :=
  s.modDict fun d => { d with written := Dict.store d.written index sub v }

/-- Replace the value in force of an entry that has one apart. -/
def State.setForce (s : State) (index sub : Nat) (v : Int) : State :=
  s.modDict fun d => { d with force := Dict.store d.force index sub v }

/-- The written value comes into force. -/
def State.adopt (s : State) (index sub : Nat) : State := s.setForce index sub (s.writ index sub)

/-- The written values of subindices come into force. -/
def State.adoptAll (s : State) (index : Nat) (subs : List Nat) : State :=
  s.over subs (fun x t => t.adopt index x)

/-- Entries of cell `c`, loop `k`, group `g`, string `n`, rail `r`, thermal input `i` and sink `x`, in force. -/
def State.cell (s : State) (c : CellNo) (sub : Nat) : Nat := s.cfgN (0x3000 + c) sub
/-- Entry of loop `k` in force. -/
def State.loop (s : State) (k : LoopNo) (sub : Nat) : Nat := s.cfgN (0x3100 + k) sub
/-- Entry of line group `g` in force. -/
def State.group (s : State) (g : GroupNo) (sub : Nat) : Nat := s.cfgN (0x3200 + g) sub
/-- Entry of string `n` in force. -/
def State.string (s : State) (n : StringNo) (sub : Nat) : Nat := s.cfgN (0x3300 + n) sub
/-- Entry of rail `r` in force. -/
def State.rail (s : State) (r : RailNo) (sub : Nat) : Nat := s.cfgN (0x2310 + r) sub
/-- Entry of thermal input `i` in force. -/
def State.therm (s : State) (i : InputNo) (sub : Nat) : Int := s.cfg (0x2410 + i) sub
/-- Entry of sink `x` in force. -/
def State.sink (s : State) (x : SinkNo) (sub : Nat) : Nat := s.cfgN (0x2240 + x) sub

/-- Loop `k` is enabled. -/
def State.enabled (s : State) (k : LoopNo) : Bool := s.loop k 2 = 1

/-- Cell `c` is a member of loop `k` by MEMBERS (3100+k:01). -/
def State.isMember (s : State) (k : LoopNo) (c : CellNo) : Bool := bit (s.loop k 1) c

end Sys2Proof.Machine
end

