-- ==== Sys2Proof/Machine/Flags.lean ====
section
/-! DEFINITION. Machine/Flags.lean: the conditions the chapters derive from State: error register (R278), FAULT_N (20),
start condition (R25), external source (R26), and the modes in which the shelf serves load. -/

namespace Sys2Proof.Machine

/-- A FEEDER or ORING cell is LATCHED (R278, bit 1). -/
def State.anyLatched (s : State) : Bool :=
  s.cells.toList.any fun x =>
    (x.role = .feeder && x.feeder.st = .latched) || (x.role = .oring && x.oring.st = .latched)

/-- An input is in THROTTLE (R278, bit 3). -/
def State.anyThrottle (s : State) : Bool := s.thermal.toList.any fun x => x.st = .throttle

/-- A port is error-passive or bus-off, or a heartbeat consumer has timed out (R278, bit 4). -/
def State.canTrouble (s : State) : Bool :=
  s.can.toList.any fun p => p.port = .passive || p.port = .busOff || p.lost ≠ []

/-- Bit 7 of the error register (R278). -/
def State.errBit7 (s : State) : Bool := s.modes.safe || s.lanes.pair = .simplex

/-- Error register 1001h (R278). -/
def State.errorRegister (s : State) : Nat :=
  let r := 2 * b2n s.anyLatched + 4 * b2n s.ledger.now.shortfall + 8 * b2n s.anyThrottle + 16 * b2n s.canTrouble
    + 128 * b2n s.errBit7
  if r = 0 then 0 else r + 1

/-- FAULT_N is high (spec/20): not in cold reset, not in recovery, and bit 7 of 1001h clear. -/
def State.faultN (s : State) : Bool :=
  decide (s.phase ≠ .held) && decide (s.phase ≠ .recovery) && !s.errBit7

/-- The present mode is one of `ms`. -/
def State.inModes (s : State) (ms : List Mode) : Bool :=
  match s.modes.mode with
  | some m => ms.contains m
  | none => false

/-- In DORMANT. -/
def State.dormant (s : State) : Bool := s.inModes [.dormant]

/-- Cell `c` is an external feed: ORING in force with OR_KIND 1 (R179). -/
def State.isExtFeed (s : State) (c : CellNo) : Bool := s.cells[c].role = .oring && s.cell c 0x41 = 1

/-- The input of cell `c` lies inside EXT_MIN_V to EXT_MAX_V (R25, R179). -/
def State.extInWindow (s : State) (c : CellNo) : Bool :=
  let v := s.cells[c].oring.inMv
  decide ((s.cell c 0x48 : Rat) * 1000 ≤ v) && decide (v ≤ (s.cell c 0x49 : Rat) * 1000)

/-- An external feed conducts (R179): REGULATING or FULL_ON with a positive tick-mean v_ds. -/
def State.conducting (s : State) (c : CellNo) : Bool :=
  let o := s.cells[c].oring
  (o.st = .regulating || o.st = .fullOn) && decide (0 < o.meanVds)

/-- Members of loop `k` with a role in force. -/
def State.members (s : State) (k : LoopNo) : List CellNo := pick 48 fun c => s.isMember k c

/-- A LINE loop: a loop with a member that is LINE in force. -/
def State.isLineLoop (s : State) (k : LoopNo) : Bool := (s.members k).any fun c => s.cells[c].role = .line

/-- A PHASE loop: a loop with a member that is PHASE in force. -/
def State.isPhaseLoop (s : State) (k : LoopNo) : Bool := (s.members k).any fun c => s.cells[c].role = .phase

/-- CONTROL_MODE codes (3100+k:04): 1 VOLT, 2 SOURCE, 3 CELL_TARGET. -/
def State.controlMode (s : State) (k : LoopNo) : Nat := s.loop k 4

/-- The loop that a cell is a member of. -/
def State.loopOf (s : State) (c : CellNo) : Option LoopNo := (pick 16 fun k => s.isMember k c).head?

/-- The line group whose cell is `c` (3200+g:01). -/
def State.groupOf (s : State) (c : CellNo) : Option GroupNo :=
  if s.cells[c].role = .line then (pick 24 fun g => decide (s.group g 1 = (c : Nat))).head? else none

/-- Cell of a line group (3200+g:01). -/
def State.groupCell (s : State) (g : GroupNo) : Option CellNo := toFin? 48 (s.group g 1)

/-- A group delivers: DELIVERING or IDENTIFYING (R26). -/
def Group.delivers (g : Group) : Bool := g.st = .delivering || g.st = .identifying

/-- Start condition (R25). A present string is above its reconnect voltage from RECONNECT_MV on (R205); with RECONNECT_MV 0 there is no
voltage to be above, and the string gives none, which the spec leaves open (log 134). -/
def State.startCondition (s : State) : Bool :=
  !s.modes.shutdownLatch &&
    (s.groups.toList.any (fun g => g.st = .qualified)
    || (pick 16 fun k => s.isPhaseLoop k && s.enabled k && s.loops[k].st ≠ .stoppedByCause && s.loops[k].startQualified) ≠ []
    || (pick 48 fun c => s.isExtFeed c && s.extInWindow c) ≠ []
    || (decide (s.cfg 0x2001 6 = 1)
        && (pick 4 fun n => s.strings[n].present && decide ((s.string n 0xD : Rat) ≤ s.strings[n].bsvMv)
              && s.string n 0xD ≠ 0) ≠ []))

/-- External source present (R26). -/
def State.externalSource (s : State) : Bool :=
  s.groups.toList.any Group.delivers
    || (pick 16 fun k => s.isPhaseLoop k && s.loops[k].st = .running) ≠ []
    || (pick 48 fun c => s.isExtFeed c && s.conducting c) ≠ []

/-- The profile in force is EFFICIENT in HOLDUP, and in LIFELINE with no external source (R33). -/
def State.profileNow (s : State) : Nat :=
  if s.inModes [.holdup] || (s.inModes [.lifeline] && !s.externalSource) then 1 else s.cfgN 0x2004 1

/-- Burst and phase shedding are disabled in RISING and SETTLING (Table 02-1). -/
def State.savingOff (s : State) : Bool := s.inModes [.rising, .settling]

/-- THX0 and THX1 drive the reference, but for cold reset, recovery and DORMANT, where they are low (R239, R240, Table 20-4). -/
def State.thx (s : State) : Bool := decide (s.phase = .booted ∨ s.phase = .running) && !s.inModes [.dormant]

/-- The loop runs or starts: it has boundaries. -/
def Loop.active (l : Loop) : Bool := l.st = .running || (l.st = .starting && l.stage ≠ .hiccupWait)

/-- SYNCOUT at a PWM step after the last boundary of the loop that SYNCOUT_SOURCE names (R111): high from the boundary to half the
period in force; low when that loop stands still. -/
def State.syncOut (s : State) (step : Nat) : Bool :=
  match toFin? 16 (s.cfgN 0x2008 1) with
  | some k =>
    let l := s.loops[k]
    l.active && l.gridOn && decide (l.boundaryAt ≤ step) && decide (2 * (step - l.boundaryAt) < l.periodInForce)
  | none => false

/-- A block other than a channel block is held in reset (R13), by its source code of Table 17-2. -/
def State.blockHeld (s : State) (src : Nat) : Bool := s.heldOther.contains (BitVec.ofNat 8 src)

/-- The active lane, or the loop memory that it computes from, is held in reset (R13). -/
def State.lanesHeld (s : State) : Bool := s.blockHeld (if s.lanes.token = some .b then 0x41 else 0x40) || s.blockHeld 0x47

/-- A lane computes and its output reaches the cells (R13, R16, R257): not in a switch-over gap, not in the safe state, and the
LOOP region's lanes not held in reset. -/
def State.lanesRun (s : State) : Bool :=
  match s.lanes.pair with
  | .paired | .simplex | .window | .syncing => !s.modes.safe && !s.lanesHeld
  | _ => false

/-- A switch-over gap: outputs are held (R92). -/
def State.inGap (s : State) : Bool := s.lanes.pair = .switching && !s.modes.safe

end Sys2Proof.Machine
end

