-- ==== Sys2Proof/Machine/Recorder.lean ====
section
/-! DEFINITION. Machine/Recorder.lean: event records, rate limits, folding, the ring, the queue of LOOP and the Peat log
(R345 to R355). `State.event` is the one way a record comes about. -/

namespace Sys2Proof.Machine

/-- INFO codes of Table 17-3a. -/
def infoCodes : List Nat :=
  [0x1021, 0x2020, 0x2021, 0x2024, 0x2025, 0x2029, 0x3005, 0x3020, 0x4001, 0x4002] ++
  [0x6020, 0x6021, 0x6030, 0x7023, 0x8007, 0x9002, 0x9006, 0x9009, 0xA024, 0xB005] ++
  [0xB010]

/-- NOTICE codes of Table 17-3a. -/
def noticeCodes : List Nat :=
  [0x1011, 0x2005, 0x2026, 0x3001, 0x3002, 0x3012, 0x4006, 0x4007, 0x4008, 0x4009] ++
  [0x4041, 0x4043, 0x5001, 0x5003, 0x5006, 0x5008, 0x500A, 0x6001, 0x6004, 0x6005] ++
  [0x6007, 0x6010, 0x6011, 0x6012, 0x6041, 0x7001, 0x7010, 0x7011, 0x7015, 0x7016] ++
  [0x7019, 0x7021, 0x7022, 0x8004, 0x8008, 0x8009, 0xA005, 0xA006, 0xA009, 0xA00A] ++
  [0xA010, 0xA011, 0xA021, 0xA029, 0xB031, 0xB032, 0xC001, 0xC010, 0xC011, 0xC020] ++
  [0xC021, 0xC022, 0xC030, 0xD002, 0xD011, 0xD020, 0xD021]

/-- WARNING codes of Table 17-3a. -/
def warningCodes : List Nat :=
  [0x1007, 0x1012, 0x1020, 0x2003, 0x2010, 0x2011, 0x2023, 0x2027, 0x2028, 0x202C] ++
  [0x3003, 0x3004, 0x3010, 0x3011, 0x3021, 0x3030, 0x3031, 0x5002, 0x5004, 0x5005] ++
  [0x5007, 0x5009, 0x500B, 0x6002, 0x6003, 0x6013, 0x6022, 0x6031, 0x6040, 0x7013] ++
  [0x7017, 0x7018, 0x8001, 0x8002, 0x8003, 0x8005, 0x8006, 0x9005, 0xA003, 0xA004] ++
  [0xA007, 0xA008, 0xA00B, 0xA022, 0xA023, 0xA025, 0xA026, 0xA027, 0xB001, 0xB011] ++
  [0xB012, 0xB013, 0xB030, 0xB033, 0xC002, 0xC012, 0xC024, 0xC031, 0xD004, 0xD005] ++
  [0xD010]

/-- FAULT codes of Table 17-3a. -/
def faultCodes : List Nat :=
  [0x1001, 0x1002, 0x1003, 0x1004, 0x1005, 0x1006, 0x1008, 0x1009, 0x1010, 0x2022] ++
  [0x202A, 0x202B, 0x3007, 0x3009, 0x300A, 0x4003, 0x4004, 0x4040, 0x4042, 0x500C] ++
  [0x6006, 0x7012, 0x7014, 0x9001, 0x9003, 0x9004, 0x9007, 0x9008, 0xA001, 0xA020] ++
  [0xB002, 0xB003, 0xB020, 0xB021, 0xC023, 0xC040, 0xD001, 0xD003, 0xD012]

/-- CRITICAL codes of Table 17-3a. -/
def criticalCodes : List Nat :=
  [0x3006, 0x3008, 0x4005, 0x7020, 0x900A]
/-- Severity of a code (R346). -/
def severityOf (code : Nat) : Nat :=
  if code ∈ infoCodes then 1 else if code ∈ noticeCodes then 2 else if code ∈ warningCodes then 3
  else if code ∈ faultCodes then 4 else if code ∈ criticalCodes then 5 else 1

/-- All codes with their severities, rising (2606:01). -/
def codeList : Bytes :=
  let all := (infoCodes.map (fun c => (c, 1)) ++ noticeCodes.map (fun c => (c, 2)) ++ warningCodes.map (fun c => (c, 3))
    ++ faultCodes.map (fun c => (c, 4)) ++ criticalCodes.map (fun c => (c, 5)))
  (all.mergeSort (fun a b => a.1 ≤ b.1)).flatMap (fun p => le 2 p.1 ++ byte p.2 ++ [0])

/-! Source codes (Table 17-2). -/

/-- WATCH block n. -/
def srcWatch (n : Nat) : Nat := n
/-- LOOP block n. -/
def srcLoop (n : Nat) : Nat := 0x40 + n
/-- CHANNEL block of a cell. -/
def srcCell (c : CellNo) : Nat := 0x80 + c / 8
/-- MANAGE block n. -/
def srcManage (n : Nat) : Nat := 0xC0 + n
/-- The ledger engine, also for the sequencer and thermal management (R345). -/
def srcLedger : Nat := 0x43
/-- Block of the lane that computes: the active one (R345). -/
def State.srcLane (s : State) : Nat :=
  match s.lanes.active with
  | some .b => 0x41
  | _ => 0x40

/-- Bytes of a record (Table 17-1). -/
def Rec.bytes (r : Rec) : Bytes :=
  le 2 r.code ++ byte r.payload.length
    ++ byte (64 * b2n r.pfi + 32 * b2n r.peat + 16 * b2n r.suppressed + r.severity)
    ++ le 6 r.stamp ++ byte r.inst ++ byte r.source ++ le 2 (min r.rep 65535) ++ le 2 r.seq ++ r.payload

/-- Length of a record. -/
def Rec.size (r : Rec) : Nat := 16 + r.payload.length

/-- n rounded up to a multiple of m. -/
def padTo (m n : Nat) : Nat := (n + m - 1) / m * m

/-- Drop the oldest records until `over` bytes are gone; `f` is what one takes. -/
def dropOldest (f : Rec → Nat) : Nat → List Rec → List Rec
  | 0, rs => rs
  | _ + 1, [] => []
  | n + 1, r :: rs => dropOldest f (n + 1 - f r) rs

/-- Bytes that records take. -/
def totalBy (f : Rec → Nat) (rs : List Rec) : Nat := rs.foldl (fun n r => n + f r) 0

/-- The ring within its 262 144 bytes (R350). -/
def ringTrim (rs : List Rec) : List Rec :=
  let f := fun r : Rec => padTo 4 r.size
  dropOldest f (totalBy f rs - 262144) rs

/-- The log within its 1 015 808 bytes (R352). -/
def logTrim (rs : List Rec) : List Rec :=
  let f := fun r : Rec => padTo 8 (r.size + 8)
  dropOldest f (totalBy f rs - 1015808) rs

/-- The number after `n` (R347): 0 and 0xFFFF_FFFF are never used. -/
def seqNext (n : Nat) : Nat := if n ≥ 0xFFFFFFFE then 1 else n + 1

/-- `n` moved up by `k` among the numbers in use. -/
def seqAdd (n k : Nat) : Nat := (n - 1 + k) % 0xFFFFFFFE + 1

/-- How many numbers lie from `a` up to `b`. -/
def seqDist (a b : Nat) : Nat := (b + 0xFFFFFFFE - a) % 0xFFFFFFFE

/-- `a` is at or before `b` in the window comparison of R347. -/
def seqLe (a b : Nat) : Bool := (b + 0x100000000 - a) % 0x100000000 < 0x80000000

/-- Close a record: severe ones are marked for the log (R352). -/
def Rec.close (peat : Nat) (pfi : Bool) (r : Rec) : Rec :=
  if r.closed then r
  else { r with closed := true, pfi := pfi, peat := decide (0 < peat ∧ peat ≤ r.severity) }

/-- Close every open record that satisfies `p`; those closed for the log are still to be appended. -/
def State.closeRecs (p : Rec → Bool) (pfi : Bool) (s : State) : State :=
  let peat := s.cfgN 0x2600 3
  s.modRec fun q =>
    let due := (q.ring.filter (fun r => !r.closed && p r)).map (Rec.close peat pfi)
    { q with ring := q.ring.map (fun r => if p r then r.close peat pfi else r)
             appendDue := q.appendDue ++ due.filter (·.peat) }

/-- Highest number lost when a store's front has been cut off (R354). -/
def goneAfter (old : Nat) (before after : List Rec) : Nat :=
  match (before.take (before.length - after.length)).getLast? with
  | some r => r.seq
  | none => old

/-- Write a new record to the ring under the next number, or let it wait for the new limit (R347). -/
def State.writeRec (r : Rec) (s : State) : State :=
  let s := s.closeRecs (fun x => x.source = r.source) false
  s.modRec fun q =>
    if q.nextSeq = q.limit then { q with waiting := q.waiting ++ [r] }
    else
      let next := seqNext q.nextSeq
      let all := q.ring ++ [{ r with seq := q.nextSeq }]
      { q with ring := ringTrim all, ringGone := goneAfter q.ringGone all (ringTrim all), nextSeq := next
               reserveDue := q.reserveDue || decide (seqDist next q.limit ≤ 32768) }

/-- The token bucket of a record (R348): whether it passes, and whether it carries SUPPRESSED. -/
def bucketPass (rate burst : Nat) (bs : List Bucket) (r : Rec) : Bool × Bool × List Bucket :=
  let same := fun b : Bucket => decide (b.code = r.code ∧ b.inst = r.inst)
  let b := (bs.find? same).getD { code := r.code, inst := r.inst, tokens := burst, stamp := r.stamp, suppressedLast := false }
  let tokens := min (burst : Rat) (b.tokens + (rate : Rat) * ((r.stamp - b.stamp : Nat) : Rat) / 1000000)
  let rest := bs.filter (fun x => !same x)
  if 1 ≤ tokens then
    (true, b.suppressedLast, rest ++ [{ b with tokens := tokens - 1, stamp := r.stamp, suppressedLast := false }])
  else (false, false, rest ++ [{ b with tokens := tokens, stamp := r.stamp, suppressedLast := true }])

/-- An occurrence folds into a block's open record (R349): same code, instance, source and payload, within FOLD_MS of the last. -/
def Rec.takes (foldMs : Nat) (r x : Rec) : Bool :=
  decide (!x.closed ∧ x.source = r.source ∧ x.code = r.code ∧ x.inst = r.inst ∧ x.payload = r.payload)
    && (decide (foldMs = 0) || decide (r.stamp < x.last + foldMs * 1000))

/-- The open record with one more occurrence. -/
def Rec.fold (r x : Rec) : Rec := { x with rep := min 65535 (x.rep + 1), last := r.stamp }

/-- An occurrence reaches the recorder: rate limit (R348), fold (R349) or write. -/
def State.admitRec (r : Rec) (s : State) : State :=
  let rate := s.cfgN 0x2600 1
  let limited := decide (0x1000 ≤ r.code ∧ r.code < 0x5000 ∧ rate ≠ 0)
  let (pass, flag, bs) :=
    if limited then bucketPass rate (s.cfgN 0x2600 2) s.recorder.buckets r else (true, false, s.recorder.buckets)
  let s := s.modRec fun q => { q with buckets := bs }
  if pass then
    let r := { r with suppressed := flag }
    let takes := r.takes (s.cfgN 0x2600 5)
    if !flag && s.recorder.ring.any takes then
      s.modRec fun q => { q with ring := q.ring.map (fun x => if takes x then r.fold x else x) }
    else s.writeRec r
  else s.modRec fun q => { q with suppressed := wrap32 (q.suppressed + 1) }

/-- Put a record in the 8 KiB queue of the LOOP region; the oldest go when it is full (R351). -/
def State.enqueueRec (r : Rec) (s : State) : State :=
  s.modRec fun q =>
    let rs := q.queue ++ [r]
    let kept := dropOldest Rec.size (totalBy Rec.size rs - 8192) rs
    { q with queue := kept, dropped := q.dropped + (rs.length - kept.length) }

/-- Whether the recorder writes records at once: MANAGE runs and no record mode (R351). -/
def State.recorderUp (s : State) : Bool := decide (s.manage = .running) && !s.seq.recordMode

/-- An event trigger of the moth trap sees every occurrence before R348 (R90). -/
def State.noteEvent (code : Nat) (s : State) : State :=
  s.each 4 fun u t =>
    if t.traces[u].st = .armed ∧ t.cfg (0x2610 + u) 0xF = 1 ∧ t.cfg (0x2610 + u) 0x10 = code ∧ code ≠ 0 then
      t.modTrace u fun x => { x with eventSeen := true }
    else t

/-- A FAULT or CRITICAL record from a MANAGE source restarts the settling time of a trial (R365). -/
def State.noteFault (src code : Nat) (s : State) : State :=
  if 0xC0 ≤ src ∧ 4 ≤ severityOf code then s.modFw fun w => { w with settleMs := 0 } else s

/-- Record event `code` from block `src`, for instance `inst` (0xFF: none), with a payload. -/
def State.event (src code inst : Nat) (payload : Bytes) (s : State) : State :=
  let r : Rec := { code := code, payload := payload, severity := severityOf code, suppressed := false, peat := false
                   pfi := false, stamp := s.now, inst := inst, source := src, rep := 0, last := s.now, seq := 0, closed := false }
  let s := (s.noteEvent code).noteFault src code
  if s.recorderUp then s.admitRec r
  else if src < 0xC0 then s.enqueueRec r
  else if s.manage = .running ∧ (src = 0xC0 ∨ src = 0xC6 ∨ src = 0xD7) then s.admitRec r
  else s

/-- Drain the queue into the ring, then report what it lost (R351). -/
def State.drainQueue (s : State) : State :=
  let rs := s.recorder.queue
  let lost := s.recorder.dropped
  let s := s.modRec fun q => { q with queue := [], dropped := 0 }
  let s := s.over rs State.admitRec
  if lost = 0 then s else s.event (srcManage 23) 0xB030 0xFF (le 4 lost)

/-- CRC-32 over a reserve copy's limit and copy sequence; the order of its bytes is the model's (log 99). -/
def reserveCrc (limit seq : Nat) : Nat := crc32 (le 4 limit ++ le 4 seq)

/-- Order of a reserve copy: one above its copy sequence when its CRC passes, else 0 (R347). -/
def Reserve.order (r : Reserve) : Nat := if r.crc = reserveCrc r.limit r.seq then r.seq + 1 else 0

/-- The limit in force: that of the newer copy that passes (R347). -/
def Recorder.limitFound (q : Recorder) : Nat := if q.reserveA.order ≤ q.reserveB.order then q.reserveB.limit else q.reserveA.limit

/-- Newest record's number, 0 when there is none (2600:06). -/
def newestOf (rs : List Rec) : Nat := ((rs.getLast?).map (·.seq)).getD 0

/-- Oldest record's number, 0 when there is none (2600:07). -/
def oldestOf (rs : List Rec) : Nat := ((rs.head?).map (·.seq)).getD 0

end Sys2Proof.Machine
end

