-- ==== Sys2Proof/Machine/Cells.lean ====
section
/-! DEFINITION. Machine/Cells.lean: what every cell has whatever its role: pin modes (R46), calibration (R43 to R45), the
fault latch (R48, R49) and the safe-action latch (R50, R51). -/

namespace Sys2Proof.Machine

/-! Pin mode fields (Table 03-4). -/

/-- FLT_USE. -/
def fltUse (p : BitVec 16) : Nat := (p.toNat / 1024) % 4
/-- PW_MODE. -/
def pwMode (p : BitVec 16) : Nat := (p.toNat / 256) % 4
/-- AUX_MODE. -/
def auxMode (p : BitVec 16) : Nat := (p.toNat / 64) % 4
/-- CS_MODE. -/
def csMode (p : BitVec 16) : Nat := (p.toNat / 16) % 4
/-- VS_EN. -/
def vsEn (p : BitVec 16) : Bool := p.getLsbD 3

/-- PIN_MODE as stored: reserved bits are ignored (R8). -/
def pinModeOf (v : Nat) : BitVec 16 := BitVec.ofNat 16 v &&& 0x0FF8#16

/-- A pin mode is permitted for a role (R46, Table 03-5). -/
def agrees (r : Role) (p : BitVec 16) : Bool :=
  match r with
  | .idle => true
  | .phase =>
    csMode p ≠ 0 && vsEn p && (auxMode p ≤ 1 || (auxMode p = 2 && csMode p = 3)) && pwMode p = 1 && fltUse p ≠ 3
  | .line => csMode p = 3 && vsEn p && auxMode p = 2 && pwMode p = 1 && fltUse p ≠ 3
  | .feeder => (csMode p = 1 || csMode p = 2) && vsEn p && auxMode p = 1 && pwMode p = 2
  | .oring => (csMode p = 1 || csMode p = 2) && vsEn p && auxMode p = 1 && pwMode p = 2 && fltUse p ≠ 3

/-! Calibration. Channels: 0 CS gain 8, 1 CS gain 32, 2 VS, 3 AUX (Table 03-3). -/

/-- CS channel of a pin mode: a CS bitstream takes channel 0 (R44). -/
def csChannel (p : BitVec 16) : Nat := if csMode p = 2 then 1 else 0

/-- Channels in use (R44, R46): none in IDLE. -/
def Cell.channels (x : Cell) : List Nat :=
  if x.role = .idle then []
  else (if csMode x.pinMode = 0 then [] else [csChannel x.pinMode]) ++ (if vsEn x.pinMode then [2] else [])
    ++ (if auxMode x.pinMode = 1 ∨ auxMode x.pinMode = 2 then [3] else [])

/-- Sequence number of a calibration record. -/
def calSeq (r : Bytes) : Nat := numAt r 4 4

/-- A stored copy whose CRC passes; a torn one does not (R45, Table 03-13). -/
def calIntact (r : Bytes) : Bool := decide (r.length = 112) && decide (numAt r 108 4 = crc32 (r.take 108))

/-- Record in force: the higher sequence number among the copies whose CRC passes (R45). -/
def Cell.cal (x : Cell) : Option Bytes :=
  match x.calA.filter calIntact, x.calB.filter calIntact with
  | some a, some b => if calSeq a < calSeq b then some b else some a
  | some a, none => some a
  | none, b => b

/-- Channel `ch` is valid in band `b`. -/
def calValid (r : Bytes) (b ch : Nat) : Bool := bit (numAt r 104 3) (4 * b + ch)

/-- Bands by nearness to `b`, the lower of two first (R44). -/
def bandOrder (b : Nat) : List Nat :=
  b :: (List.range 6).flatMap fun d => (if d + 1 ≤ b then [b - (d + 1)] else []) ++ (if b + d + 1 < 6 then [b + d + 1] else [])

/-- Offset and gain of a channel in a band (R43, R44): those of the nearest valid band, else 0 and 1. -/
def calPair (r : Option Bytes) (b ch : Nat) : Int × Nat :=
  match r with
  | none => (0, 16384)
  | some r =>
    match (bandOrder b).find? fun b => calValid r b ch with
    | some b => (unleI (slice r (8 + 16 * b + 4 * ch) 2), numAt r (8 + 16 * b + 4 * ch + 2) 2)
    | none => (0, 16384)

/-- Corrected word of 16 bits: (raw - offset) · gain, an LSB being `lsb` counts (R43; saturation and rounding log 21). -/
def correct (r : Option Bytes) (b ch lsb : Nat) (raw : Rat) : Int :=
  let (o, g) := calPair r b ch
  clampI (-32768) 32767 (quant ((raw - (lsb * o : Int)) * g / 16384))

/-! Words as they enter (R39, R41). -/

/-- A CS conversion: signed, in bits [15:4]. -/
def csWord (code : BitVec 12) : Int := 16 * code.toInt
/-- A VS or AUX conversion: unsigned, in bits [14:3]. -/
def vsWord (code : BitVec 12) : Int := 8 * code.toNat

/-- Mean of some words; 0 of none. -/
def meanWord (xs : List Int) : Rat := if xs = [] then 0 else (xs.foldl (· + ·) 0 : Int) / (xs.length : Rat)

/-- n over 2, as a whole number. -/
def choose2 (n : Int) : Int := if n < 2 then 0 else n * (n - 1) / 2

/-- Tap `i` of a sinc3 filter of length `n` (R41): the coefficient of z^i in ((1 - z^n) / (1 - z))^3. -/
def sincTap (n i : Nat) : Int :=
  choose2 (i + 2) - 3 * choose2 ((i : Int) - n + 2) + 3 * choose2 ((i : Int) - 2 * n + 2) - choose2 ((i : Int) - 3 * n + 2)

/-- Output of the filter over the latest bits, a 1 counting +1 and a 0 counting -1, full scale being ±32 767; bits before the
first count nothing (logs 13, 113). -/
def sincOut (n : Nat) (bits : List Bool) : Int :=
  let sum : Int := (bits.zipIdx.map fun p => if p.1 then sincTap n p.2 else -sincTap n p.2).foldl (· + ·) 0
  if n = 0 then 0 else quant ((sum : Rat) * 32767 / (n ^ 3 : Nat))

/-- One bit clock of a decimator of ratio `n`, with the outputs completed so far (R41). -/
def Sinc.clock (n : Nat) (p : Sinc × List Int) (b : Bool) : Sinc × List Int :=
  let q := p.1
  let bits := (b :: q.bits).take (3 * n - 2)
  if n ≤ q.since + 1 then
    let out := sincOut n bits
    ({ bits := bits, since := 0, out := out }, p.2 ++ [out])
  else ({ q with bits := bits, since := q.since + 1 }, p.2)

/-- The bits of a period: the decimator after them, and the outputs it completed. -/
def Sinc.feed (n : Nat) (q : Sinc) (bs : List Bool) : Sinc × List Int := bs.foldl (Sinc.clock n) (q, [])

/-- Corrected CS word of a cell. -/
def Cell.correctCs (x : Cell) (raw : Rat) : Int := correct x.cal x.calBand (csChannel x.pinMode) 16 raw
/-- Corrected VS word: an LSB is 8 counts (R39). -/
def Cell.correctVs (x : Cell) (raw : Rat) : Int := correct x.cal x.calBand 2 8 raw
/-- Corrected AUX word: 8 counts an LSB from the block ADC, 16 from a bitstream (R44). -/
def Cell.correctAux (x : Cell) (raw : Rat) : Int :=
  correct x.cal x.calBand 3 (if auxMode x.pinMode = 2 then 16 else 8) raw

/-- CS magnitude below 2 % of full scale (Table 03-11). -/
def lowCs (cs : Int) : Bool := decide (50 * cs < 32768) && decide (-(50 * cs) < 32768)

/-- Power removal begins (R56, R57). -/
def Cell.noteRemoval (now : Nat) (x : Cell) : Cell := { x with removalUs := now }

/-- A corrected CS word arrives. -/
def Cell.noteCs (now : Nat) (cs : Int) (x : Cell) : Cell := { x with cs := cs, csHighUs := if lowCs cs then x.csHighUs else now }

/-! Comparator and short-window detector (R42). -/

/-- Positive full scale of CS in µV (Table 03-2). -/
def csFullScale (p : BitVec 16) : Rat := if csMode p = 2 then 62500 else 250000

/-- Threshold DAC code of a threshold given as a fraction of full scale. -/
def dacCode (ratio : Rat) : Nat := (clampI 0 1023 (roundR (512 * (1 + ratio)))).toNat

/-- The code's voltage as a fraction of full scale. -/
def dacRatio (code : Nat) : Rat := (code : Rat) / 512 - 1

/-- Ones in the last 16 bits. -/
def onesOf (bits : BitVec 16) : Nat := ((List.range 16).filter fun i => bits.getLsbD i).length

/-- The sense lies at or beyond the threshold: above it, or below it when `falling`. The ones of a bitstream are held against
the code mapped from 0 to 1 024 onto 0 to 16 (R42; log 114). -/
def Cell.crosses (x : Cell) (ratio : Rat) (falling : Bool) (sense : TripSense) : Bool :=
  let code := dacCode ratio
  match sense with
  | .analog uv =>
    let at_ := dacRatio code * csFullScale x.pinMode
    csMode x.pinMode ≠ 3 && (if falling then decide ((uv : Rat) ≤ at_) else decide (at_ ≤ uv))
  | .stream bits =>
    csMode x.pinMode = 3 && (if falling then decide (64 * onesOf bits ≤ code) else decide (code ≤ 64 * onesOf bits))

/-! Outputs. -/

/-- Accumulators of R164, R168 and R169 discarded. -/
def Feeder.discard (f : Feeder) : Feeder := { f with soaE := 0, slowQ := 0, letA := 0, below := 0, u := 0, fetOn := false }

/-- INRUSH and ON end in HELD without a trip (R160, R180). -/
def Feeder.toHeld (f : Feeder) : Feeder :=
  if f.st = .inrush ∨ f.st = .on then { f.discard with st := .held } else { f with fetOn := false }

/-- A conducting ORING state ends in BLOCKING: its gate is off (Table 03-7). -/
def Oring.toBlocking (o : Oring) : Oring :=
  if o.st = .regulating ∨ o.st = .fullOn then { o with st := .blocking, onRun := 0, fullRun := 0, negRun := 0 } else o


/-- PWA and PWB low. -/
def Cell.outputsLow (x : Cell) : Cell :=
  { x with pwa := .low, pwb := .low, onSteps := 0, nextSteps := 0, pwaFall := 0, pwbRise := 0, pwbFall := 0 }

/-- Gate off: PWB pull-down, PWA low (R47, Table 03-7). -/
def Cell.gateOff (x : Cell) : Cell := { x with pwa := .low, pwb := .high }

/-- Edges of a period in complementary mode (R72): the applied duty, the dead times and the period in steps; PWB stays low
where there is no room for it, or where it is held low. -/
def Cell.edges (dtRise dtFall p : Nat) (heldLow : Bool) (x : Cell) : Cell :=
  { x with pwaFall := x.onSteps, pwbRise := x.onSteps + dtFall, pwbFall := p - dtRise
           pwa := if x.onSteps = 0 then .low else .switching
           pwb := if heldLow ∨ p ≤ x.onSteps + dtFall + dtRise then .low else .switching }

/-- The comparator ends the pulse at a step (R47, R72). -/
def Cell.cutPulse (dtFall step : Nat) (heldLow : Bool) (x : Cell) : Cell :=
  { x with pwaFall := step, pwbRise := step + dtFall
           pwa := if step = 0 then .low else x.pwa
           pwb := if heldLow ∨ x.pwbFall ≤ step + dtFall then .low else .switching }

/-- A HOLD is in force: the cell keeps its last applied duty or drive (Table 03-7). -/
def Cell.holding (x : Cell) : Bool := x.safeCause ≠ 0 && x.safeHold

/-- Outputs low, but for a cell under HOLD (R50). -/
def Cell.stopOutputs (x : Cell) : Cell := if x.holding then x else x.outputsLow

/-- Fault bits whose action drives the outputs low: DRIVER_FLT, an invalid sense, SELFTEST_FAIL, HOLD_WINDOW. -/
def actionBits : BitVec 16 := 0x01BE#16

/-- A fault latched or a safe action in force keeps the cell from its loop's commands (R48, R50). -/
def Cell.held (x : Cell) : Bool := x.faultLatch &&& actionBits ≠ 0 || x.safeCause ≠ 0

/-- CS, VS and the bitstreams are valid: bits 2 to 5 clear (R48). -/
def Cell.senseValid (x : Cell) : Bool := x.faultLatch &&& 0x003C#16 = 0

/-- Any fault bit but CAL_INVALID (R48, R60). -/
def Cell.faulted (x : Cell) : Bool := x.faultLatch &&& 0x03BF#16 ≠ 0

/-! Fault latch (R48, R49). -/

/-- A bit of the latch, 0 to 15. -/
def faultBit (b : Nat) : BitVec 16 := BitVec.ofNat 16 (2 ^ b)

/-- The latch bit sets: one more fault, and the bit's event with the latch as payload, which for ROLE_FAULT is the role's
own. A bit already set stays set. -/
def State.setFault (c : CellNo) (b : Nat) (s : State) : State :=
  if s.cells[c].faultLatch &&& faultBit b ≠ 0 then s
  else
    let s := s.modCell c fun x => { x with faultLatch := x.faultLatch ||| faultBit b
                                           faultCount := wrap32 (x.faultCount + 1) }
    if b < 9 then s.event (srcCell c) (0x1001 + b) c (le 2 s.cells[c].faultLatch.toNat) else s

/-- CAL_INVALID sets when a channel in use has no valid calibration in the band in force (R44). -/
def State.calCheck (c : CellNo) (s : State) : State :=
  let x := s.cells[c]
  let ok := match x.cal with
    | some r => x.channels.all fun ch => calValid r x.calBand ch
    | none => x.channels.isEmpty
  if ok then s else s.setFault c 6

/-- Sense causes of the fault latch: they need the sense inputs, which TESTING disconnects (R59). -/
def senseBits : BitVec 16 := 0x003C#16

/-- Causes that set a latch bit now: those standing at the pins, and HOLD_WINDOW while its eight periods last (R49, R50). -/
def Cell.persisting (x : Cell) : BitVec 16 :=
  (if x.st = .testing then x.causes &&& ~~~senseBits else x.causes)
    ||| (if x.holding ∧ 8 ≤ x.holdRun then faultBit 8 else 0#16)

/-- Clear latch bits; a bit whose cause persists sets again at once (R49). -/
def State.clearFault (c : CellNo) (mask : BitVec 16) (s : State) : State :=
  let again := s.cells[c].faultLatch &&& mask &&& s.cells[c].persisting
  let s := s.modCell c fun x => { x with faultLatch := x.faultLatch &&& ~~~mask }
  let s := s.over ((List.range 9).filter fun b => again.getLsbD b) fun b t => t.setFault c b
  s.calCheck c

/-! Safe-action latch (R50, R51). -/

/-- The configured action at the pins (Table 03-7). -/
def Cell.safeAction (x : Cell) : Cell :=
  if x.safeHold then { x with holdVs := x.vs, holdRun := 0 }
  else match x.role with
    | .feeder => { x.gateOff with feeder := x.feeder.toHeld }
    | .oring => { x.gateOff with oring := x.oring.toBlocking }
    | _ => x.outputsLow

/-- The latch of a cell sets with a cause; a lower cause replaces a higher one (R51). -/
def State.setLatch (c : CellNo) (cause : Nat) (s : State) : State :=
  let old := s.cells[c].safeCause
  if old = 0 then
    (s.modCell c fun x => { x.safeAction with safeCause := cause }).event (srcWatch 2) 0x1010 c (byte c ++ byte cause)
  else if cause < old then
    (s.modCell c fun x => { x with safeCause := cause }).event (srcWatch 2) 0x1010 c (byte c ++ byte cause)
  else s

/-- The latch releases (Table 03-8). -/
def State.releaseSafe (c : CellNo) (s : State) : State :=
  if s.cells[c].safeCause = 0 then s
  else
    let cause := s.cells[c].safeCause
    (s.modCell c fun x => { x with safeCause := 0 }).event (srcWatch 2) 0x1011 c (byte c ++ byte cause)

/-! Rules of the cell's host entries; each answers an abort code, 0 when done. -/

/-- SAFE_ACTION, held by both dies (R50). -/
def writeSafeAction (c : CellNo) (v : Nat) (s : State) : Nat × State :=
  (0, (s.setWritten (0x3000 + c) 5 v).modCell c fun x => { x with safeHold := v = 1 })

/-- A calibration record passes the tests of R45. -/
def calOk (c : CellNo) (r : Bytes) : Bool :=
  decide (numAt r 0 1 = c) && decide (numAt r 1 1 = 1) && decide (numAt r 2 2 = 0) && decide (numAt r 107 1 = 0)
    && calIntact r

/-- A record with its next sequence number and its CRC. -/
def calSeal (seq : Nat) (r : Bytes) : Bytes :=
  let b := r.take 4 ++ le 4 seq ++ slice r 8 100
  b ++ le 4 (crc32 b)

/-- Store a record over the older copy, one number above the newer (R45); of a write torn by a brown-out only the first
`written` bytes reach the copy (Table 03-13). A copy whose CRC fails counts as older than one that passes; with neither, copy A
is written, and the first record takes number 1, which the spec does not give (log 115). -/
def Cell.storeCal (r : Bytes) (written : Nat) (x : Cell) : Cell :=
  let seq := match x.cal with
    | some q => wrap32 (calSeq q + 1)
    | none => 1
  let q := calSeal seq r
  let tear := fun old : Option Bytes => some (q.take written ++ (old.getD (List.replicate 112 0)).drop written)
  match x.calA.filter calIntact, x.calB.filter calIntact with
  | some a, some b => if calSeq a < calSeq b then { x with calA := tear x.calA } else { x with calB := tear x.calB }
  | some _, none => { x with calB := tear x.calB }
  | none, _ => { x with calA := tear x.calA }

/-- CAL_RECORD: length, then content, then mode (R45, R29, R304). -/
def writeCalRecord (c : CellNo) (r : Bytes) (s : State) : Nat × State :=
  if r.length ≠ 112 then (0x06070010, s)
  else if !calOk c r then (0x06090030, s)
  else if !s.inModes [.tending] then (0x08000022, s)
  else (0, (s.modCell c (Cell.storeCal r 112)).calCheck c)

end Sys2Proof.Machine
end

