-- ==== Sys2Proof/Machine/Agreement.lean ====
section
/-! DEFINITION. Machine/Agreement.lean: the agreement sets of Table 14-7, their predicates on written values, when a set
is pending, and adoption (R295, R297). -/

namespace Sys2Proof.Machine

/-- An agreement set: code, instance, band (0xFF where the set has none). -/
structure SetId where
  set : Nat
  inst : Nat
  band : Nat
  deriving DecidableEq, Repr

/-- Sets that hold an entry (Table 14-7). -/
def State.setsOf (s : State) (index sub : Nat) : List SetId :=
  let one := fun n inst => [(⟨n, inst, 0xFF⟩ : SetId)]
  if 0x3000 ≤ index ∧ index < 0x3030 then
    let c := index - 0x3000
    if sub = 1 ∨ sub = 2 then one 1 c
    else if sub = 0xE then one 2 (c / 8)
    else if sub = 0x2A ∨ sub = 0x2D ∨ sub = 0x30 then one 6 c
    else if sub = 0x28 ∨ sub = 0x29 then one 7 c
    else if sub = 0x22 ∨ sub = 0x23 then one 8 c
    else if sub = 0x48 ∨ sub = 0x49 then one 0xA c
    else if sub = 0x42 ∨ sub = 0x43 then one 0xB c
    else []
  else if 0x3100 ≤ index ∧ index < 0x3110 then
    let k := index - 0x3100
    if sub = 0xE ∨ sub = 0xF then one 3 k
    else if sub = 5 ∨ sub = 6 ∨ sub = 0x75 then one 4 k
    else if sub = 0x19 ∨ sub = 0x1A then one 0x14 k
    else []
  else if 0x3200 ≤ index ∧ index < 0x3218 then
    if sub = 0xF ∨ sub = 9 ∨ sub = 0xA ∨ sub = 0xB then one 5 (index - 0x3200) else []
  else if 0x4200 ≤ index ∧ index < 0x4230 then
    if 1 ≤ sub ∧ sub ≤ 0x11 then one 9 (index - 0x4200) else []
  else if 0x3300 ≤ index ∧ index < 0x3304 then
    let n := index - 0x3300
    if sub = 0xB ∨ sub = 0xD then one 0xC n
    else if sub = 0x10 ∨ sub = 0x11 then one 0xD n
    else if 0x50 ≤ sub ∧ sub < 0x5C then [⟨0xF, n, (sub - 0x50) % 6⟩]
    else []
  else if 0x4300 ≤ index ∧ index < 0x4304 then
    if 1 ≤ sub ∧ sub ≤ 0xC0 then [⟨0xE, index - 0x4300, (sub - 1) / 32⟩] else []
  else if 0x2310 ≤ index ∧ index < 0x2330 then
    let r := index - 0x2310
    if sub = 4 ∨ sub = 5 then
      one 0x10 r ++ (pick 32 fun x => s.writ (0x2310 + x) 6 = r ∧ (x : Nat) ≠ r).flatMap fun x => one 0x10 x
    else if sub = 6 then one 0x10 r else []
  else if 0x2410 ≤ index ∧ index < 0x2426 then
    if sub = 6 ∨ sub = 7 then one 0x11 (index - 0x2410) else []
  else if index = 0x2400 then
    if 1 ≤ sub ∧ sub ≤ 6 then one 0x12 0 else []
  else if index = 0x2102 ∨ index = 0x2103 then
    if sub = 3 ∨ sub = 4 then one 0x13 (index - 0x2102) else []
  else []

/-- Members of a set. -/
def State.setMembers (s : State) (i : SetId) : List (Nat × Nat) :=
  let at_ := fun (index : Nat) (subs : List Nat) => subs.map fun x => (index, x)
  let n := i.inst
  if i.set = 1 then at_ (0x3000 + n) [1, 2]
  else if i.set = 2 then (List.range 8).map fun j => (0x3000 + 8 * n + j, 0xE)
  else if i.set = 3 then at_ (0x3100 + n) [0xE, 0xF]
  else if i.set = 4 then at_ (0x3100 + n) [6, 5, 0x75]
  else if i.set = 5 then at_ (0x3200 + n) [0xF, 9, 0xB, 0xA]
  else if i.set = 6 then at_ (0x3000 + n) [0x2A, 0x2D, 0x30]
  else if i.set = 7 then at_ (0x3000 + n) [0x28, 0x29]
  else if i.set = 8 then at_ (0x3000 + n) [0x22, 0x23]
  else if i.set = 9 then at_ (0x4200 + n) ((List.range 17).map (· + 1))
  else if i.set = 0xA then at_ (0x3000 + n) [0x48, 0x49]
  else if i.set = 0xB then at_ (0x3000 + n) [0x42, 0x43]
  else if i.set = 0xC then at_ (0x3300 + n) [0xB, 0xD]
  else if i.set = 0xD then at_ (0x3300 + n) [0x10, 0x11]
  else if i.set = 0xE then at_ (0x4300 + n) ((List.range 32).map fun j => 32 * i.band + j + 1)
  else if i.set = 0xF then at_ (0x3300 + n) [0x50 + i.band, 0x56 + i.band]
  else if i.set = 0x10 then
    at_ (0x2310 + n) [4, 5, 6] ++
      (let p := s.writ (0x2310 + n) 6; if p < 32 then at_ (0x2310 + p.toNat) [4, 5] else [])
  else if i.set = 0x11 then at_ (0x2410 + n) [6, 7]
  else if i.set = 0x12 then at_ 0x2400 [1, 2, 3, 4, 5, 6]
  else if i.set = 0x13 then at_ (0x2102 + n) [3, 4]
  else if i.set = 0x14 then at_ (0x3100 + n) [0x19, 0x1A]
  else []

/-- Each value is below the next. -/
def rising : List Int → Bool
  | a :: b :: r => decide (a < b) && rising (b :: r)
  | _ => true

/-- No value is above the next. -/
def notFalling : List Int → Bool
  | a :: b :: r => decide (a ≤ b) && notFalling (b :: r)
  | _ => true

/-- The predicate of a set on the written values (Table 14-7). -/
def State.setAgrees (s : State) (i : SetId) : Bool :=
  let v := (s.setMembers i).map fun p => s.writ p.1 p.2
  let zeroOr := fun (d x : Int) => if x = 0 then d else x
  if i.set = 1 then agrees (Role.ofCode (v.getD 0 0).toNat) (pinModeOf (v.getD 1 0).toNat)
  else if i.set = 2 then decide (v.foldl (· + ·) 0 ≤ 8)
  else if i.set = 3 then notFalling v
  else if i.set = 4 then
    let p := v.getD 1 0
    notFalling [zeroOr p (v.getD 0 0), p, zeroOr p (v.getD 2 0)]
  else if i.set = 5 then decide (v.getD 0 0 ≤ v.getD 1 0) && rising (v.drop 1)
  else if i.set = 9 then
    let n := (v.getD 0 0).toNat
    rising ((v.drop 1).take n) && notFalling ((v.drop 9).take n)
  else if i.set = 0xC ∨ i.set = 0xD then decide (v.getD 0 0 = 0) || decide (v.getD 1 0 = 0) || rising v
  else if i.set = 0xE then notFalling v
  else if i.set = 0xF then decide (v.getD 0 0 = 0) || decide (v.getD 1 0 = 0) || notFalling v
  else if i.set = 0x10 then
    let p := v.getD 2 0
    decide (p = 0xFF) ||
      (decide (p < i.inst) && decide (v.getD 3 0 ≤ v.getD 0 0) && decide (v.getD 1 0 ≤ v.getD 4 0))
  else if i.set = 0x12 then
    let h := v.getD 5 0
    ((v.take 5).zip ((v.take 5).drop 1)).all fun p => decide (h < p.2 - p.1)
  else if i.set = 0x13 then decide (v.getD 0 0 ≤ v.getD 1 0)
  else if i.set = 0x14 then decide (v.getD 1 0 = 0) || rising v
  else rising v

/-- Same set, instance and band. -/
def Pending.is (p : Pending) (i : SetId) : Bool := p.set = i.set && p.inst = i.inst && p.band = i.band

/-- A set is pending: its written values disagree (R295). -/
def State.isPending (s : State) (i : SetId) : Bool := s.dict.pending.any fun p => p.is i

/-- Test a set after a write of a member (R295). -/
def State.testSet (i : SetId) (s : State) : State :=
  if s.setAgrees i then
    match s.dict.pending.find? fun p => p.is i with
    | some p =>
      let ms := (s.clk.timeUs - p.since) / 1000
      s.modDict fun d => { d with pending := d.pending.filter fun q => !q.is i
                                  wasPending := d.wasPending.filter (fun q => !q.is i) ++ [{ p with since := ms }] }
    | none => s
  else if s.isPending i then s
  else
    let p : Pending := { set := i.set, inst := i.inst, band := i.band, since := s.clk.timeUs }
    (s.modDict fun d => { d with pending := d.pending ++ [p] }).event (srcManage 0) 0xA010 i.inst
      (byte i.set ++ byte i.inst ++ byte i.band)

/-- Event 0xA011 when a set that has been pending since its last adoption comes into force (R295). -/
def State.noteAdopted (i : SetId) (s : State) : State :=
  match s.dict.wasPending.find? fun p => p.is i with
  | some p =>
    (s.modDict fun d => { d with wasPending := d.wasPending.filter fun q => !q.is i }).event (srcManage 0) 0xA011 i.inst
      (byte i.set ++ byte i.inst ++ byte i.band ++ le 4 p.since)
  | none => s

/-- No set that holds an entry is pending. -/
def State.entryFree (s : State) (index sub : Nat) : Bool := (s.setsOf index sub).all fun i => !s.isPending i

/-- Adoption point of a set: its members' written values come into force together, unless it is pending or the global
safe state is in force (R295, Table 14-11). -/
def State.adoptSet (i : SetId) (s : State) : State :=
  if s.isPending i ∨ s.modes.safe then s
  else
    let s := s.over (s.setMembers i) fun p t => if t.entryFree p.1 p.2 then t.adopt p.1 p.2 else t
    s.noteAdopted i

/-- An entry with an adoption point of its own comes into force unless a set of it is pending. -/
def State.adoptEntry (index sub : Nat) (s : State) : State :=
  if s.entryFree index sub ∧ ¬ s.modes.safe then
    s.over (s.setsOf index sub) (fun i t => t.noteAdopted i) |>.adopt index sub
  else s

/-- A feeder's configuration (21 to 34) acts at once outside INRUSH and ON, its breaker entries always (R181); its gate
levels and SOA table only while DISABLED (Table 14-7). -/
def State.feederFree (s : State) (c : CellNo) (sub : Nat) : Bool :=
  let st := s.cells[c].feeder.st
  decide (sub = 0x2D ∨ sub = 0x2E ∨ sub = 0x2F ∨ sub = 0x30)
    || (if sub = 0x28 ∨ sub = 0x29 then decide (st = .disabled) else decide (st ≠ .inrush ∧ st ≠ .on))

/-- Feeder entries whose written value comes into force in the present state (Table 14-7, R181). -/
def State.feederAdopt (c : CellNo) (s : State) : State :=
  let subs := ((List.range 0x14).map (· + 0x21)).filter fun x => decide (x ≠ 0x22 ∧ x ≠ 0x23) && s.feederFree c x
  let s := s.over subs fun x t => t.adoptEntry (0x3000 + c) x
  if s.cells[c].feeder.st = .disabled then s.adoptSet ⟨9, c, 0xFF⟩ else s

/-- Everything a feeder start brings into force (R181, Table 14-7). -/
def State.feederStartAdopt (c : CellNo) (s : State) : State :=
  let s := s.over ((List.range 0x14).map (· + 0x21)) fun x t => t.adoptEntry (0x3000 + c) x
  s.adoptSet ⟨9, c, 0xFF⟩

/-- After a write of an entry: test its sets, and adopt what comes into force at once. -/
def State.testEntry (index sub : Nat) (s : State) : State :=
  let s := s.over (s.setsOf index sub) State.testSet
  match inst? 0x3000 48 index with
  | some c => if 0x21 ≤ sub ∧ sub ≤ 0x34 then s.feederAdopt c else s
  | none =>
    match inst? 0x4200 48 index with
    | some c => s.feederAdopt c
    | none => s

/-- PENDING_LIST (Table 14-6). -/
def State.pendingList (s : State) : Bytes :=
  s.dict.pending.flatMap fun p =>
    byte p.set ++ byte p.inst ++ byte p.band ++ [0] ++ le 4 (min 0xFFFFFFFF ((s.clk.timeUs - p.since) / 1000))

end Sys2Proof.Machine
end

