-- ==== Sys2Proof/Machine/Groups.lean ====
section
/-! DEFINITION. Machine/Groups.lean: what every rule of a line group shares: the interface codes (R123), the states
(Table 06-2), the stop (R132), and the safe action of a LINE cell. -/

namespace Sys2Proof.Machine

/-- Interface code of a state at PWA and PWB (Tables 06-1 and 06-2). -/
def groupDrive : GroupState → Drive × Drive
  | .disabled | .discharging | .lockedOut => (.low, .low)
  | .signature => (.low, .high)
  | .waiting | .qualifying | .qualified | .retryWait => (.high, .low)
  | .starting | .delivering | .identifying => (.switching, .switching)

/-- The states with a running converter. -/
def GroupState.run : GroupState → Bool
  | .starting | .delivering | .identifying => true
  | _ => false

/-- The cell's outputs take its group's code (R123). A latched fault and a safe action OFF keep them low (R48, R50), and so does a held
test that the die has met (R136). Under HOLD only a running converter keeps its drive (Table 03-7, R140). -/
def State.driveGroup (g : GroupNo) (s : State) : State :=
  match s.groupCell g with
  | some c =>
    let x := s.cells[c]
    let st := s.groups[g].st
    let low := x.faultLatch &&& actionBits ≠ 0 || (x.safeCause ≠ 0 && !x.safeHold) || s.groups[g].dieLow
    if x.role ≠ .line then s
    else if low then s.modCell c Cell.outputsLow
    else if x.holding ∧ st.run then s
    else s.modCell c fun x => { x with pwa := (groupDrive st).1, pwb := (groupDrive st).2 }
  | none => s

/-- The group enters a state and its cell takes that state's code. -/
def State.groupTo (g : GroupNo) (st : GroupState) (s : State) : State :=
  (s.modGroup g fun x => { x with st := st, sinceUs := s.clk.timeUs, decayMs := none }).driveGroup g

/-- SIGNATURE or WAITING by V_end (Table 06-2). -/
def State.byVend (g : GroupNo) (s : State) : GroupState :=
  if s.groups[g].vEndMv < 950 * (s.group g 9 : Rat) then .signature else .waiting

/-- The group's cell drives its outputs low. -/
def State.groupLow (g : GroupNo) (s : State) : State :=
  match s.groupCell g with
  | some c => s.modCell c Cell.outputsLow
  | none => s

/-- The group of the block of a cell's source, or 0xFF. -/
def State.srcGroup (s : State) (g : GroupNo) : Nat :=
  match s.groupCell g with
  | some c => srcCell c
  | none => 0x80

/-- An identification of the group is abandoned: event 0x3021, no result, back to DELIVERING (R142). The record's Rm is not
stated: a free value (log 3). -/
def State.abandonId (g : GroupNo) (s : State) : State :=
  if s.idGroup = some g then
    let (rm, s) := { s with idGroup := none }.fresh
    let x := s.groups[g]
    let s := s.modGroup g fun x => if x.st = .identifying then { x with st := .delivering, sinceUs := s.clk.timeUs } else x
    s.event s.srcLane 0x3021 g (byte g ++ le 4 rm ++ le 4 (quantN (x.rOhm * 1000)) ++ le 4 (quantN (x.vsV * 1000)))
  else s

/-- A group in STARTING, DELIVERING or IDENTIFYING stops with a cause of Table 06-3 (R132). -/
def State.groupStop (g : GroupNo) (cause src : Nat) (s : State) : State :=
  if s.groups[g].st.run then
    let s := s.abandonId g
    let s := s.modGroup g fun x =>
      { x with st := .discharging, stopCause := cause, targetUa := 0, fromDrain := false, sinceUs := s.clk.timeUs, decayMs := none }
    (s.groupLow g).event src 0x3004 g (byte g ++ byte cause)
  else s

/-- An identification under way is abandoned, whichever group it is on (R142). -/
def State.abandonAny (s : State) : State :=
  match s.idGroup with
  | some g => s.abandonId g
  | none => s

/-- Stop computed by a lane. -/
def State.laneStop (g : GroupNo) (cause : Nat) (s : State) : State := s.groupStop g cause s.srcLane

/-- The group whose cell is `c` stops, if there is one. -/
def State.stopCellGroup (c : CellNo) (cause : Nat) (s : State) : State :=
  match s.groupOf c with
  | some g => s.laneStop g cause
  | none => s

/-- FAULT_LATCH: 1 clears a bit (R49); a LINE cell then drives its group's code again (R127). -/
def writeFaultLatch (c : CellNo) (v : Nat) (s : State) : Nat × State :=
  let s := s.clearFault c (BitVec.ofNat 16 v)
  (0, match s.groupOf c with
    | some g => s.driveGroup g
    | none => s)

/-- The safe-action latch of a cell sets (R51); with OFF a LINE cell's group stops with cause 0x09 (R136). -/
def State.setSafe (c : CellNo) (cause : Nat) (s : State) : State :=
  let first := s.cells[c].safeCause = 0
  let s := s.setLatch c cause
  if first ∧ !s.cells[c].safeHold ∧ s.cells[c].role = .line then s.stopCellGroup c 9 else s

/-- Every cell's latch sets with a cause, in rising cell order. -/
def State.setSafeAll (cause : Nat) (s : State) : State := s.each 48 fun c t => t.setSafe c cause

end Sys2Proof.Machine
end

