-- ==== Sys2Proof/Machine/Compensator.lean ====
section
/-! DEFINITION. Machine/Compensator.lean: the arithmetic of a loop and its members (R74 to R77, R85), with no State in it:
signals Q1.23, coefficients Q2.21, integrators Q3.44. -/

namespace Sys2Proof.Machine

/-- Saturation to Q1.23 (R74). -/
def sat (x : Int) : Int := clampI (-8388608) 8388607 x

/-- An accumulated Q3.44 value times 2^shift, rounded to Q1.23 with ties towards plus infinity, saturated (R74). -/
def stageOut (a shift : Int) : Int :=
  let d : Int := 2 ^ (21 - shift).toNat
  sat ((2 * a + d) / (2 * d))

/-- A real in Q1.23 steps, rounded as R74 rounds. -/
def satR (x : Rat) : Int := sat (roundR x)

/-- FLAGS bits of a set (Table 04-6). -/
def CoefSet.has (c : CoefSet) (b : Nat) : Bool := bit c.flags b

/-- Limits of R75 and R76: the upper first, the lower second. -/
def clampInt (hi lo x : Int) : Int := max lo (min hi x)

/-- An integrator step: kept when the duty is clamped on the side the error pushes to (R75, R76). -/
def integrate (ki hi lo e : Int) (cHi cLo : Bool) (i : Int) : Int :=
  if (cHi && decide (0 < e)) || (cLo && decide (e < 0)) then i
  else clampInt (hi * 2 ^ 21) (lo * 2 ^ 21) (i + ki * e)

/-- One biquad; disabled, its output is its input, which enters both histories in turn (R75, R77). -/
def Biquad.run (on : Bool) (b0 b1 b2 a1 a2 shift : Int) (q : Biquad) (x : Int) : Int × Biquad :=
  let y := if on then stageOut (b0 * x + b1 * q.x1 + b2 * q.x2 - a1 * q.y1 - a2 * q.y2) shift else x
  (y, { x1 := x, x2 := q.x1, y1 := y, y2 := if on then q.y1 else q.x1 })

/-- First biquad of a set. -/
def CoefSet.biquad1 (c : CoefSet) (q : Biquad) (x : Int) : Int × Biquad :=
  q.run (c.has 2) c.b10 c.b11 c.b12 c.a11 c.a12 c.shift1 x
/-- Second biquad of a set. -/
def CoefSet.biquad2 (c : CoefSet) (q : Biquad) (x : Int) : Int × Biquad :=
  q.run (c.has 3) c.b20 c.b21 c.b22 c.a21 c.a22 c.shift2 x

/-- The outer path of R75 for reference `r` and measured value `y`, with the lead cell's clamp flags. -/
def Loop.outer (l : Loop) (r y : Int) (cHi cLo : Bool) : Loop :=
  let c := l.snap
  let e := sat (r - y)
  let i := integrate c.ki c.imax c.imin e cHi cLo l.i
  let d := if c.has 1 then stageOut (c.kdf * l.d + c.kd * (e - l.e)) 0 else 0
  let v0 := if c.has 0 then sat (stageOut (c.kp * e + d * 2 ^ 21) c.pidShift + stageOut i 0) else 0
  let (v1, q1) := c.biquad1 l.bq1 v0
  let (v2, q2) := c.biquad2 l.bq2 v1
  { l with r := r, e := e, i := i, d := d, v0 := v0, v1 := v1, v2 := v2, bq1 := q1, bq2 := q2 }

/-- Gain of the feed-forward (R76): `vin` is the lead cell's AUX sample in Q1.23, none when it is not valid; the quotient
carries its stated relative error, and by 0 it has no value: free (log 14). -/
def feedForward (c : CoefSet) (vin : Option Int) (old : Rat) : Rat :=
  if c.has 4 then
    match vin with
    | none => old
    | some v =>
      let top : Rat := 4 - 1 / 2 ^ 21
      let raw : Rat :=
        if v = 0 then Config.quotientError c.vinNom v
        else (c.vinNom : Rat) / v * (1 + clampR (-1 / 2 ^ 20) (1 / 2 ^ 20) (Config.quotientError c.vinNom v))
      clampR 0 top (1 + (c.kff : Rat) / 2 ^ 21 * (clampR (1 / 4) top raw - 1))
  else 1

/-- What a member's path gives: share and inner integrators, duty and clamp flags. -/
structure MemberOut where
  e : Int
  x : Int
  duty : Nat
  hi : Bool
  lo : Bool
  deriving DecidableEq, Repr

/-- The member path of R76. A duty counts as clamped when u · P, before it is floored, lies beyond a limit, so that a negative u is a
low clamp even where DUTY_MIN is 0; the spec does not say on which side of the floor (log 121). Target `iRef`, sample `i`, gain `g`, period `p`, duty limits in 1/65536. -/
def memberPath (c : CoefSet) (inner : Bool) (iRef i x : Int) (cHi cLo : Bool) (g : Rat) (p dMin dMax : Nat) : MemberOut :=
  let e := sat (iRef - i)
  let x' := if inner then integrate c.kii c.xmax c.xmin e cHi cLo x else x
  let w := if inner then sat (stageOut (c.kpi * e) c.innerShift + stageOut x' 0) else sat iRef
  let u := satR (g * w)
  let raw : Rat := (u : Rat) * p / 8388608
  let lo : Int := (((dMin * p : Nat) : Rat) / 65536).ceil
  let hi : Int := ((dMax * p / 65536 : Nat) : Int)
  { e := e, x := x', duty := (clampI lo hi (max 0 raw).floor).toNat, hi := decide ((hi : Rat) < raw), lo := decide (raw < lo) }

/-- Share correction (R99): new c_m in Q3.44 and s_m in Q1.23. -/
def shareStep (ksh lim : Int) (rho : Rat) (iBar i v2 c : Int) : Int × Int :=
  let c' := clampI (-(lim * 2 ^ 28)) (lim * 2 ^ 28) (c + roundR (ksh * (rho * iBar - i)))
  (c', roundR ((rho - 1) * v2) + stageOut c' 0)

/-- One period of the flutter detector (R85); in the hold-off the window and the peaks go on filling (log 122): the new window, and n_alt, pk_old and pk_new when it fires. -/
def Flutter.step (f : Flutter) (hyst amp altMin decay : Nat) (e : Int) : Flutter × Option (Nat × Nat × Nat) :=
  let h : Int := hyst * 128
  let sgn : Int := if e > h then 1 else if e < -h then -1 else 0
  let alt := decide (sgn ≠ 0) && decide (f.lastS ≠ 0) && decide (sgn ≠ f.lastS)
  let win := (f.win <<< 1) ||| (if alt then 1#64 else 0#64)
  let mags := ((e.natAbs : Int) :: f.mags).take 64
  let nAlt := ((List.range 64).filter fun i => win.getLsbD i).length
  let pkNew := (mags.take 32).foldl max 0
  let pkOld := (mags.drop 32).foldl max 0
  let next : Flutter := { lastS := if sgn ≠ 0 then sgn else f.lastS, win := win, mags := mags, holdoff := f.holdoff - 1 }
  if f.holdoff = 0 ∧ altMin ≠ 0 ∧ altMin ≤ nAlt ∧ (amp * 128 : Int) ≤ max pkOld pkNew ∧ (decay : Int) * pkOld ≤ pkNew * 256 then
    ({ lastS := next.lastS, win := 0, mags := [], holdoff := 64 }, some (nAlt, pkOld.toNat, pkNew.toNat))
  else (next, none)

end Sys2Proof.Machine
end

