-- ==== Sys2Proof/Machine/Traces.lean ====
section
/-! DEFINITION. Machine/Traces.lean: the moth trap (R88 to R91): nodes, samples, triggers, the capture record and the
three commands of a trace unit. -/

namespace Sys2Proof.Machine

/-- n_alt of a loop: ones in the window of 64 (R85). -/
def Flutter.alts (f : Flutter) : Nat := ((List.range 64).filter fun i => f.win.getLsbD i).length

/-- How many instances a node kind has; none for a kind that does not exist (Table 04-10). -/
def nodeInstances (kind : Nat) : Nat :=
  if kind ∈ [1, 2, 3, 4, 5, 6, 0xC] then 16
  else if kind ∈ [7, 8, 9, 0xA, 0xB] then 48
  else if kind = 0x10 then 1
  else if kind = 0x11 ∨ kind = 0x12 then 48 else 0

/-- A node code names something that exists (R89); sources are groups 0x00 to 0x17 and loops 0x20 to 0x2F (R144). -/
def nodeOk (code : Nat) : Bool :=
  decide (code % 256 < nodeInstances (code / 256))
    && !(decide (code / 256 = 0x11 ∨ code / 256 = 0x12) && decide (24 ≤ code % 256 ∧ code % 256 < 32))

/-- Value of a loop's node. -/
def Loop.node (l : Loop) (kind : Nat) : Int :=
  if kind = 1 then l.e
  else if kind = 2 then clampI (-8388608) 8388607 ((2 * l.i + 2 ^ 21) / 2 ^ 22)
  else if kind = 3 then l.v0
  else if kind = 4 then l.v1
  else if kind = 5 then l.v2
  else if kind = 6 then l.r
  else l.fl.alts

/-- Value of a cell's node. -/
def Cell.node (x : Cell) (kind : Nat) : Int :=
  if kind = 7 then x.onSteps
  else if kind = 8 then x.cs * 256
  else if kind = 9 then x.vs * 256
  else if kind = 0xA then x.aux * 256
  else clampI (-8388608) 8388607 ((2 * x.x + 2 ^ 21) / 2 ^ 22)

/-- Latest completed value of a node; an unused slot gives 0. -/
def State.nodeValue (s : State) (code : Nat) : Int :=
  let kind := code / 256
  let n := code % 256
  if kind = 0x10 then quant s.bus.demandMw
  else if kind = 0x11 then
    match toFin? 48 n with
    | some i => quant s.alloc.target[i]
    | none => 0
  else if kind = 0x12 then
    match toFin? 48 n with
    | some i => quant (s.alloc.factor[i] * 65536)
    | none => 0
  else if 7 ≤ kind ∧ kind ≤ 0xB then
    match toFin? 48 n with
    | some c => s.cells[c].node kind
    | none => 0
  else
    match toFin? 16 n with
    | some k => s.loops[k].node kind
    | none => 0

/-- Entry of trace unit `u`. -/
def State.unit (s : State) (u : TraceNo) (sub : Nat) : Nat := s.cfgN (0x2610 + u) sub

/-- Node codes of the slots in use (2610+u:04 to 0C). -/
def State.unitNodes (s : State) (u : TraceNo) : List Nat := (List.range (s.unit u 4)).map fun i => s.unit u (5 + i)

/-- A node of the clock loop `k`: its own values and its members' (R89); the others are slower nodes. -/
def State.ownNode (s : State) (k : LoopNo) (code : Nat) : Bool :=
  let kind := code / 256
  if kind ≤ 6 ∨ kind = 0xC then decide (code % 256 = k)
  else if kind ≤ 0xB then
    match toFin? 48 (code % 256) with
    | some c => s.isMember k c
    | none => false
  else false

/-- Bytes a unit needs (R88). -/
def State.unitNeed (s : State) (u : TraceNo) : Nat :=
  (s.unit u 0xD + s.unit u 0xE + 1) * s.unit u 4 * 4 + 48

/-- The threshold trigger between two samples (R90). Which pairs cross when one of them equals the level the spec does not say:
the sample that reaches it counts (log 116). -/
def crosses (level : Int) (edge : Nat) (a b : Int) : Bool :=
  let up := decide (a < level) && decide (level ≤ b)
  let down := decide (level < a) && decide (b ≤ level)
  if edge = 0 then up else if edge = 1 then down else up || down

/-- The last `n` of a list. -/
def lastN {α : Type} (n : Nat) (xs : List α) : List α := xs.drop (xs.length - n)

/-- A clock of unit `u`. -/
def State.traceClock (u : TraceNo) (v : List Int) (gap : Bool) (s : State) : State :=
  let t := s.traces[u]
  if (t.st = .armed ∨ t.st = .triggered) ∧ ¬ t.stoppedCapture ∧ ¬ s.seq.recordMode then
    if t.clocks + 1 < s.unit u 3 then s.modTrace u fun t => { t with clocks := t.clocks + 1 }
    else
      let pre := s.unit u 0xD
      let post := s.unit u 0xE
      let now := s.now
      let src := s.unit u 0xF
      let node := s.unit u 0x11
      let per := match toFin? 16 (s.unit u 2) with
        | some k => s.loop k 5
        | none => 0
      let level := s.cfg (0x2610 + u) 0x12
      let edge := s.unit u 0x13
      s.modTrace u fun t =>
        let t := { t with clocks := 0, flagGap := t.flagGap || gap }
        if t.st = .triggered then
          { t with samples := t.samples ++ [v], post := t.post - 1, st := if t.post ≤ 1 then .done else .triggered }
        else
          let cross := match t.samples.getLast? with
            | some w => crosses level edge (w.getD node 0) (v.getD node 0)
            | none => false
          let trig :=
            if t.flagForced then some 0
            else if (src = 1 ∨ src = 3) ∧ t.eventSeen then some src
            else if src = 2 ∧ cross then some 2 else none
          match trig with
          | some cause =>
            let kept := lastN pre t.samples
            { t with samples := kept ++ [v], trigIndex := kept.length, post := post, trigTime := now, trigSource := cause
                     periodAtTrig := per, st := if post = 0 then .done else .triggered }
          | none => { t with samples := lastN (max pre 1) (t.samples ++ [v]) }
  else s

/-- Every unit clocked by a bus-loop sample (0x10) or a ledger tick (0x11) takes its clock (R89). -/
def State.traceSlow (source : Nat) (s : State) : State :=
  s.each 4 fun u t =>
    if t.unit u 2 = source then t.traceClock u ((t.unitNodes u).map t.nodeValue) t.inGap else t

/-- Boundary of loop `k`: its units keep the slower nodes as they stand (R89). -/
def State.traceBoundary (k : LoopNo) (s : State) : State :=
  s.each 4 fun u t =>
    if t.unit u 2 = k then
      let v := (t.unitNodes u).map t.nodeValue
      t.modTrace u fun x => { x with slow := v }
    else t

/-- End of loop `k`'s period: the sample holds the loop's own nodes now and the slower ones of the boundary (R89). -/
def State.traceLoop (k : LoopNo) (gap : Bool) (s : State) : State :=
  s.each 4 fun u t =>
    if t.unit u 2 = k then
      let nodes := t.unitNodes u
      let v := nodes.zipIdx.map fun p => if t.ownNode k p.1 then t.nodeValue p.1 else t.traces[u].slow.getD p.2 0
      t.traceClock u v gap
    else t

/-- The flutter detector of loop `k` fires: the units clocked by it that wait for it trigger on their next sample (R90). -/
def State.traceFlutter (k : LoopNo) (s : State) : State :=
  s.each 4 fun u t =>
    if t.unit u 2 = k ∧ t.unit u 0xF = 3 ∧ t.traces[u].st = .armed then t.modTrace u fun x => { x with eventSeen := true }
    else t

/-- A stop of loop `k`: the units clocked by it stop capturing (Table 04-12). The state they then show the spec does not give: they
stay ARMED or TRIGGERED, so CAPTURE stays empty until the next ARM (log 117). -/
def State.traceStop (k : LoopNo) (s : State) : State :=
  s.each 4 fun u t =>
    if t.unit u 2 = k ∧ (t.traces[u].st = .armed ∨ t.traces[u].st = .triggered) then
      t.modTrace u fun x => { x with stoppedCapture := true }
    else t

/-- Header of the capture record (Table 04-11), from the configuration of the capture. -/
def State.captureHeader (s : State) (u : TraceNo) : Bytes :=
  let t := s.traces[u]
  let codes := (List.range 8).flatMap fun i => le 2 (t.codes.getD i 0)
  let flags := b2n t.flagGap + 2 * b2n t.flagForced + 4 * b2n (decide (t.trigIndex < t.preDepth))
  let b := byte u ++ byte t.codes.length ++ le 2 flags ++ le 4 t.samples.length ++ le 4 t.trigIndex ++ le 6 t.trigTime
    ++ le 2 t.trigSource ++ codes ++ byte t.source ++ [0] ++ le 2 t.decimate ++ le 4 t.periodAtTrig
  b ++ le 4 (crc32 b)

/-- CAPTURE reads the record once the unit is DONE (R91). -/
def State.capture (s : State) (u : TraceNo) : Bytes :=
  if s.traces[u].st = .done then
    s.captureHeader u ++ s.traces[u].samples.flatMap fun v => v.flatMap fun x => leI 4 x
  else []

/-- PRE_CAPTURED: samples held before the trigger. -/
def Trace.preCaptured (t : Trace) : Nat :=
  match t.st with
  | .triggered | .done => t.trigIndex
  | .armed => min t.preDepth t.samples.length
  | .idle => 0

/-- ARM (R88, R89): the nodes exist and the moth-trap memory suffices. Until the clock loop's next boundary the slower nodes are
those at ARM (log 118). -/
def armUnit (u : TraceNo) (s : State) : Nat × State :=
  let others := sumOf 4 fun v => if v = u then 0 else s.traces[v].memory
  if !(s.unitNodes u).all nodeOk then (0x06090030, s)
  else if others + s.unitNeed u > 262144 ∨ s.badBanks.contains .mothTrap then (0x05040005, s)
  else
    (0, s.modTrace u fun _ =>
      { Trace.reset with st := .armed, memory := s.unitNeed u, slow := (s.unitNodes u).map s.nodeValue, codes := s.unitNodes u
                         source := s.unit u 2, decimate := s.unit u 3, preDepth := s.unit u 0xD })

/-- FORCE_TRIGGER: an armed unit triggers on its next sample, unless a trigger came before (R90). -/
def forceUnit (u : TraceNo) (s : State) : Nat × State :=
  (0, if s.traces[u].st = .armed ∧ s.traces[u].eventSeen = false then s.modTrace u fun t => { t with flagForced := true } else s)

/-- DISARM: the unit is IDLE and its memory free (R88). -/
def disarmUnit (u : TraceNo) (s : State) : Nat × State := (0, s.modTrace u fun _ => Trace.reset)

/-- COMMAND (2610+u:14). -/
def writeTraceCommand (u : TraceNo) (v : Nat) (s : State) : Nat × State :=
  if v = 0 then (0, s)
  else if v = 1 then armUnit u s
  else if v = 2 then forceUnit u s
  else if v = 3 then disarmUnit u s
  else (0x06090030, s)

/-- A unit's configuration is writable in IDLE and DONE (R88). -/
def writeTraceConfig (u : TraceNo) (sub : Nat) (v : Int) (s : State) : Nat × State :=
  if s.traces[u].st = .idle ∨ s.traces[u].st = .done then (0, s.setWritten (0x2610 + u) sub v) else (0x08000022, s)

end Sys2Proof.Machine
end

