-- ==== Sys2Proof/Machine/Loops.lean ====
section
/-! DEFINITION. Machine/Loops.lean: what every rule of a loop shares: running members and the lead (R63), timing (R68),
offsets (R73, R103), capacity (R97), start (R113), stop, drop (R118) and weights (R99). -/

namespace Sys2Proof.Machine

/-- PWM steps in a microsecond (R71). -/
def stepsPerUs : Nat := 20480

/-- The group of a LINE member runs its converter (R126). -/
def State.lineRuns (s : State) (c : CellNo) : Bool :=
  match s.groupOf c with
  | some g => s.groups[g].st.run
  | none => false

/-- A member that would run but for its cell's state: not dropped, not shed, and its group runs if it is LINE. -/
def State.joins (s : State) (k : LoopNo) (c : CellNo) : Bool :=
  s.isMember k c && !s.loops[k].dropped.getLsbD c && !s.loops[k].shed.getLsbD c
    && (s.cells[c].role = .phase || (s.cells[c].role = .line && s.lineRuns c))

/-- A running member (R63, R102, R126). -/
def State.runs (s : State) (k : LoopNo) (c : CellNo) : Bool :=
  s.joins k c && (s.cells[c].st = .inService || s.cells[c].st = .starting)

/-- Running members, rising. -/
def State.running (s : State) (k : LoopNo) : List CellNo := pick 48 fun c => s.runs k c

/-- Members that the lanes compute: the running ones, and one whose share is draining (R56). -/
def State.computing (s : State) (k : LoopNo) : List CellNo :=
  pick 48 fun c => s.joins k c && (s.cells[c].st = .inService || s.cells[c].st = .starting || s.cells[c].st = .draining)

/-- Members that count in N_a and the interleave: running, and not ramping in (R100). -/
def State.counted (s : State) (k : LoopNo) : List CellNo :=
  (s.running k).filter fun c => !(s.cells[c].weightGoal = 1 && decide (s.cells[c].weight < 1))

/-- The lowest-numbered running member: the lead cell from the next loop boundary on (R63). -/
def State.lead (s : State) (k : LoopNo) : Option CellNo := (s.running k).head?

/-- The member whose next period begins a loop period: the lead cell in force while it runs, else the next in order, else the
lowest member (R63, R126). -/
def State.keeper (s : State) (k : LoopNo) : Option CellNo :=
  match s.loops[k].leadCell.filter (s.runs k), s.lead k with
  | some c, _ => some c
  | none, some c => some c
  | none, none => (s.members k).head?

/-- All members are LINE (R126, R153). -/
def State.allLine (s : State) (k : LoopNo) : Bool :=
  (s.members k) ≠ [] && (s.members k).all fun c => s.cells[c].role = .line

/-! Timing (R68, R69). -/

/-- PERIOD_MIN_STEPS and PERIOD_MAX_STEPS with their zero meanings. -/
def State.periodMin (s : State) (k : LoopNo) : Nat := if s.loop k 6 = 0 then s.loop k 5 else s.loop k 6
/-- Longest period that synchronisation or derating may set. -/
def State.periodMax (s : State) (k : LoopNo) : Nat := if s.loop k 0x75 = 0 then s.loop k 5 else s.loop k 0x75

/-- Period of `n` steps in ns: a step is 48.828125 ps. -/
def stepsNs (n : Rat) : Rat := n * 48828125 / 1000000000

/-- Conversion time of a cell in ns: 250 for analog sensing, 0 in bitstream mode (R68). -/
def Cell.tConv (x : Cell) : Rat := if csMode x.pinMode = 3 then 0 else 250

/-- Offset of the m-th of n members for a period (R73). -/
def State.offsetFor (s : State) (k : LoopNo) (c : CellNo) (m n p : Nat) : Nat :=
  if s.loop k 7 = 0 then (2 * m * p + n) / (2 * n)
  else if s.loop k 7 = 1 then 0
  else s.loop k (0x30 + c)

/-- What a member lacks in ns of the condition of R68 at a shortest period, 0 or less when it meets it. -/
def State.lacks (s : State) (k : LoopNo) (lead c : CellNo) (m n pMin : Nat) : Rat :=
  let t := stepsNs pMin
  let sp := fun c : CellNo => (s.cell c 0xB : Rat) * t / 256 + s.cells[c].tConv
  if c = lead then sp c + 325 / 4 + 523 / 8 - t
  else
    let o := stepsNs (s.offsetFor k c m n pMin)
    max (o + sp c + 24) (sp lead + 24 + 175 / 4) + 75 / 2 + 331 / 8 - (o + t)

/-- The first running member whose timing fails, with the missing time; while the loop stands still, of the members that a start
would run (R63, R69). -/
def State.timingFail (s : State) (k : LoopNo) (pMin : Nat) : Option (CellNo × Rat) :=
  let l := s.loops[k]
  let ms := (s.members k).filter fun (c : CellNo) =>
    (s.cells[c].st = .inService || s.cells[c].st = .starting) && !l.dropped.getLsbD c && !(l.active && l.shed.getLsbD c)
  match ms with
  | [] => none
  | lead :: _ =>
    ms.zipIdx.findSome? fun p =>
      let d := s.lacks k lead p.1 p.2 ms.length pMin
      if 0 < d then some (p.1, d) else none

/-- Event 0x2011 of a failed check. -/
def State.scheduleRejected (k : LoopNo) (p : CellNo × Rat) (s : State) : State :=
  s.event s.srcLane 0x2011 k (byte p.1 ++ le 4 (quantN p.2))

/-! Capacity (R97). -/

/-- Share of the capacity a derating step leaves, in per cent (Table 11-3). -/
def State.deratePct (s : State) (k : LoopNo) : Nat :=
  let d := s.loops[k].derate
  if d = 2 then s.cfgN 0x2400 0xB else if d = 3 then s.cfgN 0x2400 0xC else 100

/-- Members that are running or shed, neither dropped nor drained (R97). -/
def State.live (s : State) (k : LoopNo) : Nat :=
  (pick 48 fun c => s.isMember k c && !s.loops[k].dropped.getLsbD c
    && (s.cells[c].role = .phase || s.cells[c].role = .line)
    && (s.cells[c].st = .inService || s.cells[c].st = .starting)
    && (s.loops[k].shed.getLsbD c || s.runs k c)).length

/-- Capacity of a loop that runs or starts; a stopped loop has none (R87, R97). -/
def State.capacity (s : State) (k : LoopNo) : Nat :=
  if s.loops[k].st = .running ∨ s.loops[k].st = .starting then s.live k * s.loop k 0x60 * s.deratePct k / 100 else 0

/-- Recompute CAPACITY_W; a fall records event 0x2023 and is handed to the planning layer (R97). -/
def State.recapacity (k : LoopNo) (s : State) : State :=
  let w := s.capacity k
  let cut := decide (w < s.loops[k].capacityW)
  let s := s.modLoop k fun l => { l with capacityW := w }
  if cut then s.event s.srcLane 0x2023 k (byte k ++ le 4 w) else s

/-! Offsets (R73, R103). -/

/-- Goal of a member's offset: its place among the counted members; 0 under ALIGNED (R73). -/
def State.offsetGoal (s : State) (k : LoopNo) (c : CellNo) : Nat :=
  let ms := s.counted k
  if s.loop k 7 = 1 then 0 else
  match ms.idxOf? c with
  | some m => s.offsetFor k c m ms.length s.loops[k].periodInForce
  | none => s.cells[c].offset

/-- A step of an offset towards its goal: the shorter way round, at most P/32 (R103). -/
def offsetStep (p goal off : Nat) : Nat :=
  let d : Int := ((goal : Int) - off + p / 2) % p - p / 2
  (((off : Int) + clampI (-(p / 32 : Nat)) (p / 32 : Nat) d) % p).toNat

/-- Every member's offset takes its goal at once (at a start). -/
def State.placeOffsets (k : LoopNo) (s : State) : State :=
  s.over (s.computing k) fun c t => let o := t.offsetGoal k c; t.modCell c fun x => { x with offset := o }

/-! Weights (R99). -/

/-- A member's ramp has ended: with weight 0 and not draining it is shed and its outputs are low (R100, R102). -/
def State.rampDone (k : LoopNo) (c : CellNo) (s : State) : State :=
  let x := s.cells[c]
  if x.weight = x.weightGoal ∧ x.weight = 0 ∧ x.st ≠ .draining ∧ s.isMember k c ∧ x.role = .phase then
    (s.modLoop k fun l => { l with shed := l.shed ||| BitVec.ofNat 48 (2 ^ (c : Nat)) }).modCell c Cell.outputsLow
  else s

/-- Move a weight by one period of `p` steps along its DRAIN_RAMP in ms (R99). -/
def rampStep (ramp p : Nat) (w goal : Rat) : Rat :=
  if ramp = 0 then goal
  else
    let d : Rat := (p : Rat) / (20480000 * ramp)
    if w < goal then min goal (w + d) else max goal (w - d)

/-- A shed member returns with a weight; its shed bit clears (R100, R101). -/
def State.unshed (k : LoopNo) (c : CellNo) (w : Rat) (s : State) : State :=
  (s.modLoop k fun l => { l with shed := l.shed &&& ~~~BitVec.ofNat 48 (2 ^ (c : Nat)) }).modCell c fun x =>
    { x with weight := w, weightGoal := 1 }

/-- Shed members that may be added, rising: one that is drained waits for RELEASE (Table 05-1). -/
def State.shedMembers (s : State) (k : LoopNo) : List CellNo :=
  pick 48 fun c => s.loops[k].shed.getLsbD c && (s.cells[c].st = .inService || s.cells[c].st = .starting)

/-- N_a: running members whose ramp is done; one that ramps out no longer counts, so that no shed leaves fewer than PHASES_MIN
(R100). -/
def State.nA (s : State) (k : LoopNo) : Nat := ((s.counted k).filter fun c => s.cells[c].weightGoal = 1).length

/-- Add one shed member back, with a ramp or at once (R100 to R102, event 0x2021). -/
def State.addPhase (k : LoopNo) (c : CellNo) (atOnce : Bool) (cause : Nat) (s : State) : State :=
  let s := s.unshed k c (if atOnce ∨ s.cell c 0xF = 0 then 1 else 0)
  let n := if atOnce then s.nA k else ((s.running k).filter fun x => s.cells[x].weightGoal = 1).length
  s.event s.srcLane 0x2021 c (byte c ++ byte n ++ byte cause)

/-! Stop and start. -/

/-- Outputs of every PHASE member low, and its result dropped; a cell under HOLD goes on switching (R50). -/
def State.membersLow (k : LoopNo) (s : State) : State :=
  s.over ((s.members k).filter fun c => s.cells[c].role = .phase) fun c t => t.modCell c Cell.stopOutputs

/-- Braking ends, with its event (R112). -/
def State.endBrake (k : LoopNo) (armed : Bool) (s : State) : State :=
  if s.loops[k].braking then
    let n := s.loops[k].brakeCount
    let s := s.modLoop k fun l => { l with braking := false, brakeDue := false, brakeArmed := armed
                                           stage := if l.stage = .braking then .continuous else l.stage }
    s.event s.srcLane 0x2029 k (byte k ++ byte n)
  else s

/-- The loop's own states cleared (R115). -/
def Loop.cleared (l : Loop) : Loop :=
  { l with r := 0, e := 0, i := 0, d := 0, v0 := 0, v1 := 0, v2 := 0, bq1 := Biquad.reset, bq2 := Biquad.reset, iBar := 0
           fl := Flutter.reset, burstLeft := 0, burstAsleep := false, burstExit := false, wakeDue := false, sleepPeriods := 0, shortSleeps := 0
           braking := false, brakeCount := 0, brakeDue := false, brakeArmed := true, shortRun := 0, compAll := 0
           compSeen := false, pgIn := 0, pgRun := 0, pgOutRun := 0, iOutMa := 0, pOutMw := 0 }

/-- A member's states cleared. -/
def Cell.clearedMember (x : Cell) : Cell :=
  { x with x := 0, c := 0, clampHi := false, clampLo := false, bq := Biquad.reset, devRun := 0, stuckRun := 0, compRun := 0
           compThis := false, nextSteps := 0, lostSample := false, lostCommand := false }

/-- States of a loop and its members cleared. -/
def State.clearStates (k : LoopNo) (s : State) : State :=
  s.over (s.members k) (fun c t => t.modCell c Cell.clearedMember) |>.modLoop k Loop.cleared

/-- Stop a loop: outputs low, PG falls, its units stop capturing, its capacity goes, and its LINE groups stop with cause
0x0B (R87, R92, R112, R114, Table 06-3); a LINE cell under HOLD keeps its drive (R50). -/
def State.stopLoop (k : LoopNo) (st : LoopState) (cause : Nat) (s : State) : State :=
  let s := s.endBrake k true
  let s := s.modLoop k fun l =>
    { l with st := st, stage := .continuous, stopCause := cause, pg := false, pgRun := 0, brakeDue := false
             burstAsleep := false, burstExit := false, wakeDue := false, gridOn := false, waitMs := 0 }
  let s := (s.membersLow k).traceStop k
  let s := s.over ((s.members k).filter fun c => s.cells[c].role = .line && !s.cells[c].holding) fun c t => t.stopCellGroup c 0xB
  s.recapacity k

/-- Present V_out over target of a loop, Q1.23 of VS full scale, in VOLT mode (R74). -/
def State.vrefQ (s : State) (k : LoopNo) : Int :=
  let ratio := s.loop k 9
  if ratio = 0 then 0 else satR ((s.loop k 8 : Rat) * 10 * 8388608 / (18 * ratio))

/-- Bus setpoint in mV, or VREF_MV in VOLT mode: V_ref of R112. -/
def State.vRefMv (s : State) (k : LoopNo) : Rat :=
  if s.controlMode k = 1 then s.loop k 8 else s.bus.vSetMv

/-- LOOP_START (R113): every member starts, none shed; the ramp begins with PWB low, the offsets take their places, the states are
clear, and the first boundary is the first period of the lead cell. -/
def State.startLoop (k : LoopNo) (s : State) : State :=
  let s := s.clearStates k
  let s := s.over (s.shedMembers k) fun c t => t.unshed k c 1
  let v := match s.lead k with
    | some c => s.cells[c].vs * 256
    | none => 0
  let target := s.vrefQ k
  let per := if s.loops[k].sync = .free then s.loop k 5 else s.loops[k].periodInForce
  let at_ := s.clk.timeUs * stepsPerUs
  let s := s.modLoop k fun l =>
    { l with st := .starting, stage := .softStart, stopCause := 0, ssSteps := 0, r0 := min v target, pg := false, waitMs := 0
             periodInForce := per, boundaryAt := at_, overruns := [], leadCell := none, seen := 0, gridOn := false
             returnCause := 0 }
  let s := if s.loops[k].started then s
    else (s.setWritten (0x3100 + k) 0xD 1).modLoop k fun l => { l with started := true }
  (s.placeOffsets k).recapacity k

/-- The mode lets a loop start: not DORMANT, SETTLING or safe; in HOLDUP a PHASE loop needs its start input (R406). -/
def State.modeStarts (s : State) (k : LoopNo) : Bool :=
  !s.modes.safe && !s.seq.recordMode && !s.inModes [.dormant, .settling] && s.modes.mode.isSome
    && !(s.inModes [.holdup] && s.isPhaseLoop k && !s.loops[k].startQualified)

/-- A loop that is enabled and turned on by sequencing starts if it stands still (R113). -/
def State.tryStart (k : LoopNo) (s : State) : State :=
  if s.enabled k ∧ s.loops[k].st = .stopped ∧ s.loops[k].railOn ∧ s.modeStarts k then s.startLoop k else s

/-- HOLDUP holds a loop with PHASE members until its start input qualifies (Table 02-1, R406). -/
def State.heldInput (s : State) (k : LoopNo) : Bool := s.inModes [.holdup] && s.isPhaseLoop k && !s.loops[k].startQualified

/-- A retry of R116: the loop starts, or stays stopped where HOLDUP holds it. -/
def State.restartLoop (k : LoopNo) (s : State) : State :=
  if s.heldInput k then s.modLoop k fun l => { l with st := .stopped, stage := .continuous } else s.startLoop k

/-- Sequencing turns a loop on (Table 10-1). -/
def State.loopOn (k : LoopNo) (s : State) : State :=
  (s.modLoop k fun l => { l with railOn := true }).tryStart k

/-- Sequencing turns a loop off: a running or waiting loop stops, and no retry follows (R116, Table 10-1). -/
def State.loopOff (k : LoopNo) (s : State) : State :=
  let s := s.modLoop k fun l => { l with railOn := false }
  if s.loops[k].st = .starting ∨ s.loops[k].st = .running then s.stopLoop k .stopped s.loops[k].stopCause else s

/-- The coefficient words of a loop, by their keys (Table 04-6). -/
def coefKeys (k : LoopNo) : List Nat :=
  [0x4100, 0x4110, 0x4120].flatMap fun base => (List.range 27).map fun j => keyOf (base + k) (j + 1)

/-- An uncorrectable read of loop memory stops the loop; its cells take their safe actions, a cell under HOLD switching on (R13,
R50, R92). Until every coefficient word of the loop has landed again its memory counts as not rewritten (Table 03-8, log 119).
Which word failed and who the record names as requester the spec does not say: free values (log 3). -/
def State.loopMemoryError (k : LoopNo) (s : State) : State :=
  let (addr, s) := s.fresh
  let (who, s) := s.fresh
  let s := s.event 0x47 0xB002 k (byte 2 ++ le 4 addr ++ byte who)
  let s := s.over (s.members k) fun c t => t.setSafe c 4
  (s.stopLoop k .stoppedByCause 4).modLoop k fun l => { l with rewrite := coefKeys k }

/-! Dropped members (R117 to R119). -/

/-- Causes of event 0x2022. -/
def dropCode : DropCause → Nat
  | .deviation => 1 | .stuckSense => 2 | .invalidSense => 3 | .driverFault => 4 | .startShort => 5

/-- Drop a member: outputs low, its bit set, capacity cut; the last one stops the loop with STOP_CAUSE 0x05 (R118), in a start too,
where R115 would abort for too few members: the spec does not say which applies, and the stop is taken (log 120). -/
def State.dropMember (k : LoopNo) (c : CellNo) (cause : DropCause) (s : State) : State :=
  let s := (s.modCell c fun x => { x.stopOutputs with repaired := false }).modLoop k fun l =>
    { l with dropped := l.dropped ||| BitVec.ofNat 48 (2 ^ (c : Nat)), shed := l.shed &&& ~~~BitVec.ofNat 48 (2 ^ (c : Nat)) }
  let s := s.event s.srcLane 0x2022 c (byte c ++ byte (dropCode cause))
  let s := if s.cells[c].role = .line then s.stopCellGroup c 6 else s
  let s := s.recapacity k
  if s.isPhaseLoop k ∧ s.running k = [] ∧ s.loops[k].active then s.stopLoop k .stoppedByCause 5 else s

/-! The set in force (R81, R82). -/

/-- Set of a profile (Table 02-6). -/
def profileSet (p : Nat) : SetName := if p = 3 then .set1 else .set0

/-- A set switch at a boundary (R81): causes 1 host, 2 profile, 3 flutter, 4 resume. -/
def State.switchSet (k : LoopNo) (s : State) : State :=
  match s.loops[k].setNext with
  | some (n, cause) =>
    let old := s.loops[k].setInForce
    let s := s.modLoop k fun l =>
      { l with setNext := none, setInForce := n, safeByFlutter := n = .safe && decide (cause = 3)
               resumeSet := if n = .safe ∧ old ≠ .safe then old else l.resumeSet }
    if old = n then s else s.event s.srcLane 0x2005 k (byte old.code ++ byte n.code ++ byte cause)
  | none => s

/-- Coefficients of a set in loop memory (Table 04-6). -/
def State.coefs (s : State) (k : LoopNo) (n : SetName) : CoefSet :=
  let w := fun sub => s.cfg (0x4100 + 16 * n.code + k) sub
  { flags := (w 1).toNat, kp := w 2, ki := w 3, kd := w 4, kdf := w 5, pidShift := w 6, imax := w 7, imin := w 8
    b10 := w 9, b11 := w 0xA, b12 := w 0xB, a11 := w 0xC, a12 := w 0xD, shift1 := w 0xE
    b20 := w 0xF, b21 := w 0x10, b22 := w 0x11, a21 := w 0x12, a22 := w 0x13, shift2 := w 0x14
    kff := w 0x15, vinNom := w 0x16, kpi := w 0x17, kii := w 0x18, innerShift := w 0x19, xmax := w 0x1A, xmin := w 0x1B }

/-- Power a member is rated for, in mA at a voltage in mV; 0 at no voltage. -/
def ratedMa (watts : Nat) (mv : Rat) : Rat := if mv ≤ 0 then 0 else (watts : Rat) * 1000000 / mv

end Sys2Proof.Machine
end

