-- ==== Sys2Proof/Machine/LoopPeriod.lean ====
section
/-! DEFINITION. Machine/LoopPeriod.lean: one period of a loop's member (R66): the loop boundary of the lead cell, the
samples, the two paths, and the stage tests that run on them. -/

namespace Sys2Proof.Machine

/-! The period in force (R107 to R110, R246, R383). -/

/-- Mean of the last four SYNCIN intervals in steps (R107). -/
def SyncPins.mean (p : SyncPins) : Option Rat :=
  match p.edges with
  | a :: _ :: _ :: _ :: e :: _ => some (((a : Rat) - e) / 4)
  | _ => none

/-- Target period of a synchronised loop (R107). -/
def State.syncTarget (s : State) (k : LoopNo) : Option Rat := s.syncPins.mean.map fun m => m * s.loop k 0x73

/-- Period target without synchronisation: PERIOD_STEPS, or the longer period of derating step 1 (Table 11-3, R383). -/
def State.freeTarget (s : State) (k : LoopNo) : Nat :=
  let p := s.loop k 5
  let d := min (p * (1000 + s.cfgN 0x2400 0xA) / 1000) (s.periodMax k)
  let a := if 1 ≤ s.loops[k].derate ∧ s.loop k 0x72 = 0 then d else p
  let b := if s.clk.regionDiff ∧ s.loop k 0x75 ≠ 0 then d else p
  max a b

/-- Change a period may make at one boundary: 0.5 % of its value per ms (R108). -/
def slewPerPeriod (p : Nat) : Rat := (p : Rat) * p / 4096000000

/-- Phase error of a boundary against the SYNC_DIV-th edges plus SYNC_PHASE, in steps (R107, R108). -/
def State.phaseError (s : State) (k : LoopNo) (mean target : Rat) : Int :=
  let edge : Rat := (s.syncPins.edges.head?).getD 0
  let ref := edge - ((s.syncPins.count % max 1 (s.loop k 0x73) : Nat) : Rat) * mean + s.loop k 0x74
  let x := (s.loops[k].boundaryAt : Rat) - ref
  if target ≤ 0 then 0 else roundR (x - target * ((x / target + 1 / 2).floor : Rat))

/-- The period of the next loop period, set at a boundary (R108 to R110). -/
def State.stepPeriod (k : LoopNo) (s : State) : State :=
  let l := s.loops[k]
  let p := l.periodInForce
  let inc := slewPerPeriod p
  let credit := min (l.slew + inc) (inc + 1)
  let most : Int := credit.floor
  let sync : SyncState :=
    if s.loop k 0x72 = 0 ∧ (l.sync = .acquiring ∨ l.sync = .locked ∨ l.sync = .outOfRange) then .returning else l.sync
  let goTo := fun t : Int => clampI (s.periodMin k) (s.periodMax k) ((p : Int) + clampI (-most) most (t - p))
  let free := s.freeTarget k
  let (p', err, run, sync') :=
    match sync, s.syncTarget k, s.syncPins.mean with
    | .acquiring, some t, some mean | .locked, some t, some mean =>
      let err := s.phaseError k mean t
      let run := if err.natAbs ≤ 16 then l.lockRun + 1 else 0
      if 16 < |t - p| then (goTo (roundR t), err, run, sync)
      else (goTo (roundR t - clampI (-(p / 256 : Nat)) (p / 256 : Nat) err), err, run, sync)
    | .free, _, _ =>
      let q := ((p : Int) + clampI (-most) most ((free : Int) - p))
      (q, 0, 0, SyncState.free)
    | st, _, _ =>
      let q := ((p : Int) + clampI (-most) most ((free : Int) - p))
      (q, 0, 0, if st = SyncState.returning ∧ q = free then SyncState.free else st)
  let used := (p' - p).natAbs
  s.modLoop k fun l =>
    { l with periodInForce := p'.toNat, slew := credit - used, phaseErr := err, lockRun := run, sync := sync' }

/-! The loop boundary. -/

/-- Every shed member returns at once after a comparator has ended a pulse, a ramping one steps to full weight, and the shed dwell
count restarts (R101, Table 05-1). -/
def State.comparatorAdd (k : LoopNo) (s : State) : State :=
  let l := s.loops[k]
  if l.compSeen then
    let s := s.over (s.shedMembers k) fun c t => t.addPhase k c true 2
    let s := s.over (s.running k) fun c t => t.modCell c fun x => { x with weight := 1, weightGoal := 1 }
    s.modLoop k fun l => { l with compSeen := false, compAll := l.compAll + l.periodInForce, shedRun := 0 }
  else s.modLoop k fun l => { l with compAll := 0 }

/-- Braking begins or ends at a boundary (R112). It may begin in the switch phase of a burst, where STAGE_STATE goes on showing burst
(R105, log 123), and ends when the loop falls asleep. -/
def State.brakeBoundary (k : LoopNo) (s : State) : State :=
  let l := s.loops[k]
  let low := decide (l.vOutMv < s.vRefMv k * (1 + (s.loop k 0x6B : Rat) / 2000))
  if l.braking then
    if s.loop k 0x6C ≤ l.brakeCount ∨ low ∨ l.st ≠ .running ∨ l.burstAsleep then s.endBrake k low
    else s.modLoop k fun l => { l with brakeCount := l.brakeCount + 1 }
  else if l.brakeDue ∧ l.st = .running ∧ (l.stage = .continuous ∨ l.stage = .burst ∧ l.burstAsleep = false) then
    s.modLoop k fun l => { l with braking := true, brakeDue := false, brakeCount := 1, brakeArmed := false
                                  stage := if l.stage = .burst then .burst else .braking }
  else s.modLoop k fun l => { l with brakeDue := false, brakeArmed := l.brakeArmed || low }

/-- Burst counts its switch phase, falls asleep, wakes, or ends (R105, R106). -/
def State.burstBoundary (k : LoopNo) (s : State) : State :=
  let l := s.loops[k]
  if l.stage = .burst then
    if l.burstExit then
      let s := s.modLoop k fun l =>
        { l with stage := if l.braking then .braking else .continuous, burstExit := false, burstAsleep := false, wakeDue := false
                 shortSleeps := 0 }
      s.event s.srcLane 0x2025 k (byte k)
    else if l.burstAsleep then
      if l.wakeDue then
        let n := s.loop k 0x68
        s.modLoop k fun l => { l with burstAsleep := false, wakeDue := false, burstLeft := n - 1 }
      else s
    else if l.burstLeft = 0 then
      (s.modLoop k fun l => { l with burstAsleep := true, wakeDue := false, sleepPeriods := 0 }).membersLow k
    else s.modLoop k fun l => { l with burstLeft := l.burstLeft - 1 }
  else s

/-- V_out within the power-good window of VREF_MV; always so outside VOLT mode, or with PG_WINDOW 0 (R114). -/
def State.inPgWindow (s : State) (k : LoopNo) : Bool :=
  let v := s.loops[k].vOutMv
  let ref : Rat := s.loop k 8
  let w : Rat := s.loop k 0x71
  decide (s.controlMode k ≠ 1) || decide (w = 0) || decide (|v - ref| ≤ ref * w / 1000)

/-- Power-good at a boundary, on the latest V_out (R114, R116): the time inside its window since the ramp ended, the periods outside it,
PG's fall after 16 of them, and how long PG has been 1. -/
def State.pgBoundary (k : LoopNo) (s : State) : State :=
  let win := s.inPgWindow k
  s.modLoop k fun l =>
    let run := l.st = .running
    let out := if run ∧ !win then l.pgOutRun + 1 else 0
    let l := { l with pgIn := if run ∧ win then l.pgIn + l.periodInForce else 0, pgOutRun := out
                      pgRun := if l.pg then l.pgRun + l.periodInForce else 0 }
    if 16 ≤ out then { l with pg := false, pgIn := 0, pgRun := 0 } else l

/-- Mean of the running members' latest samples, Q1.23 (R99). -/
def State.meanI (s : State) (k : LoopNo) : Int :=
  let ms := s.running k
  if ms = [] then 0 else roundR (((ms.map fun c => s.cells[c].iNow).foldl (· + ·) 0 : Int) / (ms.length : Rat))

/-- Weight share of a member: ω·N/W over the running members (R99). -/
def State.rhoNow (s : State) (k : LoopNo) (m : CellNo) : Rat :=
  let ms := s.running k
  let w := (ms.map fun c => s.cells[c].weight).foldl (· + ·) 0
  if w = 0 then 1 else s.cells[m].weight * ms.length / w

/-- Time passes by one period on a loop's boundary grid: the ramp and the grid advance (R63, R113). -/
def Loop.gridStep (l : Loop) : Loop :=
  if l.gridOn then { l with ssSteps := l.ssSteps + l.periodInForce, boundaryAt := l.boundaryAt + l.periodInForce }
  else { l with gridOn := true }

/-- The loop boundary: adoption, set switch, the lead cell, the snapshot of coefficients, references, targets and shares, the period
and the stage changes (R63, R67, R81, R99, R108, Table 14-7). -/
def State.boundary (k : LoopNo) (s : State) : State :=
  let s := s.traceBoundary k
  let s := (s.adoptSet ⟨3, k, 0xFF⟩).adoptSet ⟨4, k, 0xFF⟩
  let s := s.switchSet k
  let snap := s.coefs k s.loops[k].setInForce
  let s := s.comparatorAdd k
  let iBar := s.meanI k
  let lead := s.lead k
  let first := !s.loops[k].gridOn
  let s := s.modLoop k fun l =>
    { l.gridStep with snap := snap, iBar := iBar, refSnap := l.ref, leadCell := lead, seen := 0, overruns := (0 :: l.overruns).take 64 }
  let s := s.over (s.computing k) fun c t =>
    let rho := t.rhoNow k c
    t.modCell c fun x => { x with targetSnap := x.target, rho := rho }
  let s := if first then s else s.stepPeriod k
  ((s.brakeBoundary k).burstBoundary k).pgBoundary k

/-- Member `m`'s next period begins a loop period: it keeps the grid, and its period of the present loop period has begun, or the grid
is to begin (R63). -/
def State.boundaryDue (s : State) (k : LoopNo) (m : CellNo) : Bool :=
  s.keeper k = some m && (!s.loops[k].gridOn || s.loops[k].seen.getLsbD m)

/-! References (R74, R98, R113). -/

/-- Time since the start as a share of SS_TIME. -/
def State.rampShare (s : State) (k : LoopNo) : Rat :=
  let t := s.loop k 0x6D
  if t = 0 then 1 else min 1 ((s.loops[k].ssSteps : Rat) / (stepsPerUs * t))

/-- A current in mA as the mean CS of `n` members, Q1.23 of full scale. -/
def maToQ (ma : Rat) (n ifs : Nat) : Int := if n * ifs = 0 then 0 else satR (ma * 8388608 / (n * ifs))

/-- Reference r[k] of the outer path. -/
def State.refNow (s : State) (k : LoopNo) : Int :=
  let l := s.loops[k]
  let starting := l.st = .starting
  if s.controlMode k = 1 then
    let target := s.vrefQ k
    if starting then min target (l.r0 + roundR (target * s.rampShare k)) else target
  else
    let n := (s.running k).length
    let ifs := s.loop k 0x61
    let cap := if l.vOutMv ≤ 0 then l.refSnap else min l.refSnap (maToQ (ratedMa l.capacityW l.vOutMv) n ifs)
    if starting then
      let rated := ratedMa (s.loop k 0x60 * (s.members k).length) s.bus.vSetMv
      min cap (maToQ (s.rampShare k * rated) n ifs)
    else cap

/-- Current target of a member in CELL_TARGET mode, from the snapshot, under its own ramp (R67, R113, R131, R148). -/
def State.cellTarget (s : State) (k : LoopNo) (c : CellNo) : Int :=
  let x := s.cells[c]
  match s.groupOf c with
  | some g =>
    let ss := s.loop k 0x6D
    let share : Rat := if ss = 0 then 1 else min 1 ((s.groups[g].rampSteps : Rat) / (stepsPerUs * ss))
    let ifs := s.group g 0x11
    if s.groups[g].st = .starting ∧ ifs ≠ 0 then
      min x.targetSnap (satR (share * (s.group g 5 * 1000) * 8388608 / ifs))
    else x.targetSnap
  | none =>
    if s.loops[k].st = .starting then
      min x.targetSnap (maToQ (s.rampShare k * ratedMa (s.loop k 0x60) s.bus.vSetMv) 1 (s.loop k 0x61))
    else x.targetSnap

/-! The member's own period. -/

/-- The result of the last period applies at the period start, unless its command was lost or the cell is held (R10, R50, R66); the
offset and the weight move (R73, R99, R103). -/
def State.beginPeriod (k : LoopNo) (m : CellNo) (s : State) : State :=
  let p := s.loops[k].periodInForce
  let goal := s.offsetGoal k m
  let ramp := s.cell m 0xF
  let s := s.modCell m fun x =>
    { x with onSteps := if x.lostCommand ∨ x.held then x.onSteps else x.nextSteps, lostCommand := false
             offset := if s.loop k 7 = 1 then 0 else offsetStep p goal x.offset
             weight := rampStep ramp p x.weight x.weightGoal
             compRun := if x.compThis then x.compRun + 1 else 0, compThis := false }
  s.rampDone k m

/-- Dead times of a cell in steps for its band in force: DT_RISE and DT_FALL (R72). -/
def State.deadTimes (s : State) (k : LoopNo) (m : CellNo) : Nat × Nat :=
  (s.loop k (0x20 + s.cells[m].calBand), s.loop k (0x26 + s.cells[m].calBand))

/-- PWB of every member is held low: in the start ramp and while braking (R112, R113). -/
def Loop.pwbHeld (l : Loop) : Bool := l.st = .starting || l.braking

/-- Outputs of a member for its period (R72, R112, R113). -/
def State.driveMember (k : LoopNo) (m : CellNo) (s : State) : State :=
  let l := s.loops[k]
  let x := s.cells[m]
  let dt := s.deadTimes k m
  if x.holding then
    if x.onSteps = 0 then s else s.modCell m fun x => x.edges dt.1 dt.2 l.periodInForce (decide (x.pwb = .low))
  else if x.held then s
  else if l.burstAsleep ∨ !s.runs k m ∧ x.st ≠ .draining then s.modCell m Cell.outputsLow
  else s.modCell m (Cell.edges dt.1 dt.2 l.periodInForce l.pwbHeld)

/-- Half of C_LINE times V_end squared, in µJ, from nF and mV (R138). -/
def lineEnergy (nf : Nat) (mv : Rat) : Rat := (nf : Rat) * mv * mv / 2000000000

/-- Peak-to-peak spread of some conversions, none of fewer than two. -/
def spreadOf (lsb : Nat) : List Int → Option Rat
  | a :: b :: r => some (((b :: r).foldl max a - (b :: r).foldl min a : Int) / (lsb : Rat))
  | _ => none

/-- CS of a period (R40, R41): the decimator after its bits, the word to be corrected, and the spread of the conversions. -/
def State.csOf (s : State) (m : CellNo) (x : MemberSample) : Sinc × Rat × Option Rat :=
  let y := s.cells[m]
  if csMode y.pinMode = 3 then
    let (q, outs) := y.csSinc.feed (s.cell m 0xD) x.csBits
    (q, q.out, spreadOf 16 outs)
  else
    let all := x.csAll.map csWord
    (y.csSinc, if s.cell m 0xC = 1 ∧ all ≠ [] then meanWord all else csWord x.csPoint, spreadOf 16 all)

/-- Limits of a group against which its samples are tested: I_LIMIT_MA in µA, E_MAX_MJ in µJ, the lowest V_end and QUAL_OFF_V in mV. -/
structure GroupLimits where
  iUa : Rat
  uj : Nat
  lowMv : Rat
  offMv : Rat

/-- The limits in force (R132, R136): with V_END_MIN_V 0 the lowest V_end is 0.6 of V_open. -/
def State.groupLimits (s : State) (g : GroupNo) : GroupLimits where
  iUa := (s.group g 5 : Rat) * 1000
  uj := s.group g 8 * 1000
  lowMv := if s.group g 6 = 0 then 3 / 5 * (s.groups[g].vOpenMv : Rat) else (s.group g 6 : Rat) * 1000
  offMv := (s.group g 0xB : Rat) * 1000

/-- A group after one period's sample of I_conv in µA and V_end in mV: sums of the interval, energy, and the counts of the stop and held
tests (R125, R132, R136, R138). -/
def Group.sampled (i v : Rat) (uj steps : Nat) (l : GroupLimits) (q : Group) : Group :=
  let high := decide (l.uj < uj)
  { q with iConvUa := i, vEndMv := v, energyUj := uj, sumConv := q.sumConv + i, sumEnd := q.sumEnd + v, convCount := q.convCount + 1
           revRun := if i < -(l.iUa / 40) then q.revRun + 1 else 0
           energyRun := if high then q.energyRun + 1 else 0
           limitRun := if l.iUa < i ∨ v < l.lowMv then q.limitRun + 1 else 0
           lostSteps := if v < l.offMv then q.lostSteps + steps else 0
           overSteps := if high then q.overSteps + steps else 0 }

/-- Samples of a period: corrected words of CS, of VS where it is converted, and of an AUX bitstream, and a LINE group's current and
voltage (R38 to R41, R105, R125). -/
def State.takeSample (m : CellNo) (x : MemberSample) (withVs : Bool) (s : State) : State :=
  let (csq, csRaw, spread) := s.csOf m x
  let stream := auxMode s.cells[m].pinMode = 2
  let (auxq, auxOuts) := s.cells[m].auxSinc.feed (s.cell m 0xD) (if stream then x.auxBits else [])
  let s := s.modCell m fun y =>
    let cs := y.correctCs csRaw
    { y.noteCs s.clk.timeUs cs with
      iNow := cs * 256, vs := if withVs then y.correctVs (vsWord x.vs) else y.vs, csSinc := csq, auxSinc := auxq, spread := spread
      aux := if stream then y.correctAux auxq.out else y.aux
      auxValid := if stream then y.auxValid || auxOuts ≠ [] else y.auxValid }
  match s.groupOf m with
  | some g =>
    let y := s.cells[m]
    let p := (s.loopOf m).elim 0 fun k => s.loops[k].periodInForce
    let i : Rat := (y.cs : Rat) * s.group g 0x11 / 32768
    let v : Rat := (y.aux : Rat) * (s.group g 0x12 * 1000) / 32768
    let e := quantN (lineEnergy (s.group g 7) v)
    s.modGroup g fun q => q.sampled i v e p (s.groupLimits g)
  | none => s

/-- Feed-forward input: the lead cell's latest valid AUX sample (R76). -/
def State.vin (s : State) (m : CellNo) : Option Int :=
  if s.cells[m].auxValid then some (s.cells[m].aux * 256) else none

/-- The outer path and the feed-forward gain, on the lead cell's sample (R75, R76). -/
def State.outerPath (k : LoopNo) (m : CellNo) (s : State) : State :=
  let x := s.cells[m]
  let g := feedForward s.loops[k].snap (s.vin m) s.loops[k].g
  let r := s.refNow k
  let volt := s.controlMode k = 1
  if s.controlMode k = 3 then s.modLoop k fun l => { l with g := g }
  else s.modLoop k fun l => { l.outer r (if volt then x.vs * 256 else l.iBar) x.clampHi x.clampLo with g := g }

/-- The member path (R76, R99, R153): its result is applied at the next period start, or the duty is repeated when the
word is late (R70). -/
def State.innerPath (k : LoopNo) (m : CellNo) (inTime : Bool) (s : State) : State :=
  let l := s.loops[k]
  let x := s.cells[m]
  let mode3 := s.controlMode k = 3
  let (c', sm) := if mode3 then (x.c, 0) else shareStep (s.cfg (0x3100 + k) 0x62) (s.loop k 0x63) x.rho l.iBar x.iNow l.v2 x.c
  let line := x.role = .line ∧ s.allLine k
  let (shape, bq) := if line then l.snap.biquad1 x.bq x.vEndPrev else (0, x.bq)
  let iRef := if mode3 then s.cellTarget k m + (if line ∧ l.snap.has 2 then shape else 0) else l.v2 + sm
  let o := memberPath l.snap (mode3 || l.snap.has 5) iRef x.iNow x.x x.clampHi x.clampLo l.g l.periodInForce
    (s.loop k 0xE) (s.loop k 0xF)
  let s := s.modCell m fun x =>
    { x with x := o.x, c := c', bq := bq, vEndPrev := x.aux * 256, clampHi := o.hi, clampLo := o.lo
             nextSteps := if inTime then o.duty else x.onSteps }
  let s := if mode3 ∧ l.leadCell = some m then s.modLoop k fun l => { l with e := o.e } else s
  if inTime then s
  else
    let s := s.modLoop k fun l =>
      { l with overrunCount := wrap32 (l.overrunCount + 1)
               overruns := match l.overruns with
                 | n :: r => (n + 1) :: r
                 | [] => [1] }
    s.event s.srcLane 0x2003 k []

/-- The flutter detector on e[k] and its action (R85, R87). -/
def State.flutter (k : LoopNo) (s : State) : State :=
  let (fl, fired) := s.loops[k].fl.step (s.loop k 0x13) (s.loop k 0x14) (s.loop k 0x15) (s.loop k 0x16) s.loops[k].e
  let s := s.modLoop k fun l => { l with fl := fl }
  match fired with
  | none => s
  | some (n, old, new) =>
    let s := s.modLoop k fun l => { l with flCount := wrap32 (l.flCount + 1) }
    let s := (s.traceFlutter k).event s.srcLane 0x2010 k (byte n ++ le 4 old ++ le 4 new)
    let again := s.loops[k].setInForce = .safe ∧ s.loops[k].safeByFlutter
    if s.loop k 0x12 = 2 ∨ (s.loop k 0x12 = 1 ∧ again) then s.stopLoop k .stoppedByCause 2
    else if s.loop k 0x12 = 1 then
      s.modLoop k fun l => { l with setNext := some (.safe, 3) }
    else s

/-- Output measures of a loop (R96). -/
def State.measure (k : LoopNo) (m : CellNo) (s : State) : State :=
  let ifs := s.loop k 0x61
  let i : Rat := (((s.running k).map fun c => s.cells[c].iNow).foldl (· + ·) 0 : Int) * ifs / 8388608
  let v : Rat := (s.cells[m].vs : Rat) * 1800 * s.loop k 9 / 32768000
  let p := i * v / 1000
  s.modLoop k fun l =>
    { l with iOutMa := i, vOutMv := v, pOutMw := p, sumI := l.sumI + i, sumP := l.sumP + p, count := l.count + 1
             busI := l.busI + i, busP := l.busP + p, busN := l.busN + 1 }

/-- Stage tests on the lead cell's sample: the low output of a start, braking entry, the exit level of a burst (R106, R112, R115). -/
def State.stageTests (k : LoopNo) (s : State) : State :=
  let l := s.loops[k]
  let p := l.periodInForce
  let mode := s.controlMode k
  let vr : Rat := if mode = 1 then ((s.refNow k : Rat) * 1800 * s.loop k 9 / 8388608000) else 0
  let short := decide (mode = 1) && decide (l.vOutMv < vr / 5)
  let ref := s.vRefMv k
  let level := ref * (1 + (s.loop k 0x6B : Rat) / 1000)
  let above := if s.loop k 0x6B = 0 then decide (ref < l.vOutMv) else decide (level ≤ l.vOutMv)
  let due := decide (mode ≠ 3) && decide (s.loop k 0x6C ≠ 0) && decide (l.st = .running)
    && (decide (l.stage = .continuous) || (decide (l.stage = .burst) && !l.burstAsleep)) && l.brakeArmed && above
  let out := decide (l.stage = .burst) && decide (l.vOutMv ≤ (s.loop k 8 : Rat) * (1 - 2 * (s.loop k 0x69 : Rat) / 1000))
  s.modLoop k fun l =>
    { l with shortRun := if short then l.shortRun + p else 0, brakeDue := due, burstExit := l.burstExit || out }

/-- The failed-phase tests of a PHASE member (R117). A period that the deviation test does not count leaves its run (log 50); one in which
the stuck-sense test does not run, or that holds fewer than two conversions, ends that test's run (log 124). -/
def State.phaseTests (k : LoopNo) (m : CellNo) (s : State) : State :=
  let l := s.loops[k]
  let y := s.cells[m]
  if y.role ≠ .phase ∨ l.burstAsleep ∨ l.braking ∨ y.weight ≠ y.weightGoal then s
  else
    let share := y.rho * l.iBar
    let dev := s.loop k 0x66
    let counts := decide ((s.nA k : Rat) * s.loop k 0x60 * 100 ≤ l.pOutMw) && decide (dev ≠ 0)
    let off := decide ((dev : Rat) / 65536 * share < |(y.iNow : Rat) - share|)
    let rip := s.loop k 0x67
    let mid := decide (l.periodInForce ≤ 20 * y.onSteps) && decide (20 * y.onSteps ≤ 19 * l.periodInForce)
    let stuck := match y.spread with
      | some r => decide (rip ≠ 0) && decide (r < rip) && mid
      | none => false
    s.modCell m fun y =>
      { y with devRun := if counts then (if off then y.devRun + 1 else 0) else y.devRun
               stuckRun := if stuck then y.stuckRun + 1 else 0 }

/-- Burst-sleep sampling rate of the profile (Table 02-6). -/
def sleepRate (profile : Nat) : Nat := if profile = 1 then 16 else if profile = 2 then 4 else 1

/-- VS is converted in the `n`-th period of a burst sleep (R105, Table 02-6). -/
def State.sleepVs (s : State) (n : Nat) : Bool := decide (n % sleepRate s.modes.profile = 0)

/-- A period of the lead cell in burst sleep, on its latest V_out: wake and exit levels (R105, R106). -/
def State.sleepPeriod (k : LoopNo) (s : State) : State :=
  let n := s.loops[k].sleepPeriods + 1
  let v := s.loops[k].vOutMv
  let ref : Rat := s.loop k 8
  let w : Rat := s.loop k 0x69
  let wake := s.sleepVs n && decide (v ≤ ref * (1 - w / 1000))
  let out := s.sleepVs n && decide (v ≤ ref * (1 - 2 * w / 1000))
  let few := decide (n < s.loop k 0x68)
  s.modLoop k fun l =>
    let short := if wake ∧ l.wakeDue = false then (if few then l.shortSleeps + 1 else 0) else l.shortSleeps
    { l with sleepPeriods := n, wakeDue := l.wakeDue || wake, shortSleeps := short
             burstExit := l.burstExit || out || decide (4 ≤ short) }

/-- The member whose period ends last: the largest offset among the running members (R89). -/
def State.lastMember (s : State) (k : LoopNo) : Option CellNo :=
  (s.running k).foldl (fun best c => match best with
    | some b => if s.cells[b].offset ≤ s.cells[c].offset then some c else some b
    | none => some c) none

/-- A period with samples computed. -/
def State.computePeriod (k : LoopNo) (m : CellNo) (inTime isLead : Bool) (s : State) : State :=
  let s := if isLead then s.outerPath k m else s
  let s := s.innerPath k m inTime
  let s := s.phaseTests k m
  if isLead then ((s.measure k m).stageTests k).flutter k else s

/-- A group's ramp advances with time (R113, R131). -/
def State.groupRamp (k : LoopNo) (m : CellNo) (s : State) : State :=
  match s.groupOf m with
  | some g => s.modGroup g fun q => { q with rampSteps := q.rampSteps + s.loops[k].periodInForce }
  | none => s

/-- A member's period in burst sleep: nothing is computed, but on the sample that ends the sleep (R105). -/
def State.asleepPeriod (k : LoopNo) (m : CellNo) (x : MemberSample) (isLead : Bool) (s : State) : State :=
  let n := s.loops[k].sleepPeriods + (if isLead then 1 else 0)
  let s := s.takeSample m x (s.sleepVs n)
  let woke := s.loops[k].wakeDue
  let s := if isLead then (s.measure k m).sleepPeriod k else s
  if s.loops[k].wakeDue ∧ (isLead = false ∨ woke = false) then
    let s := if isLead then s.outerPath k m else s
    s.innerPath k m x.inTime
  else s

/-- Member m's period in a running loop; a lost sample repeats the last output (R10). -/
def State.memberPeriod (k : LoopNo) (m : CellNo) (x : MemberSample) (s : State) : State :=
  let isLead := s.loops[k].leadCell = some m
  let s := ((s.beginPeriod k m).driveMember k m).groupRamp k m
  let s := if s.cells[m].lostSample then s.modCell m fun y => { y with lostSample := false }
    else if s.loops[k].burstAsleep then s.asleepPeriod k m x isLead
    else (s.takeSample m x true).computePeriod k m x.inTime isLead
  if s.lastMember k = some m then s.traceLoop k false else s

/-- A period in a switch-over gap: nothing is computed, the duty is held, and time goes on (R92, R113); the die goes on sampling a LINE
cell for the held tests (R136). -/
def State.gapPeriod (k : LoopNo) (m : CellNo) (x : MemberSample) (s : State) : State :=
  let s := (s.driveMember k m).groupRamp k m
  let s := if s.cells[m].role = .line then s.takeSample m x true else s
  if s.lastMember k = some m then s.traceLoop k true else s

/-- The boundary that member `m`'s period begins: computed, or in a gap only the grid and the counts go on (R63, R92). The member's
period of this loop period has then begun. -/
def State.periodStart (k : LoopNo) (m : CellNo) (s : State) : State :=
  let s := if s.boundaryDue k m then
      if s.inGap then (s.modLoop k fun l => { l.gridStep with seen := 0 }).pgBoundary k else s.boundary k
    else s
  s.modLoop k fun l => { l with seen := l.seen ||| BitVec.ofNat 48 (2 ^ (m : Nat)) }

/-- VS of a cell under HOLD is watched against its value at entry (R50). -/
def Cell.holdWatch (y : Cell) : Cell :=
  { y with holdRun := if y.holdVs.natAbs < 10 * (y.vs - y.holdVs).natAbs then y.holdRun + 1 else 0 }

/-- A member's period in its loop: the boundary it begins, then its own part; a member that does not compute only keeps the grid
(R63, R126). -/
def State.loopMember (k : LoopNo) (m : CellNo) (x : MemberSample) (s : State) : State :=
  let began := s.boundaryDue k m
  let s := s.periodStart k m
  if (s.computing k).contains m then (if s.inGap then s.gapPeriod k m x else s.memberPeriod k m x)
  else if began ∧ s.lastMember k = none then s.traceLoop k s.inGap
  else s

/-- A PHASE cell that no lane computes goes on converting at its sample point (R40) while its loop is not active. -/
def State.samplesIdle (s : State) (k : LoopNo) (m : CellNo) : Bool :=
  s.cells[m].role = .phase && !s.loops[k].active && s.cells[m].st ≠ .testing

/-- LOOP_PERIOD (R66): the cell samples, the lanes compute, the result applies at the next period start. A cell under HOLD keeps its
duty while its VS is watched (R50). -/
def execLoopPeriod (k : LoopNo) (m : CellNo) (x : MemberSample) (s : State) : Out :=
  .next (
    if !s.isMember k m ∨ (s.cells[m].role ≠ .phase ∧ s.cells[m].role ≠ .line) then s
    else
      let hold := s.cells[m].holding
      let s :=
        if s.loops[k].active ∧ (s.inGap ∨ s.lanesRun) then
          if s.lanesRun ∧ !x.memoryOk then s.loopMemoryError k else s.loopMember k m x
        else if hold ∨ s.samplesIdle k m then s.takeSample m x true
        else s
      if hold then s.modCell m Cell.holdWatch else s)

end Sys2Proof.Machine
end

