-- ==== Sys2Proof/Machine/Messages.lean ====
section
/-! DEFINITION. Machine/Messages.lean: EMCY messages and their inhibit (R277), and the EMCY of an error register that has
returned to 0 (Table 13-4). -/

namespace Sys2Proof.Machine

/-- NODE_ID of a CAN port. -/
def State.nodeId (s : State) (p : CanNo) : Nat := s.cfgN (0x2102 + p) 2

/-- A port answers more than LSS: MANAGE runs, no record mode, and it has a node-ID (R271, R283). -/
def State.canUp (s : State) (p : CanNo) : Bool := s.recorderUp && s.nodeId p ≠ 0xFF

/-- A port sends EMCY messages (R277). -/
def State.emcyUp (s : State) (p : CanNo) : Bool :=
  s.canUp p && (s.can[p].port = .active || s.can[p].port = .passive)
    && (s.can[p].nmt = .preOperational || s.can[p].nmt = .operational)

/-- A two-wire port with a host or a downstream regulator, as its settings name them (R36, log 146): a target address, a slot's segment, or
the packs. -/
def State.twUsed (s : State) (p : TwNo) : Bool :=
  s.cfgN (0x2800 + p) 4 ≠ 0xFF || decide ((p : Nat) = 11)
    || (pick 48 fun c => s.cells[c].role = .feeder && s.cell c 0x33 = (p : Nat)) ≠ []

/-- PORT_STATE of a two-wire port (2800+p:07). -/
def State.twShown (s : State) (p : TwNo) : TwState :=
  if !s.recorderUp || !s.twUsed p then .off else if s.tw[p].stretch.isSome then .active
  else if s.tw[p].st = .off then .idle else s.tw[p].st

/-- POLICY_IN_FORCE: 0 LIMITED, 1 NEVER (R316). -/
def State.twPolicy (s : State) (p : TwNo) : Nat :=
  let x := s.cfgN (0x2800 + p) 2
  if x = 2 then (if (p : Nat) = 0 ∨ 8 < s.cfgN (0x2800 + p) 3 then 1 else 0) else x

/-- A port may run a transaction of its own: in use, without a fault, and its SCL free (R318 to R321). -/
def State.twDrives (s : State) (p : TwNo) : Bool :=
  s.recorderUp && s.twShown p ≠ .off && s.twShown p ≠ .fault && s.tw[p].stretch.isNone

/-- A transaction of the part's own ran on a port: a sleeping port has woken for it (R317). -/
def State.twRan (p : TwNo) (s : State) : State := s.modTw p fun x => { x with st := .idle, arbRun := 0 }

/-- Manufacturer bytes filled to five. -/
def emcyBytes (b : Bytes) : Bytes := (b ++ [0, 0, 0, 0, 0]).take 5

/-- Send or queue an EMCY on one port (R277). -/
def State.emcyOn (p : CanNo) (code : Nat) (b : Bytes) (s : State) : State :=
  if s.emcyUp p then
    if s.can[p].inhibited then
      let q := s.can[p].emcyQueue ++ [(code, emcyBytes b)]
      let s := s.modCan p fun x => { x with emcyQueue := q.drop (q.length - 16) }
      match q with
      | (old, _) :: _ => if q.length ≤ 16 then s else s.event (srcManage (8 + p)) 0xA00B 0xFF (byte p ++ le 2 old)
      | [] => s
    else
      (s.send (.emcy p code (emcyBytes b))).modCan p fun x => { x with inhibited := s.cfg 0x1015 0 ≠ 0, emcyUs := s.clk.timeUs }
  else s

/-- Send an EMCY on both ports (R277). -/
def State.emcy (code : Nat) (b : Bytes) (s : State) : State := (s.emcyOn 0 code b).emcyOn 1 code b

/-- EMCY 0x0000 when the error register has returned to 0 since `before` (Table 13-4). -/
def State.errReset (before s : State) : State :=
  if before.errorRegister ≠ 0 ∧ s.errorRegister = 0 then s.emcy 0 [] else s

/-- The command goes on from `s`, with the error reset of Table 13-4 judged against the state before. -/
def settle (before s : State) : Out := .next (State.errReset before s)

/-- A heartbeat is sent on a port (1017h). -/
def State.sendBeat (p : CanNo) (s : State) : State :=
  (s.send (.heartbeat p s.can[p].nmt)).modCan p fun x => { x with beatUs := s.clk.timeUs }

/-- A CAN port that had left its bus rejoins it, in the NMT state it held and with a heartbeat, once PLL S is locked to XIN and MANAGE
runs outside record mode (R374, R388). -/
def State.rejoin (p : CanNo) (s : State) : State :=
  if s.can[p].port = .off ∧ s.clk.xin ∧ s.clk.pllS ∧ s.recorderUp ∧ (s.phase = .booted ∨ s.phase = .running) then
    let s := s.modCan p fun x => { x with port := .active }
    if s.canUp p ∧ s.can[p].nmt ≠ .initialising then s.sendBeat p else s
  else s

/-- The MANAGE watchdog arms, and the service cores have WATCHDOG_MS from now (R385). -/
def State.armWatchdog (s : State) : State := s.modClk fun k => { k with armedUs := s.clk.timeUs }

/-- The inhibit time of 1015h, counted in 100 µs (log 17) from the last message, ends: the oldest waiting message is sent, or the port
is free again (R277). -/
def execEmcyInhibitExpiry (p : CanNo) (s : State) : Out :=
  .next (
    if s.can[p].inhibited ∧ s.can[p].emcyUs + s.cfgN 0x1015 0 * 100 ≤ s.clk.timeUs then
      match s.can[p].emcyQueue with
      | (code, b) :: q =>
        let s := s.modCan p fun x => { x with emcyQueue := q, inhibited := false }
        s.emcyOn p code b
      | [] => s.modCan p fun x => { x with inhibited := false }
    else s)

end Sys2Proof.Machine
end

