-- ==== Sys2Proof/Machine/Line.lean ====
section
/-! DEFINITION. Machine/Line.lean: line groups (spec/06, R127 to R143): qualification, start, stops, discharge, retries,
identification, and the rules of their host entries. -/

namespace Sys2Proof.Machine

/-- Volts as mV. -/
def voltsMv (v : Nat) : Rat := (v : Rat) * 1000

/-- E_MAX_MJ in µJ against the latest energy (R128, R132). -/
def State.overEnergy (s : State) (g : GroupNo) (uj : Nat) : Bool := decide (s.group g 8 * 1000 < uj)

/-- δ of R141 in µA. -/
def State.idStep (s : State) (g : GroupNo) : Rat := (s.cfgN 0x2232 2 : Rat) * s.group g 5

/-- V_floor of R147 in V. -/
def State.vFloor (s : State) (g : GroupNo) : Rat := max (s.group g 6 : Rat) (3 / 5 * s.groups[g].vsV)

/-- Ramp limit of a starting group in µA (R131, R147). -/
def State.rampLimit (s : State) (g : GroupNo) : Rat :=
  let full : Rat := (s.group g 5 : Rat) * 1000
  match s.groupCell g >>= s.loopOf with
  | some k =>
    let ss := s.loop k 0x6D
    if ss = 0 then full else min full (full * s.groups[g].rampSteps / (stepsPerUs * ss))
  | none => full

/-- Ceiling of a group in µA (R147). -/
def State.ceiling (s : State) (g : GroupNo) : Rat :=
  let x := s.groups[g]
  let a : Rat := (s.group g 5 : Rat) * 1000
  let b := if x.rOhm ≤ 0 then a else max 0 ((x.vsV - s.vFloor g) / x.rOhm * 1000000)
  let c := if x.exchLimit then x.ceilingUa else a
  let d := if x.st = .starting then s.rampLimit g else a
  min (min a b) (min c d)

/-! Qualification (R127, R128). -/

/-- The state after a V_end sample in mV with energy in µJ (Table 06-2, R128). -/
def State.afterVend (s : State) (g : GroupNo) (mv : Rat) (uj : Nat) : GroupState :=
  let sig := s.group g 9
  let below := decide (mv < 950 * (sig : Rat))
  let on := decide (voltsMv (s.group g 0xA) ≤ mv) && !s.overEnergy g uj
  match s.groups[g].st with
  | .signature => if voltsMv sig ≤ mv then .waiting else .signature
  | .waiting => if below then .signature else if on then .qualifying else .waiting
  | .qualifying => if below then .signature else if on then .qualifying else .waiting
  | st => st

/-- V_end lies within QUAL_BAND of its reference; always so with QUAL_BAND 0 (R128). -/
def State.inQualBand (s : State) (g : GroupNo) (mv : Rat) : Bool :=
  let ref := s.groups[g].refMv
  decide (s.group g 0xD = 0) || decide (|mv - ref| ≤ ref * s.group g 0xD / 1000)

/-- V_end samples of QUALIFYING within the last 10 ms (R128). -/
def lastTenMs (now : Nat) (xs : List (Nat × Rat)) : List (Nat × Rat) := xs.filter fun p => decide (now ≤ p.1 + 10000)

/-- A V_end sample in mV outside a running converter (R127, R128, R134, R138): energy, decay, stability and the state it leads to. -/
def State.vendSample (g : GroupNo) (mv : Rat) (s : State) : State :=
  let now := s.clk.timeUs
  let uj := quantN (lineEnergy (s.group g 7) mv)
  let old := s.groups[g].st
  let st := s.afterVend g mv uj
  let entry := decide (st = .qualifying ∧ old ≠ .qualifying)
  let restart := entry || decide (st = .qualifying ∧ !s.inQualBand g mv)
  let decayed := decide (old = .discharging) && decide (mv < voltsMv (s.group g 0xF))
  let s := s.modGroup g fun x =>
    { x with vEndMv := mv, energyUj := uj, refMv := if restart then mv else x.refMv, qualUs := if restart then now else x.qualUs
             vends := if st = .qualifying then (now, mv) :: lastTenMs now (if entry then [] else x.vends) else []
             decayMs := if decayed ∧ x.decayMs = none then some ((now - x.sinceUs) / 1000) else x.decayMs }
  if st = old then s else s.groupTo g st

/-- LINE_VEND_SAMPLE (R41, R127, R138): bits of the AUX bitstream; the decimator's completed output is a sample. -/
def execLineVendSample (g : GroupNo) (bits : List Bool) (s : State) : Out :=
  .next (
    match s.groupCell g with
    | some c =>
      if s.cells[c].role ≠ .line ∨ s.groups[g].st.run then s
      else
        let s := s.adoptSet ⟨5, g, 0xFF⟩
        let (q, outs) := s.cells[c].auxSinc.feed (s.cell c 0xD) bits
        let s := s.modCell c fun x => { x with auxSinc := q }
        if outs = [] then s
        else
          let s := s.modCell c fun x => { x with aux := x.correctAux q.out, auxValid := true }
          s.vendSample g ((s.cells[c].aux : Rat) * (s.group g 0x12 * 1000) / 32768)
    | none => s)

/-- The group has stayed stable for QUAL_TIME_MS (R128). -/
def State.qualified (s : State) (g : GroupNo) : Bool :=
  s.groups[g].st = .qualifying && decide (s.groups[g].qualUs + s.group g 0xC * 1000 ≤ s.clk.timeUs)

/-- A stable group qualifies and holds V_open, the mean of the last 10 ms (R128). -/
def State.qualify (g : GroupNo) (s : State) : State :=
  let xs := (lastTenMs s.clk.timeUs s.groups[g].vends).map Prod.snd
  let v := if xs = [] then s.groups[g].vEndMv else xs.foldl (· + ·) 0 / (xs.length : Rat)
  let v := quantN v
  ((s.groupTo g .qualified).modGroup g fun x => { x with vOpenMv := v, vends := [] }).event (s.srcGroup g) 0x3001 g (byte g ++ le 4 v)

/-! Start (R131). -/

/-- The start conditions of a qualified group (R131). -/
def State.groupStarts (s : State) (g : GroupNo) : Bool :=
  match s.groupCell g with
  | some c =>
    match s.loopOf c with
    | some k =>
      s.groups[g].st = .qualified && s.loops[k].st = .running && s.loops[k].railOn && s.controlMode k = 3
        && !s.modes.safe && !s.seq.recordMode && s.modes.mode.isSome && !s.inModes [.dormant, .settling]
        && !s.cells[c].held && (s.cells[c].st = .inService || s.cells[c].st = .starting) && s.cells[c].role = .line
    | none => false
  | none => false

/-- GROUP_START (R131). -/
def execGroupStart (g : GroupNo) (s : State) : Out :=
  .next (
    match s.groupCell g with
    | some c =>
      if s.groupStarts g then
        let s := s.modGroup g fun x => { x with startTick := true, rampSteps := 0, targetUa := 0, deficitRun := 0, revRun := 0
                                                energyRun := 0, limitRun := 0, lostSteps := 0, overSteps := 0, lowUs := 0
                                                exchLimit := false, ceilingUa := 0 }
        let s := s.modCell c fun x => { x.clearedMember with target := 0, weight := 1, weightGoal := 1, vEndPrev := x.aux * 256 }
        let s := s.groupTo g .starting
        let s := match s.loopOf c with
          | some k => let o := s.offsetGoal k c; (s.modCell c fun x => { x with offset := o }).recapacity k
          | none => s
        s.event s.srcLane 0x3002 g (byte g)
      else s
    | none => s)

/-- GROUP_RAMP_COMPLETE (R131): the ramp of SS_TIME, counted from the member's own join, has ended. -/
def execGroupRampComplete (g : GroupNo) (s : State) : Out :=
  .next (
    if s.groups[g].st = .starting ∧ (s.group g 5 : Rat) * 1000 ≤ s.rampLimit g then
      (s.groupTo g .delivering).modGroup g fun x => { x with deliverUs := s.clk.timeUs }
    else s)

/-! Stops (R132 to R140). -/

/-- A running group's cell. -/
def State.groupCellOk (s : State) (g : GroupNo) (p : CellNo → Bool) : Bool :=
  match s.groupCell g with
  | some c => p c
  | none => false

/-- Code of a stop cause (Table 06-3). -/
def stopCode : StopCause → Nat
  | .lineLost => 2 | .energy => 3 | .sense => 5 | .startShort => 6 | .reverse => 7 | .maint => 9 | .loopStopped => 0xB

/-- PWM steps of 1 ms. -/
def stepsPerMs : Nat := 1000 * stepsPerUs

/-- A stop cause is found by the lanes (Table 06-3). -/
def State.stopMet (s : State) (g : GroupNo) (cause : StopCause) : Bool :=
  let x := s.groups[g]
  match cause with
  | .lineLost => decide (stepsPerMs ≤ x.lostSteps)
  | .energy => decide (stepsPerMs ≤ x.overSteps)
  | .sense => s.groupCellOk g fun c => !s.cells[c].senseValid
  | .startShort => s.groupCellOk g fun c =>
      match s.loopOf c with
      | some k => s.loops[k].dropped.getLsbD c
      | none => false
  | .reverse => decide (2 ≤ x.revRun)
  | .maint => s.groupCellOk g fun c =>
      (s.cells[c].st = .draining && decide (1000 ≤ x.lowUs))
        || (decide (s.cells[c].safeCause ≠ 0) && !s.cells[c].safeHold)
  | .loopStopped => s.groupCellOk g fun c =>
      match s.loopOf c with
      | some k => !s.loops[k].active
      | none => true

/-- The cause's own event. -/
def State.stopEvent (g : GroupNo) (cause : StopCause) (s : State) : State :=
  match cause with
  | .lineLost => s.event s.srcLane 0x3003 g (byte g ++ leI 4 (quant s.groups[g].vEndMv))
  | .energy => s.event s.srcLane 0x3007 g (byte g ++ le 4 s.groups[g].energyUj)
  | .reverse => s.event s.srcLane 0x3009 g (byte g ++ leI 4 (quant s.groups[g].iConvUa))
  | _ => s

/-- GROUP_STOP (R132). -/
def execGroupStop (g : GroupNo) (cause : StopCause) (s : State) : Out :=
  .next (
    if s.groups[g].st.run ∧ s.stopMet g cause then (s.stopEvent g cause).laneStop g (stopCode cause) else s)

/-- Codes of the held tests. -/
def heldCode : HeldCause → Nat
  | .reverse => 7 | .energy => 3 | .limit => 0xA

/-- A group whose held test was met enters DISCHARGING once a lane holds the token; the die lets its outputs go once the cell's safe-action
latch is clear too (R136). -/
def State.takeHeld (g : GroupNo) (s : State) : State :=
  if s.lanes.token = none ∨ s.modes.safe then s
  else
    let cause := s.groups[g].heldCause
    let s := if cause ≠ 0 ∧ s.groups[g].st.run then
        ((s.abandonId g).groupTo g .discharging).modGroup g fun x => { x with stopCause := cause, targetUa := 0, fromDrain := false }
      else s
    let s := s.modGroup g fun x => { x with heldCause := 0 }
    if s.groups[g].dieLow ∧ s.groupCellOk g (fun c => s.cells[c].safeCause = 0) then
      (s.modGroup g fun x => { x with dieLow := false }).driveGroup g
    else s

/-- The cell switches without lane commands: no lane holds the token, or its latch is set with HOLD (R136). -/
def State.heldTests (s : State) (g : GroupNo) : Bool :=
  s.groups[g].st.run && (s.lanes.token = none || s.modes.safe || s.groupCellOk g fun c => s.cells[c].holding)

/-- A held test is met in two consecutive periods (R136). -/
def Group.heldMet (q : Group) : HeldCause → Bool
  | .reverse => decide (2 ≤ q.revRun)
  | .energy => decide (2 ≤ q.energyRun)
  | .limit => decide (2 ≤ q.limitRun)

/-- HELD_TEST_MET (R136): the die drives the outputs low and sends the cause upstream. -/
def execHeldTestMet (g : GroupNo) (cause : HeldCause) (s : State) : Out :=
  .next (
    if s.heldTests g ∧ s.groups[g].heldCause = 0 ∧ s.groups[g].heldMet cause then
      let s := (s.groupLow g).modGroup g fun x => { x with heldCause := heldCode cause, dieLow := true }
      let s := s.event (s.srcGroup g) 0x3004 g (byte g ++ byte (heldCode cause))
      s.takeHeld g
    else s)

/-- A LEAK input takes a group off the line: a running one stops, any other locks out (R140, Table 06-6). -/
def State.leakStop (g : GroupNo) (s : State) : State :=
  if s.groups[g].st.run then s.groupStop g 8 (srcWatch 0)
  else if s.groups[g].st = .lockedOut then s
  else (s.groupTo g .lockedOut).modGroup g fun x => { x with stopCause := 8 }

/-- Groups that name LEAK input `l` (3200+g:0E). -/
def State.leakGroups (s : State) (l : LeakNo) : List GroupNo := pick 24 fun g => s.group g 0xE = (l : Nat)

/-- LEAK_TRIP (R140): the filtered level of a LEAK input. -/
def execLeakTrip (l : LeakNo) (asserted : Bool) (s : State) : Out :=
  .next (
    let m : BitVec 8 := BitVec.ofNat 8 (2 ^ (l : Nat))
    let s := s.modPins fun p => { p with leak := if asserted then p.leak ||| m else p.leak &&& ~~~m }
    if asserted then
      let gs := s.leakGroups l
      let s := s.over gs State.leakStop
      s.event (srcWatch 0) 0x3008 l (byte l ++ le 4 (maskOf (gs.map fun g => (g : Nat))))
    else s)

/-- A group may not leave DISABLED: ENABLE 0, its cell maintained, or not LINE in force (Table 06-2). -/
def State.mustDisable (s : State) (g : GroupNo) : Bool :=
  s.group g 2 = 0 || !s.groupCellOk g (fun c => s.cells[c].role = .line && !s.cells[c].maintained)

/-- A retryable stop: RETRY_WAIT while retries are left, else LOCKED_OUT (R133). -/
def State.takeRetry (g : GroupNo) (s : State) : State :=
  if 0 < s.groups[g].retryLeft then
    (s.groupTo g .retryWait).modGroup g fun x => { x with retryLeft := x.retryLeft - 1 }
  else (s.groupTo g .lockedOut).event s.srcLane 0x300A g (byte g ++ byte s.groups[g].stopCause)

/-- After DISCHARGING, by cause (Table 06-3). -/
def State.afterDischarge (g : GroupNo) (s : State) : State :=
  let cause := s.groups[g].stopCause
  if s.mustDisable g ∨ s.groups[g].fromDrain then s.groupTo g .disabled
  else if cause = 1 ∨ cause = 9 then s.groupTo g .disabled
  else if cause = 2 ∨ cause = 0xB then s.groupTo g (s.byVend g)
  else if cause = 3 ∨ cause = 8 then s.groupTo g .lockedOut
  else s.takeRetry g

/-- DISCHARGE_END (R134, R135): DISCH_TIME_MS has passed, and a lane holds the token for the decay check. -/
def execDischargeEnd (g : GroupNo) (s : State) : Out :=
  .next (
    let x := s.groups[g]
    if x.st = .discharging ∧ x.sinceUs + s.group g 0x10 * 1000 ≤ s.clk.timeUs ∧ s.lanes.token.isSome ∧ s.modes.safe = false then
      match x.decayMs with
      | some ms => (s.event s.srcLane 0x3005 g (byte g ++ le 4 ms)).afterDischarge g
      | none =>
        if voltsMv (s.group g 0xB) ≤ x.vEndMv then s.afterDischarge g
        else (s.event s.srcLane 0x3006 g (byte g ++ le 4 (quantN x.vEndMv))).groupTo g .lockedOut
    else s)

/-- A retry clears DRIVER_FLT, BITCLK_LOSS and BITSTREAM_STUCK and the member's drop (R133). -/
def State.retryGroup (g : GroupNo) (s : State) : State :=
  let s := match s.groupCell g with
    | some c =>
      let s := s.clearFault c 0x0032#16
      match s.loopOf c with
      | some k => s.modLoop k fun l => { l with dropped := l.dropped &&& ~~~BitVec.ofNat 48 (2 ^ (c : Nat)) }
      | none => s
    | none => s
  s.groupTo g .waiting

/-- GROUP_RETRY (R133): RETRY_DELAY_S has passed. -/
def execGroupRetry (g : GroupNo) (s : State) : Out :=
  .next (
    let x := s.groups[g]
    if x.st = .retryWait ∧ x.sinceUs + s.group g 0x17 * 1000000 ≤ s.clk.timeUs then s.retryGroup g else s)

/-- GROUP_RETRY_RELOAD (R133): 600 s of delivery without a stop. -/
def execGroupRetryReload (g : GroupNo) (s : State) : Out :=
  .next (
    let x := s.groups[g]
    if x.delivers ∧ x.deliverUs + 600000000 ≤ s.clk.timeUs then s.modGroup g fun x => { x with retryLeft := s.group g 0x16 } else s)

/-! Identification (R141 to R143). -/

/-- A group can be identified now: DELIVERING for 1 s, ID_ENABLE 1 (R141). -/
def State.idReady (s : State) (g : GroupNo) : Bool :=
  s.groups[g].st = .delivering && decide (s.groups[g].sinceUs + 1000000 ≤ s.clk.timeUs) && s.group g 0x19 = 1

/-- The probe of an exchange-limited group: its ceiling rises by δ; at I_LIMIT_MA the limit clears (R143). -/
def State.probeCeiling (g : GroupNo) (s : State) : State :=
  if s.groups[g].exchLimit then
    let c := s.groups[g].ceilingUa + s.idStep g
    let full : Rat := (s.group g 5 : Rat) * 1000
    if full ≤ c then
      (s.modGroup g fun x => { x with exchLimit := false, ceilingUa := full }).event s.srcLane 0x3012 g
        (byte g ++ le 4 (quantN full))
    else s.modGroup g fun x => { x with ceilingUa := c }
  else s

/-- Visit a group: probe, then hold the first segment unless there is no room for both steps (R141, R143). -/
def State.visitGroup (g : GroupNo) (s : State) : State :=
  let s := s.probeCeiling g
  let d := s.idStep g
  let top := s.ceiling g - d
  if top < 2 * d then s
  else
    let c := clampR (2 * d) top s.groups[g].targetUa
    let ceil := s.ceiling g
    { s.modGroup g fun x => { x with st := .identifying, sinceUs := s.clk.timeUs, idC := c, idDelta := d, idCeil := ceil
                                     idA := ⟨0, 0, 0⟩, idB := ⟨0, 0, 0⟩ } with idGroup := some g }

/-- ms since an identification began (R141). -/
def State.idMs (s : State) (g : GroupNo) : Nat := (s.clk.timeUs - s.groups[g].sinceUs) / 1000

/-- The segment of an identification that runs now: the first, or the second (R141). -/
def State.firstSegment (s : State) (g : GroupNo) : Bool := decide (s.idMs g < s.cfgN 0x2232 3)

/-- One more sample of a segment. -/
def Segment.add (i v : Rat) (a : Segment) : Segment := ⟨a.i + i, a.v + v, a.n + 1⟩

/-- A bus-loop sample of the line current in µA and V_end in mV joins its segment, but in the first 10 ms of it (R141). -/
def State.idSample (g : GroupNo) (i v : Rat) (s : State) : State :=
  let ms := s.idMs g
  let seg := s.cfgN 0x2232 3
  if s.groups[g].st ≠ .identifying then s
  else if ms < seg then
    if 10 ≤ ms then s.modGroup g fun x => { x with idA := x.idA.add i v } else s
  else if seg + 10 ≤ ms ∧ ms < 2 * seg then s.modGroup g fun x => { x with idB := x.idB.add i v }
  else s

/-- A change of the ceiling abandons the identification (R142). -/
def State.idCeiling (s : State) : State :=
  match s.idGroup with
  | some g => if s.ceiling g = s.groups[g].idCeil then s else s.abandonId g
  | none => s

/-- The cycle goes on to the next group that can be identified, or ends (R141). -/
def State.idNext (s : State) : State :=
  match s.idAt, s.idGroup with
  | some n, none =>
    match (pick 24 fun g => n ≤ (g : Nat) && s.idReady g).head? with
    | some g => { s with idAt := some (g + 1) }.visitGroup g
    | none => { s with idAt := none }
  | _, _ => s

/-- An identification cycle may start: ID_PERIOD_S has passed since the last one's start, and none is under way (R141, log 130). -/
def State.cycleDue (s : State) : Bool :=
  let p := s.cfgN 0x2232 1
  decide (p ≠ 0) && s.idAt = none && s.idGroup = none && s.lanesRun && decide (s.idCycleUs + p * 1000000 ≤ s.clk.timeUs)

/-- ID_CYCLE (R141). -/
def execIdCycle (s : State) : Out :=
  .next (if s.cycleDue then { s with idAt := some 0, idCycleUs := s.clk.timeUs }.idNext else s)

/-- Result of an identification (R141): segment means in µA and mV. -/
def State.identify (g : GroupNo) (ia ib va vb : Rat) (s : State) : State :=
  let d := s.groups[g].idDelta
  let di := ia - ib
  let dv := va - vb
  let r := s.groups[g].rOhm
  let vs := fun r : Rat => (va + vb) / 2000 + r * (ia + ib) / 2000000
  let pay := fun (rm r v : Rat) => byte g ++ leI 4 (quant (rm * 1000)) ++ leI 4 (quant (r * 1000)) ++ leI 4 (quant (v * 1000))
  if |di| < d then
    let c := (ia + ib) / 2 - d
    (s.modGroup g fun x => { x with exchLimit := true, ceilingUa := c }).event s.srcLane 0x3011 g (byte g ++ le 4 (quantN c))
  else
    let rm := -dv / di * 1000
    let nom : Rat := (s.group g 0x18 : Rat) / 1000
    if rm ≤ 0 ∨ (nom ≠ 0 ∧ (rm < nom / 2 ∨ 2 * nom < rm)) then s.event s.srcLane 0x3021 g (pay rm r s.groups[g].vsV)
    else
      let r' := r + (rm - r) / 4
      (s.modGroup g fun x => { x with rOhm := r', vsV := vs r', idDone := true, rKnown := true }).event s.srcLane 0x3020 g
        (pay rm r' (vs r'))

/-- IDENTIFICATION_DONE (R141): both segments have run; back to DELIVERING, and the cycle goes on. A segment without a sample has no mean:
the identification is abandoned (log 129). -/
def execIdentificationDone (g : GroupNo) (s : State) : Out :=
  .next (
    if s.idGroup = some g ∧ s.groups[g].st = .identifying ∧ 2 * s.cfgN 0x2232 3 ≤ s.idMs g then
      let a := s.groups[g].idA
      let b := s.groups[g].idB
      if a.n = 0 ∨ b.n = 0 then (s.abandonId g).idNext
      else
        let s := { s with idGroup := none }.modGroup g fun x => { x with st := .delivering, sinceUs := s.clk.timeUs }
        (s.identify g (a.i / a.n) (b.i / b.n) (a.v / a.n) (b.v / b.n)).idNext
    else s)

/-! Host entries of a group. -/

/-- The conditions of ENABLE 1 (R130), on the in-force values. -/
def State.groupEnables (s : State) (g : GroupNo) : Bool :=
  match s.groupCell g with
  | some c =>
    let x := s.cells[c]
    let f := fltUse x.pinMode
    let cell3 := match s.loopOf c with
      | some k => decide (s.controlMode k = 3)
      | none => false
    x.role = .line && (f = 1 || f = 2) && cell3
      && s.group g 5 ≠ 0 && s.group g 7 ≠ 0 && s.group g 8 ≠ 0 && s.group g 0x11 ≠ 0 && s.group g 0x12 ≠ 0
      && decide (s.group g 7 * s.group g 0x12 * s.group g 0x12 < 2000 * 2 ^ 32)
      && !s.isPending ⟨5, g, 0xFF⟩
  | none => false

/-- ENABLE (R130, R156). -/
def writeGroupEnable (g : GroupNo) (v : Nat) (s : State) : Nat × State :=
  let st := s.groups[g].st
  if v = 0 then
    let s := s.setWritten (0x3200 + g) 2 0
    if st.run then (0, s.laneStop g 1)
    else if st = .discharging then (0, s)
    else (0, s.groupTo g .disabled)
  else if st ≠ .disabled then (0, s)
  else if !s.groupEnables g then (0x08000022, s)
  else
    let s := (s.setWritten (0x3200 + g) 2 1).modGroup g fun x => { x with retryLeft := s.group g 0x16, stopCause := 0 }
    (0, if s.mustDisable g then s else s.groupTo g (s.byVend g))

/-- CLEAR (R137). -/
def writeGroupClear (g : GroupNo) (v : Nat) (s : State) : Nat × State :=
  let x := s.groups[g]
  let leak := s.group g 0xE
  if v = 0 then (0, s)
  else if x.st ≠ .lockedOut ∨ (leak < 8 ∧ s.pins.leak.getLsbD leak) ∨ (x.stopCause = 3 ∧ s.overEnergy g x.energyUj) then
    (0x08000022, s)
  else
    let s := s.modGroup g fun x => { x with retryLeft := s.group g 0x16 }
    (0, s.groupTo g (if s.mustDisable g then .disabled else s.byVend g))

/-- CELL and the configuration entries 05 to 19, by state (R156). -/
def writeGroupConfig (g : GroupNo) (sub : Nat) (v : Int) (s : State) : Nat × State :=
  let st := s.groups[g].st
  let ok :=
    if sub = 1 then decide (st = .disabled)
    else if sub = 0x15 ∨ sub = 0x16 ∨ sub = 0x19 then true
    else decide (st = .disabled ∨ st = .retryWait ∨ st = .lockedOut)
  if ok then (0, s.setWritten (0x3200 + g) sub v) else (0x08000022, s)

end Sys2Proof.Machine
end

