-- ==== Sys2Proof/Machine/Allocator.lean ====
section
/-! DEFINITION. Machine/Allocator.lean: the harvest allocator (R144 to R147), in W, A, V and Ω. -/

namespace Sys2Proof.Machine

/-- A participant (R144): a group, a SOURCE loop, or a group held at its delivered power (R136, R142). -/
inductive Source
  | group (eta kappa vs r a0 ceil : Rat)
  | loop (kappa a1 a2 cap : Rat)
  | held (p : Rat)
  deriving DecidableEq, Repr

/-- x of R146. -/
def xOf (eta kappa lam : Rat) : Rat := eta * (1 + lam - kappa) - 1

/-- Line current of a group at a marginal cost (R146). -/
def groupCurrent (eta kappa vs r ceil lam : Rat) : Rat :=
  let x := xOf eta kappa lam
  if x ≤ 0 then 0 else if r ≤ 0 then ceil else min (vs * x / (2 * r * (1 + x))) ceil

/-- Delivered power of a group at a line current (R145). -/
def groupPower (eta vs r a0 i : Rat) : Rat := eta * (vs * i - r * i * i) - a0

/-- p_i(λ) (R146). -/
def Source.power (lam : Rat) : Source → Rat
  | .group eta kappa vs r a0 ceil => groupPower eta vs r a0 (groupCurrent eta kappa vs r ceil lam)
  | .loop kappa a1 a2 cap => if a2 = 0 then 0 else clampR 0 cap ((lam - kappa - a1) / (2 * a2))
  | .held p => p

/-- Slope of p_i at λ (R146). -/
def Source.slope (lam : Rat) (x : Source) : Rat :=
  match x with
  | .group eta kappa vs r _ ceil =>
    let i := groupCurrent eta kappa vs r ceil lam
    let y := xOf eta kappa lam
    if 0 < i ∧ i < ceil ∧ 0 < r then eta * eta * vs * vs / (2 * r * (1 + y) * (1 + y) * (1 + y)) else 0
  | .loop _ _ a2 cap => let p := x.power lam; if 0 < p ∧ p < cap then 1 / (2 * a2) else 0
  | .held _ => 0

/-- Pmin and Pmax (R147). -/
def Source.limits (x : Source) : Rat × Rat :=
  match x with
  | .group eta _ vs r a0 ceil => (-a0, groupPower eta vs r a0 ceil)
  | .loop _ _ _ cap => (0, cap)
  | .held p => (p, p)

/-- Ceiling of a held group counts as neither: π is 0 (R142). -/
def Source.held? : Source → Bool
  | .held _ => true
  | _ => false

/-- Participants with their source numbers (R144). -/
def State.sources (s : State) : List (SourceNo × Source) :=
  ((List.finRange 24).filterMap fun (g : GroupNo) =>
    let x := s.groups[g]
    let n : SourceNo := ⟨g, by omega⟩
    let holding : Bool := match s.groupCell g with
      | some c => s.cells[c].holding
      | none => false
    if x.st = .identifying ∨ (x.st.run ∧ holding) then some (n, .held (x.pBusMw / 1000))
    else if x.st = .starting ∨ x.st = .delivering then
      let draining : Bool := match s.groupCell g with
        | some c => decide (s.cells[c].st = .draining)
        | none => false
      some (n, .group ((s.group g 0x13 : Rat) / 65536) ((s.group g 0x15 : Rat) / 65536) x.vsV x.rOhm
        ((s.group g 0x14 : Rat) / 1000) (if draining then 0 else s.ceiling g / 1000000))
    else none)
  ++ (List.finRange 16).filterMap fun (k : LoopNo) =>
    if s.controlMode k = 2 ∧ s.loops[k].st = .running then
      some (⟨32 + k, by omega⟩, .loop ((s.loop k 0x7F : Rat) / 65536) ((s.loop k 0x7D : Rat) / 65536)
        ((s.loop k 0x7E : Rat) / 1000000000) (if s.loop k 0x61 = 0 then 0 else s.loops[k].capacityW))
    else none

/-- Σ p_i(λ). -/
def powerSum (xs : List (SourceNo × Source)) (lam : Rat) : Rat := (xs.map fun p => p.2.power lam).foldl (· + ·) 0

/-- The bisection of R146: `n` halvings of [lo, hi); the answer is hi. -/
def bisect (xs : List (SourceNo × Source)) (d : Rat) : Nat → Rat → Rat → Rat
  | 0, _, hi => hi
  | n + 1, lo, hi =>
    let lam := (lo + hi) / 2
    if powerSum xs lam < d then bisect xs d n lam hi else bisect xs d n lo lam

/-- Factors π_i of R146, in participant order. -/
def factors (xs : List (SourceNo × Source)) (lam : Rat) : List Rat :=
  let slopes := xs.map fun p => p.2.slope lam
  let total := slopes.foldl (· + ·) 0
  if total ≠ 0 then slopes.map (· / total)
  else
    let free := xs.map fun p => !p.2.held? && decide (p.2.power lam < p.2.limits.2)
    let open_ := xs.map fun p => !p.2.held?
    let pool := if free.any id then free else open_
    let n := (pool.filter id).length
    if n = 0 then xs.map fun _ => 0 else pool.map fun b => if b then 1 / (n : Rat) else 0

/-- A vector over the sources from the participants' values. -/
def spread (xs : List (SourceNo × Source)) (vs : List Rat) : Vector Rat 48 :=
  (xs.zip vs).foldl (fun v p => v.set p.1.1 p.2) (Vector.replicate 48 0)

/-- The solve of a tick (R144, R146) for a demand in mW; powers in mW. -/
def State.solve (s : State) (demandMw : Rat) : AllocResult :=
  let xs := s.sources
  if xs = [] then { AllocResult.reset with demandMw := demandMw }
  else
    let d := demandMw / 1000
    let lam := bisect xs d 24 0 4
    let mw := fun (f : Source → Rat) => spread xs (xs.map fun p => 1000 * f p.2)
    { lam := lam, demandMw := demandMw, shortfallMw := max (demandMw - 1000 * powerSum xs 4) 0
      target := mw (Source.power lam), factor := spread xs (factors xs lam)
      pMin := mw fun x => x.limits.1, pMax := mw fun x => x.limits.2 }

/-- ALLOCATOR_SOLVE (R146): into the inactive half; a shortfall records event 0x3030. -/
def State.allocate (s : State) : State :=
  let r := s.solve s.bus.demandMw
  let s := { s with allocNext := r, solveCount := if s.sources = [] then s.solveCount else wrap32 (s.solveCount + 1) }
  if 0 < r.shortfallMw then s.event s.srcLane 0x3030 0xFF (le 4 (quantN (r.shortfallMw / 1000))) else s

end Sys2Proof.Machine
end

