-- ==== Sys2Proof/Machine/Bus.lean ====
section
/-! DEFINITION. Machine/Bus.lean: the bus-voltage loop (R19, R125, R148 to R151). -/

namespace Sys2Proof.Machine

/-- Line current and voltage of a group over the interval (R125): mean converter current plus C_LINE's own current. -/
def State.lineInterval (g : GroupNo) (s : State) : State :=
  let x := s.groups[g]
  let conv := if x.convCount = 0 then (if x.st.run then x.iConvUa else 0) else x.sumConv / x.convCount
  let i := if x.st.run then conv + (s.group g 7 : Rat) * (x.vEndMv - x.vPrevMv) / 100 else 0
  let v := if x.convCount = 0 then x.vEndMv else x.sumEnd / x.convCount
  let low := decide (|i| < (s.group g 5 : Rat) * 20)
  let s := s.modGroup g fun x =>
    { x with iLineUa := i, vLineMv := quantN v, vPrevMv := x.vEndMv, sumConv := 0, sumEnd := 0, convCount := 0
             sumV := x.sumV + v, sumI := x.sumI + i, tickCount := x.tickCount + 1, lowUs := if low then x.lowUs + 100 else 0 }
  s.idSample g i v

/-- The means over the interval of a loop's output current and power (R17, R96). -/
def Loop.busMeans (l : Loop) : Loop :=
  let on := l.active
  if l.busN = 0 then { l with busMeanI := if on then l.busMeanI else 0, busMeanP := if on then l.busMeanP else 0 }
  else { l with busMeanI := l.busI / l.busN, busMeanP := l.busP / l.busN, busI := 0, busP := 0, busN := 0 }

/-- The means over the interval of a sink's current and power (R17). -/
def Feeder.busMeans (f : Feeder) : Feeder :=
  if f.busN = 0 then f else { f with busMeanI := f.busI / f.busN, busMeanP := f.busP / f.busN, busI := 0, busP := 0, busN := 0 }

/-- The means over the interval of an external feed's current and power (R17). -/
def Oring.busMeans (o : Oring) : Oring :=
  if o.busN = 0 then o else { o with busMeanI := o.busI / o.busN, busMeanP := o.busP / o.busN, busI := 0, busP := 0, busN := 0 }

/-- What each 100 µs interval hands to the bus layer (R17). -/
def State.busMeans (s : State) : State :=
  (s.each 16 fun k t => t.modLoop k Loop.busMeans).each 48 fun c t =>
    t.modCell c fun x => { x with feeder := x.feeder.busMeans, oring := x.oring.busMeans }

/-- A bus reading in mV from a cell's VS (R149). -/
def State.busReading (s : State) (c : CellNo) : Option Rat :=
  let x := s.cells[c]
  let ratio := match x.role with
    | .line => (match s.loopOf c with
        | some k => s.loop k 9
        | none => 0)
    | .oring => s.cell c 0x14
    | _ => 0
  if x.st = .inService ∧ x.senseValid ∧ ratio ≠ 0 then some ((x.vs : Rat) * 1800 * ratio / 32768000) else none

/-- Median; of an even number the mean of the two in the middle. -/
def median (xs : List Rat) : Option Rat :=
  let ys := xs.mergeSort (fun a b => decide (a ≤ b))
  let n := ys.length
  if n = 0 then none
  else if n % 2 = 1 then ys[n / 2]?
  else
    match ys[n / 2 - 1]?, ys[n / 2]? with
    | some a, some b => some ((a + b) / 2)
    | _, _ => none

/-- Own-use estimate in mW: OWN_POWER / HK_EFF (R149, R183). -/
def State.ownEstimate (s : State) : Rat := (s.own.total : Rat) * 65536 / max 1 (s.cfgN 0x2200 3)

/-- D_ff in mW: feeders' mean power over the interval and the own-use estimate, less external feeds (R149). -/
def State.feedForwardMw (s : State) : Rat :=
  let sinks := sumOf 48 fun c => if s.cells[c].role = .feeder then s.cells[c].feeder.busMeanP else 0
  let feeds := sumOf 48 fun c => if s.isExtFeed c then s.cells[c].oring.busMeanP else 0
  sinks + s.ownEstimate - feeds

/-- The bus loop's own arithmetic (R149, R150). -/
def State.busControl (s : State) : State :=
  let ff := s.feedForwardMw
  match median ((List.finRange 48).filterMap s.busReading) with
  | some v =>
    let lim : Rat := (s.cfgN 0x2231 5 : Rat) * 1000
    let e := s.bus.vSetMv - v
    let ib := clampR (-lim) lim (s.bus.ibMw + (s.cfgN 0x2231 4 : Rat) * e / 1000)
    let d := max 0 (ff + (s.cfgN 0x2231 3 : Rat) * e + ib)
    s.modBus fun b => { b with vBusMv := v, valid := true, noReading := 0, ibMw := ib, ffMw := ff, demandMw := d }
  | none =>
    let n := s.bus.noReading + 1
    let s := s.modBus fun b =>
      { b with valid := false, noReading := n, ffMw := ff, demandMw := if 10 ≤ n then ff else b.demandMw }
    s.event s.srcLane 0x3031 0xFF []

/-- Power target of a source at this sample in mW (R19). -/
def State.sourceTarget (s : State) (n : SourceNo) : Rat :=
  let a := s.alloc
  clampR a.pMin[n] a.pMax[n] (a.target[n] + a.factor[n] * (s.bus.demandMw - a.demandMw))

/-- Line current in µA that delivers a power in mW, within the ceiling (R148). -/
def State.lineCurrent (s : State) (g : GroupNo) (pMw : Rat) : Rat :=
  let x := s.groups[g]
  let ceil := s.ceiling g
  let eta : Rat := (s.group g 0x13 : Rat) / 65536
  if x.rOhm ≤ 0 ∨ eta = 0 then ceil
  else
    let rad := x.vsV * x.vsV - 4 * x.rOhm * (pMw / 1000 + (s.group g 0x14 : Rat) / 1000) / eta
    if rad < 0 then ceil else clampR 0 ceil ((x.vsV - Config.sqrt rad) / (2 * x.rOhm) * 1000000)

/-- The group takes part in the solve in force. -/
def State.inSolve (s : State) (n : SourceNo) : Bool := s.alloc.pMin[n] ≠ s.alloc.pMax[n] || s.alloc.pMax[n] ≠ 0

/-- A group's current target (R142, R148), sent to its cell in units of I_FS_UA. -/
def State.groupTarget (g : GroupNo) (s : State) : State :=
  let x := s.groups[g]
  let n : SourceNo := ⟨g, by omega⟩
  let i :=
    if x.st = .identifying then (if s.firstSegment g then x.idC + x.idDelta else x.idC - x.idDelta)
    else if x.st.run ∧ s.inSolve n then s.lineCurrent g (s.sourceTarget n)
    else 0
  let s := s.modGroup g fun x => { x with targetUa := i }
  match s.groupCell g with
  | some c =>
    let ifs := s.group g 0x11
    s.modCell c fun y => { y with target := if ifs = 0 then 0 else satR (i * 8388608 / ifs) }
  | none => s

/-- Under-delivery of a group (R151), judged on the target that ran in the interval. -/
def State.underDelivery (g : GroupNo) (s : State) : State :=
  let x := s.groups[g]
  let short := decide (x.iLineUa < x.targetUa - s.idStep g) || decide (x.vEndMv < s.vFloor g * 1000)
  if !x.st.run then s.modGroup g fun x => { x with deficitRun := 0 }
  else if !short then s.modGroup g fun x => { x with deficitRun := 0 }
  else if x.deficitRun = 0 then s.modGroup g fun x => { x with deficitRun := 1 }
  else
    let ceil := max 0 (x.iLineUa * 95 / 100)
    let s := s.modGroup g fun x => { x with deficitRun := 0, ceilingUa := ceil, exchLimit := true }
    let s := s.event s.srcLane 0x3010 g (byte g ++ leI 4 (quant x.iLineUa) ++ le 4 (quantN x.targetUa))
    let s := s.event s.srcLane 0x3011 g (byte g ++ le 4 (quantN ceil))
    s.abandonId g

/-- Current reference of a SOURCE loop (R17, Table 04-1). -/
def State.loopReference (k : LoopNo) (s : State) : State :=
  if s.controlMode k = 2 then
    let n : SourceNo := ⟨32 + k, by omega⟩
    let p := s.sourceTarget n
    let ma := if s.bus.vBusMv ≤ 0 then 0 else p * 1000 / s.bus.vBusMv
    let r := maToQ ma (s.running k).length (s.loop k 0x61)
    s.modLoop k fun l => { l with ref := r }
  else s

/-- BUS_LOOP_SAMPLE (R149): every 100 µs in the lanes; a gap holds everything. -/
def execBusLoopSample (s : State) : Out :=
  .next (
    if !s.lanesRun ∨ s.blockHeld 0x45 then s
    else
      let s := s.busMeans.each 24 State.lineInterval
      let s := s.each 24 State.underDelivery
      let s := s.busControl
      let s := s.each 24 State.groupTarget
      let s := s.each 16 State.loopReference
      s.traceSlow 0x10)

/-- A group's tick means, its delivered power, and Vs (R125, R131, R145). -/
def State.groupTick (g : GroupNo) (s : State) : State :=
  let x := s.groups[g]
  let v := if x.tickCount = 0 then x.meanV else x.sumV / x.tickCount
  let i := if x.tickCount = 0 then x.meanI else x.sumI / x.tickCount
  let nom : Rat := (s.group g 0x18 : Rat) / 1000
  let first := x.startTick ∧ x.st = .starting ∧ x.tickCount ≠ 0
  let r0 := if i = 0 then 0 else ((x.vOpenMv : Rat) - v) / i * 1000
  let bad := decide (r0 < 1 / 10) || decide (10000 < r0)
  let useNom := nom ≠ 0 ∧ x.idDone = false
  let r := if first then (if useNom then nom else if bad then (if nom = 0 then 100 else nom) else r0) else x.rOhm
  let vs := if x.st.run ∧ x.tickCount ≠ 0 then v / 1000 + r * i / 1000000 else x.vsV
  let eta : Rat := (s.group g 0x13 : Rat) / 65536
  let p := if x.st.run then eta * (v * i / 1000000) - s.group g 0x14 else 0
  let s := s.modGroup g fun x =>
    { x with meanV := v, meanI := i, sumV := 0, sumI := 0, tickCount := 0, rOhm := r, vsV := vs, pBusMw := p
             rKnown := x.rKnown || decide first, startTick := x.startTick && !decide first }
  if first ∧ ¬ useNom ∧ bad then
    s.event s.srcLane 0x3021 g (byte g ++ leI 4 (quant (r0 * 1000)) ++ leI 4 (quant (r * 1000)) ++ leI 4 (quant (vs * 1000)))
  else s

end Sys2Proof.Machine
end

