-- ==== Sys2Proof/Machine/Feeder.lean ====
section
/-! DEFINITION. Machine/Feeder.lean: feeders and breakers (R158 to R175, R180, R181). -/

namespace Sys2Proof.Machine

/-- SLOT_NUMBER as the events of Table 07-11 carry it. -/
def State.slotByte (s : State) (c : CellNo) : Bytes := byte (s.cell c 0x35)

/-- I_FS of a feeder in mA (R163). -/
def State.feederFs (s : State) (c : CellNo) : Rat :=
  if s.cell c 0x25 = 0 then 0 else csFullScale s.cells[c].pinMode * 1000 / s.cell c 0x25

/-- Fast-trip threshold as a fraction of CS full scale: FAST_LEVEL_MA times SHUNT_UOHM (R167). -/
def State.fastRatio (s : State) (c : CellNo) : Rat :=
  (s.cell c 0x30 : Rat) * s.cell c 0x25 / 1000 / csFullScale s.cells[c].pinMode

/-- V_drain in mV from a corrected VS word (R158). -/
def State.vDrainMv (s : State) (c : CellNo) : Rat := (s.cells[c].vs : Rat) * 1800 * s.cell c 0x14 / 32768000

/-- The quantities of R158 from the latest corrected words, added to the means. -/
def State.feederMeasure (c : CellNo) (s : State) : State :=
  let x := s.cells[c]
  let i := (x.cs : Rat) * s.feederFs c / 32768
  let drain := s.vDrainMv c
  let slot := s.bus.vBusMv - drain
  let p := slot * i / 1000
  let gate : Rat := if x.auxValid then (x.aux : Rat) * 1800 * s.cell c 0x15 / 32768000 else x.feeder.gateMv
  s.modFeeder c fun f =>
    { f with iMa := i, vDsMv := drain - i * s.cell c 0x25 / 1000000, gateMv := gate
             sumI := f.sumI + i, sumV := f.sumV + slot, sumP := f.sumP + p, count := f.count + 1
             busP := f.busP + p, busI := f.busI + i, busN := f.busN + 1 }

/-- Tick means of R158; a tick with no control period keeps the last means. -/
def Feeder.tickMeans (f : Feeder) : Feeder :=
  if f.count = 0 then f
  else { f with meanI := f.sumI / f.count, meanV := f.sumV / f.count, meanP := f.sumP / f.count
                sumI := 0, sumV := 0, sumP := 0, count := 0 }

/-- The retry timer runs down by a tick; FEEDER_RETRY is its end (R171). -/
def Feeder.tickTimer (f : Feeder) : Feeder :=
  { f with retryTimerUs := if f.retryTimerUs ≤ 1000 then min 1 f.retryTimerUs else f.retryTimerUs - 1000 }

/-! Presence and the gates of a start (R159 to R161). -/

/-- Rails that name a feeder (R224). -/
def State.feederRails (s : State) (c : CellNo) : List RailNo := pick 32 fun r => s.rail r 1 = 2 && s.rail r 2 = (c : Nat)

/-- A rail's turn-on has come and no retry or latch keeps it off (Table 10-3). -/
def RailState.open_ : RailState → Bool
  | .judging | .good | .failed | .skipped | .shed => true
  | _ => false

/-- mode_allows of R161; in LIFELINE only P0 sinks are on (Table 02-1). -/
def State.modeAllows (s : State) (c : CellNo) : Bool :=
  let rs := s.feederRails c
  !s.modes.safe &&
    (if s.inModes [.rising] then rs ≠ [] && rs.all fun r => s.seq.rails[r].st.open_
     else s.inModes [.serving, .rationed, .holdup, .lifeline, .tending] && (!s.inModes [.lifeline] || s.cfgN (0x2240 + c) 2 = 0)
      && rs.all fun r => s.seq.rails[r].st ≠ .retryWait && s.seq.rails[r].st ≠ .latchedOff)

/-- V_bus within the start window (R161). -/
def State.windowOk (s : State) (c : CellNo) : Bool :=
  decide ((s.cell c 0x22 : Rat) * 1000 ≤ s.bus.vBusMv) && decide (s.bus.vBusMv ≤ (s.cell c 0x23 : Rat) * 1000)

/-- The sink of a cell: its number (R184). -/
def sinkOfCell (c : CellNo) : SinkNo := ⟨c, by omega⟩

/-- The ledger has a shed in force for the cell's sink. -/
def State.sinkShed (s : State) (c : CellNo) : Bool := s.ledger.sinks[sinkOfCell c].shed ≠ 0

/-- The insertion count runs (R161). -/
def State.countRuns (s : State) (c : CellNo) : Bool :=
  s.cells[c].feeder.present && !s.sinkShed c
    && (if s.cell c 0x21 = 0 then s.windowOk c else fltUse s.cells[c].pinMode = 3)

/-- cell_clear of R161. -/
def State.cellClear (s : State) (c : CellNo) : Bool := s.cells[c].safeCause = 0 && !s.cells[c].faulted

/-- All start gates of R161; a cell out of service keeps its outputs low. -/
def State.feederGates (s : State) (c : CellNo) : Bool :=
  let f := s.cells[c].feeder
  s.cells[c].role = .feeder && (f.st = .held || f.st = .retryWait) && f.countDone && s.countRuns c && decide (f.retryTimerUs = 0)
    && s.modeAllows c && (s.cell c 0x21 = 0 || s.windowOk c) && !s.sinkShed c && s.cellClear c
    && (s.cells[c].st = .inService || s.cells[c].st = .starting)

/-- V_drain lies at or above PRESENT_V (R159). -/
def State.drainPresent (s : State) (c : CellNo) : Bool := decide ((s.cell c 0x26 : Rat) * 1000 ≤ s.vDrainMv c)

/-- The gate is commanded on (R160). -/
def Feeder.gateOn (f : Feeder) : Bool := f.st = .inrush || f.st = .on

/-- SLOT_PRESENT (R159, R160): FLT has read seated for 1 ms, or without a seating pin V_drain shows a card; PRESENT_V 0 shows one
always. -/
def execSlotPresent (c : CellNo) (s : State) : Out :=
  .next (
    if s.cells[c].role = .feeder ∧ s.cells[c].feeder.present = false ∧ (fltUse s.cells[c].pinMode = 3 ∨ s.drainPresent c ∨ s.cell c 0x26 = 0) then
      let s := s.modFeeder c fun f =>
        { f with present := true, countDone := false, countUs := 0, unseatUs := 0, st := if f.st = .empty then .inserting else f.st }
      s.event s.srcLane 0x4007 c (s.slotByte c)
    else s)

/-- An unseat begins (R159, R173): gate off, count restarts, EMPTY unless DISABLED or LATCHED. -/
def State.startUnseat (c : CellNo) (s : State) : State :=
  let s := s.modCell c fun x => if x.feeder.gateOn then x.gateOff else x
  let s := s.modFeeder c fun f =>
    { f.discard with present := false, countDone := false, countUs := 0, unseatUs := 0
                     st := if f.st = .disabled ∨ f.st = .latched then f.st else .empty }
  s.event s.srcLane 0x4006 c (s.slotByte c)

/-- UNSEAT (R159, R173): FLT has read unseated for as long as R159 asks, or without a seating pin the gate is off and V_drain shows no
card; a slot counts as present while its gate is on, and always with PRESENT_V 0. -/
def execUnseat (c : CellNo) (s : State) : Out :=
  .next (
    let x := s.cells[c]
    let gone := fltUse x.pinMode = 3 ∨ (x.feeder.gateOn = false ∧ s.cell c 0x26 ≠ 0 ∧ !s.drainPresent c)
    if x.role = .feeder ∧ x.feeder.present = true ∧ gone then s.startUnseat c else s)

/-- INSERTION_COUNT_DONE (R161): the count has run for INSERT_DELAY_MS. -/
def execInsertionCountDone (c : CellNo) (s : State) : Out :=
  .next (
    let f := s.cells[c].feeder
    if s.cells[c].role = .feeder ∧ f.st ≠ .disabled ∧ s.countRuns c ∧ s.cell c 0x24 * 1000 ≤ f.countUs then
      s.modFeeder c fun f => { f with countDone := true, st := if f.st = .inserting then .held else f.st }
    else s)

/-- A start (R161, R163, R181): INRUSH with every accumulator at 0, on the configuration then adopted. -/
def State.startFeeder (c : CellNo) (s : State) : State :=
  let s := (s.feederStartAdopt c).modLedger fun l => { l with stepDue := true }
  let s := s.modCell c fun x => { x with pwa := .low, pwb := .low, onSteps := 0 }
  let s := s.modFeeder c fun f =>
    { f.discard with st := .inrush, startUs := 0, soaUsed := 0, gateSeen := false, gateLowUs := 0, offUs := 0, offOverUs := 0 }
  s.event s.srcLane 0x4001 c (s.slotByte c)

/-- FEEDER_START (R161). -/
def execFeederStart (c : CellNo) (s : State) : Out :=
  .next (if s.feederGates c ∧ s.lanesRun then s.startFeeder c else s)

/-! Trips (R170, R171). -/

/-- Gate off. -/
def State.feederOff (c : CellNo) (s : State) : State := s.modCell c Cell.gateOff

/-- The feeder latches: event 0x4004 for a trip, EMCY 0xFF55 (R171, Table 13-4). -/
def State.latchEmcy (c : CellNo) (cause : Nat) (s : State) : State := s.emcy 0xFF55 (s.slotByte c ++ byte cause)

/-- A trip with a cause of R170, the retry timer running from the moment it was met (R171, Table 07-7). -/
def State.tripFeeder (c : CellNo) (cause : Nat) (s : State) : State :=
  let f := s.cells[c].feeder
  let past := if f.tripDue.isSome then s.clk.timeUs - f.tripAt else 0
  let s := (s.feederOff c).modSink (sinkOfCell c) fun k => { k with broken := 4 }
  let s := s.modFeeder c fun f =>
    { f with tripCount := wrap32 (f.tripCount + 1), tripCause := cause, fetOn := false, u := 0, tripDue := none, onUs := 0 }
  let s := s.event s.srcLane 0x4003 c
    (s.slotByte c ++ byte cause ++ leI 4 (quant f.iMa) ++ le 4 (quantN (f.letA / 1000000000)))
  if f.retryLeft = 0 then
    let s := s.modFeeder c fun f => { f with st := .latched, tripCause := 0x10 }
    (s.event s.srcLane 0x4004 c (s.slotByte c ++ byte cause)).latchEmcy c cause
  else
    let us := max 1 (s.cell c 0x32 * 1000000 - past)
    s.modFeeder c fun f => { f with st := .retryWait, retryLeft := f.retryLeft - 1, retryTimerUs := us }

/-- A trip cause is met in hardware or by a latch bit: the lanes take the lowest of a control period as one trip (R170). -/
def State.noteTrip (c : CellNo) (cause : Nat) (s : State) : State :=
  let now := s.clk.timeUs
  s.modFeeder c fun f =>
    match f.tripDue with
    | none => { f with tripDue := some cause, tripAt := now }
    | some old => { f with tripDue := some (min old cause) }

/-- A feeder that can trip: enabled and not latched. -/
def Feeder.canTrip (f : Feeder) : Bool := f.st ≠ .disabled && f.st ≠ .latched

/-! The control period (R163 to R169). -/

/-- Straight line from (t0, e0) to (t1, e1) at t. -/
def lineAt (t0 e0 t1 e1 t : Rat) : Rat := if t1 ≤ t0 then e1 else e0 + (e1 - e0) * (t - t0) / (t1 - t0)

/-- Budget at t on the points that follow (t0, e0) (R164). -/
def soaAt (t : Rat) : Rat → Rat → List (Rat × Rat) → Rat
  | _, e0, [] => e0
  | t0, e0, (t1, e1) :: r => if t ≤ t1 then lineAt t0 e0 t1 e1 t else soaAt t t1 e1 r

/-- E_max(t) in µJ, t in µs (R164). -/
def State.soaMax (s : State) (c : CellNo) (us : Nat) : Rat :=
  let at_ := fun sub => (s.cfgN (0x4200 + c) sub : Rat)
  soaAt us 0 0 ((List.range (s.cfgN (0x4200 + c) 1)).map fun j => (at_ (2 + j), at_ (0xA + j)))

/-- E / E_max in units of 1/65 536, saturating (R164). -/
def soaShare (e m : Rat) : Nat :=
  if e ≤ 0 then 0 else if m ≤ 0 then 65535 else min 65535 (e * 65536 / m).floor.toNat

/-- Inrush completes and the gate is full: ON (R165). -/
def State.feederComplete (c : CellNo) (s : State) : State :=
  let f := s.cells[c].feeder
  if f.st = .inrush ∧ f.fetOn ∧ (s.cell c 0x29 : Rat) ≤ f.gateMv then
    let s := s.modFeeder c fun f =>
      { f with st := .on, onCount := f.onCount + 1, slowQ := 0, letA := 0, below := 0, onUs := 0, unloadUs := 0, gateLowUs := 0 }
    s.event s.srcLane 0x4002 c (s.slotByte c ++ le 4 f.inrushUs ++ le 2 f.soaUsed)
  else s

/-- A control period of INRUSH (R163, R164): the regulator, the dissipation and its test; the trip cause it meets. -/
def State.inrushSample (c : CellNo) (s : State) : Option Nat × State :=
  let f := s.cells[c].feeder
  let us := f.startUs + 1
  let e := f.soaE + f.vDsMv * f.iMa / 1000000
  let m := s.soaMax c us
  let target : Rat := s.cell c 0x2A
  let fs := s.feederFs c
  let above := decide (target * 3 / 2 < f.iMa)
  let u := if above ∨ fs = 0 then 0 else clampR 0 1 (f.u + (s.cell c 0x2B : Rat) / 256 * (target - f.iMa) / fs)
  let seen := f.gateSeen || decide ((s.cell c 0x28 : Rat) ≤ f.gateMv)
  (if m < e then some 4 else none, s.modFeeder c fun f =>
    { f with startUs := us, soaE := e, soaUsed := max f.soaUsed (soaShare e m), u := u, gateSeen := seen })

/-- An INRUSH period without a trip: completion, and the gate drive (R163, R165). -/
def State.inrushDrive (c : CellNo) (s : State) : State :=
  let f := s.cells[c].feeder
  let above := decide ((s.cell c 0x2A : Rat) * 3 / 2 < f.iMa)
  let done := f.fetOn || decide (f.vDsMv < 500)
  let s := s.modFeeder c fun f =>
    { f with fetOn := done, inrushUs := if done ∧ f.fetOn = false then f.startUs else f.inrushUs }
  let s := s.modCell c fun x =>
    if done then { x with pwa := .high, pwb := .low, onSteps := 20480 }
    else
      let n := (f.u * 20480).floor.toNat
      { x with onSteps := n, pwa := if n = 0 then .low else .switching, pwb := if above then .high else .low }
  s.feederComplete c

/-- A control period of ON: slow trip and let-through (R168, R169), and the counts of R162, R166 and R171; the lower cause wins (R170). -/
def State.onSample (c : CellNo) (s : State) : Option Nat × State :=
  let f := s.cells[c].feeder
  let l : Rat := s.cell c 0x2D
  let above := decide (l < f.iMa)
  let d := f.iMa - l
  let q := if above then f.slowQ + d else max 0 (f.slowQ + d)
  let below := if above then 0 else f.below + 1
  let a := if above then f.letA + d * d else if 10000 ≤ below then 0 else f.letA
  let qMax : Rat := (s.cell c 0x2E : Rat) * 1000000
  let aMax : Rat := (s.cell c 0x2F : Rat) * 1000000000
  let light := decide (f.iMa < s.cell c 0x27)
  let weak := decide (f.gateMv < s.cell c 0x29)
  let cause := if qMax ≤ q ∧ (qMax ≠ 0 ∨ above) then some 2 else if aMax ≠ 0 ∧ aMax ≤ a then some 3 else none
  (cause, s.modFeeder c fun f =>
    { f with slowQ := q, letA := a, below := below, onUs := f.onUs + 1, unloadUs := if light then f.unloadUs + 1 else 0
             gateLowUs := if weak then f.gateLowUs + 1 else 0 })

/-- The gate of a control period in a state without a gate: off, and the current is watched (R160, R166). -/
def State.offSample (c : CellNo) (s : State) : State :=
  let high := decide (s.feederFs c / 50 < s.cells[c].feeder.iMa)
  (s.modCell c Cell.gateOff).modFeeder c fun f => { f with offUs := f.offUs + 1, offOverUs := if high then f.offOverUs + 1 else 0 }

/-- Counts of a control period in every state: the insertion count restarts when one of its conditions fails, and a seatless card's time
(R161, R173). -/
def State.countSample (c : CellNo) (s : State) : State :=
  let runs := s.countRuns c
  s.modFeeder c fun f =>
    { f with countUs := if runs then f.countUs + 1 else 0, countDone := f.countDone && runs
             unseatUs := if f.present then 0 else f.unseatUs + 1 }

/-- The lower of two trip causes. -/
def lowerCause : Option Nat → Option Nat → Option Nat
  | some a, some b => some (min a b)
  | some a, none => some a
  | none, b => b

/-- What the lanes do in a control period of a feeder that no latch holds. -/
def State.feederPeriod (c : CellNo) (s : State) : State :=
  let st := s.cells[c].feeder.st
  let (cause, s) :=
    if s.cells[c].held then (none, s)
    else if st = .inrush then s.inrushSample c
    else if st = .on then s.onSample c
    else (none, s.offSample c)
  match lowerCause s.cells[c].feeder.tripDue cause with
  | some k => if s.cells[c].feeder.canTrip then s.tripFeeder c k else s.modFeeder c fun f => { f with tripDue := none }
  | none => if st = .inrush ∧ !s.cells[c].held then s.inrushDrive c else s

/-- The cell keeps its drive of the last period: its command was discarded (R10). -/
def Cell.keepDrive (was x : Cell) : Cell := { x with pwa := was.pwa, pwb := was.pwb, onSteps := was.onSteps, lostCommand := false }

/-- Word of a control period: the mean of its four conversions (R40). -/
def meanCs (x : ControlSample) : Rat := meanWord (x.cs.toList.map csWord)
/-- Word of a control period's VS. -/
def meanVs (x : ControlSample) : Rat := meanWord (x.vs.toList.map vsWord)

/-- FEEDER_CONTROL_PERIOD (R40, R158, R163 to R170): a cell under a fault or safe action keeps its gate, in a switch-over gap the
accumulators hold (R160, R180), and a discarded sample repeats the last output (R10). -/
def execFeederControlPeriod (c : CellNo) (x : ControlSample) (s : State) : Out :=
  if s.cells[c].role ≠ .feeder ∨ s.cells[c].st = .testing then .next s
  else if s.cells[c].lostSample then .next (s.modCell c fun y => { y with lostSample := false })
  else
    let t := s.adoptSet ⟨8, c, 0xFF⟩
    let t := (t.modCell c fun y => { y.noteCs t.clk.timeUs (y.correctCs (meanCs x)) with vs := y.correctVs (meanVs x) }).feederMeasure c
    let t := t.countSample c
    if !t.lanesRun then .next t
    else
      let was := t.cells[c]
      let u := t.feederPeriod c
      settle s (if was.lostCommand then u.modCell c (Cell.keepDrive was) else u)

/-- INRUSH_TIMEOUT (R165): INRUSH_MAX_MS have passed since the start; completion in the same period wins. -/
def execInrushTimeout (c : CellNo) (s : State) : Out :=
  let f := s.cells[c].feeder
  if s.cells[c].role = .feeder ∧ f.st = .inrush ∧ s.cell c 0x2C ≠ 0 ∧ s.cell c 0x2C * 1000 ≤ f.startUs then
    if f.fetOn then .next (s.feederComplete c) else settle s (s.tripFeeder c 5)
  else .next s

/-- Codes of the pass-device causes (R166). -/
def passCode : PassCause → Nat
  | .gateMin => 0x11 | .gateOn => 0x12 | .offCurrent => 0x13

/-- A pass-device cause is met, on the times counted in control periods of 1 µs (R166). -/
def State.passMet (s : State) (c : CellNo) (cause : PassCause) : Bool :=
  let f := s.cells[c].feeder
  match cause with
  | .gateMin => f.st = .inrush && !f.gateSeen && decide (5000 ≤ f.startUs)
  | .gateOn =>
    (f.st = .inrush && f.fetOn && decide (f.gateMv < s.cell c 0x29) && decide (f.inrushUs + 5000 ≤ f.startUs))
      || (f.st = .on && decide (1000 ≤ f.gateLowUs))
  | .offCurrent => !f.gateOn && decide (10000 ≤ f.offUs) && decide (1000 ≤ f.offOverUs)

/-- PASS_DEVICE_FAULT (R166). -/
def execPassDeviceFault (c : CellNo) (cause : PassCause) (s : State) : Out :=
  if s.cells[c].role = .feeder ∧ s.passMet c cause ∧ ¬ (s.cells[c].feeder.st = .latched ∧ 0x11 ≤ s.cells[c].feeder.tripCause) then
    let t := ((s.feederOff c).setFault c 9).modSink (sinkOfCell c) fun k => { k with broken := 4 }
    let t := t.modFeeder c fun f => { f.discard with st := .latched, tripCause := passCode cause }
    settle s ((t.event t.srcLane 0x4005 c (t.slotByte c ++ byte (passCode cause))).latchEmcy c (passCode cause))
  else .next s

/-- FEEDER_UNLOADED (R162): no load for 100 ms; the gate turns off, and presence is tested again on V_drain with the gate off, a card that
is still there starting again through a fresh count. -/
def execFeederUnloaded (c : CellNo) (s : State) : Out :=
  .next (
    let f := s.cells[c].feeder
    if s.cells[c].role = .feeder ∧ f.st = .on ∧ s.cell c 0x21 = 0 ∧ fltUse s.cells[c].pinMode ≠ 3 ∧ s.cell c 0x27 ≠ 0
        ∧ 100000 ≤ f.unloadUs then
      let s := (s.feederOff c).modFeeder c fun f => { f.discard with st := .inserting, countDone := false, countUs := 0, unloadUs := 0 }
      s.event s.srcLane 0x4009 c (s.slotByte c)
    else s)

/-- The retry timer ends within this tick (R171). -/
def Feeder.timerEnds (f : Feeder) : Bool := decide (f.retryTimerUs ≠ 0) && decide (f.retryTimerUs ≤ 1000)

/-- FEEDER_RETRY (R171): the timer ends, the bits clear, and one that sets again is a new trip. -/
def execFeederRetry (c : CellNo) (s : State) : Out :=
  if s.cells[c].role = .feeder ∧ s.cells[c].feeder.timerEnds then
    let t := (s.modFeeder c fun f => { f with retryTimerUs := 0 }).clearFault c 0x000F#16
    let again := t.cells[c].faultLatch
    let t :=
      if t.cells[c].feeder.canTrip ∧ again.getLsbD 1 then t.tripFeeder c 6
      else if t.cells[c].feeder.canTrip ∧ again &&& 0x000C#16 ≠ 0 then t.tripFeeder c 7
      else if t.feederGates c ∧ t.lanesRun then t.startFeeder c
      else t
    settle s t
  else .next s

/-- FEEDER_RETRY_RELOAD (R171): 60 s in ON without a trip. -/
def execFeederRetryReload (c : CellNo) (s : State) : Out :=
  .next (
    if s.cells[c].role = .feeder ∧ s.cells[c].feeder.st = .on ∧ 60000000 ≤ s.cells[c].feeder.onUs then
      let n := s.cell c 0x31
      s.modFeeder c fun f => { f with retryLeft := n }
    else s)

/-! What the ledger, the mode and maintenance do to a feeder. -/

/-- The ledger sheds a feeder's sink (R160): INRUSH and ON go to HELD, no trip, and the count restarts. -/
def State.shedFeeder (c : CellNo) (s : State) : State :=
  let s := if s.cells[c].feeder.gateOn then s.feederOff c else s
  let s := s.modCell c (Cell.noteRemoval s.clk.timeUs)
  s.modFeeder c fun f => { f.toHeld with countDone := false, countUs := 0 }

/-- A shed ends: a HELD feeder starts a fresh insertion count (R160, R195). -/
def State.restoreFeeder (c : CellNo) (s : State) : State :=
  s.modFeeder c fun f => { f with countDone := false, countUs := 0, st := if f.st = .held then (if f.present then .inserting else .empty) else f.st }

/-- A feeder's gate turns off and it waits in HELD (R161, Table 10-1). -/
def State.holdFeeder (c : CellNo) (s : State) : State :=
  if s.cells[c].role = .feeder ∧ s.cells[c].feeder.gateOn then (s.feederOff c).modFeeder c Feeder.toHeld else s

/-- EMPTY or INSERTING by presence, with a fresh count. -/
def Feeder.byPresence (f : Feeder) : Feeder := { f with countDone := false, countUs := 0, st := if f.present then .inserting else .empty }

/-- An unseat has lasted 50 ms (R173): retries reload, and a latch of cause 0x10 is left. -/
def State.unseated50 (c : CellNo) (s : State) : State :=
  let n := s.cell c 0x31
  s.modFeeder c fun f =>
    let f := { f with retryLeft := n }
    if f.st = .latched ∧ f.tripCause = 0x10 then f.byPresence else f

/-! Host entries. -/

/-- CLEAR (R172); `opr` when the writer ranks at OPR or above. -/
def writeFeederClear (c : CellNo) (v : Nat) (opr : Bool) (host : Nat) (s : State) : Nat × State :=
  let f := s.cells[c].feeder
  let n := s.cell c 0x31
  if v = 0 then (0, s)
  else if f.st = .retryWait then
    let s := s.modFeeder c fun f => { f with retryLeft := n }
    (0, s.event (srcManage 0) 0x4008 c (s.slotByte c ++ byte host))
  else if f.st ≠ .latched then (0x08000022, s)
  else if f.tripCause ≠ 0x10 ∧ !opr then (0x06010002, s)
  else
    let s := if f.tripCause = 0x10 then s else s.clearFault c 0x0200#16
    let s := s.modFeeder c fun f => ({ f with retryLeft := n }).byPresence
    (0, s.event (srcManage 0) 0x4008 c (s.slotByte c ++ byte host))

/-- The conditions of FEED_ENABLE 1, on the values in force (R174). -/
def State.feederEnables (s : State) (c : CellNo) : Bool :=
  s.cells[c].role = .feeder && s.cell c 0x25 ≠ 0 && s.cell c 0x14 ≠ 0 && s.cell c 0x15 ≠ 0
    && decide (1 ≤ s.cfgN (0x4200 + c) 1) && !s.isPending ⟨6, c, 0xFF⟩ && !s.isPending ⟨7, c, 0xFF⟩
    && !s.isPending ⟨8, c, 0xFF⟩ && !s.isPending ⟨9, c, 0xFF⟩

/-- FEED_ENABLE (R160, R171, R174). -/
def writeFeedEnable (c : CellNo) (v : Nat) (s : State) : Nat × State :=
  if v = 0 then
    let s := s.setWritten (0x3000 + c) 0x20 0
    let s := if s.cells[c].role = .feeder ∧ s.cells[c].feeder.gateOn then s.feederOff c else s
    (0, (s.modFeeder c fun f => { f.discard with st := .disabled, countDone := false, countUs := 0 }).feederAdopt c)
  else if !s.feederEnables c then (0x08000022, s)
  else
    let s := s.setWritten (0x3000 + c) 0x20 1
    let n := s.cell c 0x31
    (0, s.modFeeder c fun f =>
      if f.st = .disabled then { f.byPresence with retryLeft := n, tripCause := 0 } else { f with retryLeft := n })

/-- SLOT_PORT and SLOT_ADDR: no two FEEDER cells share a port and an address (R175). -/
def writeSlotBinding (c : CellNo) (sub : Nat) (v : Int) (s : State) : Nat × State :=
  let t := s.setWritten (0x3000 + c) sub v
  let port := fun c : CellNo => t.writ (0x3000 + c) 0x33
  let addr := fun c : CellNo => t.writ (0x3000 + c) 0x34
  let clash := (pick 48 fun d => d ≠ c && t.cells[d].role = .feeder && port d = port c && addr d = addr c) ≠ []
  if t.cells[c].role = .feeder ∧ port c ≠ 0xFF ∧ addr c ≠ 0 ∧ clash then (0x08000022, s) else (0, t)

end Sys2Proof.Machine
end

