-- ==== Sys2Proof/Machine/Gasp.lean ====
section
/-! DEFINITION. Machine/Gasp.lean: the last-gasp and settling records of Table 17-4 (R353). -/

namespace Sys2Proof.Machine

/-- Masks of rails in a state (2300:04, :05). -/
def State.railMask (s : State) (st : RailState) : Nat :=
  maskOf ((pick 32 fun r => s.seq.rails[r].st = st).map fun r => (r : Nat))

/-- Mask of the cells that satisfy a test. -/
def State.cellMask (s : State) (p : Cell → Bool) : Nat := maskOf ((pick 48 fun c => p s.cells[c]).map fun c => (c : Nat))

/-- A FEEDER or ORING cell is LATCHED. -/
def Cell.isLatched (x : Cell) : Bool :=
  (x.role = .feeder && x.feeder.st = .latched) || (x.role = .oring && x.oring.st = .latched)

/-- ACTIVE_LANE as shown: 0 for A, 1 for B, 0xFF for none (2500:02). -/
def State.activeLane (s : State) : Nat := ((s.lanes.active).map Lane.code).getD 0xFF

/-- GRANTS_STANDING (2220:03). -/
def State.grantsStanding (s : State) : Nat :=
  (s.ledger.grants.toList.filter fun g => g.st = .active || g.st = .notice).length

/-- Newest records, whole, that fit in `room` bytes, newest last. -/
def tailFit : Nat → List Rec → List Rec
  | _, [] => []
  | room, r :: rs => if r.size ≤ room then tailFit (room - r.size) rs ++ [r] else []

/-- The record of Table 17-4 with a flag byte and a moment. -/
def State.gaspRecord (flags stamp : Nat) (s : State) : Bytes :=
  let tail := tailFit 4024 (s.recorder.ring ++ s.recorder.waiting).reverse
  let bytes := tail.flatMap Rec.bytes
  let n := 72 + bytes.length
  let body := byte 1 ++ byte flags ++ le 2 n ++ le 4 (newestOf tail) ++ le 6 stamp
    ++ byte ((s.modes.mode.map Mode.code).getD 0) ++ byte s.modes.lastCause ++ le 4 (quantN s.bus.vBusMv)
    ++ leI 4 (quant ((s.ledger.now.headroomMw : Rat) / 1000)) ++ leI 4 (quant ((s.ledger.now.residualMw : Rat) / 1000))
    ++ byte s.lanes.pair.code ++ byte s.activeLane ++ byte s.grantsStanding ++ [0]
    ++ le 8 (s.cellMask fun x => x.faultLatch ≠ 0) ++ le 8 (s.cellMask fun x => x.safeCause ≠ 0)
    ++ le 8 (s.cellMask Cell.isLatched) ++ (s.strings.toList.flatMap fun b => byte b.st.code)
    ++ le 4 (s.railMask .good) ++ le 4 (s.railMask .failed) ++ bytes
  body ++ le 4 (crc32 body)

/-- Flags of byte 1. -/
def State.gaspFlags (s : State) (settling : Bool) : Nat :=
  b2n s.modes.safe + 2 * b2n (!settling && decide (s.seq.st = .offSequence ∨ s.seq.st = .offDone ∨ s.seq.st = .restartWait))
    + 4 * b2n settling

end Sys2Proof.Machine
end

