-- ==== Sys2Proof/Machine/Rails.lean ====
section
/-! DEFINITION. Machine/Rails.lean: the sequencer's rails (R224 to R231, R237): turn-on, judging, retries, supervision and
the two common starts. -/

namespace Sys2Proof.Machine

/-- Entries of a rail that the snapshot of R226 takes. -/
def railSubs : List Nat := [1, 2, 3, 4, 5, 6, 7, 8, 9, 0xA, 0xB, 0xF]

/-- The snapshot of every rail entry at a common start (R226, R228). -/
def State.adoptRails (s : State) : State :=
  s.each 32 fun r t => t.over railSubs fun x u => u.adoptEntry (0x2310 + r) x

/-- Rail kind in force: 1 loop, 2 feeder, 3 external, 0 unused (Table 10-1). -/
def State.railKind (s : State) (r : RailNo) : Nat := s.rail r 1

/-- A rail is on (Table 10-3). -/
def RailState.isOn : RailState → Bool
  | .judging | .good | .failed => true
  | _ => false

/-- PARENT of a rail, 0xFF for none. -/
def State.parent (s : State) (r : RailNo) : Nat := s.rail r 6

/-- Descendants of a rail, rising: each has a parent of lower number (R228). -/
def State.descendants (s : State) (r : RailNo) : List RailNo :=
  (List.finRange 32).foldl (fun ds x =>
    if s.railKind x ≠ 0 ∧ (s.parent x = (r : Nat) ∨ ds.any fun d => s.parent x = (d : Nat)) then ds ++ [x] else ds) []

/-- Level of ENn. -/
def State.setEn (n : Nat) (high : Bool) (s : State) : State :=
  s.modPins fun p =>
    let m : BitVec 16 := BitVec.ofNat 16 (2 ^ n)
    { p with en := if high then p.en ||| m else p.en &&& ~~~m }

/-- Present power-good of a rail (Table 10-1); an external one reads its filtered input. -/
def State.railPg (s : State) (r : RailNo) : Bool :=
  let t := s.rail r 2
  if s.railKind r = 1 then
    match toFin? 16 t with
    | some k => s.loops[k].pg
    | none => false
  else if s.railKind r = 2 then
    match toFin? 48 t with
    | some c => s.cells[c].role = .feeder && s.cells[c].feeder.st = .on
    | none => false
  else s.seq.rails[r].pgLevel

/-- What a rail controls is turned on or off (Table 10-1). -/
def State.driveRail (r : RailNo) (on : Bool) (s : State) : State :=
  let t := s.rail r 2
  let kind := s.railKind r
  if kind = 1 then s.onFin 16 t fun k u => if on then u.loopOn k else u.loopOff k
  else if kind = 2 then (if on then s else s.onFin 48 t State.holdFeeder)
  else if kind = 3 then s.setEn t on
  else s

/-- A rail counts GOOD at its turn-on: no timeout, or an external rail with no input (R225, R227). -/
def State.unjudged (s : State) (r : RailNo) : Bool :=
  s.rail r 7 = 0 || (s.railKind r = 3 && s.rail r 3 = 0xFF)

/-- Turn a rail on and judge it (R227). -/
def State.railOn (r : RailNo) (s : State) : State :=
  let st : RailState := if s.unjudged r then .good else .judging
  (s.modRail r fun x => { x with st := st, slotDue := false, retryOwn := false, asContinue := false, pgLost := false
                                 markUs := s.clk.timeUs, offWatch := false }).driveRail r true

/-- Turn a rail off into a state. -/
def State.railOff (st : RailState) (r : RailNo) (s : State) : State :=
  (s.driveRail r false).modRail r fun x => { x with st := st, retryOwn := false, pgLost := false, markUs := s.clk.timeUs }

/-- The descendants that wait in a state, or that have not had their turn, get their slots after the rail's new turn-on: the difference of
their ON_DELAY values later (R227, R230). -/
def State.followers (st : RailState) (r : RailNo) (s : State) : State :=
  s.over (s.descendants r) fun d t =>
    let us := (t.rail d 4 - t.rail r 4) * 100
    t.modRail d fun x =>
      if (x.st = st ∨ x.st = .waiting) ∧ x.retryOwn = false then { x with slotDue := true, slotUs := t.clk.timeUs + us } else x

/-- Turn off every descendant that is on. -/
def State.offDescendants (st : RailState) (r : RailNo) (s : State) : State :=
  s.over ((s.descendants r).filter fun d => s.seq.rails[d].st.isOn) fun d t => t.railOff st d

/-- A rail is SKIPPED at its on-delay (R227, Table 10-4). -/
def State.railSkips (s : State) (r : RailNo) : Bool :=
  let t := s.rail r 2
  let own :=
    if s.railKind r = 1 then
      match toFin? 16 t with
      | some k => !s.enabled k
      | none => true
    else if s.railKind r = 2 then
      match toFin? 48 t with
      | some c =>
        let x := s.cells[c]
        x.role ≠ .feeder || x.st = .draining || x.st = .drained || x.st = .testing
          || x.feeder.st = .disabled || x.feeder.st = .empty || x.feeder.st = .latched
      | none => true
    else false
  own ||
    match toFin? 32 (s.parent r) with
    | some p => s.seq.rails[p].st = .failed || s.seq.rails[p].st = .skipped
    | none => false

/-- The sink of an external rail is shed by the ledger. -/
def State.railShed (s : State) (r : RailNo) : Bool :=
  s.railKind r = 3 &&
    match toFin? 64 (0x30 + s.rail r 2) with
    | some x => s.ledger.sinks[x].shed ≠ 0
    | none => false

/-- Time in ms since the common start of the present sequence (2300:02); 0 with none. -/
def State.seqMs (s : State) : Nat := if s.seq.st = .idle then 0 else (s.clk.timeUs - s.seq.startUs) / 1000

/-- The off-sequence is done when no slot is left (R231). The settling record is then built, and every open record closed,
unless a last-gasp record is or will be the commit (R232, R353). -/
def State.offCheck (s : State) : State :=
  if s.seq.st = .offSequence ∧ s.seq.rails.toList.all (fun x => !x.slotDue) then
    let s := s.modSeq fun q => { q with offDone := true, doneUs := s.clk.timeUs, st := if q.committed then .restartWait else .offDone }
    let s := s.event srcLedger 0x7016 0xFF (le 4 s.seqMs)
    if s.seq.committed ∨ s.seq.gaspPending.isSome then s
    else
      let s := s.closeRecs (fun _ => true) false
      let r := s.gaspRecord (s.gaspFlags true) s.now
      s.modSeq fun q => { q with settlePending := some r }
  else s

/-- RAIL_SLOT (R226, R227, R231), once the rail's delay has passed since the common start or its parent's new turn-on. -/
def execRailSlot (r : RailNo) (s : State) : Out :=
  .next (
    let x := s.seq.rails[r]
    if s.modes.safe ∨ s.railKind r = 0 ∨ x.slotDue = false ∨ s.clk.timeUs < x.slotUs then s
    else if s.seq.st = .offSequence then
      let s := if x.st.isOn then (s.railOff .off r).modRail r fun x => { x with offWatch := true } else s
      (s.modRail r fun x => { x with slotDue := false }).offCheck
    else if s.railShed r then s.modRail r fun x => { x with st := .shed, slotDue := false }
    else if s.railSkips r then s.modRail r fun x => { x with st := .skipped, slotDue := false }
    else s.railOn r)

/-- RETRY: the rail and every descendant that is on are turned off (Table 10-2). One that still waits for its slot waits for the rail's
new turn-on with them: each descendant follows it (log 138). -/
def State.retryRail (r : RailNo) (s : State) : State :=
  let n := s.seq.rails[r].retriesLeft - 1
  let s := ((s.railOff .retryWait r).offDescendants .retryWait r).over (s.descendants r) fun d t =>
    t.modRail d fun x => if x.st = .waiting then { x with slotDue := false } else x
  let s := s.modRail r fun x => { x with retriesLeft := n, retryOwn := true }
  s.event srcLedger 0x7013 r (byte r ++ byte n)

/-- RAIL_PG_TIMEOUT (R227, Table 10-2), once PG_TIMEOUT_MS has passed since the turn-on. -/
def execRailPgTimeout (r : RailNo) (s : State) : Out :=
  .next (
    let x := s.seq.rails[r]
    if s.modes.safe ∨ s.seq.st = .offSequence ∨ s.railKind r = 0 ∨ x.st ≠ .judging ∨ x.pgLost ∨ s.railPg r ∨ s.rail r 7 = 0
        ∨ s.clk.timeUs < x.markUs + s.rail r 7 * 1000 then s
    else
      let policy := s.rail r 8
      let s := s.event srcLedger 0x7012 r (byte r ++ byte policy)
      if policy = 2 ∧ 0 < x.retriesLeft ∧ x.asContinue = false then s.retryRail r
      else
        let s := s.modRail r fun x => { x with st := .failed }
        if policy ≠ 1 ∧ x.asContinue = false ∧ s.inModes [.rising] then s.modSeq fun q => { q with abortAll := true } else s)

/-- RAIL_RETRY (R227): RETRY_DELAY_MS after its turn-off the rail is turned on again, and its descendants follow. -/
def execRailRetry (r : RailNo) (s : State) : Out :=
  .next (
    if s.seq.rails[r].st = .retryWait ∧ s.seq.rails[r].retryOwn ∧ s.seq.st ≠ .offSequence ∧ ¬ s.modes.safe
        ∧ s.seq.rails[r].markUs + s.rail r 0xA * 1000 ≤ s.clk.timeUs then
      (s.railOn r).followers .retryWait r
    else s)

/-- RAIL_NOT_OFF (R231): power-good has not fallen within PG_OFF_TIMEOUT_MS of the turn-off; told once. -/
def execRailNotOff (r : RailNo) (s : State) : Out :=
  .next (
    let x := s.seq.rails[r]
    if s.railKind r ≠ 0 ∧ x.offWatch ∧ s.inModes [.settling] ∧ ¬ s.modes.safe ∧ s.rail r 0xF ≠ 0 ∧ s.railPg r
        ∧ x.markUs + s.rail r 0xF * 1000 ≤ s.clk.timeUs then
      (s.modRail r fun x => { x with offWatch := false }).event srcLedger 0x7018 r (byte r)
    else s)

/-! Supervision (R225, R229, R230). -/

/-- A rail that was judged good has lost power-good (R230, R231). -/
def State.pgLoss (r : RailNo) (s : State) : State :=
  if s.seq.st = .offSequence then
    let s := s.event srcLedger 0x7017 r (byte r ++ le 4 s.seqMs)
    s.railOff .off r
  else
    let action := s.rail r 0xB
    let s := s.event srcLedger 0x7014 r (byte r ++ byte action)
    if action = 1 then (s.railOff .latchedOff r).offDescendants .latchedOff r
    else s.modRail r fun x => { x with st := .judging, pgLost := true }

/-- One rail's sample: its filtered level, and what the state makes of it. -/
def State.judgeRail (pins : BitVec 16) (r : RailNo) (s : State) : State :=
  if s.railKind r = 0 then s
  else
    let was := s.seq.rails[r].pgLevel
    let now := if s.railKind r = 3 then pins.getLsbD (s.rail r 3) else s.railPg r
    let level := if s.railKind r = 3 ∧ now ≠ s.seq.rails[r].lastSample then was else now
    let s := s.modRail r fun x => { x with pgLevel := level, lastSample := now, offWatch := x.offWatch && level }
    let st := s.seq.rails[r].st
    if s.seq.st = .offSequence then
      if st = .good ∧ was ∧ !level ∧ s.seq.rails[r].slotDue then s.pgLoss r else s
    else if st = .judging ∧ level then s.modRail r fun x => { x with st := .good, pgLost := false }
    else if st = .failed ∧ level then (s.modRail r fun x => { x with st := .good }).event srcLedger 0x7019 r (byte r)
    else if st = .good ∧ was ∧ !level ∧ s.railKind r ≠ 2 then s.pgLoss r
    else s

/-- A rail no longer holds up the on-sequence (R229). -/
def Rail.settled (x : Rail) : Bool := x.st = .good || x.st = .failed || x.st = .skipped || x.pgLost

/-- PG_SAMPLE (R225, R229 to R231); in the global safe state rails keep their states (Table 10-4). -/
def execPgSample (pins : BitVec 16) (s : State) : Out :=
  .next (
    let s := s.modPins fun p => { p with pg := pins }
    if s.modes.safe then s
    else
      let s := s.each 32 (State.judgeRail pins)
      if s.seq.st = .onSequence ∧ (List.finRange 32).all fun r => s.railKind r = 0 || s.seq.rails[r].settled then
        let s := s.modSeq fun q => { q with st := .onComplete, onComplete := true }
        s.event srcLedger 0x7011 0xFF (le 4 (s.railMask .good) ++ le 4 (s.railMask .failed))
      else s)

/-! The common starts (R224, R226, R227, R231). -/

/-- Loops that no rail names. -/
def State.freeLoops (s : State) : List LoopNo :=
  pick 16 fun k => (pick 32 fun r => s.railKind r = 1 && s.rail r 2 = (k : Nat)) = []

/-- Common start of the on-sequence: the boundary at which RISING is entered (R226, R227). -/
def State.startOn (s : State) : State :=
  let s := s.adoptRails
  let s := s.each 32 fun r t =>
    let n := t.rail r 9
    let used := t.railKind r ≠ 0
    t.modRail r fun x => { x with st := if used then .waiting else .off, slotDue := used, retriesLeft := n, retryOwn := false
                                  asContinue := false, pgLost := false, offWatch := false
                                  slotUs := t.clk.timeUs + t.rail r 4 * 100 }
  let s := s.modSeq fun q => { q with st := .onSequence, startUs := s.clk.timeUs, supplied := false, count := wrap32 (q.count + 1), onComplete := false
                                      offDone := false, committed := false, delayElapsed := false, abortAll := false }
  let s := s.event srcLedger 0x7010 0xFF (le 4 s.seq.count)
  s.over s.freeLoops State.loopOn

/-- Common start of the off-sequence: the moment SETTLING is entered (R231). -/
def State.startOff (cause : Nat) (s : State) : State :=
  let s := s.adoptRails
  let s := s.each 32 fun r t =>
    t.modRail r fun x => { x with st := if x.st.isOn then x.st else .off, slotDue := x.st.isOn, retryOwn := false
                                  slotUs := t.clk.timeUs + t.rail r 5 * 100, offWatch := false }
  let s := s.modSeq fun q => { q with st := .offSequence, startUs := s.clk.timeUs, onComplete := false, offDone := false, committed := false
                                      delayElapsed := false, abortAll := false }
  let s := s.event srcLedger 0x7015 0xFF (byte cause)
  let s := s.over s.freeLoops State.loopOff
  let s := s.each 48 fun c t => if t.feederRails c = [] then t.holdFeeder c else t
  s.offCheck

/-- Record mode turns off every loop rail and every loop that no rail names (R233). -/
def State.recordLoopsOff (s : State) : State :=
  let s := s.each 32 fun r t => if t.railKind r = 1 ∧ t.seq.rails[r].st.isOn then t.railOff .off r else t
  s.over s.freeLoops State.loopOff

/-- A rail sink is shed (R192): EN low, SHED. -/
def State.shedRail (r : RailNo) (s : State) : State := s.railOff .shed r

/-- A shed rail sink is restored: on again, and judged with a timeout that acts as CONTINUE (Table 10-4). -/
def State.restoreRail (r : RailNo) (s : State) : State :=
  if s.seq.rails[r].st = .shed then (s.railOn r).modRail r fun x => { x with asContinue := true } else s

/-- A feeder rail whose cell is drained is SKIPPED (Table 10-4). -/
def State.skipRails (c : CellNo) (s : State) : State :=
  s.over (s.feederRails c) fun r t => t.modRail r fun x =>
    if x.st = .off then x else { x with st := .skipped, slotDue := false, retryOwn := false }

/-- RAIL_CLEAR (R230). -/
def writeRailClear (r : RailNo) (v : Nat) (s : State) : Nat × State :=
  if v = 0 then (0, s)
  else if s.seq.rails[r].st ≠ .latchedOff ∨ s.inModes [.rising, .settling, .dormant] ∨ s.modes.safe then (0x08000022, s)
  else (0, (s.railOn r).followers .latchedOff r)

end Sys2Proof.Machine
end

