-- ==== Sys2Proof/Machine/Ledger.lean ====
section
/-! DEFINITION. Machine/Ledger.lean: sinks, bookings, the throttle handshake, sheds and the ends of grants (R183 to R186,
R191 to R196), and the ledger's own commands. Powers are whole mW (R183). -/

namespace Sys2Proof.Machine

/-! Sinks (R184, R185). -/

/-- FEEDER cell of a sink (R184). -/
def State.sinkCell (s : State) (x : SinkNo) : Option CellNo :=
  match toFin? 48 x with
  | some c => if s.cells[c].role = .feeder then some c else none
  | none => none

/-- External sequenced rail of a sink (R184). -/
def State.sinkRail (s : State) (x : SinkNo) : Option RailNo :=
  if (x : Nat) < 0x30 then none else (pick 32 fun r => s.railKind r = 3 && s.rail r 2 + 0x30 = (x : Nat)).head?

/-- The number is a sink. -/
def State.isSink (s : State) (x : SinkNo) : Bool := (s.sinkCell x).isSome || (s.sinkRail x).isSome

/-- Fed (R184). -/
def State.fed (s : State) (x : SinkNo) : Bool :=
  s.ledger.sinks[x].shed = 0 &&
    match s.sinkCell x with
    | some c =>
      let st := s.cells[c].feeder.st
      st = .inserting || st = .held || st = .inrush || st = .on
    | none => (s.sinkRail x).isSome && s.pins.en.getLsbD (x - 0x30)

/-- Class of a sink, 0 to 3. -/
def State.sinkClass (s : State) (x : SinkNo) : Nat := s.sink x 2

/-- Measured power m_s in mW (R183). -/
def State.measured (s : State) (x : SinkNo) : Int :=
  match s.sinkCell x with
  | some c => quant s.cells[c].feeder.meanP
  | none => 0

/-- The grant is in force (Table 08-6). -/
def Grant.standing (g : Grant) : Bool := g.st = .active || g.st = .notice

/-- Watts of a grant's parts on a sink. -/
def Grant.on (g : Grant) (x : SinkNo) : Nat := ((g.req.parts.filter fun p => p.sink = (x : Nat)).map (·.watts)).sum

/-- Watts of a grant. -/
def GrantReq.total (q : GrantReq) : Nat := (q.parts.map (·.watts)).sum

/-- Granted watts on a sink from the grants that satisfy a test. -/
def State.grantedBy (s : State) (p : Grant → Bool) (x : SinkNo) : Nat :=
  ((s.ledger.grants.toList.filter fun g => g.standing && p g).map fun g => g.on x).sum

/-- Granted watts g_s (R183). -/
def State.granted (s : State) (x : SinkNo) : Nat := s.grantedBy (fun _ => true) x

/-- cap_s in W (R185). -/
def State.capW (s : State) (x : SinkNo) : Nat := s.sink x 1 + s.granted x

/-- Booking of a sink in mW with some granted watts (R183); RETRY_WAIT stays booked at its allowance (R196), and a latched
pass device at what it draws (R166). -/
def State.bookWith (s : State) (x : SinkNo) (g : Nat) : Int :=
  let base : Int := 10 * ((s.cfgN 0x2202 (6 + s.sinkClass x) * s.sink x 1 : Nat) : Int)
  let m := s.measured x
  if s.fed x then max m (base + 1000 * g)
  else if s.ledger.sinks[x].shed ≠ 0 then 0
  else
    match s.sinkCell x with
    | some c =>
      let f := s.cells[c].feeder
      if f.st = .retryWait then max m base else if f.st = .latched ∧ f.tripCause = 0x13 then max m 0 else 0
    | none => 0

/-- Booking b_s. -/
def State.booking (s : State) (x : SinkNo) : Int := s.bookWith x (s.granted x)

/-- Σ b_s. -/
def State.bookedTotal (s : State) : Int := sumOf 64 s.booking

/-- Own use U in mW (R183). -/
def State.ownUse (s : State) : Int := max ((s.cfgN 0x2200 2 : Int) * 1000) (quant s.ownEstimate)

/-- Available external power A in mW from the present solve (R183). -/
def State.available (s : State) : Int :=
  if s.externalSource then
    quant (sumOf 48 fun n => s.allocNext.pMax[n])
      + sumOf 48 fun c => if s.isExtFeed c && s.conducting c then
          max (quant s.cells[c].oring.meanP) ((s.cfgN 0x2200 0xB : Int) * 1000) else 0
  else 0

/-- Measured source power in mW: groups, SOURCE loops and external feeds (R96, R183). -/
def State.sourceMeasured (s : State) : Int :=
  quant ((sumOf 24 fun g => s.groups[g].pBusMw)
    + (sumOf 16 fun k => if s.controlMode k = 2 then s.loops[k].meanP else 0)
    + sumOf 48 fun c => if s.isExtFeed c then s.cells[c].oring.meanP else 0)

/-- Σ m_s. -/
def State.measuredTotal (s : State) : Int := sumOf 64 s.measured

/-- Class headroom H_c for a headroom (R186). -/
def State.classHeadroom (s : State) (h : Int) (c : Nat) : Int :=
  if s.cfgN 0x2200 5 < c then h - (s.cfgN 0x2200 4 : Int) * 1000 else h

/-- Class notice in ms; none for P0 (Table 08-12). -/
def State.noticeOf (s : State) (c : Nat) : Nat := if c = 0 then 0 else s.cfgN 0x2202 (1 + c)

/-! The throttle handshake (R193). -/

/-- ALERT pins follow the outstanding requests (R193). -/
def State.alertPins (s : State) : State :=
  s.modPins fun p => { p with alert := Vector.ofFn fun n =>
    ((List.finRange 64).any fun x => s.ledger.sinks[x].throttle ≠ 0 && s.sink x 3 = (n : Nat)) }

/-- SLOT_PORT of a sink's cell as a two-wire port. -/
def State.slotPort (s : State) (x : SinkNo) : Option TwNo :=
  match s.sinkCell x with
  | some c => if s.cell c 0x33 = 0xFF then none else toFin? 12 (s.cell c 0x33)
  | none => none

/-- GRACE_MS of a sink; with 0 the enforcement falls at the tick after the request (Table 08-12). -/
def State.graceOf (s : State) (x : SinkNo) : Nat := max 1 (s.sink x 4)

/-- EMCY 0xFF50 and Host Notify of a request (R193). -/
def State.tellThrottle (x : SinkNo) (cause target : Nat) (s : State) : State :=
  let ms := s.ledger.sinks[x].allowedMs
  let s := s.emcy 0xFF50 (byte x ++ byte cause ++ le 2 (min 65535 target) ++ byte (min 255 (ms / 100)))
  match s.slotPort x with
  | some p => if s.tw[p].st = .fault then s else s.modTw p fun t => { t with notifies := t.notifies ++ [((x : Nat), cause)] }
  | none => s

/-- The port of the sink has an alert pending from the start of a request (R312). -/
def State.raiseAlert (x : SinkNo) (s : State) : State :=
  match s.slotPort x with
  | some p => s.modTw p fun t => { t with alertPending := true }
  | none => s

/-- Start a throttle request; a request that a class shed stands under is not replaced. A thermal and an over-cap request
that meet are one: the lower target with its cause, and the earlier end (Table 11-6). While MANAGE is down its messages wait
(Table 08-7). The allowed time is the notice of what is revoked or shed, or GRACE_MS (graceOf). -/
def State.throttle (x : SinkNo) (cause target ms : Nat) (s : State) : State :=
  if s.ledger.sinks[x].throttle = 4 then s
  else
    let old := s.ledger.sinks[x]
    let meets : Bool := decide (cause ≤ 2) && (old.throttle = 1 || old.throttle = 2)
    let ms := if meets then min ms old.allowedMs else ms
    let cause := if meets ∧ old.targetW ≤ target then old.throttle else cause
    let target := if meets then min old.targetW target else target
    let s := s.modSink x fun k => { k with throttle := cause, targetW := target, allowedMs := ms }
    let s := (s.event srcLedger 0x5005 x (byte x ++ byte cause ++ le 2 (min 65535 target))).alertPins.raiseAlert x
    if s.manage = .running then s.tellThrottle x cause target
    else s.modLedger fun l => { l with heldBack := l.heldBack ++ [(x, cause, target)] }

/-- A request ends without an event of its own. -/
def State.dropThrottle (x : SinkNo) (s : State) : State :=
  (s.modSink x fun k => { k with throttle := 0, targetW := 0, allowedMs := 0 }).alertPins

/-- A request clears when the sink draws no more than its target (R193). -/
def State.clearThrottle (x : SinkNo) (s : State) : State :=
  let k := s.ledger.sinks[x]
  if k.throttle ≠ 0 ∧ s.measured x ≤ (k.targetW : Int) * 1000 then
    (s.dropThrottle x).event srcLedger 0x5006 x (byte x)
  else s

/-- A measured power lies above a level in W with CAP_TOLERANCE (R193, R194). -/
def State.aboveTol (s : State) (x : SinkNo) (w : Nat) : Bool :=
  decide ((w : Int) * (1000 + s.cfgN 0x2200 6) < s.measured x)

/-- A sink is turned off (R192), with its cause; event 0x5007 at each shed. -/
def State.shedSink (x : SinkNo) (cause : Nat) (s : State) : State :=
  let b := if s.ledger.sinks[x].shed = 0 then s.ledger.sinks[x].bookedMw else s.ledger.sinks[x].bShedMw
  let wait := if cause ≤ 2 then s.cfgN 0x2200 9 * 1000 else 0
  let s := s.modLedger fun l => { l with stepDue := true }
  let s := s.modSink x fun k => { k with shed := cause, bShedMw := b, notice := 0, noticeMs := 0, restoreMs := wait, overRun := 0 }
  let s := match s.sinkCell x, s.sinkRail x with
    | some c, _ => s.shedFeeder c
    | none, some r => s.shedRail r
    | none, none => s
  s.event srcLedger 0x5007 x (byte x ++ byte cause)

/-- A shed ends (R195). -/
def State.restoreSink (x : SinkNo) (s : State) : State :=
  let s := s.modLedger fun l => { l with stepDue := true }
  let s := s.modSink x fun k => { k with shed := 0, restoreMs := 0 }
  let s := match s.sinkCell x, s.sinkRail x with
    | some c, _ => s.restoreFeeder c
    | none, some r => s.restoreRail r
    | none, none => s
  s.event srcLedger 0x5008 x (byte x)

/-! Ends of grants (R191, R194, R196). -/

/-- Change a row in both halves of the grant table. -/
def State.modBoth (s : State) (g : GrantNo) (f : Grant → Grant) : State :=
  s.modLedger fun l => { l with grants := l.grants.set g (f l.grants[g]), grantsNext := l.grantsNext.set g (f l.grantsNext[g]) }

/-- Grant ID of a row (R188). -/
def grantId (g : GrantNo) (gen : Nat) : Nat := 64 * gen + g

/-- After a cap has fallen: a running request's target falls with it, and a draw above the new cap starts one (R194,
Table 08-7). -/
def State.capFell (x : SinkNo) (s : State) : State :=
  let k := s.ledger.sinks[x]
  let cap := s.capW x
  let s := s.modSink x fun k => { k with capW := cap }
  if k.throttle ≠ 0 then s.modSink x fun k => { k with targetW := min k.targetW cap }
  else if (s.sinkCell x).isSome ∧ (cap : Int) * 1000 < s.measured x then s.throttle x 1 cap (s.graceOf x)
  else s

/-- A row becomes ENDED with its cause (R191). -/
def Grant.endWith (cause at_ : Nat) (x : Grant) : Grant :=
  { x with st := .ended, endCause := cause, remainMs := 0, resRemainUj := 0, noticeMs := 0, died := at_ }

/-- Event 0x5003 of a grant that has ended; its sinks' caps fall (R191, R194). -/
def State.grantEnded (g : GrantNo) (q : Grant) (cause : Nat) (s : State) : State :=
  (s.event srcLedger 0x5003 0xFF (le 2 (grantId g q.generation) ++ byte cause)).over (pick 64 fun x => 0 < q.on x) State.capFell

/-- A grant ends with a cause (R191), whole: the one that the half being prepared holds in the row, in both halves. A grant whose end is
decided there already ends by that decision. -/
def State.endGrant (g : GrantNo) (cause : Nat) (s : State) : State :=
  let q := s.ledger.grantsNext[g]
  if q.standing then
    let n := s.ledger.order
    let s := s.modBoth g fun x => if x.standing ∧ x.generation = q.generation then x.endWith cause n else x
    (s.modLedger fun l => { l with order := n + 1 }).grantEnded g q cause
  else s

/-- Grants that satisfy a test end with a cause, accepted ones not yet in force with them (R190), unless the ledger is frozen
(Table 08-7). -/
def State.endGrants (p : Grant → Bool) (cause : Nat) (s : State) : State :=
  if s.modes.safe then s
  else s.over (pick 64 fun g => s.ledger.grantsNext[g].standing && p s.ledger.grantsNext[g]) fun g t => t.endGrant g cause

/-- Grants broken by what has come about on a sink (R196). -/
def State.breakSink (x : SinkNo) (s : State) : State :=
  let cause := s.ledger.sinks[x].broken
  if cause = 0 then s
  else (s.endGrants (fun g => decide (0 < g.on x)) cause).modSink x fun k => { k with broken := 0 }

/-- Grants of a released host end, but for orphans (R196). -/
def State.releaseGrants (h : HostNo) (s : State) : State :=
  let orphan := fun g : Grant => g.req.cls = 0 && g.req.keep && s.cfgB 0x2200 0xA
  let t := s.endGrants (fun g => decide (g.owner = some h) && !orphan g) 5
  let t := t.each 64 fun g u => u.modBoth g fun x => if x.owner = some h ∧ x.standing ∧ orphan x then { x with owner := none } else x
  t.modLedger fun l => { l with requests := l.requests.filter fun q => q.host ≠ h }

/-! Notices and the revocation order (R192). -/

/-- Start class notice on a grant: event 0x5004, and a request with cause 0x03 to each of its sinks, whose target is the cap that
the grants under notice will leave. -/
def State.noticeGrant (g : GrantNo) (s : State) : State :=
  let q := s.ledger.grants[g]
  let ms := s.noticeOf q.req.cls
  let s := s.modBoth g fun x => if x.st = .active then { x with st := .notice, noticeMs := ms } else x
  let s := s.event srcLedger 0x5004 0xFF (le 2 (grantId g q.generation) ++ byte 0xFF ++ byte q.req.cls ++ le 4 ms)
  s.over (pick 64 fun x => 0 < q.on x) fun x t =>
    t.throttle x 3 (t.sink x 1 + t.grantedBy (fun y => y.st = .active) x) ms

/-- Start class notice of a shed with the cause it will show: event 0x5004, and a request with cause 0x04. -/
def State.noticeSink (x : SinkNo) (cause : Nat) (s : State) : State :=
  let ms := s.noticeOf (s.sinkClass x)
  let s := s.modSink x fun k => { k with notice := cause, noticeMs := ms }
  let s := s.event srcLedger 0x5004 x (le 2 0xFFFF ++ byte x ++ byte (s.sinkClass x) ++ le 4 ms)
  s.throttle x 4 0 ms

/-- Items of the revocation order that are not under notice and are fed, with their order (R192). -/
def State.revocable (s : State) (c : Nat) : List NoticeItem :=
  let fedGrant := fun g : Grant => g.req.parts.any fun p => match toFin? 64 p.sink with
    | some x => s.fed x
    | none => false
  let gs := (pick 64 fun g => s.ledger.grants[g].st = .active && s.ledger.grants[g].req.cls = c && fedGrant s.ledger.grants[g])
  let gs := gs.mergeSort fun a b => decide (s.ledger.grants[b].born ≤ s.ledger.grants[a].born)
  let xs := (pick 64 fun x => s.isSink x && s.sinkClass x = c && s.fed x && s.ledger.sinks[x].notice = 0).reverse
  gs.map NoticeItem.grant ++ xs.map NoticeItem.sink

/-- The whole revocation order. -/
def State.revocationOrder (s : State) : List NoticeItem := s.revocable 3 ++ s.revocable 2 ++ s.revocable 1

/-- Start notice on an item; `cause` is the SHED_CAUSE of a sink. -/
def State.noticeItem (cause : Nat) (i : NoticeItem) (s : State) : State :=
  match i with
  | .grant g => s.noticeGrant g
  | .sink x => s.noticeSink x cause

/-- H_p of a headroom H: H plus the bookings that what is under notice will release (R192). -/
def State.headroomAfter (s : State) (h : Int) : Int :=
  h + sumOf 64 fun x =>
    s.booking x - (if s.ledger.sinks[x].notice ≠ 0 then 0 else s.bookWith x (s.grantedBy (fun g => g.st = .active) x))

/-- Start notices down the order until H_p reaches the margin (R192). -/
def State.noticeUntil (h margin : Int) : List NoticeItem → State → State
  | [], s => s
  | i :: r, s => if s.headroomAfter h < margin then State.noticeUntil h margin r (s.noticeItem 4 i) else s

/-- A sink under notice because its cell drains keeps it (R56). -/
def State.drainNotice (s : State) (x : SinkNo) : Bool := s.ledger.sinks[x].notice = 6

/-- A class notice runs. -/
def State.anyNotice (s : State) : Bool :=
  s.ledger.grants.toList.any (fun g => g.st = .notice)
    || (List.finRange 64).any fun x => s.ledger.sinks[x].notice ≠ 0 && !s.drainNotice x

/-- Withdraw all notices (R192): event 0x5006 once, with sink 0xFF. -/
def State.withdrawNotices (s : State) : State :=
  if s.anyNotice then
    let s := s.each 64 fun g t => t.modBoth g fun x => if x.st = .notice then { x with st := .active, noticeMs := 0 } else x
    let s := s.each 64 fun x t =>
      if t.drainNotice x then t
      else
        let t := t.modSink x fun k => { k with notice := 0, noticeMs := 0 }
        if 3 ≤ t.ledger.sinks[x].throttle then t.dropThrottle x else t
    s.event srcLedger 0x5006 0xFF (byte 0xFF)
  else s

/-! Energy, in mWh (R189, R197). -/

/-- A string is verified (R203). -/
def Batt.verified (b : Batt) : Bool := b.st = .connected && (b.authResult = 1 || b.authResult = 2)

/-- E_lb: the sum over verified strings (R211). -/
def State.eLb (s : State) : Rat := sumOf 4 fun n => if s.strings[n].verified then s.strings[n].eLbMwh else 0

/-- Discharge power limit of the verified strings in mW (R211). -/
def State.dischargeLimit (s : State) : Rat := sumOf 4 fun n => if s.strings[n].verified then s.strings[n].pLimMw else 0

/-- Remaining reservations of the standing grants in mWh. -/
def State.reservations (s : State) : Rat :=
  ((s.ledger.grants.toList.filter Grant.standing).map fun g => g.resRemainUj / 3600000).foldl (· + ·) 0

/-- B_0: bookings of the P0 sinks in mW. -/
def State.p0Booked (s : State) : Int := sumOf 64 fun x => if s.sinkClass x = 0 then s.booking x else 0

/-- U + B_0 in mW. -/
def State.lifelineDraw (s : State) : Int := s.ownUse + s.p0Booked

/-- SETTLE_RESERVE in mWh. -/
def State.settleMwh (s : State) : Rat := (s.cfgN 0x2001 9 : Rat) * 1000

/-- The guard G in mWh for a time in HOLDUP in ms (R197). -/
def State.guardMwh (s : State) (ms : Nat) : Rat :=
  (s.lifelineDraw : Rat) * ((s.cfgN 0x2200 1 * 1000 - ms : Nat) : Rat) / 3600000 + s.reservations + s.settleMwh

/-- LL_RUNTIME_S (R197). -/
def State.runtimeS (s : State) : Nat :=
  min 0xFFFFFFFF (quantN (ratio ((s.eLb - s.settleMwh - s.reservations) * 3600) s.lifelineDraw))

/-- A sink is covered by a remaining reservation (R197). -/
def State.covered (s : State) (x : SinkNo) : Bool :=
  s.ledger.grants.toList.any fun g => g.standing && decide (0 < g.resRemainUj) && decide (0 < g.on x)

/-- Sinks that HOLDUP may take: fed, not P0, not covered. -/
def State.holdupSinks (s : State) : List SinkNo := pick 64 fun x => s.fed x && s.sinkClass x ≠ 0 && !s.covered x

/-- The surplus S in mWh (R197). -/
def State.surplus (s : State) : Rat := s.eLb - s.guardMwh s.ledger.holdupMs

/-- Event 0x500C, once, when S falls below 0 while no uncovered sink but P0 is fed (R197). It is judged at each tick of HOLDUP, and when
a notice of HOLDUP has ended with a shed (log 136). -/
def State.lifelineRisk (s : State) : State :=
  let now := decide (s.holdupSinks = []) && decide (s.surplus < 0)
  let n := s.runtimeS
  let t := s.modLedger fun l => { l with atRisk := now }
  if now ∧ s.ledger.atRisk = false then (t.event srcLedger 0x500C 0xFF (le 4 n)).emcy 0xFF56 (le 4 n) else t

/-! The ledger's own commands. -/

/-- GRANT_EXPIRY (R191): its duration has run out at this boundary. -/
def execGrantExpiry (g : GrantNo) (s : State) : Out :=
  .next (
    let x := s.ledger.grants[g]
    if x.standing ∧ x.req.durationS ≠ 0 ∧ x.remainMs = 0 ∧ ¬ s.modes.safe then s.endGrant g 2 else s)

/-- NOTICE_EXPIRY (R192): a grant is revoked, a sink shed. -/
def execNoticeExpiry (what : NoticeItem) (s : State) : Out :=
  .next (
    if s.modes.safe then s
    else
      match what with
      | .grant g =>
        let x := s.ledger.grants[g]
        if x.st = .notice ∧ x.noticeMs = 0 ∧ s.ledger.grantsNext[g].standing then
          let s := s.endGrant g 3
          s.over (pick 64 fun k => 0 < x.on k ∧ s.ledger.sinks[k].throttle = 3 ∧ s.ledger.sinks[k].allowedMs = 0) fun k t =>
            if t.aboveTol k t.ledger.sinks[k].targetW then t.shedSink k 3 else t
        else s
      | .sink x =>
        let k := s.ledger.sinks[x]
        if k.notice ≠ 0 ∧ k.noticeMs = 0 then
          let s := s.shedSink x k.notice
          if s.inModes [.holdup] then s.lifelineRisk else s
        else s)

/-- THROTTLE_OVER_CAP (R194). -/
def execThrottleOverCap (x : SinkNo) (s : State) : Out :=
  .next (
    let k := s.ledger.sinks[x]
    if k.throttle = 0 ∧ (s.sinkCell x).isSome ∧ max 1 (s.cfgN 0x2200 7) ≤ k.overRun ∧ ¬ s.modes.safe then s.throttle x 1 (s.capW x) (s.graceOf x)
    else s)

/-- THROTTLE_ENFORCE (R193, R245): a thermal request to a P0 sink expires without shedding. -/
def execThrottleEnforce (x : SinkNo) (s : State) : Out :=
  .next (
    let k := s.ledger.sinks[x]
    if k.throttle = 0 ∨ k.allowedMs ≠ 0 ∨ k.shed ≠ 0 ∨ s.modes.safe ∨ k.throttle = 4 then s
    else if s.aboveTol x k.targetW then
      if k.throttle = 2 ∧ s.sinkClass x = 0 then s.event srcLedger 0x8006 x (byte x ++ le 4 (quantN ((s.measured x : Rat) / 1000)))
      else s.shedSink x k.throttle
    else s)

/-- A thermal cap still stands on a sink (R195, R244). -/
def State.thermalHolds (s : State) (x : SinkNo) : Bool := s.thermal.toList.any fun i => i.caps.any fun p => p.1 = x

/-- A shed sink waits for nothing but headroom (R195), in a mode that feeds its class (Table 02-1). -/
def State.restorable (s : State) (x : SinkNo) : Bool :=
  let k := s.ledger.sinks[x]
  if k.shed = 0 ∨ k.shed = 6 ∨ !s.isSink x ∨ s.inModes [.settling, .dormant] ∨ (s.inModes [.lifeline] ∧ s.sinkClass x ≠ 0) then false
  else if 3 ≤ k.shed then s.inModes [.serving, .tending]
  else k.restoreMs = 0 && !(k.shed = 2 && s.thermalHolds x)

/-- The sink fits in the headroom (R195). -/
def State.fits (s : State) (x : SinkNo) : Bool :=
  decide ((s.cfgN 0x2200 8 : Int) * 1000 ≤ s.ledger.next.headroomMw - s.ledger.sinks[x].bShedMw)

/-- SINK_RESTORE (R195): in class order, then in rising number; the headroom of the tick falls with each. -/
def execSinkRestore (x : SinkNo) (s : State) : Out :=
  .next (
    let before := fun y : SinkNo =>
      decide (s.sinkClass y < s.sinkClass x) || (s.sinkClass y = s.sinkClass x && decide (y < x))
    if s.restorable x ∧ s.fits x ∧ ¬ s.modes.safe ∧ ¬ (List.finRange 64).any (fun y => before y && s.restorable y && s.fits y) then
      let b := s.ledger.sinks[x].bShedMw
      (s.modLedger fun l => { l with next := { l.next with headroomMw := l.next.headroomMw - b } }).restoreSink x
    else s)

/-! Grant requests (R187 to R190). -/

/-- Parts of a record from byte 16 on. -/
def partsOf (b : Bytes) : Nat → List Part
  | 0 => []
  | n + 1 => { sink := numAt b 0 1, watts := numAt b 2 2 } :: partsOf (b.drop 4) n

/-- A grant record read (Table 08-2). -/
def readGrant (b : Bytes) : GrantReq :=
  { cls := numAt b 1 1, keep := bit (numAt b 3 1) 0, id := numAt b 4 2, durationS := numAt b 8 4, reserveWh := numAt b 12 4
    parts := partsOf (b.drop 16) (numAt b 2 1) }

/-- The result record of Table 08-3. -/
def grantResult (result id tick : Nat) (hcW : Int) (part : Nat) : Bytes :=
  byte 1 ++ byte result ++ le 2 id ++ le 4 tick ++ leI 4 hcW ++ byte part ++ [0, 0, 0]

/-- A reserved bit or byte of a record is not 0 (Table 08-2, R302). -/
def grantReserved (b : Bytes) (n : Nat) : Bool :=
  numAt b 3 1 / 2 ≠ 0 || numAt b 6 2 ≠ 0 || (List.range n).any fun i => numAt b (17 + 4 * i) 1 ≠ 0

/-- GRANT_REQUEST (R187): an abort code, or the record is latched for the next tick. The result reads PENDING until then; which tick
and headroom that record shows before there is a decision the spec does not say: free values (log 3). -/
def writeGrantRequest (h : HostNo) (port : Option TwNo) (b : Bytes) (s : State) : Nat × State :=
  let n := numAt b 2 1
  if b.length < 20 ∨ n < 1 ∨ 8 < n ∨ b.length ≠ 16 + 4 * n then (0x06070010, s)
  else if numAt b 0 1 ≠ 1 ∨ 3 < numAt b 1 1 ∨ grantReserved b n then (0x06090030, s)
  else if s.hosts[h].grantPending then (0x08000022, s)
  else
    let s := s.modLedger fun l => { l with requests := l.requests ++ [{ host := h, req := readGrant b, record := b, port := port }] }
    let (tick, s) := s.fresh
    let (hc, s) := s.fresh
    (0, s.modHost h fun x => { x with grantPending := true, grantResult := grantResult 2 0xFFFF tick hc 0xFF })

end Sys2Proof.Machine
end

