-- ==== Sys2Proof/Machine/LedgerTick.lean ====
section
/-! DEFINITION. Machine/LedgerTick.lean: what the ledger does in a tick (R183, R188 to R190, R192, R193, R197), on the
snapshot taken at the boundary. -/

namespace Sys2Proof.Machine

/-! Decisions (R188, R189). -/

/-- A sink number of a request. -/
def sinkNo? (n : Nat) : Option SinkNo := toFin? 64 n

/-- The first part that fails, with its result code (R189). -/
def State.badPart (s : State) (h : HostNo) (cls : Nat) : List Part → Nat → Option (Nat × Nat)
  | [], _ => none
  | p :: r, i =>
    match sinkNo? p.sink with
    | none => some (0x17, i)
    | some x =>
      if p.watts = 0 ∨ !s.isSink x then some (0x17, i)
      else if s.hosts[h].cls = .slt ∧ s.hosts[h].ownSink ≠ some x then some (0x15, i)
      else if cls < s.sinkClass x then some (0x14, i)
      else if !s.fed x then some (0x13, i)
      else s.badPart h cls r (i + 1)

/-- Every part is at most the matching part of the standing grant (R189). -/
def reduces (q old : GrantReq) : Bool :=
  q.parts.all fun p => old.parts.any fun o => o.sink = p.sink && decide (p.watts ≤ o.watts)

/-- The grant's duration has run out: it ends at this boundary (R191). -/
def Grant.runOut (g : Grant) : Bool := g.req.durationS ≠ 0 && g.remainMs = 0

/-- The row that an ID names, with its standing grant in the half being decided (R188); one that ends at this boundary stands no more. -/
def State.rowOf (s : State) (id : Nat) : Option GrantNo :=
  let g : GrantNo := ⟨id % 64, by omega⟩
  let x := s.ledger.grantsNext[g]
  if x.standing ∧ ¬ x.runOut ∧ x.generation = id / 64 then some g else none

/-- Row for a new grant: the lowest FREE one, else the ENDED one that ended longest ago (R188). -/
def State.newRow (s : State) : Option GrantNo :=
  match (pick 64 fun g => s.ledger.grantsNext[g].st = .free).head? with
  | some g => some g
  | none =>
    (pick 64 fun g => s.ledger.grantsNext[g].st = .ended).foldl (fun best g => match best with
      | some b => if s.ledger.grantsNext[g].died < s.ledger.grantsNext[b].died then some g else some b
      | none => some g) none

/-- The next generation of a row, never 0 (R188). -/
def nextGen (n : Nat) : Nat := if n = 0 ∨ 511 ≤ n then 1 else n + 1

/-- Install or replace a grant in the inactive half; event 0x5001 (R190). A replacement counts as the newest grant, and a notice that runs
on the grant goes on (log 137). -/
def State.install (g : GrantNo) (fresh : Bool) (q : Latched) (s : State) : State :=
  let n := s.ledger.order
  let old := s.ledger.grantsNext[g]
  let row : Grant := { st := if fresh then .active else old.st, owner := some q.host
                       generation := if fresh then nextGen old.generation else old.generation
                       req := q.req, record := q.record, remainMs := q.req.durationS * 1000
                       resRemainUj := (q.req.reserveWh : Rat) * 3600000000
                       noticeMs := if fresh then 0 else old.noticeMs, endCause := 0, born := n, died := 0 }
  let s := s.modLedger fun l => { l with grantsNext := l.grantsNext.set g row, order := n + 1 }
  s.event srcLedger 0x5001 0xFF (le 2 (grantId g row.generation) ++ byte q.host ++ le 4 q.req.total)

/-- A cancellation, decided: the grant stands until the next boundary (R190). -/
def State.cancel (g : GrantNo) (s : State) : State :=
  s.modLedger fun l => { l with grantsNext := l.grantsNext.set g (l.grantsNext[g].endWith 1 l.order), order := l.order + 1 }

/-- What a decision came to: result code, grant ID, failing part, and the headroom left. -/
structure Decision where
  result : Nat
  id : Nat
  part : Nat
  left : Int
  deriving DecidableEq, Repr

/-- Energy that a request with its reservation would leave unreserved falls short (R189). -/
def State.noEnergy (s : State) (resWh resOldWh : Nat) : Bool :=
  let total := ((s.ledger.grantsNext.toList.filter Grant.standing).map fun g => g.resRemainUj / 3600000).foldl (· + ·) 0
  let guardLl : Rat := (s.lifelineDraw : Rat) * (s.cfgN 0x2200 1 : Rat) / 3600
  decide (resOldWh < resWh) && decide (s.eLb - s.settleMwh - guardLl < total - 1000 * resOldWh + 1000 * resWh)

/-- decide(q) of R189, with the headroom in mW that earlier decisions have left. -/
def State.decideGrant (q : Latched) (h : Int) (s : State) : Decision × State :=
  let r := q.req
  let no := fun (code part : Nat) => (({ result := code, id := 0xFFFF, part := part, left := h } : Decision), s)
  let row := if r.id = 0xFFFF then none else s.rowOf r.id
  if s.modes.safe then no 0x12 0xFF
  else if r.id ≠ 0xFFFF ∧ row = none then no 0x16 0xFF
  else
    let old : Option Grant := row.map fun g => s.ledger.grantsNext[g]
    let strange := match old with
      | some g => g.owner ≠ some q.host && !(g.owner = none && s.hosts[q.host].cls.atLeast .opr)
      | none => false
    if strange then no 0x15 0xFF
    else if row.isSome ∧ r.parts.all (fun p => p.watts = 0) then
      match row with
      | some g => ({ result := 0x01, id := 0xFFFF, part := 0xFF, left := h }, s.cancel g)
      | none => no 0x16 0xFF
    else if r.cls = 0 ∧ !s.hosts[q.host].cls.atLeast .opr then no 0x14 0xFF
    else
      match s.badPart q.host r.cls r.parts 0 with
      | some (code, i) => no code i
      | none =>
        let reduce := match old with
          | some g => reduces r g.req
          | none => false
        let oldW := (old.map fun g => g.req.total).getD 0
        let oldWh := (old.map fun g => g.req.reserveWh).getD 0
        let need : Int := 1000 * ((r.total : Int) - oldW)
        if !reduce && !s.inModes [.serving, .tending] then no 0x12 0xFF
        else if !reduce && decide (s.classHeadroom h r.cls < need) then no 0x10 0xFF
        else if s.noEnergy r.reserveWh oldWh then no 0x11 0xFF
        else
          match row, s.newRow with
          | some g, _ =>
            let s := s.install g false q
            ({ result := 0, id := grantId g s.ledger.grantsNext[g].generation, part := 0xFF, left := h - need }, s)
          | none, some g =>
            let s := s.install g true q
            ({ result := 0, id := grantId g s.ledger.grantsNext[g].generation, part := 0xFF, left := h - need }, s)
          | none, none => no 0x18 0xFF

/-- Decide the latched requests in order of arrival (R189); each result waits for the next boundary (R190). -/
def State.decideAll : List Latched → Int → State → Int × State
  | [], h, s => (h, s)
  | q :: r, h, s =>
    let hc := quant ((s.classHeadroom h q.req.cls : Rat) / 1000)
    let (d, s) := s.decideGrant q h
    let s := if d.result < 2 then s
      else s.event srcLedger 0x5002 0xFF (byte q.host ++ byte d.result ++ leI 4 hc)
    let s := s.modLedger fun l =>
      { l with results := l.results ++ [(q.host, grantResult d.result d.id l.tickCount hc d.part, q.port)] }
    State.decideAll r d.left s

/-! Notices of a tick (R192, R197). -/

/-- HOLDUP_MAX_S of a class in ms; none for no limit (R197). -/
def State.holdupMaxMs (s : State) (c : Nat) : Option Nat :=
  let m := s.cfgN 0x2202 (0xA + c)
  if m = 0xFFFFFFFF then none else some (m * 1000)

/-- Start notice on all of a class's grants and uncovered sinks together (R197). -/
def State.noticeClass (c : Nat) (s : State) : State :=
  let gs := pick 64 fun g => s.ledger.grants[g].st = .active && s.ledger.grants[g].req.cls = c
    && decide (s.ledger.grants[g].resRemainUj ≤ 0)
  let xs := s.holdupSinks.filter fun x => s.sinkClass x = c && s.ledger.sinks[x].notice = 0
  let s := s.over gs State.noticeGrant
  s.over xs fun x t => t.noticeSink x 5

/-- HOLDUP_PLAN (R197). -/
def State.holdupPlan (s : State) : State :=
  let xs := s.holdupSinks
  let c := (xs.map s.sinkClass).foldl max 0
  let ms := s.noticeOf c
  let pn : Rat := (xs.map fun x => s.measured x).foldl (· + ·) 0
  let all : Rat := sumOf 64 fun x => if s.fed x then s.measured x else 0
  let timeUp : Bool := match s.holdupMaxMs c with
    | some m => decide (m ≤ s.ledger.holdupMs + ms)
    | none => false
  if xs ≠ [] ∧ (timeUp ∨ s.surplus ≤ pn * ms / 3600000 ∨ s.dischargeLimit < all) then s.noticeClass c else s

/-- Draw of the covered sinks out of their reservations over a tick (R197). -/
def State.useReservations (s : State) : State :=
  s.each 64 fun x t =>
    if t.fed x && t.covered x then
      match (pick 64 fun g => let y := t.ledger.grants[g]; y.standing && decide (0 < y.resRemainUj) && decide (0 < y.on x)).head? with
      | some g => t.modBoth g fun y => { y with resRemainUj := max 0 (y.resRemainUj - t.measured x) }
      | none => t
    else t

/-- Notices that a tick starts or withdraws by its headroom H (R192, Table 08-7). -/
def State.tickNotices (h : Int) (s : State) : State :=
  let lifeline := decide (s.modes.requestInForce = 2)
  let ended := s.ledger.lifelineSeen && !lifeline
  let s := s.modLedger fun l => { l with lifelineSeen := lifeline }
  let s := if ended ∧ !s.inModes [.holdup] then s.withdrawNotices else s
  if lifeline then s.over s.revocationOrder (State.noticeItem 4)
  else if s.inModes [.rationed] then
    let margin : Int := (s.cfgN 0x2200 8 : Int) * 1000
    if margin ≤ h then s.withdrawNotices else State.noticeUntil h margin s.revocationOrder s
  else s

/-! The tick. -/

/-- One tick of a standing grant's duration and notice. -/
def Grant.clock (duration : Bool) (g : Grant) : Grant :=
  if g.standing then { g with remainMs := if duration then g.remainMs - 1 else g.remainMs, noticeMs := g.noticeMs - 1 } else g

/-- Time that a tick takes from durations, notices, allowed times and restore delays. A grant that comes into force at this boundary
only begins its duration (R190); durations stop while MANAGE is down (Table 08-7). In the global safe state nothing expires. -/
def State.ledgerClock (s : State) : State :=
  let up := decide (s.manage = .running)
  if s.modes.safe then s
  else s.modLedger fun l =>
    { l with grants := l.grants.map (Grant.clock up)
             grantsNext := Vector.ofFn fun (g : GrantNo) =>
               l.grantsNext[g].clock (up && l.grantsNext[g].born = l.grants[g].born)
             sinks := l.sinks.map fun k => { k with allowedMs := k.allowedMs - 1, noticeMs := k.noticeMs - 1
                                                    restoreMs := k.restoreMs - 1 } }

/-- The buffers swap (R18, R190): the results of the tick come into force together. A grant that was cancelled in it ends now. -/
def State.swapHalves (s : State) : State :=
  let old := s.ledger.grants
  let gone := pick 64 fun g =>
    let n := s.ledger.grantsNext[g]
    old[g].standing && !(n.standing && n.generation = old[g].generation)
  (s.modLedger fun l => { l with now := l.next, grants := l.grantsNext }).over gone fun g t => t.grantEnded g old[g] 1

/-- The results of the requests decided in the last tick show (R190); they wait while MANAGE is down. -/
def State.giveResults (s : State) : State :=
  if s.manage = .running then
    (s.modLedger fun l => { l with results := [] }).over s.ledger.results fun r t =>
      let t := t.modHost r.1 fun h => { h with grantResult := r.2.1, grantPending := false }
      match r.2.2 with
      | some p =>
        let code := match t.hosts[r.1].ownSink with
          | some x => (x : Nat)
          | none => 0xFF
        if t.tw[p].st = .fault then t else t.modTw p fun w => { w with notifies := w.notifies ++ [(code, 0x10)] }
      | none => t
  else s

/-- Measured powers, bookings and caps of the tick; over-cap ticks counted (R183, R194). -/
def State.bookSinks (s : State) : State :=
  s.each 64 fun x t =>
    let m := t.measured x
    let b := t.booking x
    let cap := t.capW x
    let above := t.aboveTol x cap && (t.sinkCell x).isSome
    t.modSink x fun k => { k with measMw := m, bookedMw := if k.shed = 0 then b else 0, capW := cap
                                  overRun := if above then k.overRun + 1 else 0 }

/-- Event 0x500B when the own-use estimate rises above OWN_USE_W (Table 08-16). -/
def State.ownUseCheck (s : State) : State :=
  let e := s.ownEstimate
  let now := decide ((s.cfgN 0x2200 2 : Rat) * 1000 < e)
  let s := if now ∧ s.ledger.ownOver = false then s.event srcLedger 0x500B 0xFF (le 4 (quantN e)) else s
  s.modLedger fun l => { l with ownOver := now }

/-- Results of a tick into the inactive half, with event 0x5009 or 0x500A at a change of the flag (R183). -/
def State.writeResults (booked h : Int) (s : State) : State :=
  let a := s.available
  let u := s.ownUse
  let m := s.measuredTotal
  let short := decide (h < 0) || decide (0 < s.allocNext.shortfallMw)
  let was := s.ledger.next.shortfall
  let ms := if s.inModes [.holdup] then s.ledger.holdupMs else 0
  let r : LedgerNow :=
    { availMw := a, ownMw := u, bookedMw := booked, headroomMw := h, residualMw := s.sourceMeasured - m - u
      shortfall := short, kEffMw := clampI 0 ((s.cfgN 0x2200 4 : Int) * 1000) (a - u - m), eLbMwh := quantN s.eLb
      guardMwh := quantN (s.guardMwh ms), reservedMwh := quantN s.reservations, runtimeS := s.runtimeS }
  let s := s.modLedger fun l => { l with next := r, shortFreeMs := if short then 0 else l.shortFreeMs + 1 }
  if short = was then s
  else s.event srcLedger (if short then 0x5009 else 0x500A) 0xFF
    (leI 4 (quant ((h : Rat) / 1000)) ++ le 4 (quantN (s.allocNext.shortfallMw / 1000)))

/-- The latched requests are decided and leave the queue. -/
def State.decideLatched (h : Int) (s : State) : Int × State :=
  let r := State.decideAll s.ledger.requests h s
  (r.1, r.2.modLedger fun l => { l with requests := [] })

/-- The ledger's booking, decisions and notices of a tick in the order of R189, after the allocator. -/
def State.ledgerWork (s : State) : State :=
  let s := s.bookSinks
  let booked := s.bookedTotal
  let h := s.available - s.ownUse - booked
  let s := (s.each 64 State.breakSink).tickNotices h
  let r := if s.inModes [.rising] then (h, s) else s.decideLatched h
  let s := r.2
  let s := if s.inModes [.holdup] then
      (s.holdupPlan.lifelineRisk.useReservations).modLedger fun l => { l with holdupMs := l.holdupMs + 1 }
    else s
  ((s.each 64 State.clearThrottle).writeResults booked r.1).ownUseCheck

/-- The ledger's part of a tick: frozen in the global safe state, where it only refuses (Table 08-7), and standing still while its
engine is held in reset (R13, log 133). -/
def State.ledgerTick (s : State) : State :=
  if s.blockHeld 0x43 then s
  else
    let s := if s.modes.safe then (s.decideLatched s.ledger.now.headroomMw).2 else s.ledgerWork
    s.modLedger fun l => { l with tickCount := wrap32 (l.tickCount + 1) }

end Sys2Proof.Machine
end

