-- ==== Sys2Proof/Machine/Battery.lean ====
section
/-! DEFINITION. Machine/Battery.lean: the strings (R201 to R207): the OCV and impedance tables, presence, connection, the
currents inferred at a tick (R209), charge control (R214, R220, R221) and the windows of a known step (R217). Voltages are
mV, currents mA, resistances µΩ, SOC per cent. -/

namespace Sys2Proof.Machine

/-! Tables (R211, Table 09-9). -/

/-- OCV point j of a string's band in mV of the string. -/
def State.ocvPoint (s : State) (n : StringNo) (j : Nat) : Rat :=
  (s.string n 3 : Rat) * s.cfgN (0x4300 + n) (32 * s.strings[n].band + j + 1) / 10

/-- OCV of a string in mV at a SOC: linear between the 32 points. -/
def State.ocv (s : State) (n : StringNo) (soc : Rat) : Rat :=
  let x := clampR 0 100 soc * 31 / 100
  let j := min 30 x.floor.toNat
  let a := s.ocvPoint n j
  a + (s.ocvPoint n (j + 1) - a) * (x - j)

/-- Slope of the OCV in mV per per cent on the segment of a SOC. -/
def State.ocvSlope (s : State) (n : StringNo) (soc : Rat) : Rat :=
  let j := min 30 (clampR 0 100 soc * 31 / 100).floor.toNat
  (s.ocvPoint n (j + 1) - s.ocvPoint n j) * 31 / 100

/-- The lowest SOC at which the OCV reaches a level; none where it never does. -/
def State.socAt (s : State) (n : StringNo) (mv : Rat) : Option Rat :=
  if mv ≤ s.ocvPoint n 0 then some 0
  else
    (List.range 31).findSome? fun j =>
      let a := s.ocvPoint n j
      let b := s.ocvPoint n (j + 1)
      if mv ≤ b then some ((j + (mv - a) / (b - a)) * 100 / 31) else none

/-- Integral of OCV less a drop over a range of SOC, in mV times per cent. -/
def State.ocvArea (s : State) (n : StringNo) (drop lo hi : Rat) : Rat :=
  ((List.range 31).map fun (j : Nat) =>
    let a := max lo ((j : Rat) * 100 / 31)
    let b := min hi (((j : Rat) + 1) * 100 / 31)
    if a < b then (b - a) * ((s.ocv n a + s.ocvPoint n j + s.ocvSlope n ((j : Rat) * 100 / 31) * (b - (j : Rat) * 100 / 31)) / 2 - drop)
    else 0).foldl (· + ·) 0

/-- Grid point 8b + q of a string's SOC cell and band (R210, Table 09-5). -/
def Batt.grid (b : Batt) : Fin 48 :=
  ⟨min 47 (8 * b.band + min 7 (b.soc * 8 / 100).floor.toNat), by omega⟩

/-- Impedance of a string at its grid point: Rs, Ra, τa, Rb, τb with the learned factors; a pair with τ 0 is off (R210). Resistances in
µΩ, times in ms. -/
structure Impedance where
  rs : Rat
  ra : Rat
  ta : Rat
  rb : Rat
  tb : Rat
  deriving DecidableEq, Repr

/-- Base values and factors at the grid point: f_rs multiplies Rs, f_rc the values of the two pairs (log 76). -/
def State.impedance (s : State) (n : StringNo) : Impedance :=
  let b := s.strings[n]
  let g := b.grid
  let w := fun (k : Nat) => s.cfgN (0x4310 + n) (48 * k + g + 1)
  let ra : Rat := if w 2 = 0 then 0 else (w 1 : Rat) * b.frc[g]
  let rb : Rat := if w 4 = 0 then 0 else (w 3 : Rat) * b.frc[g]
  { rs := (w 0 : Rat) * b.frs[g], ra := ra, ta := w 2 * b.frc[g], rb := rb, tb := w 4 * b.frc[g] }

/-- R_dc (R211). -/
def Impedance.dc (z : Impedance) : Rat := z.rs + z.ra + z.rb

/-- e^(-t/τ) for times in ms; 0 for a pair that is off. -/
def decay (ms : Nat) (tau : Rat) : Rat := if tau = 0 then 0 else Config.expNeg (ms / tau)

/-- SOC_SIGMA (R211). -/
def Batt.sigmaNow (b : Batt) : Rat := Config.sqrt (b.p11 + b.bias * b.bias / 3)

/-- Strings in a state. -/
def State.stringsIn (s : State) (st : StringState) : List StringNo := pick 4 fun n => s.strings[n].st = st

/-- SOC in 0.01 % as events and entries show it. -/
def hundredths (x : Rat) : Nat := quantN (100 * x)

/-! Presence and disconnection (R203, R204). -/

/-- Level of BLVDn. -/
def State.setBlvd (n : StringNo) (high : Bool) (s : State) : State :=
  s.modPins fun p =>
    let m : BitVec 4 := BitVec.ofNat 4 (2 ^ (n : Nat))
    { p with blvd := if high then p.blvd ||| m else p.blvd &&& ~~~m }

/-- Bytes 0 to 3 of a pack ID, as a number would be sent; all 0 when none has been read. -/
def idHead (id : Option Bytes) : Bytes := ((id.getD []) ++ [0, 0, 0, 0]).take 4

/-- The string becomes present: an ABSENT one authenticates (Table 09-2). -/
def State.becomePresent (n : StringNo) (s : State) : State :=
  if s.strings[n].present then s
  else
    let s := s.modString n fun b => { b with present := true }
    if s.strings[n].st = .absent then
      (s.modString n fun b => { b with st := .authenticating }).event srcLedger 0x6004 n (byte n ++ idHead s.strings[n].packId)
    else s

/-- The string ceases to be present; no capacity is learned over the absence (R203, R216). -/
def State.becomeGone (n : StringNo) (s : State) : State :=
  if s.strings[n].present then s.modString n fun b => { b with present := false, goneUs := s.clk.timeUs, learnOk := false } else s

/-- A CONNECTED string disconnects into a state (R204). -/
def State.disconnect (n : StringNo) (cause : Nat) (st : StringState) (s : State) : State :=
  if s.strings[n].st = .connected then
    let s := (s.setBlvd n false).modString n fun b =>
      { b with st := st, disconnectCause := cause, stage := .none, iTick := 0, cands := [], step := none }
    s.event (srcWatch 2) 0x6002 n (byte n ++ byte cause)
  else s

/-- STRING_ABSENT (R203, R219): not present for 3 s. In the global safe state a closed contactor keeps its level (R204). -/
def execStringAbsent (n : StringNo) (s : State) : Out :=
  .next (
    let b := s.strings[n]
    if b.present ∨ b.st = .disabled ∨ b.st = .absent ∨ s.clk.timeUs < b.goneUs + 3000000 ∨ (s.modes.safe ∧ b.st = .connected) then s
    else
      let s := s.disconnect n 5 .absent
      let s := s.modString n fun b => { b with st := .absent, writeDue := true, learnOk := false, steering := false }
      s.event srcLedger 0x6003 n (byte n ++ idHead b.packId))

/-- BSV has been below LVD_MV for LVD_DELAY_MS without a break (R204). -/
def State.lvdDue (s : State) (n : StringNo) : Bool :=
  match s.strings[n].lvdUs with
  | some t => decide (t + s.string n 0xC * 1000 ≤ s.clk.timeUs)
  | none => false

/-- STRING_LVD (R204): the delay has run out. In a link-loss safe state no samples arrive, and the cause is 0x07 once the delay has passed
since that state was entered. -/
def execStringLvd (n : StringNo) (s : State) : Out :=
  .next (
    if s.modes.safe ∧ s.modes.safeWhy = 2 then
      if s.modes.safeUs + s.string n 0xC * 1000 ≤ s.clk.timeUs then s.disconnect n 7 .open else s
    else if s.lvdDue n then s.disconnect n 2 .open else s)

/-- A block lies below BLOCK_MIN_MV; with 0 there is no test. -/
def State.blockLow (s : State) (n : StringNo) (mv : Nat) : Bool := decide (mv < s.string n 0x10)

/-- A block lies above BLOCK_MAX_MV; with 0 there is no test. -/
def State.blockHigh (s : State) (n : StringNo) (mv : Nat) : Bool := s.string n 0x11 ≠ 0 && decide (s.string n 0x11 < mv)

/-- 1 s has passed since a moment. -/
def State.secondSince (s : State) (t : Option Nat) : Bool :=
  match t with
  | some t => decide (t + 1000000 ≤ s.clk.timeUs)
  | none => false

/-- Number, from 1 on, and voltage of the first block that satisfies a test. -/
def firstBlock (p : Nat → Bool) (bs : List Nat) : Nat × Nat := (bs.findIdx p + 1, (bs.find? p).getD 0)

/-- STRING_BLOCK_LIMIT (R204): a block has been outside its limits for 1 s; event 0x6040 names the first such block (log 140). In the
global safe state BLVD keeps its level. -/
def execStringBlockLimit (n : StringNo) (s : State) : Out :=
  .next (
    let b := s.strings[n]
    let low := s.secondSince b.lowUs
    let w := firstBlock (if low then s.blockLow n else s.blockHigh n) b.blocks
    if b.st ≠ .connected ∨ s.modes.safe ∨ (!low && !s.secondSince b.highUs) then s
    else (s.event srcLedger 0x6040 n (byte n ++ byte w.1 ++ le 2 w.2)).disconnect n (if low then 3 else 4) .open)

/-- One BSV conversion from the slow slots of CB2 (R39, R201, R203) and the LVD test on it (R204). Without a pack interface a string is
present from CELLS_SERIES volts on; with CELLS_SERIES 0 there is no such voltage, and the string is not present, which the spec leaves
open (log 134). -/
def State.bsvSample (n : StringNo) (code : BitVec 12) (s : State) : State :=
  let mv := (vsWord code : Rat) * 1800 * s.string n 5 / 32768000
  let now := s.clk.timeUs
  let low := decide (mv < s.string n 0xB)
  let s := s.modString n fun b =>
    { b with bsvMv := mv, bsvSum := b.bsvSum + mv, bsvCount := b.bsvCount + 1, tickV := b.tickV + mv, tickN := b.tickN + 1
             lvdUs := if low then some (b.lvdUs.getD now) else none }
  if s.string n 7 ≠ 0 then s
  else if (s.string n 3 : Rat) * 1000 ≤ mv ∧ s.string n 3 ≠ 0 then s.becomePresent n
  else s.becomeGone n

/-! Currents at a tick (R209). -/

/-- RESIDUAL / V_bus as I_tot in mA, discharge positive. -/
def State.totalCurrent (s : State) : Rat :=
  ratio (-(s.ledger.next.residualMw : Rat) * 1000) s.bus.vBusMv

/-- P_flow in mW. -/
def State.powerFlow (s : State) : Rat :=
  let mag := fun x : Rat => if x < 0 then -x else x
  (sumOf 24 fun g => mag s.groups[g].pBusMw)
    + (sumOf 16 fun k => if s.controlMode k = 2 then mag s.loops[k].meanP else 0)
    + (sumOf 48 fun c => if s.isExtFeed c then mag s.cells[c].oring.meanP else 0)
    + s.measuredTotal + s.ownUse

/-- The string currents of a tick and their uncertainty, added to the second's sums. -/
def State.stringCurrents (s : State) : State :=
  let cs := s.stringsIn .connected
  let g := fun n : StringNo => ratio 1 (s.impedance n).rs
  let total := (cs.map g).foldl (· + ·) 0
  let u := fun n : StringNo => s.ocv n s.strings[n].soc - s.strings[n].va - s.strings[n].vb
  let ubar := ratio ((cs.map fun n => g n * u n).foldl (· + ·) 0) total
  let itot := s.totalCurrent
  let flow := ratio (s.powerFlow * 1000) s.bus.vBusMv
  s.each 4 fun n t =>
    let on := decide (n ∈ cs)
    let share := if on then ratio (g n) total else 0
    let i := if on then share * itot + g n * (u n - ubar) * 1000000 else 0
    let noise := (t.string n 0x14 : Rat) / 1000 * flow * share
    let beta := (t.string n 0x15 : Rat) / 1000 * flow * share
    t.modString n fun b =>
      let v := if b.tickN = 0 then b.bsvMv else b.tickV / b.tickN
      { b with iTick := i, sumI := b.sumI + i, sumSigma := b.sumSigma + noise, sumBeta := b.sumBeta + beta
               tickCount := b.tickCount + 1, iTicks := (i :: b.iTicks).take 10, vTicks := (v :: b.vTicks).take 10
               tickV := 0, tickN := 0 }

/-! Known steps (R217). -/

/-- Mean of a list, 0 of the empty one. -/
def meanOf (xs : List Rat) : Rat := if xs = [] then 0 else xs.foldl (· + ·) 0 / xs.length

/-- A factor within 0.5 to 3.0 of base. -/
def factorOk (f : Rat) : Bool := decide (1 / 2 ≤ f) && decide (f ≤ 3)

/-- Factors at a grid point as event 0x6021 or 0x6022 carries them. -/
def State.factorEvent (code : Nat) (n : StringNo) (g : Fin 48) (s : State) : State :=
  let b := s.strings[n]
  s.event srcLedger code n
    (byte n ++ byte g ++ le 2 (min 65535 (quantN (b.frs[g] * 4096))) ++ byte (min 255 (quantN (b.frc[g] * 64))))

/-- A candidate's second window is full: with ΔI ≥ Q/20 it is a known step, and Rs is learned unless another lies within the
last 60 s; one that falls within those 60 s ends the wait for the RC factor. -/
def State.judgeStep (n : StringNo) (k : KnownStep) (s : State) : State :=
  let b := s.strings[n]
  let dI := k.sumI / 10 - k.iBefore
  let mag := if dI < 0 then -dI else dI
  if mag < b.capAh * 50 ∨ dI = 0 then s
  else
    let free := match b.sinceStepMs with
      | some ms => decide (60010 ≤ ms)
      | none => true
    let s := s.modString n fun x => { x with sinceStepMs := some 10, step := none }
    if !free then s
    else
      let rsM := -(k.sumV / 10 - k.vBefore) / dI * 1000000
      let g := b.grid
      let f := ratio rsM (s.cfgN (0x4310 + n) (g + 1))
      if factorOk f then
        let s := s.modString n fun x =>
          { x with frs := x.frs.set g (x.frs[g] + (f - x.frs[g]) / 8), updates := x.updates.set g (min 255 (x.updates[g] + 1))
                   step := some { k with dI := dI, rsM := rsM, g := g } }
        s.factorEvent 0x6021 n g
      else s.factorEvent 0x6022 n g

/-- A tick of the known-step windows: a new candidate, the running ones, and those whose 10 ticks are over. No step counts
while a rest window is open (Table 09-6a). -/
def State.stepWindows (n : StringNo) (due : Bool) (s : State) : State :=
  let b := s.strings[n]
  if b.st ≠ .connected ∨ (List.finRange 4).any (fun m => s.strings[m].windowOpen) then
    s.modString n fun b => { b with cands := [], sinceStepMs := b.sinceStepMs.map (· + 1) }
  else
    let i := b.iTick
    let v := b.vTicks.headD b.bsvMv
    let grown := b.cands.map fun k => { k with ticks := k.ticks + 1, sumI := k.sumI + i, sumV := k.sumV + v }
    let fresh : List KnownStep :=
      if due ∧ 10 ≤ b.iTicks.length then
        [{ ticks := 0, iBefore := meanOf b.iTicks, vBefore := meanOf b.vTicks, sumI := 0, sumV := 0, dI := 0, rsM := 0, g := 0 }]
      else []
    let s := s.modString n fun b =>
      { b with cands := grown.filter (fun k => k.ticks < 10) ++ fresh, sinceStepMs := b.sinceStepMs.map (· + 1) }
    s.over (grown.filter fun k => 10 ≤ k.ticks) fun k t => t.judgeStep n k

/-! Reconnection (R205). -/

/-- Every block lies within its limits, or there is no block data. -/
def State.blocksOk (s : State) (n : StringNo) : Bool :=
  s.strings[n].blocks.all fun mv => !s.blockLow n mv && !s.blockHigh n mv

/-- The voltage match of R205. -/
def State.voltageMatch (s : State) (n : StringNo) : Bool :=
  let d := s.bus.vBusMv - s.strings[n].bsvMv
  s.string n 0xE = 0 || (decide (d ≤ s.string n 0xE) && decide (-d ≤ s.string n 0xE))
    || (s.string n 0xF = 1 && decide (2 * s.bus.vBusMv < s.strings[n].bsvMv))

/-- The other conditions of R205. -/
def State.reconnectOk (s : State) (n : StringNo) : Bool :=
  s.strings[n].st = .open && decide ((s.string n 0xD : Rat) ≤ s.strings[n].bsvMv) && !s.modes.safe && s.modes.mode.isSome
    && !s.inModes [.dormant, .settling] && s.blocksOk n

/-- Reconnection at a tick boundary: BULK, event 0x6001. -/
def State.reconnect (n : StringNo) (s : State) : State :=
  if s.reconnectOk n && s.voltageMatch n then
    let s := (s.setBlvd n true).modString n fun b =>
      { b with st := .connected, stage := .bulk, inhibit := 0, steering := false, steerMs := 0 }
    s.event srcLedger 0x6001 n (byte n)
  else s

/-! Charge control (R214, R220, R221). -/

/-- FLOAT_UV, CHARGE_UV and CHG_MC of a string's band. -/
def State.floatUv (s : State) (n : StringNo) : Nat := s.string n (0x50 + s.strings[n].band)
/-- CHARGE_UV of the band in force. -/
def State.chargeUv (s : State) (n : StringNo) : Nat := s.string n (0x56 + s.strings[n].band)
/-- CHG_MC of the band in force. -/
def State.chgMc (s : State) (n : StringNo) : Nat := s.string n (0x5C + s.strings[n].band)

/-- V_t of a string in mV (R220). -/
def State.stageTarget (s : State) (n : StringNo) : Rat :=
  let cells : Rat := s.string n 3
  match s.strings[n].stage with
  | .float => cells * s.floatUv n / 1000
  | .inhibited => s.ocv n s.strings[n].soc
  | _ => cells * s.chargeUv n / 1000

/-- A charge stage changes: event 0x6041 with the old and the new. -/
def State.stageTo (n : StringNo) (st : ChargeStage) (why : Nat) (s : State) : State :=
  let old := s.strings[n].stage
  if old = st then s
  else
    let s := s.modString n fun b => { b with stage := st, inhibit := why, taperS := 0, stageUs := s.clk.timeUs }
    s.event srcLedger 0x6041 n (byte n ++ byte old.code ++ byte st.code)

/-- ABSORB ends: FLOAT, or INHIBITED when that is inhibited (R220). -/
def State.endAbsorb (n : StringNo) (s : State) : State :=
  if s.chgMc n = 0 then s.stageTo n .inhibited 1
  else if s.floatUv n = 0 then s.stageTo n .inhibited 2
  else s.stageTo n .float 0

/-- The stage of a connected string at a tick (R220). -/
def State.chargeStage (n : StringNo) (s : State) : State :=
  let b := s.strings[n]
  let mc := decide (s.chgMc n ≠ 0)
  let bulk := mc && decide (s.chargeUv n ≠ 0)
  let flt := mc && decide (s.floatUv n ≠ 0)
  let d := s.bus.vBusMv - s.stageTarget n
  match b.stage with
  | .inhibited =>
    let ended := if b.inhibit = 1 then mc else if b.inhibit = 2 then decide (s.floatUv n ≠ 0) else decide (s.chargeUv n ≠ 0)
    if ended && bulk then s.stageTo n .bulk 0 else if ended && flt then s.stageTo n .float 0 else s
  | .float =>
    if !flt then s.stageTo n .inhibited (if mc then 2 else 1)
    else if b.soc * 100 < s.string n 0x1F then s.stageTo n .bulk 0
    else s
  | .bulk =>
    if !bulk then s.stageTo n .inhibited (if mc then 3 else 1)
    else if d ≤ 50 ∧ -50 ≤ d then (if s.string n 0x1E = 0 then s.endAbsorb n else s.stageTo n .absorb 0)
    else s
  | .absorb => if !bulk then s.stageTo n .inhibited (if mc then 3 else 1) else s
  | .none | .window => s

/-- x moved towards a goal by at most d. -/
def slewTo (x goal d : Rat) : Rat := if x < goal then min goal (x + d) else max goal (x - d)

/-- The range of a rest window and of steering: highest LVD_MV to lowest float target of the connected strings. -/
def State.vSetRange (s : State) : Rat × Option Rat :=
  let cs := s.stringsIn .connected
  let lo := cs.foldl (fun m n => max m (s.string n 0xB : Rat)) 0
  let hi := (cs.filter fun n => s.floatUv n ≠ 0).foldl (fun (m : Option Rat) n =>
    let v : Rat := (s.string n 3 : Rat) * s.floatUv n / 1000
    match m with
    | some x => some (min x v)
    | none => some v) none
  (lo, hi)

/-- A voltage kept within that range. -/
def State.inRange (s : State) (v : Rat) : Rat :=
  let v := max s.vSetRange.1 v
  match s.vSetRange.2 with
  | some hi => min hi v
  | none => v

/-- The string that the ledger steers to (R205): OPEN, failing only the voltage match, in SERVING, its BSV inside the range,
for at most 60 s. -/
def State.steerable (s : State) (n : StringNo) : Bool :=
  s.inModes [.serving] && s.reconnectOk n && !s.voltageMatch n && s.stringsIn .connected ≠ []
    && decide (s.vSetRange.1 ≤ s.strings[n].bsvMv)
    && match s.vSetRange.2 with
      | some hi => decide (s.strings[n].bsvMv ≤ hi)
      | none => true

/-- Steering times of a tick: a string that no longer qualifies may be steered afresh later. -/
def State.steerTick (s : State) : State :=
  let ns := pick 4 fun n => s.steerable n && decide (s.strings[n].steerMs < 60000)
  s.each 4 fun n t =>
    let now := decide (ns.head? = some n)
    let can := t.steerable n
    t.modString n fun b => { b with steering := now, steerMs := if now then b.steerMs + 1 else if can then b.steerMs else 0 }

/-- The string with an open rest window. -/
def State.windowString (s : State) : Option StringNo := (pick 4 fun n => s.strings[n].windowOpen).head?

/-- Least slew of the connected strings in mV per tick. -/
def State.chgSlew (s : State) : Rat :=
  (s.stringsIn .connected).foldl (fun m n => min m (s.string n 0x22 : Rat)) 65535

/-- V_set of a tick with strings connected and no window (R221). -/
def State.chargeSet (s : State) : Rat :=
  let cs := s.stringsIn .connected
  let target := cs.foldl (fun (m : Option Rat) n => match m with
    | some x => some (min x (s.stageTarget n))
    | none => some (s.stageTarget n)) none
  let own := fun n : StringNo => (s.chgMc n : Rat) * s.strings[n].capAh
  let keff := ratio ((s.ledger.next.kEffMw : Rat) * 1000) s.bus.vBusMv
  let lim := min ((cs.map own).foldl (· + ·) 0) keff
  let over_ := decide (lim < -s.totalCurrent) || cs.any fun n => decide (own n < -s.strings[n].iTick)
  let v := s.bus.vSetMv
  if over_ then max 0 (v - s.chgSlew)
  else match target with
    | some t => slewTo v t s.chgSlew
    | none => v

/-- V_set at a tick: the window's, steering's, R221's, or R149's with no string connected. -/
def State.setVoltage (s : State) : State :=
  let steer := (pick 4 fun n => s.strings[n].steering).head?
  match steer, s.windowString, s.stringsIn .connected with
  | some n, _, _ => let v := s.strings[n].bsvMv; s.modBus fun b => { b with vSetMv := v }
  | none, some n, _ =>
    if s.strings[n].windowSettled then s
    else
      let goal := s.inRange (s.ocv n s.strings[n].soc)
      let v := slewTo s.bus.vSetMv goal (s.string n 0x22)
      (s.modBus fun b => { b with vSetMv := v }).modString n fun b => { b with windowSettled := decide (v = goal) }
  | none, none, [] =>
    let goal : Rat := s.cfgN 0x2231 7
    s.modBus fun b => { b with vSetMv := slewTo b.vSetMv goal 2 }
  | none, none, _ => let v := s.chargeSet; s.modBus fun b => { b with vSetMv := v }

/-- The battery's part of a tick, after the ledger's (R205, R209, R217, R220, R221); in the global safe state V_set is frozen
(Table 09-6a). -/
def State.batteryTick (s : State) : State :=
  let due := s.ledger.stepDue
  let s := s.modLedger fun l => { l with stepDue := false }
  let s := s.each 4 fun n t => t.stepWindows n due
  let s := s.stringCurrents
  if s.modes.safe then s
  else
    let s := s.each 4 State.reconnect
    let s := s.steerTick
    let s := if s.windowString = none then s.over (s.stringsIn .connected) State.chargeStage else s
    let v := s.bus.vSetMv
    let s := s.setVoltage
    let d := s.bus.vSetMv - v
    if d ≤ -100 ∨ 100 ≤ d then s.modLedger fun l => { l with stepDue := true } else s

/-! Host entries. -/

/-- The conditions of STRING_ENABLE 1 on the values in force (R206). -/
def State.stringEnables (s : State) (n : StringNo) : Bool :=
  [3, 4, 5, 0xB, 0xD].all (fun x => s.string n x ≠ 0)
    && (List.range 6).all (fun b => (List.range 32).any fun j => s.cfgN (0x4300 + n) (32 * b + j + 1) ≠ 0)
    && (List.range 48).all (fun q => s.cfgN (0x4310 + n) (q + 1) ≠ 0)
    && !s.dict.pending.any (fun p => p.inst = (n : Nat) && (p.set = 0xC || p.set = 0xD || p.set = 0xE || p.set = 0xF))
    && (s.string n 7 = 0 || s.string n 8 ≠ 0)
    && (s.string n 7 = 1 || s.string n 9 = 0)

/-- STRING_ENABLE (R204, R206, Table 09-2). In the global safe state a closed contactor keeps its level, and its string its state
(log 141). -/
def writeStringEnable (n : StringNo) (v : Nat) (s : State) : Nat × State :=
  if v = 0 then
    let s := s.setWritten (0x3300 + n) 1 0
    if s.modes.safe ∧ s.strings[n].st = .connected then (0, s)
    else
      let s := s.disconnect n 1 .disabled
      (0, s.modString n fun b => { b with st := .disabled, capAh := 0, stage := .none, steering := false, learnOk := false })
  else if !s.stringEnables n then (0x08000022, s)
  else
    let s := s.setWritten (0x3300 + n) 1 1
    (0, s.modString n fun b =>
      if b.st = .disabled then
        { b with st := if b.present then .authenticating else .absent, disconnectCause := 0, authResult := 0 }
      else b)

/-- CLEAR of a string (3300+s:41). -/
def writeStringClear (n : StringNo) (v : Nat) (s : State) : Nat × State :=
  if v = 0 then (0, s)
  else if s.strings[n].st ≠ .rejected then (0x08000022, s)
  else (0, s.modString n fun b => { b with st := .authenticating })

/-- RECORD_RESET (4320+s:02). -/
def writeRecordReset (n : StringNo) (v : Nat) (s : State) : Nat × State :=
  if v = 0 then (0, s) else (0, s.modString n fun b => { b with resetDue := true })

end Sys2Proof.Machine
end

