-- ==== Sys2Proof/Machine/Oring.lean ====
section
/-! DEFINITION. Machine/Oring.lean: ideal-diode inputs (R176 to R180). -/

namespace Sys2Proof.Machine

/-- I_OR_MA: v_ds over RDSON while the gate is on, else 0 (R176). -/
def State.iOrMa (s : State) (c : CellNo) : Rat :=
  let o := s.cells[c].oring
  let r := s.cell c 0x47
  if r ≠ 0 ∧ (o.st = .regulating ∨ o.st = .fullOn) then o.vdsUv * 1000 / r else 0

/-- Measures of an ORING cell, added to the means (R176, R179). -/
def State.oringMeasure (c : CellNo) (s : State) : State :=
  let x := s.cells[c]
  let vds := (x.cs : Rat) * csFullScale x.pinMode / 32768
  let vout : Rat := (x.vs : Rat) * 1800 * s.cell c 0x14 / 32768000
  let vin : Rat := if x.auxValid then (x.aux : Rat) * 1800 * s.cell c 0x15 / 32768000 else 0
  let s := s.modOring c fun o => { o with vdsUv := vds, outMv := vout, inMv := vin }
  let i := s.iOrMa c
  let p := i * vout / 1000
  s.modOring c fun o =>
    { o with sumVds := o.sumVds + vds, sumP := o.sumP + p, count := o.count + 1, busP := o.busP + p, busI := o.busI + i, busN := o.busN + 1 }

/-- Tick means (R179). -/
def Oring.tickMeans (o : Oring) : Oring :=
  if o.count = 0 then o
  else { o with meanVds := o.sumVds / o.count, meanP := o.sumP / o.count, sumVds := 0, sumP := 0, count := 0 }

/-- An EXTERNAL input is outside its window (R179). -/
def State.extOut (s : State) (c : CellNo) : Bool := s.cell c 0x41 = 1 && !s.extInWindow c

/-- Gate drive of a regulated step: w steps of charge, or of pull-down (R177). -/
def Cell.orDrive (w : Rat) (x : Cell) : Cell :=
  let n := (min 20480 |w|).floor.toNat
  { x with onSteps := n, pwa := if 0 < w ∧ n ≠ 0 then .switching else .low
           pwb := if w < 0 ∧ n ≠ 0 then .switching else .low }

/-- Gate off and BLOCKING. -/
def State.orBlock (c : CellNo) (s : State) : State := (s.modCell c Cell.gateOff).modOring c Oring.toBlocking

/-- The state machine of Table 06 of chapter 07 on one period's drop. -/
def State.oringStep (c : CellNo) (s : State) : State :=
  let o := s.cells[c].oring
  let v := o.vdsUv
  let fwd : Rat := s.cell c 0x42
  let on : Rat := s.cell c 0x43
  let w := (s.cell c 0x45 : Rat) / 256 * (v - fwd) / 250000 * 20480
  match o.st with
  | .disabled | .latched => s
  | .rearming =>
    s.modOring c fun o => { o with rearmRun := if on ≤ v then o.rearmRun + 1 else 0 }
  | .blocking =>
    let run := if on ≤ v ∧ !s.extOut c then o.onRun + 1 else 0
    let s := s.modOring c fun o => { o with onRun := run }
    if 10 ≤ run then
      s.modOring c fun o => { o with st := .regulating, onRun := 0, fullRun := 0, negRun := 0 }
    else s
  | .regulating | .fullOn =>
    let neg := if v < 0 then o.negRun + 1 else 0
    let full := if 20480 ≤ w ∧ fwd < v then o.fullRun + 1 else 0
    let s := s.modOring c fun o => { o with negRun := neg, fullRun := full, w := w }
    if s.extOut c then s.orBlock c
    else if 2 ≤ neg then
      let was := o.st
      let s := s.orBlock c
      if was = .regulating then s.event s.srcLane 0x4041 c (byte c) else s
    else if o.st = .fullOn then
      if v < fwd then (s.modOring c fun o => { o with st := .regulating, fullRun := 0 }).modCell c (Cell.orDrive w)
      else s.modCell c fun x => { x with pwa := .high, pwb := .low, onSteps := 20480 }
    else if 16 ≤ full then
      (s.modOring c fun o => { o with st := .fullOn }).modCell c fun x => { x with pwa := .high, pwb := .low, onSteps := 20480 }
    else s.modCell c (Cell.orDrive w)

/-- ORING_CONTROL_PERIOD (R40, R176, R177, R179): a discarded sample repeats the last output, a discarded command leaves the drive of the
last period (R10). -/
def execOringControlPeriod (c : CellNo) (x : ControlSample) (s : State) : Out :=
  .next (
    if s.cells[c].role ≠ .oring ∨ s.cells[c].st = .testing then s
    else if s.cells[c].lostSample then s.modCell c fun y => { y with lostSample := false }
    else
      let s := (s.adoptSet ⟨0xA, c, 0xFF⟩).adoptSet ⟨0xB, c, 0xFF⟩
      let s := (s.modCell c fun y => { y.noteCs s.clk.timeUs (y.correctCs (meanCs x)) with vs := y.correctVs (meanVs x) }).oringMeasure c
      if s.cells[c].held ∨ !s.lanesRun ∨ (s.cells[c].st ≠ .inService ∧ s.cells[c].st ≠ .starting) then s
      else
        let was := s.cells[c]
        let s := s.oringStep c
        if was.lostCommand then s.modCell c (Cell.keepDrive was) else s)

/-- Reverse trips within the last second (R178). -/
def recentTrips (now : Nat) (ts : List Nat) : List Nat := (now :: ts).filter fun t => decide (now < t + 1000000)

/-- Reverse threshold as a fraction of CS full scale: -REV_UV (R178). -/
def State.reverseRatio (s : State) (c : CellNo) : Rat := -(s.cell c 0x44 : Rat) / csFullScale s.cells[c].pinMode

/-- Drop that a comparator sees in µV, as event 0x4040 carries it; a bitstream carries none (R42). -/
def senseUv : TripSense → Int
  | .analog uv => uv
  | .stream _ => 0

/-- ORING_REVERSE (R42, R178): the drop crosses the threshold DAC at -REV_UV. -/
def execOringReverse (c : CellNo) (sense : TripSense) (s : State) : Out :=
  if s.cells[c].role ≠ .oring ∨ !s.cells[c].crosses (s.reverseRatio c) true sense then .next s
  else
    let o := s.cells[c].oring
    let t := (s.modCell c Cell.gateOff).setFault c 0
    if o.st = .disabled ∨ o.st = .latched then .next t
    else
      let times := recentTrips s.clk.timeUs o.revTimes
      let t := t.modOring c fun o =>
        { o with st := .rearming, revCount := wrap32 (o.revCount + 1), revTimes := times, rearmRun := 0, onRun := 0
                 fullRun := 0, negRun := 0 }
      let t := t.event (srcCell c) 0x4040 c (byte c ++ leI 4 (senseUv sense))
      if 16 ≤ times.length then
        let t := (t.setFault c 9).modOring c fun o => { o with st := .latched, revTimes := [] }
        settle s (t.event t.srcLane 0x4042 c (byte c))
      else .next t

/-- ORING_REARM (R177, R178): the forward drop has held for REARM_US, one period a µs. -/
def execOringRearm (c : CellNo) (s : State) : Out :=
  .next (
    if s.cells[c].role = .oring ∧ s.cells[c].oring.st = .rearming ∧ s.lanesRun ∧ s.cells[c].safeCause = 0 ∧
        max 1 (s.cell c 0x46) ≤ s.cells[c].oring.rearmRun then
      (s.clearFault c 0x0001#16).modOring c fun o => { o with st := .regulating, fullRun := 0, negRun := 0 }
    else s)

/-- OR_CLEAR (R177). -/
def writeOrClear (c : CellNo) (v : Nat) (s : State) : Nat × State :=
  if v = 0 then (0, s)
  else if s.cells[c].oring.st ≠ .latched then (0x08000022, s)
  else
    let s := s.modOring c fun o => { o with st := .blocking, onRun := 0, negRun := 0, fullRun := 0 }
    (0, s.event s.srcLane 0x4043 c (byte c))

/-- The conditions of OR_ENABLE 1 (R179). -/
def State.oringEnables (s : State) (c : CellNo) : Bool :=
  s.cells[c].role = .oring && s.cell c 0x14 ≠ 0 && s.cell c 0x15 ≠ 0 && !s.isPending ⟨0xA, c, 0xFF⟩ && !s.isPending ⟨0xB, c, 0xFF⟩

/-- OR_ENABLE (R177, R179). -/
def writeOrEnable (c : CellNo) (v : Nat) (s : State) : Nat × State :=
  if v = 0 then
    let s := s.setWritten (0x3000 + c) 0x40 0
    let s := if s.cells[c].role = .oring then s.modCell c Cell.gateOff else s
    (0, s.modOring c fun o => { o with st := .disabled, onRun := 0, fullRun := 0, negRun := 0, rearmRun := 0 })
  else if !s.oringEnables c then (0x08000022, s)
  else
    (0, (s.setWritten (0x3000 + c) 0x40 1).modOring c fun o => if o.st = .disabled then { o with st := .blocking, onRun := 0 } else o)

end Sys2Proof.Machine
end

