-- ==== Sys2Proof/Machine/Maintenance.lean ====
section
/-! DEFINITION. Machine/Maintenance.lean: drain, commit, repair, release and abandon of a cell (R55 to R62). -/

namespace Sys2Proof.Machine

/-- Sink of a FEEDER cell. -/
def cellSink (c : CellNo) : SinkNo := ⟨c, by omega⟩

/-- The loop's only running member is this cell (Table 03-11). -/
def State.lastPhase (s : State) (c : CellNo) : Bool :=
  match s.loopOf c with
  | some k => s.cells[c].role = .phase && s.running k = [c]
  | none => false

/-- RELEASE is refused (R60). -/
def State.releaseBarred (s : State) (c : CellNo) : Bool :=
  let x := s.cells[c]
  let dropped := match s.loopOf c with
    | some k => s.loops[k].dropped.getLsbD c && !x.repaired
    | none => false
  x.faulted || x.safeCause = 1 || x.safeCause = 2 || x.safeCause = 3 || x.safeCause = 5 || dropped

/-- The cell's state admits a command (R55). -/
def Cell.admits (x : Cell) (m : MaintCmd) : Bool :=
  let held := x.maintained && x.st = .drained
  match m with
  | .drain | .drainForce => x.st = .inService || (x.st = .drained && x.heldOut && x.role ≠ .idle)
  | .commit | .repair => held || (x.role = .idle && x.st = .drained)
  | .release => held
  | .abandon => x.maintained && (x.st = .draining || x.st = .drained || x.st = .testing)

/-- The command is valid in the cell's present state (R55, R56, R60). -/
def State.maintValid (s : State) (c : CellNo) (m : MaintCmd) : Bool :=
  let x := s.cells[c]
  x.admits m &&
    match m with
    | .drain => !(x.st = .inService && s.lastPhase c) && !(x.role = .feeder && s.sinkClass (cellSink c) = 0)
    | .release => !s.releaseBarred c
    | _ => true

/-- MAINT_CMD 1 to 6 (R55): accepted, it waits for the next tick boundary. -/
def writeMaintCmd (c : CellNo) (m : MaintCmd) (s : State) : Nat × State :=
  if !s.inModes [.tending] || s.modes.safe || (pick 48 fun d => d ≠ c && s.cells[d].maintained) ≠ [] || !s.maintValid c m then
    (0x08000022, s)
  else
    (0, s.modCell c fun x =>
      { x with maintCmd := m.code, maintResult := 1, waiting := x.waiting ++ [m], freshMaint := x.freshMaint || !x.maintained
               maintained := true })

/-- The feeder and ORING parts of a cell follow its role: DISABLED while it is another (Tables 07-1 and 07-6). -/
def Cell.dropParts (x : Cell) : Cell :=
  { x with feeder := if x.role = .feeder then x.feeder else { x.feeder.discard with st := .disabled, countDone := false, countUs := 0 }
           oring := if x.role = .oring then x.oring else { x.oring with st := .disabled, onRun := 0, fullRun := 0, negRun := 0 } }

/-- The stored role and pin mode come into force (R58): a cell out of service, its outputs low. -/
def State.applyRole (c : CellNo) (s : State) : State :=
  let s := s.adoptSet ⟨1, c, 0xFF⟩
  let role := Role.ofCode (s.cell c 1)
  let pins := pinModeOf (s.cell c 2)
  let s := s.modCell c fun x =>
    Cell.dropParts { x.outputsLow with role := role, pinMode := pins, maintResult := 2, commitPending := false }
  s.calCheck c

/-- COMMIT (R58): a pair that disagrees waits for the write that makes it agree. -/
def State.commitCell (c : CellNo) (s : State) : State :=
  if s.isPending ⟨1, c, 0xFF⟩ then s.modCell c fun x => { x with maintResult := 0x15, commitPending := true }
  else s.applyRole c

/-- STARTING ends: IN_SERVICE, no longer maintained (R60). -/
def State.cellInService (c : CellNo) (s : State) : State :=
  s.modCell c fun x => { x with st := .inService, maintained := false, freshMaint := false }

/-- A latch of cause 0x04 may release: the memory of the cell's loop has been rewritten (Table 03-8). -/
def State.memoryRewritten (s : State) (c : CellNo) : Bool :=
  match s.loopOf c with
  | some k => s.loops[k].rewrite = []
  | none => true

/-- The cell's role starts (R60). -/
def State.startRole (c : CellNo) (s : State) : State :=
  let s := if s.cells[c].safeCause = 4 ∧ s.memoryRewritten c then s.releaseSafe c else s
  let s := s.modCell c fun x => { x with st := .starting, heldOut := false }
  match s.cells[c].role with
  | .idle => s.modCell c fun x => { x with st := .drained, maintained := false, freshMaint := false }
  | .phase =>
    match s.loopOf c with
    | some k =>
      let s := s.modLoop k fun l =>
        { l with dropped := l.dropped &&& ~~~BitVec.ofNat 48 (2 ^ (c : Nat)), shed := l.shed &&& ~~~BitVec.ofNat 48 (2 ^ (c : Nat)) }
      let s := if s.loops[k].st = .stoppedByCause ∧ s.loops[k].stopCause = 6 then
          (s.modLoop k fun l => { l with st := .stopped }).tryStart k
        else s
      let live := s.loops[k].active
      let s := s.modCell c fun x => { x.clearedMember with weight := if live ∧ s.cell c 0xF ≠ 0 then 0 else 1, weightGoal := 1 }
      let s := s.recapacity k
      if live then s else s.cellInService c
    | none => (s.modCell c fun x => { x with weight := 1, weightGoal := 1 }).cellInService c
  | .line =>
    let s := match s.loopOf c with
      | some k => s.modLoop k fun l => { l with dropped := l.dropped &&& ~~~BitVec.ofNat 48 (2 ^ (c : Nat)) }
      | none => s
    let s := s.cellInService c
    match s.groupOf c with
    | some g =>
      let s := s.takeHeld g
      if s.groups[g].st = .disabled ∧ !s.mustDisable g then s.groupTo g (s.byVend g) else s.driveGroup g
    | none => s
  | .feeder =>
    let s := s.cellInService c
    let s := if s.ledger.sinks[cellSink c].shed = 6 then s.restoreSink (cellSink c) else s
    s.modFeeder c fun f => if f.st = .disabled then f else { f.byPresence with retryTimerUs := 0 }
  | .oring =>
    let s := s.cellInService c
    (s.modCell c Cell.gateOff).modOring c fun o => if o.st = .disabled then o else { o with st := .blocking, onRun := 0, fullRun := 0, negRun := 0 }

/-- The cell shows DRAINED with a result, its outputs low in every role (R56, R57); a PHASE loop's capacity is recomputed (R97). -/
def State.showDrained (c : CellNo) (result : Nat) (s : State) : State :=
  let s := s.modCell c fun x => { x.outputsLow with st := .drained, maintResult := result }
  match s.cells[c].role, s.loopOf c with
  | .phase, some k => s.recapacity k
  | _, _ => s

/-- Drain of a shed or dropped member: at once, its shed bit cleared so that nothing adds it before RELEASE (R118, Table 05-1). -/
def State.drainAside (k : LoopNo) (c : CellNo) (s : State) : State :=
  let s := s.modLoop k fun l => { l with shed := l.shed &&& ~~~BitVec.ofNat 48 (2 ^ (c : Nat)) }
  (s.modCell c fun x => { x with weight := 0, weightGoal := 0 }).showDrained c 2

/-- Power removal begins (Table 03-11). -/
def State.beginDrain (c : CellNo) (force : Bool) (s : State) : State :=
  let x := s.cells[c]
  if x.st ≠ .inService then s.modCell c fun x => { x with heldOut := false, maintResult := 2 }
  else
    let last := s.lastPhase c
    let s := s.modCell c fun x => { x.noteRemoval s.clk.timeUs with st := .draining }
    match x.role with
    | .phase =>
      match s.loopOf c with
      | some k =>
        if s.loops[k].shed.getLsbD c ∨ s.loops[k].dropped.getLsbD c then s.drainAside k c
        else if force ∧ last then s.stopLoop k .stoppedByCause 6
        else s.modCell c fun x => { x with weightGoal := 0 }
      | none => s
    | .line =>
      match s.groupOf c with
      | some g =>
        let st := s.groups[g].st
        if st = .signature ∨ st = .waiting ∨ st = .qualifying ∨ st = .qualified ∨ st = .retryWait then
          (s.groupTo g .discharging).modGroup g fun y => { y with fromDrain := true }
        else s.abandonId g
      | none => s
    | .feeder =>
      let k := cellSink c
      let s := s.skipRails c
      if x.feeder.st = .retryWait ∨ x.feeder.st = .latched then
        let s := if force then (s.shedSink k 6).modSink k fun y => { y with broken := 4 } else s.shedSink k 6
        (s.modFeeder c fun f => { f with retryTimerUs := 0 }).showDrained c 2
      else if force then (s.shedSink k 6).modSink k fun y => { y with broken := 4 }
      else if s.ledger.sinks[k].shed ≠ 0 then s.shedSink k 6
      else if s.ledger.sinks[k].notice ≠ 0 then s.modSink k fun y => { y with notice := 6 }
      else s.noticeSink k 6
    | .oring => s.orBlock c
    | .idle => s.modCell c fun x => { x with st := .drained, maintResult := 2 }

/-- Latch bits whose cause stands set again (R49). -/
def State.resetCauses (c : CellNo) (s : State) : State :=
  s.over ((List.range 9).filter fun b => s.cells[c].persisting.getLsbD b) fun b t => t.setFault c b

/-- REPAIR starts with step 1: the fault latch clears, but for a cause that stands, and the outputs are low (R49, Table 03-12). -/
def State.beginRepair (c : CellNo) (s : State) : State :=
  (s.modCell c fun x => { x.outputsLow with st := .testing, stopTest := false, bandMoved := false }).clearFault c 0xFFFF#16

/-- Uncommitted ROLE and PIN_MODE writes are discarded (R61). -/
def State.discardRole (c : CellNo) (s : State) : State :=
  let x := s.cells[c]
  let s := (s.setWritten (0x3000 + c) 1 x.role.code).setWritten (0x3000 + c) 2 x.pinMode.toNat
  (s.modCell c fun x => { x with commitPending := false }).testSet ⟨1, c, 0xFF⟩

/-- ABANDON by state (R61), with the result it shows. -/
def State.abandonCell (c : CellNo) (result : Nat) (s : State) : State :=
  let x := s.cells[c]
  match x.st with
  | .draining =>
    let s := s.modSink (cellSink c) fun k => if x.role = .feeder ∧ k.notice = 6 then { k with notice := 0, noticeMs := 0 } else k
    let s := if x.role = .feeder ∧ s.ledger.sinks[cellSink c].throttle = 4 then s.dropThrottle (cellSink c) else s
    (s.startRole c).modCell c fun x => { x with maintResult := result }
  | .testing => s.modCell c fun x => { x with stopTest := true, maintResult := result }
  | .drained =>
    let s := s.discardRole c
    let s := if s.releaseBarred c then
        s.modCell c fun x => { x with maintained := false, freshMaint := false, heldOut := x.role ≠ .idle }
      else s.startRole c
    s.modCell c fun x => { x with maintResult := result }
  | _ => s

/-- The mode leaves TENDING (R61). -/
def State.interruptCell (c : CellNo) (s : State) : State :=
  let x := s.cells[c]
  if x.maintained ∧ (x.st = .draining ∨ x.st = .testing) then s.abandonCell c 0x14 else s

/-- A waiting command starts (R55). One whose state an earlier command of the same boundary has changed does not, and shows 0x14 (log 127). -/
def State.startMaint (c : CellNo) (m : MaintCmd) (s : State) : State :=
  if !s.cells[c].admits m then s.modCell c fun x => { x with maintResult := 0x14 }
  else
    match m with
    | .drain => s.beginDrain c false
    | .drainForce => s.beginDrain c true
    | .commit => s.commitCell c
    | .repair => s.beginRepair c
    | .release =>
      let s := s.startRole c
      if s.cells[c].st = .starting then s else s.modCell c fun x => { x with maintResult := 2 }
    | .abandon => s.abandonCell c 0x13

/-- MAINT_CMD_START (R55): at the boundary the accepted commands start, in their order of arrival; or the mode has left TENDING, or the
global safe state has come into force (R14), and they are interrupted. -/
def execMaintCmdStart (c : CellNo) (s : State) : Out :=
  .next (
    let x := s.cells[c]
    if x.waiting = [] then s
    else
      let s := s.modCell c fun x => { x with waiting := [], freshMaint := false }
      if !s.inModes [.tending] ∨ s.modes.safe then
        s.modCell c fun x' => { x' with maintResult := 0x14, maintained := x'.maintained && !x.freshMaint }
      else s.over x.waiting fun m t => t.startMaint c m)

/-- CS magnitude has been below 2 % of full scale for `us` microseconds. -/
def State.lowFor (s : State) (c : CellNo) (us : Nat) : Bool :=
  lowCs s.cells[c].cs && decide (s.cells[c].csHighUs + us ≤ s.clk.timeUs)

/-- Power removal has begun: for a FEEDER, its sink is shed for the drain (R56). -/
def State.removing (s : State) (c : CellNo) : Bool :=
  s.cells[c].role ≠ .feeder || s.ledger.sinks[cellSink c].shed = 6

/-- The criterion of Table 03-11. -/
def State.drained (s : State) (c : CellNo) : Bool :=
  let x := s.cells[c]
  match x.role with
  | .phase =>
    s.lowFor c 1000 && (match s.loopOf c with
      | some k => !s.loops[k].active || x.weight = 0
      | none => true)
  | .line =>
    (match s.groupOf c with
      | some g => s.groups[g].st = .disabled || s.groups[g].st = .lockedOut
      | none => true)
  | .feeder => s.removing c && !x.feeder.gateOn && s.lowFor c 1000
  | .oring => s.lowFor c 10000
  | .idle => true

/-- DRAIN_COMPLETE (R56, R196): a drained sink's grants end with cause 0x07. -/
def execDrainComplete (c : CellNo) (s : State) : Out :=
  .next (
    if s.cells[c].st = .draining ∧ s.drained c then
      let s := s.showDrained c 2
      if s.cells[c].role = .feeder ∧ s.ledger.sinks[cellSink c].broken = 0 then
        s.modSink (cellSink c) fun k => { k with broken := 7 }
      else s
    else s)

/-- DRAIN_TIMEOUT (R57): as long after power removal began. -/
def execDrainTimeout (c : CellNo) (s : State) : Out :=
  .next (
    if s.cells[c].st = .draining ∧ s.removing c ∧ s.cell c 0x10 ≠ 0
        ∧ s.cells[c].removalUs + s.cell c 0x10 * 1000 ≤ s.clk.timeUs then
      (s.showDrained c 0x10).event (srcCell c) 0x1020 c []
    else s)

/-! REPAIR (R59). -/

/-- Channels that step 3 calibrates. -/
def State.repairChannels (s : State) (c : CellNo) : List Nat :=
  let p := s.cells[c].pinMode
  s.cells[c].channels.filter fun ch =>
    if ch = 2 then true else if ch = 3 then auxMode p = 1 && s.cell c 0xE ≠ 0 else csMode p ≠ 3

/-- Ideal gain-point result of a channel in LSB. -/
def idealPoint (ch : Nat) : Rat := if ch ≤ 1 then 16384 / 10 else 32768 / 10

/-- Gain of a point: ideal / (mean - offset). -/
def pointGain (p : CalPoint) : Rat :=
  if p.gainMean = p.offset then 0 else idealPoint p.channel / (p.gainMean - p.offset)

/-- A point lies within the limits of step 3. -/
def pointOk (p : CalPoint) : Bool :=
  decide (-32 ≤ p.offset) && decide (p.offset ≤ 32) && decide (95 / 100 ≤ pointGain p) && decide (pointGain p ≤ 105 / 100)

/-- Bytes with `v` in place of bytes `i` on. -/
def patch (b : Bytes) (i : Nat) (v : Bytes) : Bytes := b.take i ++ v ++ b.drop (i + v.length)

/-- A calibration record with a point's offset and gain, its valid bit set. R59 writes no rounding: both take the nearest integer, as the
worked example's 0x3FB1 does (log 126). -/
def calPatch (band : Nat) (r : Bytes) (p : CalPoint) : Bytes :=
  let i := 8 + 16 * band + 4 * (p.channel : Nat)
  let r := patch r i (leI 2 (roundR p.offset) ++ le 2 (roundR (pointGain p * 16384)).toNat)
  patch r 104 (le 3 (numAt r 104 3 ||| 2 ^ (4 * band + (p.channel : Nat))))

/-- REPAIR ends with a result in DRAINED; the sense inputs are connected again, and causes that stand set their bits (R49). -/
def State.repairEnds (c : CellNo) (result : Nat) (s : State) : State :=
  ((s.modCell c fun x => { x with st := .drained, maintResult := result, stopTest := false }).resetCauses c).calCheck c

/-- Every channel that step 3 calibrates has its point. -/
def State.pointsWhole (s : State) (c : CellNo) (ps : List CalPoint) : Bool :=
  (s.repairChannels c).all fun ch => ps.any fun p => (p.channel : Nat) = ch

/-- Step 4: the record with the points is written, as far as the write came (R45, Table 03-13). -/
def State.writeRepair (c : CellNo) (ps : List CalPoint) (written : Nat) (s : State) : State :=
  s.modCell c fun x =>
    let old := x.cal.getD ([BitVec.ofNat 8 c, 1, 0, 0] ++ List.replicate 108 0)
    x.storeCal (ps.foldl (calPatch x.calBand) old) written

/-- REPAIR_DONE (R59, R61, R62): the steps finish or stop. Asked to stop, the repair ends with the step under way: a self-test that fails
in it still latches, and a record that step 4 was writing is written. A finding that lacks the point of a channel is no end of a
repair (log 128). -/
def execRepairDone (c : CellNo) (f : RepairFinding) (s : State) : Out :=
  .next (
    let x := s.cells[c]
    let ps := f.points.filter fun p => (s.repairChannels c).contains (p.channel : Nat)
    let whole := ps.all pointOk && s.pointsWhole c ps
    if x.st ≠ .testing then s
    else if !f.selfTestOk then ((s.setFault c 7).setSafe c 5).repairEnds c (if x.stopTest then x.maintResult else 0x11)
    else if x.stopTest then
      let s := if f.written ≠ 0 ∧ whole ∧ x.bandMoved = false then s.writeRepair c ps f.written else s
      s.repairEnds c x.maintResult
    else if x.bandMoved then s.repairEnds c 0x16
    else if !ps.all pointOk then s.repairEnds c 0x12
    else if !whole then s
    else
      let s := (s.writeRepair c ps f.written).modCell c fun x => { x with repaired := true }
      let s := (s.event (srcCell c) 0x1021 c []).repairEnds c 2
      if s.cells[c].safeCause = 5 then s.releaseSafe c else s)

/-- CELL_START_COMPLETE (R60): the ramp of the cell's weight is complete, or its loop does not run. -/
def execCellStartComplete (c : CellNo) (s : State) : Out :=
  .next (
    let x := s.cells[c]
    let done : Bool := match s.loopOf c with
      | some k => x.role ≠ .phase || x.weight = 1 || !s.loops[k].active
      | none => true
    if x.st = .starting ∧ done then
      (s.cellInService c).modCell c fun x =>
        { x with weight := 1, maintResult := if x.maintResult = 1 then 2 else x.maintResult }
    else s)

end Sys2Proof.Machine
end

