-- ==== Sys2Proof/Machine/Hosts.lean ====
section
/-! DEFINITION. Machine/Hosts.lean: host contexts, their classes, contact, allocation, eviction and release (R279 to R283), and
the configuration lock (R284). -/

namespace Sys2Proof.Machine

/-- The key is one of Table 13-5a. -/
def keyOk (k : Key) : Bool :=
  match k.kind with
  | .usdo => k.port < 2 && 1 ≤ k.addr && k.addr ≤ 127
  | .sdo => k.port < 2 && k.addr < 8
  | .twoWire => k.port < 12 && k.addr < 128
  | .dap => k.port = 0 && k.addr < 2
  | .service => k.port = 0 && k.addr = 0

/-- The key of a DAP channel, of a two-wire caller and of the Fafort session. -/
def dapKey (d : DapNo) : Key := { kind := .dap, port := 0, addr := d }
/-- Key of a two-wire transaction: port and source address (R307). -/
def twKey (p : TwNo) (src : BitVec 7) : Key := { kind := .twoWire, port := p, addr := src.toNat }
/-- Key of the service port's session. -/
def serviceKey : Key := { kind := .service, port := 0, addr := 0 }

/-- Kind code and key bytes of an event (Table 13-11). -/
def keyBytes (k : Key) : Bytes := byte (Key.code k) ++ byte k.port ++ byte k.addr

/-- The context with a key. -/
def State.ctxOf (s : State) (k : Key) : Option HostNo := (pick 32 fun h => s.hosts[h].used && decide (s.hosts[h].key = k)).head?

/-- The FEEDER cell whose bound address a two-wire key is (R175). -/
def State.boundCell (s : State) (k : Key) : Option CellNo :=
  match k.kind with
  | .twoWire => (pick 48 fun c => s.cells[c].role = .feeder && s.cell c 0x34 ≠ 0 && s.cell c 0x33 = k.port
      && s.cell c 0x34 = k.addr).head?
  | _ => none

/-- A binding row matches a key (R280). -/
def State.rowMatches (s : State) (k : Key) (b : Nat) : Bool :=
  let i := 0x2120 + b
  s.cfgN i 1 = Key.code k && (decide (Key.code k = 7) || (s.cfgN i 2 = k.port && s.cfgN i 3 = k.addr))

/-- Class and own sink that a new context receives (R175, R280). -/
def State.newClass (s : State) (k : Key) : Class × Option SinkNo :=
  match s.boundCell k with
  | some c => (.slt, some (cellSink c))
  | none =>
    match (List.range 16).find? (s.rowMatches k) with
    | some b => (Class.ofCode (s.cfgN (0x2120 + b) 4), none)
    | none => (Class.ofCode (s.cfgN 0x2101 (Key.code k)), none)

/-- A context owns a standing grant. -/
def State.ownsGrant (s : State) (h : HostNo) : Bool :=
  s.ledger.grants.toList.any fun g => g.standing && decide (g.owner = some h)

/-! The configuration lock (R284). -/

/-- The lock ends with a cause. -/
def State.endLock (cause : Nat) (s : State) : State :=
  match s.lockOwner with
  | some h => ({ s with lockOwner := none, lockMs := 0 }).event (srcManage 0) 0xA00A h (byte h ++ byte cause)
  | none => s

/-- Lease in ms. -/
def State.leaseMs (s : State) : Nat := s.cfgN 0x2100 5 * 1000

/-- A host takes the lock for a lease. -/
def State.takeLock (h : HostNo) (s : State) : State :=
  ({ s with lockOwner := some h, lockMs := s.leaseMs }).event (srcManage 0) 0xA009 h (byte h)

/-- A write of LOCK_CMD (R284). The holder's write of 1 renews its lease, as any contact does. -/
def writeLockCmd (h : HostNo) (v : Nat) (s : State) : Nat × State :=
  let vnd := decide (s.hosts[h].cls = .vnd)
  let held := s.lockOwner
  if v = 0 then
    if held = some h then (0, s.endLock 1)
    else if vnd then (0, s.endLock 4)
    else (0, s)
  else if held = some h then (0, s)
  else if held = none then (0, s.takeLock h)
  else if vnd then (0, (s.endLock 5).takeLock h)
  else (0x08000021, s)

/-- LOCK_LEASE_EXPIRY (R284). -/
def execLockLeaseExpiry (s : State) : Out :=
  .next (if s.lockOwner.isSome ∧ s.lockMs = 0 ∧ s.manage = .running then s.endLock 2 else s)

/-! MANAGE in DORMANT (R36, Table 02-9). -/

/-- MANAGE enters the Cocoon depth that the held WAKE allows: its cores are off, and in deep Cocoon the system SRAM with
the ring of records is lost (R340, R342, R350; log 34). -/
def State.toCocoon (s : State) : State :=
  let deep := decide (100 ≤ s.modes.wakeHeld)
  let s := { s with manage := if deep then .deep else .shallow, cores := Vector.replicate 4 Core.reset, scrubOrder := []
                    srcs := Vector.replicate 160 Src.reset, dap := Vector.replicate 2 Dap.reset }
  let s := s.modFw fun w => { w with session := Session.reset }
  if deep then s.modRec fun q => { q with ring := [], ringGone := if q.ring = [] then q.ringGone else newestOf q.ring } else s

/-- The ADCs of a cell run: they are off in an IDLE cell (Table 02-9). -/
def Cell.adcOn (x : Cell) : Bool := x.role ≠ .idle

/-- The moth trap's SRAM is in retention: no unit is armed (Table 02-9). -/
def State.trapRetains (s : State) : Bool := s.traces.toList.all fun x => decide (x.st ≠ .armed ∧ x.st ≠ .triggered)

/-- MANAGE runs in DORMANT only while it serves a host (R36). -/
def State.cocoonCheck (s : State) : State :=
  if s.dormant ∧ s.manage = .running ∧ s.hosts.toList.all (fun h => !h.used) then s.toCocoon else s

/-! Release, eviction and contact. -/

/-- A context is released (R282) with the cause of event 0xA006. -/
def State.releaseHost (cause : Nat) (h : HostNo) (s : State) : State :=
  if s.hosts[h].used then
    let k := s.hosts[h].key
    let s := s.releaseGrants h
    let s := s.modLedger fun l => { l with results := l.results.filter fun r => decide (r.1 ≠ h) }
    let s := if s.lockOwner = some h then s.endLock 3 else s
    let s := match k.kind with
      | .dap => s.onFin 2 k.addr fun d t => t.modDap d fun x => { x with req := none }
      | _ => s
    let s := s.modHost h fun _ => HostCtx.reset
    s.event (srcManage 0) 0xA006 h (byte h ++ keyBytes k ++ byte cause)
  else s

/-- What a host loses when MANAGE stops serving (R283, Table 15-8): its open sessions, selection, copies and buffers. -/
def HostCtx.cut (x : HostCtx) : HostCtx := { x with sessions := [], tw := TwCtx.reset }

/-- What a two-wire port loses then (Table 15-8): its lines are released, and queued notifies discarded. -/
def Tw.cut (x : Tw) : Tw :=
  { x with st := .off, notifies := [], nacks := 0, arbRun := 0, attempts := 0, stretch := none }

/-- Nothing under way on the hosts' channels outlives a warm reset of MANAGE, or record mode (R283). -/
def State.cutChannels (s : State) : State := { s with hosts := s.hosts.map HostCtx.cut, tw := s.tw.map Tw.cut }

/-- The context that a new contact of a class evicts (R281): lowest class, then no grant, then the longest silence. -/
def State.evictee (s : State) (cls : Class) : Option HostNo :=
  let before := fun (x y : HostNo) =>
    let rank := fun h : HostNo => 2 * s.hosts[h].cls.code + b2n (s.ownsGrant h)
    decide (rank x < rank y) || (decide (rank x = rank y) && decide (s.hosts[y].silenceMs < s.hosts[x].silenceMs))
  (pick 32 fun h => s.hosts[h].used && decide (s.hosts[h].cls.code < cls.code)).foldl
    (fun best h => match best with
      | none => some h
      | some b => if before h b then some h else some b) none

/-- A free context takes a key (R279). -/
def State.allocateHost (k : Key) (h : HostNo) (s : State) : State :=
  let (cls, own) := s.newClass k
  let s := s.modHost h fun _ => { HostCtx.reset with used := true, key := k, cls := cls, ownSink := own }
  s.event (srcManage 0) 0xA005 h (byte h ++ keyBytes k)

/-- The context of a key's first contact (R279, R281); none when the contact is refused. -/
def State.newHost (k : Key) (s : State) : Option HostNo × State :=
  match (pick 32 fun h => !s.hosts[h].used).head? with
  | some h => (some h, s.allocateHost k h)
  | none =>
    let cls := (s.newClass k).1
    match if cls.atLeast .opr then s.evictee cls else none with
    | some h =>
      let s := s.releaseHost 4 h
      let s := s.event (srcManage 0) 0xA008 h (byte h ++ byte k.port ++ byte k.addr)
      (some h, s.allocateHost k h)
    | none =>
      let s := { s with hostsRefused := wrap32 (s.hostsRefused + 1) }
      (none, s.event (srcManage 0) 0xA007 0xFF (keyBytes k))

/-- Contact of an existing context: its silence restarts, and a lock it holds is renewed (R279, R284). -/
def State.touch (h : HostNo) (s : State) : State :=
  let s := s.modHost h fun x => { x with silenceMs := 0 }
  if s.lockOwner = some h then { s with lockMs := s.leaseMs } else s

/-- Contact under a key: the caller's context, allocated when it has none. -/
def State.contact (k : Key) (s : State) : Option HostNo × State :=
  match s.ctxOf k with
  | some h => (some h, s.touch h)
  | none => s.newHost k

/-- LINGER_EXPIRY (R282). -/
def execLingerExpiry (h : HostNo) (s : State) : Out :=
  if s.hosts[h].used ∧ s.manage = .running ∧ s.cfgN 0x2100 2 * 1000 ≤ s.hosts[h].silenceMs then settle s (s.releaseHost 1 h).cocoonCheck
  else .next s

/-- UNSEAT_50MS (R173), once the card has been away for 50 ms: what the unseat undoes, and the context of the slot's bound address; the ledger ends the grants with
a part on the sink at its next tick (R196). -/
def execUnseat50ms (c : CellNo) (s : State) : Out :=
  if s.cells[c].role = .feeder ∧ s.cells[c].feeder.present = false ∧ 50000 ≤ s.cells[c].feeder.unseatUs then
    let t := (s.unseated50 c).modSink (cellSink c) fun k => { k with broken := if k.broken = 0 then 6 else k.broken }
    let t := t.over (pick 32 fun h => t.hosts[h].used && decide (t.hosts[h].ownSink = some (cellSink c))) (State.releaseHost 2)
    settle s t.cocoonCheck
  else .next s

/-! Budgets of the hosts (R35). -/

/-- Default of a budget in ms. -/
def budgetDefault (b : Fin 4) : Nat := if b = 0 then 1000 else if b = 1 then 10 else if b = 2 then 5 else 200

/-- Value of a budget over the contexts that satisfy a test: the least stated one. -/
def State.budgetOver (s : State) (p : HostCtx → Bool) (b : Fin 4) : Nat :=
  let vs := (s.hosts.toList.filter fun h => h.used && p h && decide (h.budgets[b] ≠ 0)).map fun h => h.budgets[b]
  match vs with
  | [] => budgetDefault b
  | v :: r => r.foldl min v

/-- BUDGET_IN_FORCE over all hosts present. -/
def State.budget (s : State) (b : Fin 4) : Nat := s.budgetOver (fun _ => true) b

/-- Governing budget of a set of hosts: min(HOST_RESPONSE, GRANT_DECISION − 2 ms). -/
def State.governing (s : State) (p : HostCtx → Bool) : Nat := min (s.budgetOver p 1) (s.budgetOver p 2 - 2)

/-- Telemetry interval in force in ms (R36, Table 02-6). -/
def State.telemetryMs (s : State) : Nat :=
  let p := s.modes.profile
  min (if p = 1 then 1000 else if p = 2 then 200 else 50) (s.budget 0)

end Sys2Proof.Machine
end

