-- ==== Sys2Proof/Machine/Lanes.lean ====
section
/-! DEFINITION. Machine/Lanes.lean: the two lanes, the interlock token, switch-over, retirement and return (R252 to R266), and
entry to the global safe state (R16). -/

namespace Sys2Proof.Machine

/-- A lane of the pair. -/
def Lanes.lane (p : Lanes) (l : Lane) : LaneUnit :=
  match l with
  | .a => p.a
  | .b => p.b

/-- Change a lane. -/
def State.modLane (s : State) (l : Lane) (f : LaneUnit → LaneUnit) : State :=
  s.modLanes fun p => match l with
    | .a => { p with a := f p.a }
    | .b => { p with b := f p.b }

/-- Event payload byte of a lane. -/
def laneByte (l : Lane) : Bytes := byte (Lane.code l)

/-- The lane with the token in its hands, with what LANE_ACT then shows (R257). -/
def State.giveToken (l : Lane) (s : State) : State :=
  (s.modLanes fun p => { p with token := some l, active := some l }).modPins fun p => { p with laneAct := Lane.code l = 1 }

/-- A lane is retired with a cause (R264). -/
def State.retireLane (l : Lane) (cause : Nat) (s : State) : State :=
  let s := s.modLane l fun x => { x with st := .retired, retireCause := cause, ownError := false, retiredUs := s.clk.timeUs }
  let s := s.event (srcWatch 0) 0x9004 (Lane.code l) (laneByte l ++ byte cause)
  if s.lanes.token = some (Lane.other l) then s.modLanes fun p => { p with pair := .simplex } else s

/-- The standby of the pair: the lane that is not active, when it is in lockstep or being copied. -/
def State.standby (s : State) : Option Lane :=
  match s.lanes.active with
  | some l =>
    let o := Lane.other l
    let st := (s.lanes.lane o).st
    if st = .standby ∨ st = .syncing then some o else none
  | none => none

/-- A return or a copy under way is abandoned (R266); a returning lane is retired with cause 0x06. -/
def State.abandonReturn (s : State) : State :=
  match s.lanes.returning with
  | some l =>
    let running := s.lanes.cmdRunning
    let s := s.modLanes fun p => { p with returning := none, cmdRunning := false, cmdResult := if running then 0x10 else p.cmdResult }
    s.retireLane l 6
  | none => s

/-- Global safe state (R16): cause 1 lanes, 2 link, 3 LCLK. A return or copy of a lane under way ends (R14), every cell applies its safe
action, SAFE_N falls, the token goes to no lane, and EMCY 0xFF53 reports it. A second cause finds the state in force. -/
def State.enterSafe (cause : Nat) (s : State) : State :=
  if s.modes.safe then s
  else
    let s := s.abandonReturn.modModes fun m => { m with safe := true, safeWhy := cause, safeUs := s.clk.timeUs }
    let s := (s.modPins fun p => { p with safeN := false }).modLanes fun p => { p with token := none, active := none, pair := .safe }
    (s.setSafeAll 1).emcy 0xFF53 (byte cause)

/-- LAST_MISMATCH (Table 12-11). -/
def mismatchRecord (stamp kind inst va vs lane flags outcome gap : Nat) : Bytes :=
  le 6 stamp ++ byte kind ++ byte inst ++ le 4 va ++ le 4 vs ++ byte lane ++ byte flags ++ byte outcome ++ [0] ++ le 4 gap

/-- A mismatch (R258): the token is withdrawn and every lane that is not retired tests itself. -/
def State.laneMismatch (kind inst va vs : Nat) (s : State) : State :=
  let boot := decide (kind = 0x13)
  let s := s.abandonReturn
  let act := ((s.lanes.active).map Lane.code).getD 0
  let vs := if 0x10 ≤ kind then 0 else vs
  let own := fun (l : Lane) => b2n (kind = 0x10 ∧ s.lanes.active = some l)
  let r := mismatchRecord s.now kind inst va vs act (4 * own .a + 8 * own .b) 0 0
  let test := fun x : LaneUnit => if x.st = .retired then x else { x with st := .testing }
  let s := s.modLanes fun p =>
    { p with token := none, pair := .switching, lastMismatch := r, bootCheck := boot, a := test p.a, b := test p.b
             mismatchCount := if boot then p.mismatchCount else wrap32 (p.mismatchCount + 1) }
  match s.lanes.active with
  | some l => s.modLane l fun x => { x with ownError := decide (kind = 0x10) }
  | none => s

/-- Outputs of the lanes are compared or released now, so a mismatch can arise (R254, R256). -/
def State.laneLive (s : State) : Bool :=
  match s.lanes.pair with
  | .paired | .simplex | .window | .syncing => s.lanes.active.isSome && !s.modes.safe
  | _ => false

/-- MISMATCH (R258); none arises in a gap (R266). -/
def execMismatch (kind inst : Nat) (active standby : BitVec 32) (s : State) : Out :=
  .next (if s.laneLive then s.laneMismatch kind inst active.toNat standby.toNat else s)

/-- A known-vector self-test of a lane is counted (Table 12-10). -/
def LaneUnit.tested (t : LaneTest) (pass : Bool) (x : LaneUnit) : LaneUnit :=
  { x with passCount := if pass then wrap32 (x.passCount + 1) else x.passCount
           failCount := if pass then x.failCount else wrap32 (x.failCount + 1), signature := t.signature }

/-- A lane passes the decision: not retired, no error of its own, a good signature (R258). -/
def LaneUnit.passes (t : LaneTest) (x : LaneUnit) : Bool := x.st = .testing && !x.ownError && t.pass

/-- The transients of the last hour. -/
def recentTransients (now : Nat) (ts : List Nat) : List Nat := ts.filter fun t => decide (now < t + 3600000000)

/-- A passing pair (Table 12-4, R260): a transient keeps the token and resynchronises the standby, or retires it when there have
been too many. A boot check counts none. -/
def State.transient (act : Lane) (boot : Bool) (s : State) : State :=
  let o := Lane.other act
  if boot then s.modLane o fun x => { x with st := .syncing }
  else
    let earlier := recentTransients s.clk.timeUs s.lanes.transients
    let n := wrap32 (s.lanes.transientCount + 1)
    let now := s.clk.timeUs
    let s := s.modLanes fun p => { p with transientCount := n, transients := now :: earlier }
    let s := s.event (srcWatch 0) 0x9005 0xFF (le 4 n)
    if s.cfgN 0x2500 9 ≤ earlier.length then s.retireLane o 4 else s.modLane o fun x => { x with st := .syncing }

/-- The records and messages at the end of a switch-over (Table 12-3). -/
def State.gapReport (act : Lane) (outcome gap : Nat) (boot : Bool) (s : State) : State :=
  let r := s.lanes.lastMismatch
  let s := s.event (srcLoop 2) 0x9001 (numAt r 7 1) (slice r 6 2 ++ slice r 8 8)
  if boot then s
  else
    let s := s.modLanes fun p => { p with gapNs := gap, switchCount := wrap32 (p.switchCount + 1) }
    let s := s.event (srcWatch 3) 0x9003 0xFF (laneByte act ++ le 4 gap)
    s.emcy 0xFF54 (laneByte act ++ byte outcome)

/-- SELFTEST_DECISION (R259, R260): the token goes by Table 12-4. At a boot check lane A is taken as the active one (R252). -/
def State.decideLanes (a b : LaneTest) (gapNs : Nat) (s : State) : State :=
  let boot := s.lanes.bootCheck
  let act : Lane := if boot then .a else (s.lanes.active).getD .a
  let pa := s.lanes.a.passes a
  let pb := s.lanes.b.passes b
  let ok : Lane → Bool := fun l => if l = .a then pa else pb
  let o := Lane.other act
  let outcome : Nat := if ok act then (if ok o then 1 else 3) else if ok o then 2 else 4
  let r := s.lanes.lastMismatch
  let flags := numAt r 17 1 % 16 / 4 * 4 + b2n pa + 2 * b2n pb
  let r := slice r 0 17 ++ byte flags ++ byte outcome ++ [0] ++ le 4 gapNs
  let s := if s.lanes.a.st = .testing then s.modLane .a (LaneUnit.tested a pa) else s
  let s := if s.lanes.b.st = .testing then s.modLane .b (LaneUnit.tested b pb) else s
  let s := s.modLanes fun p =>
    { p with lastMismatch := r, bootCheck := false, a := { p.a with ownError := false }, b := { p.b with ownError := false } }
  if outcome = 4 then
    (s.event (srcWatch 0) 0x900A 0xFF (slice r 6 1)).enterSafe 1
  else
    let chosen : Lane := if outcome = 2 then o else act
    let rest := Lane.other chosen
    let s := (s.modLane chosen fun x => { x with st := .active }).giveToken chosen
    let s := s.modLanes fun p => { p with pair := .syncing }
    let s : State :=
      if outcome = 1 then s.transient chosen boot
      else if (s.lanes.lane rest).st = .retired then s.modLanes fun p => { p with pair := .simplex }
      else s.retireLane rest 1
    let s := s.gapReport chosen outcome gapNs boot
    s.each 24 State.takeHeld

/-- SELFTEST_DECISION. -/
def execSelftestDecision (a b : LaneTest) (gapNs : Nat) (s : State) : Out :=
  if s.lanes.pair = .switching ∧ ¬ s.modes.safe then settle s (s.decideLanes a b gapNs) else .next s

/-- STANDBY_INTERNAL_ERROR (R255): retired at once, with no gap. -/
def execStandbyInternalError (s : State) : Out :=
  match s.standby with
  | some l =>
    if s.laneLive then
      settle s ((s.modLanes fun p => { p with returning := none }).retireLane l 1)
    else .next s
  | none => .next s

/-- BG_SELFTEST_FAIL (R262): the standby is retired, the active lane raises a mismatch. -/
def execBgSelftestFail (lane : Lane) (unit : Nat) (s : State) : Out :=
  if s.laneLive ∧ (s.lanes.active = some lane ∨ s.standby = some lane) then
    let t := s.modLane lane fun x => { x with bgFails := wrap32 (x.bgFails + 1) }
    let t := t.event (srcLoop (Lane.code lane)) 0x9008 (Lane.code lane) (laneByte lane ++ byte unit)
    if t.lanes.active = some lane then .next (t.laneMismatch 0x12 0 0 0)
    else settle s ((t.modLanes fun p => { p with returning := none }).retireLane lane 2)
  else .next s

/-- The copy into a lane is complete (Table 12-6, step 5). -/
def State.laneSynced (l : Lane) (us : Nat) (s : State) : State :=
  let returned := decide (s.lanes.returning = some l)
  let n := s.cfgN 0x2500 0xA
  let s := s.modLane l fun x => { x with st := .standby, retireCause := 0, copyUs := us }
  let s := s.modLanes fun p =>
    { p with pair := .paired, returning := none, cmdResult := if returned ∧ p.cmdRunning then 2 else p.cmdResult
             cmdRunning := p.cmdRunning && !returned
             a := if returned then { p.a with autoLeft := n } else p.a, b := if returned then { p.b with autoLeft := n } else p.b }
  s.event (srcWatch 0) 0x9006 (Lane.code l) (laneByte l ++ le 2 us)

/-- The copy did not converge (Table 12-6, step 4): retired with cause 0x07. -/
def State.copyFails (l : Lane) (s : State) : State :=
  let running := s.lanes.cmdRunning && s.lanes.returning = some l
  let s := s.modLanes fun p => { p with returning := none, cmdRunning := p.cmdRunning && !running
                                        cmdResult := if running then 0x11 else p.cmdResult }
  (s.event (srcWatch 0) 0x9007 (Lane.code l) (laneByte l)).retireLane l 7

/-- A whole-lane window may open: WINDOW_PERIOD_S has passed since the last one, and nothing has it skipped (R263). -/
def State.windowDue (s : State) : Bool :=
  let p := s.cfgN 0x2500 8
  s.lanes.pair = .paired && decide (p ≠ 0) && decide (s.lanes.windowUs + p * 1000000 ≤ s.clk.timeUs) && !s.modes.safe
    && !s.seq.recordMode && !s.inModes [.settling]

/-- LANE_WINDOW (R263): the standby's self-test, and its resynchronisation. -/
def execLaneWindow (test : LaneTest) (copyUs : Nat) (s : State) : Out :=
  match s.standby with
  | some l =>
    if !s.windowDue then .next s
    else
      let now := s.clk.timeUs
      let t := (s.modLane l (LaneUnit.tested test test.pass)).modLanes fun p => { p with windowUs := now }
      if test.pass then
        let t := t.modLanes fun p => { p with windowPassUs := some now }
        let t := t.event (srcWatch 0) 0x9009 (Lane.code l) (laneByte l)
        if copyUs ≤ 200 then .next (t.laneSynced l copyUs) else settle s (t.copyFails l)
      else settle s (t.retireLane l 3)
  | none => .next s

/-- A return may not start now (R265, R266). -/
def State.returnBarred (s : State) : Bool :=
  s.inModes [.dormant, .settling] || s.modes.safe || s.lanes.returning.isSome || !(s.lanes.pair = .simplex)

/-- Step 1 of a return (Table 12-6). -/
def State.beginReturn (l : Lane) (s : State) : State :=
  (s.modLane l fun x => { x with st := .testing }).modLanes fun p => { p with returning := some l }

/-- LANE_CMD (R265): 1 RETURN_A, 2 RETURN_B, 3 RETIRE_STANDBY. -/
def writeLaneCmd (v : Nat) (s : State) : Nat × State :=
  if v = 0 then (0, s)
  else if v = 3 then
    match s.standby with
    | some l =>
      if s.laneLive then
        let s := s.modLanes fun p => { p with cmd := 3, cmdResult := 2, returning := none, cmdRunning := false }
        (0, s.retireLane l 5)
      else (0x08000022, s)
    | none => (0x08000022, s)
  else
    let l : Lane := if v = 1 then .a else .b
    if (s.lanes.lane l).st ≠ .retired ∨ s.returnBarred then (0x08000022, s)
    else (0, (s.modLanes fun p => { p with cmd := v, cmdResult := 1, cmdRunning := true }).beginReturn l)

/-- AUTO_RETURN (R265): AUTO_RETURN_DELAY_S has passed since the retirement; it waits while a return is barred. -/
def execAutoReturn (l : Lane) (s : State) : Out :=
  .next (
    let x := s.lanes.lane l
    if x.st = .retired ∧ 0 < x.autoLeft ∧ ¬ s.returnBarred ∧ x.retiredUs + s.cfgN 0x2500 0xB * 1000000 ≤ s.clk.timeUs then
      (s.modLane l fun x => { x with autoLeft := x.autoLeft - 1 }).beginReturn l
    else s)

/-- LANE_RETURN_SELFTEST_DONE (Table 12-6, steps 2 and 3). -/
def execLaneReturnSelftestDone (test : LaneTest) (s : State) : Out :=
  match s.lanes.returning with
  | some l =>
    if (s.lanes.lane l).st ≠ .testing ∨ s.modes.safe then .next s
    else
      let t := s.modLane l (LaneUnit.tested test test.pass)
      if test.pass then
        .next ((t.modLane l fun x => { x with st := .syncing }).modLanes fun p => { p with pair := .syncing })
      else
        let running := t.lanes.cmdRunning
        let t := t.modLanes fun p => { p with returning := none, cmdRunning := false
                                              cmdResult := if running then 0x10 else p.cmdResult }
        let t := t.event (srcWatch 0) 0x9002 (Lane.code l) (laneByte l ++ byte 0 ++ le 8 test.signature.toNat)
        settle s (t.retireLane l 6)
  | none => .next s

/-- LANE_RESYNC_DONE (Table 12-6, step 5). -/
def execLaneResyncDone (us : Nat) (s : State) : Out :=
  match s.standby with
  | some l => if (s.lanes.lane l).st = .syncing ∧ s.lanes.pair = .syncing then settle s (s.laneSynced l us) else .next s
  | none => .next s

/-- LANE_COPY_TIMEOUT (Table 12-6, step 4). -/
def execLaneCopyTimeout (s : State) : Out :=
  match s.standby with
  | some l => if (s.lanes.lane l).st = .syncing ∧ s.lanes.pair = .syncing then settle s (s.copyFails l) else .next s
  | none => .next s

/-- LOOP powered down (Table 12-1): retirement is held in WATCH. -/
def State.lanesOff (s : State) : State :=
  let s := s.abandonReturn
  let off := fun x : LaneUnit => if x.st = .retired then x else { x with st := .off }
  s.modLanes fun p => { p with a := off p.a, b := off p.b, pair := .off, token := none, active := none }

/-- LOOP starts again: the boot check (R254), whose decision follows. -/
def State.lanesStart (s : State) : State := s.laneMismatch 0x13 0 0 0

/-- HEALTH (Table 12-12). -/
def State.health (s : State) : Bytes :=
  let p := s.lanes
  let w := match p.windowPassUs with
    | some t => if p.pair = .simplex then 0xFFFFFFFF else (s.clk.timeUs - t) / 1000000
    | none => 0xFFFFFFFF
  byte 1 ++ byte p.pair.code ++ byte (((p.active).map Lane.code).getD 0xFF) ++ [0] ++ byte p.a.st.code ++ byte p.a.retireCause
    ++ byte p.b.st.code ++ byte p.b.retireCause ++ le 4 p.switchCount ++ le 4 p.mismatchCount ++ le 4 p.transientCount ++ le 4 w

end Sys2Proof.Machine
end

