-- ==== Sys2Proof/Machine/Modes.lean ====
section
/-! DEFINITION. Machine/Modes.lean: host mode requests (R30 to R32), the triggers of Table 02-4 and their priority (R23 to R28),
entering a mode with the actions bound to it, and the profile in force (R33, R34). -/

namespace Sys2Proof.Machine

/-! Requests (R30). -/

/-- Requests held: class rank, order of arrival, request, owner. The request of an ACTIVATE, and one held for the service port with no context ranks as
a VND host's (R29, R364). -/
def State.modeRequests (s : State) : List (Nat × Nat × Nat × Option HostNo) :=
  let own := (pick 32 fun h => s.hosts[h].used && s.hosts[h].request ≠ 0).map fun h =>
    (s.hosts[h].requestRank, s.hosts[h].requestOrder, s.hosts[h].request, some h)
  match s.fw.tendingHeld with
  | some n => own ++ [(5, n, 3, none)]
  | none => own

/-- The request that stands: the latest of the highest class (R30). -/
def bestRequest (rs : List (Nat × Nat × Nat × Option HostNo)) : Option (Nat × Option HostNo) :=
  (rs.foldl (fun (best : Option (Nat × Nat × Nat × Option HostNo)) r => match best with
    | none => some r
    | some b => if b.1 < r.1 ∨ (b.1 = r.1 ∧ b.2.1 < r.2.1) then some r else some b) none).map fun r => (r.2.2.1, r.2.2.2)

/-- R30 chooses the request in force; a SHUTDOWN that comes into force sets the latch, an AUTO in force clears it (R31). -/
def State.chooseRequest (s : State) : State :=
  match bestRequest s.modeRequests with
  | some (r, h) =>
    let newly := decide (s.modes.requestInForce ≠ 4 ∨ s.modes.requestOwner ≠ h)
    s.modModes fun m =>
      { m with requestInForce := r, requestOwner := h
               shutdownLatch := if r = 1 then false else if r = 4 ∧ newly then true else m.shutdownLatch }
  | none => s.modModes fun m => { m with requestInForce := 1, requestOwner := none }

/-- A host's own request replaces its earlier one and ranks with a class (R29, R30); a SHUTDOWN that then stands sets the latch
(Table 02-3). -/
def State.placeRequest (h : HostNo) (rank r : Nat) (s : State) : State :=
  let n := s.modes.orderCount
  let s := s.modModes fun m => { m with orderCount := n + 1 }
  let s := (s.modHost h fun x => { x with request := r, requestOrder := n, requestRank := rank }).chooseRequest
  if r = 4 ∧ s.modes.requestInForce = 4 ∧ s.modes.requestOwner = some h then s.modModes fun m => { m with shutdownLatch := true } else s

/-- Lowest class code of a request value (Table 02-3). -/
def requestClass (v : Nat) : Nat := if v = 0 then 1 else if v ≤ 2 then 3 else 4

/-- MODE_REQUEST (R32). -/
def writeModeRequest (h : HostNo) (v : Nat) (s : State) : Nat × State :=
  if 4 < v then (0x06090030, s)
  else if s.hosts[h].cls.code < requestClass v then (0x06010002, s)
  else if s.modes.safe then (0x08000022, s)
  else (0, s.placeRequest h s.hosts[h].cls.code v)

/-! Entering a mode (R24). -/

/-- Every grant, orphans included, ends with cause 0x05, and every context is released (R282, R283). -/
def State.releaseAll (s : State) : State :=
  let s := s.endGrants (fun _ => true) 5
  s.each 32 (State.releaseHost 3)

/-- Cells in DORMANT: LINE cells keep their signature logic, the others are OFF with low outputs (Tables 02-1 and 20-4). -/
def State.dormantCell (c : CellNo) (s : State) : State :=
  match s.cells[c].role with
  | .line =>
    match s.groupOf c with
    | some g => if s.groups[g].st.run then s.laneStop g 0xB else s
    | none => s
  | .feeder => (s.holdFeeder c).modCell c Cell.outputsLow
  | .oring =>
    let st := s.cells[c].oring.st
    (if st = .disabled ∨ st = .latched then s else s.orBlock c).modCell c Cell.outputsLow
  | _ => s.modCell c Cell.outputsLow

/-- DORMANT is entered (Table 02-1, Table 12-1, R35): strings disconnect, LOOP powers down, contexts are released, and WATCH
holds the WAKE value for the stay. -/
def State.enterDormant (s : State) : State :=
  let wake := s.budget 3
  let s := s.each 4 fun n t => t.disconnect n 6 .open
  let s := s.modModes fun m => { m with wakeHeld := wake }
  let s := (s.releaseAll.each 48 State.dormantCell).lanesOff.modSeq fun q => { q with st := .idle }
  (s.modPins fun p => { p with alert := Vector.replicate 4 false }).cocoonCheck

/-- Core `c` runs firmware once base firmware has started: a service core, or an application core for which the active image holds
customer firmware (Table 18-1) whose declared banks passed the self-test (R324, R329, Table 16-8). -/
def State.coreFits (s : State) (c : CoreNo) : Bool :=
  let h := s.fw.slots[s.fw.active].header
  let banks := numAt h 32 1
  let bad := fun (b : Nat) => bit banks b && s.badBanks.any fun f => match f with
    | .bank n => decide ((n : Nat) = b)
    | _ => false
  decide ((c : Nat) < 2) || (decide (numAt h 28 4 ≠ 0) && !bad (c + 3) && !bad 7)

/-- Base firmware has started: the cores with firmware run, and an application core without any stays in WFI (R324). -/
def State.startCores (s : State) : State :=
  { s with cores := Vector.ofFn fun (c : CoreNo) => { Core.reset with run := if s.coreFits c then .running else .wfi } }

/-- Events that accrued while the clock of MANAGE stood still reach the ICU (R379). -/
def Src.resume (x : Src) : Src :=
  if x.waiting = 0 then x else { x with events := x.waiting, pending := true, released := true, waiting := 0 }

/-- MANAGE runs again after a Cocoon: from deep Cocoon XIN starts and the PLLs lock (R376); service cores run, the accrued events reach
the ICU, and the queued records enter the ring. -/
def State.wakeManage (s : State) : State :=
  if s.manage = .shallow ∨ s.manage = .deep then
    let s := if s.manage = .deep then s.modClk fun k => { k with xin := true, pllS := true, pllL := true, pllH := true, holdover := false }
      else s
    let s := ({ s with manage := .running, srcs := s.srcs.map Src.resume } : State).startCores
    let s := if s.seq.recordMode then s else s.drainQueue
    s.each 2 State.rejoin
  else s

/-- A feeder's or an ORING cell's gate when DORMANT is left: off by the pull-down (R158, R176, Table 03-7), but where a latched fault or
maintenance keeps the outputs low (R48, R56). -/
def Cell.wake (x : Cell) : Cell :=
  if (x.role = .feeder ∨ x.role = .oring) ∧ x.faultLatch &&& actionBits = 0 ∧ (x.st = .inService ∨ x.st = .starting) then x.gateOff else x

/-- RISING is entered: from DORMANT MANAGE wakes and LOOP starts with its boot check (R254); the on-sequence begins (R226). -/
def State.enterRising (old : Option Mode) (s : State) : State :=
  let s := if old = some .dormant then (s.wakeManage.armWatchdog.lanesStart.each 48 fun c t => t.modCell c Cell.wake).alertPins else s
  s.startOn

/-- The actions of a mode's own begin. -/
def State.modeBegins (old : Option Mode) (m : Mode) (cause : Nat) (s : State) : State :=
  match m with
  | .dormant => s.enterDormant
  | .rising => s.enterRising old
  | .settling => (s.startOff cause).each 4 fun n t => t.modString n fun b => { b with writeDue := true }
  | .holdup => s.modLedger fun l => { l with holdupMs := 0, atRisk := false }
  | _ => s

/-- A transition shows (R24): MODE_STATE, LAST_CAUSE, event 0x7001 and EMCY 0xFF52. Cause 0x01 shows the cold reset as old mode 0. -/
def State.showMode (m : Mode) (cause : Nat) (s : State) : State :=
  let bytes := byte ((s.modes.mode.map Mode.code).getD 0) ++ byte m.code ++ byte cause
  ((s.modModes fun x => { x with mode := some m, lastCause := cause }).event (srcWatch 0) 0x7001 0xFF bytes).emcy 0xFF52 bytes

/-- One transition (R24) and the actions bound to it. A loop that HOLDUP held starts when HOLDUP is left (Table 02-1, R113). -/
def State.enterMode (m : Mode) (cause : Nat) (s : State) : State :=
  let old := s.modes.mode
  let s := (s.showMode m cause).abandonAny
  let s := if old = some .tending then s.each 48 State.interruptCell else s
  let s := s.modeBegins old m cause
  if old = some .holdup then s.each 16 State.tryStart else s

/-! The triggers (Table 02-4). -/

/-- The ledger has shed every non-P0 sink: none is fed. -/
def State.allShed (s : State) : Bool := (List.finRange 64).all fun x => !(s.fed x && s.sinkClass x ≠ 0)

/-- At least one non-P0 sink is shed by the ledger. -/
def State.someShed (s : State) : Bool := (List.finRange 64).any fun x => s.ledger.sinks[x].shed ≠ 0 && s.sinkClass x ≠ 0

/-- Trigger of cause 0x0D: E_lb at or below SETTLE_RESERVE, which 0 makes every string disconnected. -/
def State.settleLow (s : State) : Bool :=
  if s.cfgN 0x2001 9 = 0 then s.stringsIn .connected = [] else decide (s.eLb ≤ s.settleMwh)

/-- SERVING, or RATIONED when a shortfall exists. -/
def State.servingSplit (s : State) : Mode := if s.ledger.now.shortfall then .rationed else .serving

/-- Triggers present in a mode, in the order in which one target's first cause is shown. That no external source and no string is there
counts in RISING once one has been there or the on-sequence is complete: RISING begins with none (log 29). -/
def State.triggers (s : State) (m : Mode) : List (Mode × Nat) :=
  let short := s.ledger.now.shortfall
  let ext := s.externalSource
  let lifeline := decide (s.modes.requestInForce = 2)
  let tending := decide (s.modes.requestInForce = 3)
  let iff := fun (b : Bool) (x : Mode × Nat) => if b then [x] else []
  let shutdown := iff (s.modes.requestInForce = 4) (.settling, 0x10)
  let shed := s.allShed
  let toLifeline := iff (lifeline && shed) (.lifeline, 0x0B)
  match m with
  | .dormant => iff s.startCondition (.rising, 2)
  | .rising =>
    let q := s.seq
    shutdown ++ iff q.abortAll (.settling, 0xE)
      ++ iff (!ext && s.stringsIn .connected = [] && (q.onComplete || q.supplied)) (.settling, 0xE)
      ++ (if q.onComplete then iff (!ext) (.holdup, 5)
              ++ iff (ext && short) (.rationed, 4) ++ iff (ext && !short) (.serving, 3)
          else [])
  | .serving =>
    shutdown ++ iff (!ext) (.holdup, 8) ++ toLifeline ++ iff (10 ≤ s.modes.shortRun) (.rationed, 6) ++ iff tending (.tending, 0x13)
  | .tending =>
    shutdown ++ iff (!ext) (.holdup, 8) ++ toLifeline ++ iff (10 ≤ s.modes.shortRun) (.rationed, 6) ++ iff (!tending) (.serving, 0x14)
  | .rationed =>
    shutdown ++ iff (!ext) (.holdup, 8) ++ toLifeline ++ iff (shed && s.someShed) (.lifeline, 0xA)
      ++ iff (1000 ≤ s.modes.okRun) (.serving, 7)
  | .holdup =>
    iff s.settleLow (.settling, 0xD) ++ shutdown ++ toLifeline ++ iff (shed && s.someShed) (.lifeline, 0xA)
      ++ iff (1000 ≤ s.modes.extRun && !lifeline) (s.servingSplit, 9)
  | .lifeline =>
    iff s.settleLow (.settling, 0xD) ++ shutdown ++ iff (!lifeline && ext) (s.servingSplit, 0xC)
      ++ iff (1000 ≤ s.modes.extRun && !lifeline) (s.servingSplit, 9)
  | .settling =>
    let done := s.seq.offDone && s.seq.committed && s.seq.delayElapsed && !s.seq.recordMode
    iff (done && s.startCondition) (.rising, 0x12) ++ iff (done && !s.startCondition) (.dormant, 0x11)

/-- Priority of a target (R27); RISING and DORMANT never compete with another. -/
def modeRank : Mode → Nat
  | .settling => 0 | .holdup => 1 | .lifeline => 2 | .rationed => 3 | .tending => 4 | .serving => 5 | .rising => 6 | .dormant => 7

/-- The trigger taken: the first of the highest target (R27). -/
def bestTrigger (ts : List (Mode × Nat)) : Option (Mode × Nat) :=
  ts.foldl (fun best t => match best with
    | none => some t
    | some b => if modeRank t.1 < modeRank b.1 then some t else some b) none

/-- The arbiter at a boundary (R23, R28): counts of boundaries, R30, and at most one transition. -/
def State.arbitrate (s : State) : State :=
  let short := s.ledger.now.shortfall
  let ext := s.externalSource
  let s := s.modModes fun m =>
    { m with shortRun := if short then m.shortRun + 1 else 0, okRun := if short then 0 else m.okRun + 1
             extRun := if ext then m.extRun + 1 else 0 }
  let s := s.chooseRequest.modSeq fun q => { q with supplied := q.supplied || ext || decide (s.stringsIn .connected ≠ []) }
  match s.modes.mode with
  | some m =>
    if s.modes.safe then s
    else
      match bestTrigger (s.triggers m) with
      | some (n, cause) => s.enterMode n cause
      | none => s
  | none => s

/-- A start condition ends DORMANT within 20 ms, at the moment it is found (cause 0x02). -/
def State.dormantWake (s : State) : State :=
  if s.dormant ∧ !s.modes.safe ∧ s.startCondition then s.enterMode .rising 2 else s

/-- The profile in force from a boundary, and the sets of linked loops (R33, R34, R82). -/
def State.adoptProfile (s : State) : State :=
  let p := s.profileNow
  if p = s.modes.profile then s
  else
    let s := s.modModes fun m => { m with profile := p }
    s.each 16 fun k t =>
      if t.loop k 0xC = 1 then
        t.modLoop k fun l =>
          if l.setInForce = .safe then { l with resumeSet := profileSet p }
          else if l.setNext = some (.safe, 3) ∨ l.setNext = some (.safe, 1) then { l with resumeSet := profileSet p }
          else { l with setNext := some (profileSet p, 2) }
      else t

/-- BOOT_COMPLETE (cause 0x01): RISING when a start condition holds, else DORMANT. -/
def execBootComplete (s : State) : Out :=
  if s.phase = .booted then
    let t := { s with phase := .running }
    settle s (if t.startCondition then t.enterMode .rising 1 else t.enterMode .dormant 1)
  else .next s

end Sys2Proof.Machine
end

