-- ==== Sys2Proof/Machine/Estimator.lean ====
section
/-! DEFINITION. Machine/Estimator.lean: the estimator (R210, R211), anchors, rest windows and learning (R212 to R217), packs,
authentication (R202, R207, R208) and the records in MRAM (R218, R219). -/

namespace Sys2Proof.Machine

/-! Temperature band (R201, R248). -/

/-- Band edge E_1 to E_5 in tenths of a degree. -/
def State.bandEdge (s : State) (b : Nat) : Int := s.cfg 0x2400 b

/-- A band moved by a temperature in degrees Celsius, with hysteresis (R248). -/
def State.bandStep (s : State) (b : Nat) (t : Rat) : Nat :=
  let up := (List.range 5).foldl (fun b _ => if b < 5 ∧ (s.bandEdge (b + 1) : Rat) ≤ t * 10 then b + 1 else b) b
  (List.range 5).foldl (fun b _ => if 0 < b ∧ t * 10 < (s.bandEdge b - s.cfg 0x2400 6 : Int) then b - 1 else b) up

/-- A band set directly, without hysteresis (R248). -/
def State.bandDirect (s : State) (t : Rat) : Nat :=
  ((List.range 5).filter fun b => decide ((s.bandEdge (b + 1) : Rat) ≤ t * 10)).length

/-- Band of a string: its thermistor's, the pack's, or MS0's; B2 before the first valid mean (R201, R249). -/
def State.stringBand (s : State) (n : StringNo) : Nat :=
  let of := fun i : InputNo => if s.thermal[i].seen then s.thermal[i].band else 2
  match toFin? 22 (s.string n 6) with
  | some i => of i
  | none => if s.string n 7 = 1 then (s.strings[n].packBand).getD 2 else of 0x10

/-- Written values of a span of entries that no agreement set holds come into force together. -/
def State.adoptSpan (index lo hi : Nat) (s : State) : State :=
  if s.modes.safe then s
  else
    let a := keyOf index lo
    let b := keyOf index hi
    s.modDict fun d =>
      { d with force := (d.force.filter fun p => p.1 < a) ++ (d.written.filter fun p => a ≤ p.1 ∧ p.1 ≤ b)
                  ++ d.force.filter fun p => b < p.1 }

/-- Adoption point of the estimator update (R223, Table 14-7). -/
def State.estimatorAdopt (n : StringNo) (s : State) : State :=
  let s := ((s.adoptSpan (0x3300 + n) 0x14 0x23).adoptSpan (0x3300 + n) 0x5C 0x61).adoptSpan (0x4310 + n) 1 0xF0
  s.over (List.range 6) fun b t => t.adoptSet ⟨0xE, n, b⟩

/-! The filter (R210, R211). -/

/-- Prediction of one second. -/
def State.predict (n : StringNo) (s : State) : State :=
  let b := s.strings[n]
  let z := s.impedance n
  let k : Rat := max 1 b.tickCount
  let i := b.sumI / k
  let q36 := 36000 * b.capAh
  let d := ratio i q36
  let q := ratio (b.sumSigma / k) q36
  let beta := ratio (b.sumBeta / k) q36
  let a := decay 1000 z.ta
  let c := decay 1000 z.tb
  let rated : Rat := s.string n 4
  s.modString n fun b =>
    { b with soc := clampR 0 100 (b.soc - d)
             va := a * b.va + z.ra * (1 - a) * i / 1000000
             vb := c * b.vb + z.rb * (1 - c) * i / 1000000
             p11 := b.p11 + q * q, p22 := a * a * b.p22, p33 := c * c * b.p33
             p12 := a * b.p12, p13 := c * b.p13, p23 := a * c * b.p23
             bias := b.bias + beta
             cycles := b.cycles + ratio (max i 0 / 1000) (360 * rated)
             netMas := b.netMas + i, iMa := i, iLast60 := (i :: b.iLast60).take 60
             sumI := 0, sumSigma := 0, sumBeta := 0, tickCount := 0 }

/-- E_lb of a string in mWh (R211). -/
def State.energyLb (s : State) (n : StringNo) (lb : Rat) : Rat :=
  let b := s.strings[n]
  if !b.verified then 0
  else
    let drop := max (meanOf b.iLast60) 0 * (s.impedance n).dc / 1000000
    match s.socAt n ((s.string n 0xB : Rat) + drop) with
    | some x => if lb ≤ x then 0 else b.capAh / 100 * s.ocvArea n drop x lb
    | none => 0

/-- P_lim of a string in mW (R211); with DIS_MAX_DA 0 the resistance alone limits. -/
def State.powerLimit (s : State) (n : StringNo) (lb : Rat) : Rat :=
  let lvd : Rat := s.string n 0xB
  let dc := (s.impedance n).dc
  let byR := ratio ((s.ocv n lb - lvd) * 1000000) dc
  let m := s.string n 0x12
  max 0 (lvd * (if m = 0 then byR else min ((m : Rat) * 100) byR) / 1000)

/-- The reports of an update (R211), with event 0x6013 when SOC_SIGMA first exceeds 8.00 %. -/
def State.report (n : StringNo) (s : State) : State :=
  let b := s.strings[n]
  let sigma := b.sigmaNow
  let lb := max (b.soc - (s.string n 0x18 : Rat) / 10 * sigma) 0
  let e := s.energyLb n lb
  let p := s.powerLimit n lb
  let high := decide (8 < sigma)
  let s := s.modString n fun b => { b with sigma := sigma, socLb := lb, eLbMwh := e, pLimMw := p, sigmaHigh := high }
  if high && !b.sigmaHigh then s.event srcLedger 0x6013 n (byte n ++ le 2 (hundredths sigma)) else s

/-- The string is at rest: |Ī| below Q/200, or OPEN (R213). -/
def Batt.atRest (b : Batt) : Bool :=
  b.st = .open || (decide (b.iMa < 5 * b.capAh) && decide (-(5 * b.capAh) < b.iMa))

/-- A rest window may open (R214). -/
def State.windowOpens (s : State) (n : StringNo) : Bool :=
  let b := s.strings[n]
  let gap := s.string n 0x1C * 3600
  s.string n 0x19 ≠ 0 && decide ((s.string n 0x19 : Rat) < 100 * b.sigma) && s.string n 0x1B ≠ 0 && b.verified
    && (b.stage = .float || b.stage = .bulk) && s.inModes [.serving] && !s.modes.safe && !s.ledger.now.shortfall
    && decide (60000 ≤ s.ledger.shortFreeMs) && s.windowString = none && !s.strings.toList.any (·.steering)
    && s.strings.toList.all fun x => match x.windowGapS with
      | some g => decide (gap ≤ g)
      | none => true

/-- A window opens: event 0x6011. -/
def State.openWindow (n : StringNo) (s : State) : State :=
  let s := s.modString n fun b =>
    { b with windowOpen := true, windowS := 0, windowSettled := false, stageWas := b.stage, stage := .window }
  s.event srcLedger 0x6011 n (byte n)

/-- The window's second: its trim of V_set, once V_set has reached the string's OCV (R214). -/
def State.windowSecond (n : StringNo) (s : State) : State :=
  let b := s.strings[n]
  let s := s.modString n fun b => { b with windowS := b.windowS + 1 }
  if b.windowSettled ∧ ¬ s.modes.safe then
    let d := clampR (-50) 50 ((s.impedance n).dc * b.iMa / 4000000)
    let v := s.inRange (s.bus.vSetMv + d)
    s.modBus fun x => { x with vSetMv := v }
  else s

/-- BSV mean of the second that ends (3300+s:36), and the readings of the last 60 s (R212). -/
def Batt.secondV (b : Batt) : Batt :=
  { b with vStringMv := if b.bsvCount = 0 then b.bsvMv else b.bsvSum / b.bsvCount, bsv60 := ((b.bsvSum, b.bsvCount) :: b.bsv60).take 60
           bsvSum := 0, bsvCount := 0 }

/-- The charge current is below the taper current in ABSORB (R213). -/
def State.tapers (s : State) (n : StringNo) : Bool :=
  s.strings[n].stage = .absorb && s.string n 0x1D ≠ 0 && decide (-s.strings[n].iMa < (s.string n 0x1D : Rat) * s.strings[n].capAh)

/-- Seconds of rest, of taper, of an anchor's age, between windows and since a write-back. -/
def State.updateClocks (n : StringNo) (s : State) : State :=
  let wb := s.string n 0x21
  let taper := s.tapers n
  s.modString n fun b =>
    { b.secondV with restS := if b.atRest then b.restS + 1 else 0, taperS := if taper then b.taperS + 1 else 0
                     anchorAgeS := b.anchorAgeS + 1, windowGapS := if b.windowOpen then some 0 else b.windowGapS.map (· + 1)
                     writebackS := b.writebackS + 1, writeDue := b.writeDue || decide (wb ≠ 0 ∧ wb * 60 ≤ b.writebackS + 1) }

/-- The estimator computes: the LOOP region has power, no switch-over gap is open (Table 09-6a), and its block is not held (R13). -/
def State.estimatorRuns (s : State) : Bool := s.modes.mode.isSome && !s.dormant && !s.inGap && !s.blockHeld 0x46

/-- ESTIMATOR_UPDATE (R210, R211, R213, R214): the filter of a string that is OPEN or CONNECTED; others are frozen (R208). -/
def execEstimatorUpdate (n : StringNo) (s : State) : Out :=
  .next (
    if !s.estimatorRuns then s
    else
      let s := s.estimatorAdopt n
      let band := s.stringBand n
      let s := s.modString n fun b => { b with band := band }
      let st := s.strings[n].st
      if st = .open ∨ st = .connected then
        let s := (((s.predict n).report n).updateClocks n)
        if s.strings[n].windowOpen then s.windowSecond n
        else if s.windowOpens n then s.openWindow n
        else s
      else
        s.modString n fun b =>
          { b.secondV with iMa := b.sumI / max 1 b.tickCount, sumI := 0, sumSigma := 0, sumBeta := 0, tickCount := 0 })

/-! Windows (R214). -/

/-- A window ends with a cause: event 0x6012, and charge control resumes from the present V_set. -/
def State.endWindow (n : StringNo) (cause : Nat) (s : State) : State :=
  if s.strings[n].windowOpen then
    let s := s.modString n fun b =>
      { b with windowOpen := false, windowGapS := some 0, stage := if b.st = .connected then b.stageWas else .none }
    s.event srcLedger 0x6012 n (byte n ++ byte cause)
  else s

/-- REST_WINDOW_END (R214): the cause named must hold. -/
def execRestWindowEnd (n : StringNo) (cause : WindowEnd) (s : State) : Out :=
  .next (
    match cause with
    | .time => if s.string n 0x1B * 60 ≤ s.strings[n].windowS then s.endWindow n 2 else s
    | .shortfall => if s.ledger.now.shortfall then s.endWindow n 3 else s
    | .mode => if s.inModes [.serving] then s else s.endWindow n 4
    | .string => if s.strings[n].st ≠ .connected ∨ s.strings.toList.any (·.steering) then s.endWindow n 5 else s)

/-! Anchors and learning (R212, R213, R216). -/

/-- Capacity learned between the last anchor and this one (R216); `bias` is b before folding. -/
def State.learnCapacity (n : StringNo) (bias : Rat) (s : State) : State :=
  let b := s.strings[n]
  match b.learnSoc with
  | none => s
  | some a1 =>
    let d := if b.soc < a1 then a1 - b.soc else b.soc - a1
    let mag := if b.netMas < 0 then -b.netMas else b.netMas
    if !b.learnOk || decide (d < (s.string n 0x23 : Rat) / 100) || decide (2 < b.learnSigma) || decide (2 < b.sigmaNow)
        || decide (d < 10 * bias) then s
    else
      let rated : Rat := (s.string n 4 : Rat) / 10
      let qm := ratio (mag / 36000) d
      if rated / 2 ≤ qm ∧ qm ≤ rated * 12 / 10 then
        let s := s.modString n fun b => { b with capAh := b.capAh + (qm - b.capAh) / 4, writeDue := true }
        s.event srcLedger 0x6020 n (byte n ++ le 4 (hundredths qm) ++ le 4 (hundredths s.strings[n].capAh))
      else s.factorEvent 0x6022 n b.grid

/-- What every anchor leaves: the learning interval closed and a new one begun, its event, its age, a write-back. -/
def State.anchored (n : StringNo) (kind : Nat) (bias : Rat) (s : State) : State :=
  let s := s.learnCapacity n bias
  let s := s.modString n fun b =>
    let g := b.sigmaNow
    { b with sigma := g, learnSoc := some b.soc, learnSigma := g, netMas := 0, learnOk := true, anchorAgeS := 0
             anchoredSince := true, writeDue := true }
  s.event srcLedger 0x6010 n
    (byte n ++ byte kind ++ le 2 (hundredths s.strings[n].soc) ++ le 2 (hundredths s.strings[n].sigma))

/-- The update of R212 from the string voltage z in mV. -/
def State.anchorUpdate (n : StringNo) (z : Rat) (s : State) : State :=
  let b := s.strings[n]
  let p := b.p11 + b.bias * b.bias / 3
  let h := s.ocv n b.soc
  let hs := s.ocvSlope n b.soc
  let be : Rat := s.string n 0x16
  let oe : Rat := (s.string n 3 : Rat) * s.string n 0x17 / 1000
  let k := ratio (p * hs) (hs * hs * p + (be * be + oe * oe))
  s.modString n fun b =>
    { b with bias := 0, va := 0, vb := 0, p22 := 0, p33 := 0, soc := clampR 0 100 (b.soc + k * (z - h)), p11 := (1 - k * hs) * p }

/-- z: mean BSV reading of the last 60 s in mV (R212); without a reading in them the last one. -/
def Batt.restMv (b : Batt) : Rat :=
  let k := (b.bsv60.map Prod.snd).sum
  if k = 0 then b.bsvMv else (b.bsv60.map Prod.fst).foldl (· + ·) 0 / k

/-- REST_ANCHOR (R212, R213): at each whole REST_TIME_MIN of unbroken rest; inside a window it is the window's (kind 0x03) and
ends it. -/
def execRestAnchor (n : StringNo) (s : State) : Out :=
  .next (
    let b := s.strings[n]
    let rest := s.string n 0x1A * 60
    if (b.st = .open ∨ b.st = .connected) ∧ b.restS ≠ 0 ∧ b.restS % rest = 0 ∧ b.anchorAgeS ≠ 0 then
      let kind := if b.windowOpen then 3 else 1
      ((s.anchorUpdate n b.restMv).anchored n kind b.bias).endWindow n 1
    else s)

/-- FULL_ANCHOR (R213): in ABSORB below the taper current for 60 s; ABSORB ends. -/
def execFullAnchor (n : StringNo) (s : State) : Out :=
  .next (
    let b := s.strings[n]
    if b.st = .connected ∧ b.stage = .absorb ∧ s.string n 0x1D ≠ 0 ∧ 60 ≤ b.taperS then
      let f : Rat := (s.string n 0x20 : Rat) / 100
      let s := s.modString n fun b => { b with soc := 100, p11 := f * f, bias := 0 }
      (s.anchored n 2 b.bias).endAbsorb n
    else s)

/-- ABSORB_TIMEOUT (R220): ABSORB has lasted ABSORB_MAX_MIN. -/
def execAbsorbTimeout (n : StringNo) (s : State) : Out :=
  .next (
    if s.strings[n].st = .connected ∧ s.strings[n].stage = .absorb ∧ ¬ s.modes.safe
        ∧ s.strings[n].stageUs + s.string n 0x1E * 60000000 ≤ s.clk.timeUs then s.endAbsorb n else s)

/-- 60 s have passed since the last known step of a string (R217). -/
def Batt.stepAged (b : Batt) : Bool :=
  match b.sinceStepMs with
  | some ms => decide (60000 ≤ ms)
  | none => false

/-- IMPEDANCE_RC_UPDATE (R217): 60 s after a known step, from the change of the voltage since the boundary; ΔV60 is taken from the means of
the ten ticks before either moment, and the values of the pairs are those of the table (log 76). -/
def execImpedanceRcUpdate (n : StringNo) (s : State) : Out :=
  .next (
    let b := s.strings[n]
    match b.step, b.stepAged with
    | some k, true =>
      let g := k.g
      let w := fun (j : Nat) => (s.cfgN (0x4310 + n) (48 * j + g + 1) : Rat)
      let pair := fun (j : Nat) => if w (j + 1) = 0 then 0 else w j * (1 - decay 60000 (w (j + 1)))
      let f := ratio (-(meanOf b.vTicks - k.vBefore) / k.dI * 1000000 - k.rsM) (pair 1 + pair 3)
      let s := s.modString n fun x => { x with step := none }
      if factorOk f then
        let s := s.modString n fun x =>
          { x with frc := x.frc.set g (x.frc[g] + (f - x.frc[g]) / 8), updates := x.updates.set g (min 255 (x.updates[g] + 1)) }
        s.factorEvent 0x6021 n g
      else s.factorEvent 0x6022 n g
    | _, _ => s)

/-! Packs (R202, R207, R208). -/

/-- A silent pack: three failed polls of one command in a row. -/
def Batt.silent (b : Batt) : Bool := decide (3 ≤ b.silentCount) || decide (3 ≤ b.silentBlocks) || decide (3 ≤ b.silentTemp)

/-- Words of a block of little-endian bytes. -/
def wordsOf : Bytes → List Nat
  | a :: b :: r => numAt [a, b] 0 2 :: wordsOf r
  | _ => []

/-- The number of blocks that a device gives, 1 to 24; another number, or another length, is no answer (log 142). -/
def blockCount (t : Tries) : Option Nat :=
  match triesGot t with
  | some [b] => if 1 ≤ numAt [b] 0 1 ∧ numAt [b] 0 1 ≤ 24 then some (numAt [b] 0 1) else none
  | _ => none

/-- The block voltages of a device that has n of them. -/
def blockVolts (n : Nat) (t : Tries) : Option (List Nat) :=
  match triesGot t with
  | some bs => if bs.length = 2 * n then some (wordsOf bs) else none
  | none => none

/-- A poll's blocks in rising address order (R202): none for the command that failed first, BLOCK_COUNT or BLOCK_VOLTS. -/
def pollBlocks : List (Tries × Tries) → Option Nat × List Nat
  | [] => (none, [])
  | (c, v) :: r =>
    match blockCount c with
    | none => (some 0xB1, [])
    | some n =>
      match blockVolts n v, pollBlocks r with
      | some bs, (none, rest) => (none, bs ++ rest)
      | some _, (some code, _) => (some code, [])
      | none, _ => (some 0xB2, [])

/-- A poll of BLOCK_COUNT and BLOCK_VOLTS: the voltages with the times since which one lies outside its limits, or the command that failed. -/
def State.blockPoll (n : StringNo) (ds : List (Tries × Tries)) (s : State) : State :=
  match pollBlocks ds with
  | (none, bs) =>
    let now := s.clk.timeUs
    let since := fun (p : Nat → Bool) (t : Option Nat) => if bs.any p then some (t.getD now) else none
    let low := s.blockLow n
    let high := s.blockHigh n
    (s.modString n fun b => { b with blocks := bs, silentCount := 0, silentBlocks := 0, lowUs := since low b.lowUs
                                     highUs := since high b.highUs }).becomePresent n
  | (some code, _) =>
    s.modString n fun b =>
      if code = 0xB1 then { b with silentCount := b.silentCount + 1 } else { b with silentCount := 0, silentBlocks := b.silentBlocks + 1 }

/-- A poll of PACK_TEMP: the temperature and its band. -/
def State.tempPoll (n : StringNo) (t : Tries) (s : State) : State :=
  match triesGot t with
  | some [a, b] =>
    let dc := (numAt [a, b] 0 2 : Int)
    let dc := if dc < 32768 then dc else dc - 65536
    let t : Rat := (dc : Rat) / 10
    let band := match s.strings[n].packBand with
      | some b => s.bandStep b t
      | none => s.bandDirect t
    (s.modString n fun b => { b with packTempDc := some dc, silentTemp := 0, packBand := some band }).becomePresent n
  | _ => s.modString n fun b => { b with silentTemp := b.silentTemp + 1 }

/-- PACK_POLL (R202), while MANAGE serves TW11: with PACK_IF 1 the pack at PACK_ADDR, with PACK_IF 2 the monitors there that are fitted
(log 142); blocks once a second, the temperature every 10 s. A silent pack is not present. -/
def execPackPoll (n : StringNo) (poll : PackPoll) (s : State) : Out :=
  let pif := s.string n 7
  let now := s.clk.timeUs
  if pif = 0 ∨ s.string n 8 = 0 ∨ !s.twDrives 11 then .next s
  else
    let ran := s.twRan 11
    let done := fun (t : State) => if t.strings[n].silent then t.becomeGone n else t
    match poll with
    | .blocks ds =>
      if now < s.strings[n].pollUs + 1000000 then .next s
      else
        let t := ran.modString n fun b => { b with pollUs := now }
        .next (done (t.blockPoll n (if pif = 1 then ds.take 1 else ds.take 4)))
    | .temperature a =>
      if now < s.strings[n].tempUs + 10000000 ∨ pif ≠ 1 then .next s
      else .next (done ((ran.modString n fun b => { b with tempUs := now }).tempPoll n a))

/-- A copy of a battery record passes (R218). -/
def recordOk (r : Bytes) : Bool := r.length = 256 && decide (numAt r 252 4 = crc32 (r.take 252))

/-- Sequence number of a record. -/
def recordSeq (r : Bytes) : Nat := numAt r 4 4

/-- A copy that passes. -/
def goodCopy (r : Option Bytes) : Option Bytes := r.filter recordOk

/-- Copy in force of a slot (R218). -/
def PackSlot.record (p : PackSlot) : Option Bytes :=
  match goodCopy p.a, goodCopy p.b with
  | some a, some b => if recordSeq a < recordSeq b then some b else some a
  | some a, none => some a
  | none, b => b

/-- Slot of a pack ID. -/
def State.slotOf (s : State) (id : Bytes) : Option PackSlot := s.packs.find? fun p => p.packId = id

/-- A copy is there but fails its CRC. -/
def badCopy (r : Option Bytes) : Bool :=
  match r with
  | some b => !recordOk b
  | none => false

/-- Reading a slot at a resume: event 0x6031 for each copy whose CRC fails (R218). -/
def State.readSlot (n : StringNo) (p : PackSlot) (s : State) : State :=
  let ev := fun (t : State) (r : Option Bytes) => match r with
    | some b => if recordOk b then t else t.event srcLedger 0x6031 n (byte n ++ le 4 (recordSeq b))
    | none => t
  ev (ev s p.a) p.b

/-- The slot of a pack, taken now if it has none: a free one, else the one least recently seen (R218). -/
def State.seePack (id : Bytes) (s : State) : State :=
  let top := (s.packs.map (·.seen)).foldl max 0 + 1
  if s.packs.any fun p => p.packId = id then
    { s with packs := s.packs.map fun p => if p.packId = id then { p with seen := top } else p }
  else
    let kept := if s.packs.length < 64 then s.packs
      else
        let oldest := (s.packs.map (·.seen)).foldl min top
        s.packs.filter fun p => p.seen ≠ oldest
    { s with packs := kept ++ [{ packId := id, a := none, b := none, seen := top }] }

/-- The estimator starts afresh with a SOC, its σ, a capacity and cycles (R208). -/
def Batt.starts (soc sigma cap cycles : Rat) (unverified : Bool) (b : Batt) : Batt :=
  { b with soc := soc, va := 0, vb := 0, p11 := sigma * sigma, p22 := 0, p33 := 0, p12 := 0, p13 := 0, p23 := 0, bias := 0
           capAh := cap, cycles := cycles, frs := Vector.replicate 48 1, frc := Vector.replicate 48 1
           updates := Vector.replicate 48 0, unverified := unverified, coldResume := false, restS := 0, learnSoc := none
           learnOk := false, netMas := 0, iLast60 := [], sigma := sigma, socLb := 0, eLbMwh := 0, pLimMw := 0, cands := []
           step := none, sumI := 0, sumSigma := 0, sumBeta := 0, tickCount := 0 }

/-- Defaults: SOC from the OCV table at the present BSV, σ 30 % (R208). -/
def State.startDefaults (n : StringNo) (unverified : Bool) (s : State) : State :=
  let soc := (s.socAt n s.strings[n].bsvMv).getD 100
  s.modString n fun b => b.starts soc 30 ((s.string n 4 : Rat) / 10) 0 unverified

/-- A record resumed (R208, Table 09-5). -/
def State.resume (n : StringNo) (r : Bytes) (s : State) : State :=
  let cold := s.strings[n].coldResume
  let sigma : Rat := (numAt r 34 2 : Rat) / 100
  let hours : Rat := ((s.now - numAt r 36 6 : Nat) : Rat) / 3600000000
  let bias := hours / 20
  let raised := decide (cold = true ∧ sigma * sigma + bias * bias / 3 < 25)
  let p := if raised then 25 - bias * bias / 3 else sigma * sigma
  s.modString n fun b =>
    { (b.starts ((numAt r 32 2 : Rat) / 100) sigma ((numAt r 24 4 : Rat) / 100) ((numAt r 28 4 : Rat) / 100) false) with
        p11 := p, bias := bias, sigma := if raised then 5 else Config.sqrt (p + bias * bias / 3)
        frs := Vector.ofFn fun i : Fin 48 => (numAt r (44 + 2 * i) 2 : Rat) / 4096
        frc := Vector.ofFn fun i : Fin 48 => (numAt r (140 + i) 1 : Rat) / 64
        updates := Vector.ofFn fun i : Fin 48 => numAt r (188 + i) 1 }

/-- HISTORY of a new pack (R208, Table 09-1). -/
def State.startHistory (n : StringNo) (h : Bytes) (s : State) : State :=
  s.modString n fun b =>
    b.starts ((numAt h 8 2 : Rat) / 100) ((numAt h 10 2 : Rat) / 100) ((numAt h 0 4 : Rat) / 100) ((numAt h 4 4 : Rat) / 100) false

/-- The estimator of a pack that matched or whose policy is OFF (Table 09-4). A known pack both of whose copies fail starts from defaults
(R218), and under policy OFF as a new pack (R207). -/
def State.startPack (n : StringNo) (id : Bytes) (history : Option Bytes) (s : State) : State :=
  let slot := s.slotOf id
  let s := match slot with
    | some p => s.readSlot n p
    | none => s
  let s := s.seePack id
  match slot.bind PackSlot.record with
  | some r => s.resume n r
  | none =>
    if s.string n 9 ≠ 0 ∧ (slot.any fun p => badCopy p.a || badCopy p.b) then s.startDefaults n false
    else
      match (if s.string n 0x13 = 1 then history else none) with
      | some h => (s.startHistory n h).event srcLedger 0x6007 n (byte n ++ byte 1)
      | none => (s.startDefaults n false).event srcLedger 0x6007 n (byte n ++ byte 0)

/-- Identity of a string without a pack interface (R202). -/
def ownIdentity (n : StringNo) : Bytes := List.replicate 15 0xFF ++ byte n

/-- The secret K of a key slot. -/
def State.secret (s : State) (slot : Nat) : Option Bytes := (s.fw.keys.find? fun k => k.slot = slot).map (·.key)

/-- AUTHENTICATING ends with a result and a state. -/
def State.authEnds (n : StringNo) (result : Nat) (st : StringState) (s : State) : State :=
  s.modString n fun b => { b with authResult := result, st := st }

/-- A pack's answer to a challenge is the HMAC of challenge and PACK_ID under the string's secret (R207). -/
def answerGood (key response : Option Bytes) (message : Bytes) : Bool :=
  match key, response with
  | some k, some r => decide (r = Config.hmac16 k message)
  | _, _ => false

/-- A failure (R207, Table 09-4): REJECTED under REJECT, else UNVERIFIED on defaults. -/
def State.authFails (n : StringNo) (s : State) : State :=
  if s.string n 9 = 1 then (s.authEnds n 3 .rejected).event srcLedger 0x6006 n (byte n ++ byte 3)
  else ((s.startDefaults n true).authEnds n 4 .open).event srcLedger 0x6006 n (byte n ++ byte 4)

/-- The RESPONSE read: the first of up to four reads that brings 16 bytes (R207). -/
def packResponse (x : PackAnswer) : Option Bytes :=
  ((x.responses.take 4).filterMap (triesSized 16)).head?

/-- Another present string has the pack ID (Table 09-4). -/
def State.twin (s : State) (n : StringNo) (id : Bytes) : Bool :=
  (pick 4 fun m => m ≠ n && s.strings[m].present && s.strings[m].packId = some id) ≠ []

/-- Steps 2 and 3 of R207: a fresh CHALLENGE goes to the pack, and its RESPONSE is compared. -/
def State.challengePack (n : StringNo) (id : Bytes) (x : PackAnswer) (s : State) : State :=
  let challenge := Config.random16 s.freeCount
  let s := { s with freeCount := s.freeCount + 1 }.modString n fun b => { b with challenge := some challenge }
  let sent := x.challenge.1 || x.challenge.2
  if sent && answerGood (s.secret (s.string n 0xA)) (packResponse x) (challenge ++ id) then
    ((s.event srcLedger 0x6005 n (byte n ++ byte 1)).startPack n id (triesSized 12 x.history)).authEnds n 1 .open
  else s.authFails n

/-- STRING_AUTHENTICATE (R207, Table 09-4), while MANAGE serves TW11. With policy OFF a pack whose identity cannot be read stays in
AUTHENTICATING (log 78). -/
def execStringAuthenticate (n : StringNo) (x : PackAnswer) (s : State) : Out :=
  .next (
    if s.strings[n].st ≠ .authenticating ∨ !s.recorderUp then s
    else
      let policy := s.string n 9
      match if s.string n 7 = 1 then triesSized 16 x.packId else some (ownIdentity n) with
      | none => if policy = 0 then s else s.authFails n
      | some id =>
        let s := s.modString n fun b => { b with packId := some id }
        if s.twin n id then (s.authEnds n 5 .rejected).event srcLedger 0x6006 n (byte n ++ byte 5)
        else if policy = 0 then (s.startPack n id (triesSized 12 x.history)).authEnds n 2 .open
        else s.challengePack n id x)

/-! Records (R218, R219). -/

/-- The record of a string under a sequence number (Table 09-5). -/
def State.recordOf (s : State) (n : StringNo) (seq : Nat) : Bytes :=
  let b := s.strings[n]
  let body := byte 1 ++ byte n ++ [0, 0] ++ le 4 seq ++ (b.packId.getD (ownIdentity n)) ++ le 4 (hundredths b.capAh)
    ++ le 4 (hundredths b.cycles) ++ le 2 (hundredths b.soc) ++ le 2 (hundredths b.sigmaNow) ++ le 6 s.now
    ++ byte (b2n b.anchoredSince) ++ byte b.band
    ++ (b.frs.toList.flatMap fun f => le 2 (min 65535 (quantN (f * 4096))))
    ++ (b.frc.toList.flatMap fun f => byte (min 255 (quantN (f * 64))))
    ++ (b.updates.toList.flatMap fun k => byte k) ++ List.replicate 16 0
  body ++ le 4 (crc32 body)

/-- A record over the older copy (R219). -/
def PackSlot.store (r : Bytes) (p : PackSlot) : PackSlot :=
  match goodCopy p.a, goodCopy p.b with
  | some a, some b => if recordSeq a < recordSeq b then { p with a := some r } else { p with b := some r }
  | some _, none => { p with b := some r }
  | none, _ => { p with a := some r }

/-- Learned values to defaults (RECORD_RESET). -/
def State.resetLearned (n : StringNo) (s : State) : State :=
  s.modString n fun b =>
    { b with resetDue := false, capAh := (s.string n 4 : Rat) / 10, frs := Vector.replicate 48 1
             frc := Vector.replicate 48 1, updates := Vector.replicate 48 0 }

/-- RECORD_WRITEBACK (R219): PFI deasserted, no last-gasp commit pending, MRAM served, and a slot to write. -/
def execRecordWriteback (n : StringNo) (s : State) : Out :=
  .next (
    let b := s.strings[n]
    match b.packId.bind s.slotOf with
    | none => s
    | some p =>
      if !b.writeDue || b.unverified || b.st = .rejected || b.st = .authenticating || s.seq.pfi || s.seq.gaspPending.isSome
          || s.manage ≠ .running then s
      else
        let s := if b.resetDue then s.resetLearned n else s
        let seq := match p.record with
          | some r => wrap32 (recordSeq r + 1)
          | none => 1
        let r := s.recordOf n seq
        let s := { s with packs := s.packs.map fun (q : PackSlot) => if q.packId = p.packId then q.store r else q }
        let s := s.modString n fun b => { b with writeDue := false, writebackS := 0, anchoredSince := false }
        s.event srcLedger 0x6030 n (byte n ++ le 4 seq))

end Sys2Proof.Machine
end

