-- ==== Sys2Proof/Machine/Stages.lean ====
section
/-! DEFINITION. Machine/Stages.lean: what a loop does around its arithmetic (spec/05), its commands and the rules of its
host entries (R64, R65, R69, R81, R83). -/

namespace Sys2Proof.Machine

/-- Two milliseconds in PWM steps. -/
def twoMs : Nat := 40960000

/-- The abort tests run: in the ramp, and until 2 ms after the start (R115). -/
def Loop.inStart (l : Loop) : Bool :=
  (l.st = .starting && l.stage = .softStart) || (l.st = .running && decide (l.ssSteps ≤ twoMs + l.periodInForce))

/-! Shedding and burst (R100 to R106). -/

/-- Shed and add levels of a profile in per cent of a phase's rating; none in RESPONSIVE (Table 02-6). -/
def shedLevels (profile : Nat) : Option (Nat × Nat) :=
  if profile = 1 then some (30, 45) else if profile = 2 then some (20, 35) else none

/-- Shedding is allowed for a loop (R102). -/
def State.shedAllowed (s : State) (k : LoopNo) : Bool :=
  !s.savingOff && (shedLevels s.modes.profile).isSome && s.loop k 0x60 ≠ 0 && s.loop k 0x61 ≠ 0 && s.controlMode k ≠ 3
    && s.loops[k].st = .running

/-- The shed conditions hold at a tick (R100). -/
def State.shedQualifies (s : State) (k : LoopNo) : Bool :=
  match shedLevels s.modes.profile with
  | some (lo, hi) =>
    let n := s.nA k
    let p := s.loops[k].meanP
    let r : Rat := (s.loop k 0x60 : Rat) * 1000
    s.shedAllowed k && decide (s.loop k 0x64 < n) && decide (p / n < r * lo / 100) && decide (p / (n - 1 : Rat) < r * hi / 100)
  | none => false

/-- The member to shed: the highest running one that is not already ramping out, and never the lead (R100, R102). -/
def State.shedCandidate (s : State) (k : LoopNo) : Option CellNo :=
  ((s.running k).filter fun c => s.cells[c].weightGoal = 1 && s.lead k ≠ some c).getLast?

/-- PHASE_SHED (R100). -/
def execPhaseShed (k : LoopNo) (s : State) : Out :=
  .next (
    match s.shedCandidate k with
    | some c =>
      if s.shedQualifies k ∧ max 1 (s.loop k 0x65) ≤ s.loops[k].shedRun then
        let n := s.nA k - 1
        let s := s.modCell c fun x => { x with weightGoal := 0 }
        (s.modLoop k fun l => { l with shedRun := 0 }).event s.srcLane 0x2020 c (byte c ++ byte n)
      else s
    | none => s)

/-- Rated current of a loop in mA (R104). -/
def State.ratedLoopMa (s : State) (k : LoopNo) : Rat := ratedMa (s.loop k 0x60 * (s.members k).length) (s.loop k 8)

/-- Burst entry threshold in per cent (Table 02-6). -/
def burstPct (profile : Nat) : Nat := if profile = 1 then 12 else if profile = 2 then 8 else 4

/-- A tick is light for burst (R104, Table 05-2). -/
def State.burstQualifies (s : State) (k : LoopNo) : Bool :=
  s.controlMode k = 1 && s.loop k 0x68 ≠ 0 && s.loop k 0x61 ≠ 0 && s.loop k 0x60 ≠ 0 && s.loops[k].st = .running && !s.savingOff
    && decide (s.loops[k].meanI < s.ratedLoopMa k * burstPct s.modes.profile / 100)

/-- A member is shed with no ramp. -/
def State.shedNow (k : LoopNo) (c : CellNo) (s : State) : State :=
  let s := s.modLoop k fun l => { l with shed := l.shed ||| BitVec.ofNat 48 (2 ^ (c : Nat)) }
  let s := s.modCell c fun x => { x.outputsLow with weight := 0, weightGoal := 0 }
  s.event s.srcLane 0x2020 c (byte c ++ byte (s.nA k))

/-- BURST_ENTRY (R104). -/
def execBurstEntry (k : LoopNo) (s : State) : Out :=
  .next (
    if s.burstQualifies k ∧ s.loops[k].stage = .continuous ∧ max 1 (s.loop k 0x6A) ≤ s.loops[k].burstRun then
      let n := s.loop k 0x68
      let s := s.modLoop k fun l => { l with stage := .burst, burstLeft := n, burstAsleep := false, burstExit := false
                                             shortSleeps := 0, burstRun := 0 }
      let s := s.event s.srcLane 0x2024 k (byte k)
      s.over ((s.running k).drop (s.loop k 0x64)).reverse (fun c t => t.shedNow k c)
    else s)

/-- SHARE_RAMP_COMPLETE (R99). -/
def execShareRampComplete (m : CellNo) (s : State) : Out :=
  .next (
    match s.loopOf m with
    | some k => (s.modCell m fun x => { x with weight := x.weightGoal }).rampDone k m
    | none => s)

/-! Synchronisation (R107 to R110). -/

/-- SYNCIN edges lie 100 kHz to 2 MHz apart: 10 240 to 204 800 steps (R107). -/
def syncinOk (prev stamp : Nat) : Bool := decide (prev + 10240 ≤ stamp) && decide (stamp ≤ prev + 204800)

/-- A synchronised loop follows, or shows that the target lies out of range (R107, R109). -/
def State.steer (k : LoopNo) (s : State) : State :=
  match s.syncTarget k with
  | some t =>
    let l := s.loops[k]
    if s.loop k 0x72 = 0 then s
    else if t < s.periodMin k ∨ (s.periodMax k : Rat) < t then
      if l.sync = .outOfRange then s
      else
        (s.modLoop k fun l => { l with sync := .outOfRange, lockRun := 0 }).event s.srcLane 0x2028 k
          (byte k ++ le 4 l.periodInForce)
    else if l.sync = .acquiring ∨ l.sync = .locked then s
    else s.modLoop k fun l => { l with sync := .acquiring, lockRun := 0 }
  | none => s

/-- SYNCIN_PRESENT at a new edge: an earlier edge lies in the expected period before the last one, whose length is the mean of the last
four intervals, or the last interval before there are four (R107). -/
def SyncPins.presentAt (p : SyncPins) (stamp : Nat) : Bool :=
  match p.edges with
  | a :: b :: _ =>
    let e : Rat := p.mean.getD ((a : Rat) - b)
    p.edges.any fun t => decide ((stamp : Rat) - 2 * e < t) && decide ((t : Rat) ≤ stamp - e)
  | _ => false

/-- SYNCIN_EDGE (R107). -/
def execSyncinEdge (stamp : Nat) (s : State) : Out :=
  .next (
    let edges := match s.syncPins.edges with
      | e :: r => if syncinOk e stamp then (stamp :: e :: r).take 5 else [stamp]
      | [] => [stamp]
    let present := decide (3 ≤ edges.length) && s.syncPins.presentAt stamp
    let s := { s with syncPins := { edges := edges, count := s.syncPins.count + 1, present := present } }
    s.each 16 State.steer)

/-- SYNC_LOCKED (R108). -/
def execSyncLocked (k : LoopNo) (s : State) : Out :=
  .next (
    if s.loops[k].sync = .acquiring ∧ 64 ≤ s.loops[k].lockRun then
      (s.modLoop k fun l => { l with sync := .locked }).event s.srcLane 0x2026 k (byte k ++ le 4 s.loops[k].periodInForce)
    else s)

/-- SYNC_LOST (R110): every synchronised loop returns. -/
def execSyncLost (s : State) : Out :=
  .next (
    let s := { s with syncPins := { s.syncPins with edges := [], present := false } }
    s.each 16 fun k t =>
      let l := t.loops[k]
      if t.loop k 0x72 ≠ 0 ∧ (l.sync = .acquiring ∨ l.sync = .locked ∨ l.sync = .outOfRange) then
        (t.modLoop k fun l => { l with sync := .returning, lockRun := 0 }).event t.srcLane 0x2027 k
          (byte k ++ le 4 l.periodInForce)
      else t)

/-- SYNCIN_FREQ in Hz (2008:02). -/
def State.syncinFreq (s : State) : Nat :=
  match s.syncPins.mean with
  | some m => if m ≤ 0 then 0 else quantN (20480000000 / m)
  | none => 0

/-! Starting (R113 to R116, R406). -/

/-- SOFT_START_END (R113, R119): SS_TIME has passed since the start. -/
def execSoftStartEnd (k : LoopNo) (s : State) : Out :=
  .next (
    if s.loops[k].st = .starting ∧ s.loops[k].stage = .softStart ∧ stepsPerUs * s.loop k 0x6D ≤ s.loops[k].ssSteps then
      let s := s.modLoop k fun l => { l with st := .running, stage := .continuous, pgIn := 0, pgOutRun := 0 }
      if s.loops[k].dropped = 0 then s
      else s.event s.srcLane 0x202C k (byte k ++ le 8 s.loops[k].dropped.toNat)
    else s)

/-- PG_RISE (R114): 1 ms inside the window since the ramp's end, counted in PWM steps. -/
def execPgRise (k : LoopNo) (s : State) : Out :=
  .next (
    if s.loops[k].st = .running ∧ s.loops[k].pg = false ∧ 20480000 ≤ s.loops[k].pgIn then
      s.modLoop k fun l => { l with pg := true }
    else s)

/-- Causes of event 0x202A. -/
def abortCode : AbortCause → Nat
  | .voltShort => 1 | .sourceLimit => 2 | .tooFew => 3

/-- An abort test of R115 is met. -/
def State.abortMet (s : State) (k : LoopNo) (cause : AbortCause) : Bool :=
  let l := s.loops[k]
  l.inStart &&
    match cause with
    | .voltShort =>
      s.controlMode k = 1 && decide (twoMs ≤ l.shortRun) && (s.running k).any fun c => decide (64 ≤ s.cells[c].compRun)
    | .sourceLimit => s.controlMode k = 2 && decide (twoMs ≤ l.compAll)
    | .tooFew => l.st = .starting && !s.allLine k && decide ((s.running k).length < s.loop k 0x64)

/-- START_ABORT (R115, R116). -/
def execStartAbort (k : LoopNo) (cause : AbortCause) (s : State) : Out :=
  .next (
    if s.abortMet k cause then
      let n := (s.running k).length
      let s := s.event s.srcLane 0x202A k (byte k ++ byte (abortCode cause) ++ byte n)
      let s := ((s.endBrake k true).membersLow k).clearStates k
      if 0 < s.loops[k].hiccupLeft then
        let ms := s.loop k 0x6F
        let s := s.modLoop k fun l =>
          { l with st := .starting, stage := .hiccupWait, hiccupLeft := l.hiccupLeft - 1, pg := false, gridOn := false, waitMs := ms }
        if s.loop k 0x6F = 0 then s.restartLoop k else s
      else (s.stopLoop k .stoppedByCause 5).event s.srcLane 0x202B k (byte k)
    else s)

/-- HICCUP_RETRY (R116): HICCUP_DELAY has passed. -/
def execHiccupRetry (k : LoopNo) (s : State) : Out :=
  .next (
    let l := s.loops[k]
    if l.st = .starting ∧ l.stage = .hiccupWait ∧ l.waitMs = 0 ∧ l.railOn ∧ s.enabled k then s.restartLoop k else s)

/-- Sixty seconds in PWM steps. -/
def minuteSteps : Nat := 60000000 * stepsPerUs

/-- HICCUP_RELOAD (R116): PG has been 1 for 60 s without a break. -/
def execHiccupReload (k : LoopNo) (s : State) : Out :=
  .next (if s.loops[k].pg ∧ minuteSteps ≤ s.loops[k].pgRun then s.modLoop k fun l => { l with hiccupLeft := s.loop k 0x6E } else s)

/-! Failed phases (R117, R118). -/

/-- A member has failed by a test of R117; a start short is that of CELL_TARGET mode (R115). -/
def State.failMet (s : State) (k : LoopNo) (m : CellNo) (cause : DropCause) : Bool :=
  let x := s.cells[m]
  match cause with
  | .deviation => x.role = .phase && decide (32 ≤ x.devRun)
  | .stuckSense => x.role = .phase && decide (32 ≤ x.stuckRun)
  | .invalidSense => x.role = .phase && !x.senseValid
  | .driverFault => x.role = .phase && x.faultLatch.getLsbD 1
  | .startShort =>
    s.controlMode k = 3 && decide (twoMs ≤ x.compRun * s.loops[k].periodInForce)
      && (match s.groupOf m with
          | some g => s.groups[g].st = .starting || decide (s.groups[g].rampSteps ≤ twoMs + s.loops[k].periodInForce)
          | none => s.loops[k].inStart)

/-- PHASE_DROP (R118); no test runs in burst sleep (Table 05-1). -/
def execPhaseDrop (m : CellNo) (cause : DropCause) (s : State) : Out :=
  .next (
    match s.loopOf m with
    | some k => if s.loops[k].active ∧ s.loops[k].burstAsleep = false ∧ s.runs k m ∧ s.failMet k m cause then s.dropMember k m cause else s
    | none => s)

/-- OVERRUN_STOP (R70): sixteen overruns within the last 64 loop periods. -/
def execOverrunStop (k : LoopNo) (s : State) : Out :=
  .next (
    if s.loops[k].active ∧ 16 ≤ s.loops[k].overruns.foldl (· + ·) 0 then s.stopLoop k .stoppedByCause 3 else s)

/-- CYCLE_BY_CYCLE_LIMIT (R42, R47, R72): the CS pins cross the cell's threshold, and the on-pulse ends at a step before its duty. No
rule gives the threshold of a PHASE or LINE cell: it is free (log 114). -/
def execCycleByCycleLimit (c : CellNo) (step : Nat) (sense : TripSense) (s : State) : Out :=
  .next (
    let x := s.cells[c]
    if (x.role = .phase ∨ x.role = .line) ∧ step < x.onSteps ∧ x.crosses (Config.limitRatio c) false sense then
      let s := s.modCell c fun x => { x with compCount := wrap32 (x.compCount + 1), compThis := true }
      match s.loopOf c with
      | some k =>
        let dt := s.deadTimes k c
        let low := s.loops[k].pwbHeld
        (s.modCell c (Cell.cutPulse dt.2 step low)).modLoop k fun l => { l with compSeen := true }
      | none => s.modCell c (Cell.cutPulse 0 step true)
    else s)

/-- COEFFICIENT_WORD_LAND (R80): the oldest waiting word reaches loop memory; after an uncorrectable error it counts as rewritten
(Table 03-8). -/
def execCoefficientWordLand (k : LoopNo) (s : State) : Out :=
  .next (
    match s.loops[k].landing with
    | (key, v) :: rest => (s.setForce (key / 256) (key % 256) v).modLoop k fun l =>
      { l with landing := rest, rewrite := l.rewrite.filter fun q => q ≠ key }
    | [] => s)

/-! Host entries of a loop: an abort code, 0 when done. -/

/-- ENABLE (R69, R113, R116): 1 checks and starts, 0 soft-stops. -/
def writeEnable (k : LoopNo) (v : Nat) (s : State) : Nat × State :=
  if v = 0 then
    let on := s.loops[k].st = .starting ∨ s.loops[k].st = .running
    let s := s.setWritten (0x3100 + k) 2 0
    let s := if on then s.stopLoop k .stopped 1 else s.modLoop k fun l => { l with st := .stopped }
    (0, (s.modLoop k fun l => { l with dropped := 0, computeLat := 0 }).recapacity k)
  else if s.loop k 1 = 0 ∨ (s.controlMode k = 1 ∧ s.loop k 8 = 0) then (0x08000022, s)
  else if s.isLineLoop k ∧ (409600 < s.loop k 5 ∨ 409600 < s.loop k 0x75) then (0x08000022, s)
  else
    match s.timingFail k (s.periodMin k) with
    | some p => (0x08000022, s.scheduleRejected k p)
    | none =>
      let was := s.enabled k
      let s := (s.setWritten (0x3100 + k) 2 1).modLoop k fun l => { l with computeLat := 26, hiccupLeft := s.loop k 0x6E }
      (0, if was then s else s.tryStart k)

/-- MEMBERS (R63, R64). -/
def writeMembers (k : LoopNo) (v : Nat) (s : State) : Nat × State :=
  let now := s.loop k 1
  let cells := pick 48 fun c => bit v c
  let free := cells.all fun c => (pick 16 fun j => j ≠ k && s.isMember j c) = []
  let same := cells.all (fun c => s.cells[c].role = .phase) || cells.all (fun c => s.cells[c].role = .line)
  let moved := (pick 48 fun c => bit v c ≠ bit now c).all fun c => s.cells[c].maintained && s.cells[c].st = .drained
  if 2 ^ 48 ≤ v then (0x06090030, s)
  else if !free || !same || (s.enabled k && !moved) then (0x08000022, s)
  else (0, (s.setWritten (0x3100 + k) 1 v).recapacity k)

/-- CONTROL_MODE (R65). -/
def writeControlMode (k : LoopNo) (v : Nat) (s : State) : Nat × State :=
  if s.enabled k then (0x08000022, s) else (0, s.setWritten (0x3100 + k) 4 v)

/-- PERIOD_STEPS, PERIOD_MIN_STEPS and PERIOD_MAX_STEPS: the first two are checked against R68 while enabled (R69). The check takes the
written periods; those of ENABLE and SAMPLE_POINT take the ones in force. Which of them a check takes while an agreeing set waits for its
adoption point the spec does not say (log 125). -/
def writePeriod (k : LoopNo) (sub : Nat) (v : Int) (s : State) : Nat × State :=
  let t := s.setWritten (0x3100 + k) sub v
  let p := (t.writ (0x3100 + k) 5).toNat
  let q := (t.writ (0x3100 + k) 6).toNat
  if sub = 0x75 ∨ !s.enabled k then (0, t)
  else
    match t.timingFail k (if q = 0 then p else q) with
    | some f => (0x06090032, s.scheduleRejected k f)
    | none => (0, t)

/-- SAMPLE_POINT, checked against R68 while its loop is enabled (R69), with the periods in force (log 125). -/
def writeSamplePoint (c : CellNo) (v : Int) (s : State) : Nat × State :=
  let t := s.setWritten (0x3000 + c) 0xB v
  match s.loopOf c with
  | some k =>
    if !s.enabled k then (0, t)
    else
      match t.timingFail k (t.periodMin k) with
      | some f => (0x06090032, s.scheduleRejected k f)
      | none => (0, t)
  | none => (0, t)

/-- A word below PERIOD_STEPS: PHASE_OFFSET and SYNC_PHASE (3100+k:30 to 5F, :74). -/
def writeBelowPeriod (k : LoopNo) (sub : Nat) (v : Int) (s : State) : Nat × State :=
  if s.writ (0x3100 + k) 5 ≤ v then (0x06090030, s) else (0, s.setWritten (0x3100 + k) sub v)

/-- ACTIVE_SET (R81, R82, Table 04-5). -/
def writeActiveSet (k : LoopNo) (v : Nat) (s : State) : Nat × State :=
  let l := s.loops[k]
  let linked := s.loop k 0xC = 1
  let next := fun (n : SetName) (cause : Nat) =>
    s.modLoop k fun l => { l with activeCode := v, setNext := if l.setNext = some (.safe, 3) then l.setNext else some (n, cause) }
  if 3 < v then (0x06090030, s)
  else if v ≤ 1 then
    if linked then (0x08000022, s) else (0, next (if v = 0 then .set0 else .set1) 1)
  else if v = 2 then (0, next .safe 1)
  else if l.setInForce ≠ .safe then (0x08000022, s)
  else (0, next (if linked then profileSet s.modes.profile else l.resumeSet) 4)

/-- SAFE_LOCK (R83); `holder` when the writer holds the configuration lock. -/
def writeSafeLock (k : LoopNo) (v : Nat) (holder : Bool) (s : State) : Nat × State :=
  if v = 1 then (0, s.setWritten (0x3100 + k) 0xD 1)
  else if s.inModes [.tending] && holder && !s.enabled k then (0, s.setWritten (0x3100 + k) 0xD 0)
  else (0x08000022, s)

/-- A coefficient word as stored: reserved bits of FLAGS are ignored (R8, Table 04-6). -/
def coefficientOf (sub : Nat) (v : Int) : Int := if sub = 1 then v % 64 else v

/-- A coefficient word: refused in a locked SAFE set, else it waits to land (R80, R83). -/
def writeCoefficient (index sub : Nat) (v : Int) (s : State) : Nat × State :=
  let k : LoopNo := ⟨index % 16, by omega⟩
  if 0x4120 ≤ index ∧ s.loop k 0xD = 1 then (0x06010002, s)
  else
    let v := coefficientOf sub v
    (0, (s.setWritten index sub v).modLoop k fun l => { l with landing := l.landing ++ [(keyOf index sub, v)] })

end Sys2Proof.Machine
end

