-- ==== Sys2Proof/Machine/Reads.lean ====
section
/-! DEFINITION. Machine/Reads.lean: what every entry of the dictionary reads as (R273, R290 to R303): the status values of the
chapters' entry tables, the record DOMAINs, and the windows of the recorder. -/

namespace Sys2Proof.Machine

/-! Values of the fixed-size status entries. -/

/-- Milli-units shown in whole units. -/
def milli (x : Int) : Int := quant ((x : Rat) / 1000)

/-- Release of the image in a slot; 0 for an EMPTY one (2700:04, :05). -/
def Fw.release (w : Fw) : Nat :=
  if w.factory then 0x01000000 + Config.factoryRelease.toNat else if w.st = .empty then 0 else numAt w.header 8 4

/-- FIRMWARE_RELEASE (2000:03). -/
def State.release (s : State) : Nat := s.fw.slots[s.fw.active].release

/-- CLOCK_STATE (2000:13); PLL L and PLL H are off in DORMANT (Table 19-2). -/
def Clocks.shown (c : Clocks) (dormant : Bool) : Nat :=
  b2n c.xin + 2 * b2n c.pllS + 4 * b2n (c.pllL && !dormant) + 8 * b2n (c.pllH && !dormant) + 16 * b2n c.holdover + 32 * b2n c.wclkCrystal

/-- STORE_STATE (2002:01). -/
def DictState.storeState (d : DictState) : Nat :=
  if d.storing.isSome then 2 else if d.restore ≠ 0 then 3 else 1

/-- Bytes of a stored image: sequence number, count, one key and value per entry, CRC-32 (R299; log 22). -/
def imageBytes (seq : Nat) (vals : Dict) : Bytes :=
  le 4 seq ++ le 4 vals.length ++ vals.flatMap fun p => le 3 p.1 ++ leI 8 p.2

/-- Identity, mode, budgets, consumption, store and synchronisation (2000 to 2009). MODE_STATE, never 0 in a mode, shows 0 while no mode is
in force, before boot completes and in recovery, which the spec leaves open (R22, log 134). -/
def State.readGlobal (s : State) (h : HostNo) (index sub : Nat) : Int :=
  let c := s.clk
  if index = 0x2000 then
    if sub = 3 then s.release
    else if sub = 4 then Config.uniqueId.toNat
    else if sub = 5 then ((s.dict.imageInForce.map (·.crc)).getD 0 : Nat)
    else if sub = 6 then c.bootCount
    else if sub = 7 then s.now
    else if sub = 8 then c.warmResets
    else if sub = 0x10 then ColdCause.code c.resetCause
    else if sub = 0x11 then c.supplyFault.toNat
    else if sub = 0x12 then c.warmCause
    else if sub = 0x13 then c.shown s.dormant
    else if sub = 0x14 then c.holdovers
    else if sub = 0x15 then quant (c.dieDiff * 10)
    else if sub = 0x17 then c.retrains
    else if sub = 0x18 then c.crcErrors
    else dfltOf index sub
  else if index = 0x2001 then
    if sub = 1 then ((s.modes.mode.map Mode.code).getD 0 : Nat)
    else if sub = 2 then b2n s.modes.safe
    else if sub = 3 then s.hosts[h].request
    else if sub = 4 then s.modes.requestInForce
    else if sub = 5 then ((s.modes.requestOwner.map fun o : HostNo => (o : Nat)).getD 0xFF : Nat)
    else if sub = 7 then b2n s.modes.shutdownLatch
    else s.modes.lastCause
  else if index = 0x2002 then
    let d := s.dict
    if sub = 1 then d.storeState
    else if sub = 2 then ((d.imageInForce.map (·.seq)).getD 0 : Nat)
    else if sub = 3 then ((d.imageInForce.map fun i => (imageBytes i.seq i.vals).length + 4).getD 0 : Nat)
    else if sub = 4 then min 65535 d.lastStoreMs
    else d.restore.toNat
  else if index = 0x2004 then s.modes.profile
  else if index = 0x2005 then
    if sub ≤ 4 then (match inst? 1 4 sub with | some b => (s.hosts[h].budgets[b] : Int) | none => 0)
    else match inst? 0x11 4 sub with | some b => (s.budget b : Int) | none => 0
  else if index = 0x2006 then
    let o := s.own
    if sub = 1 then o.total else if sub = 2 then o.watch else if sub = 3 then o.loop else if sub = 4 then o.channel
    else if sub = 5 then o.manage else o.peak
  else if index = 0x2008 then if sub = 2 then s.syncinFreq else b2n s.syncPins.present
  else s.dict.pending.length

/-- Hosts, ports and contexts (2100 to 215F). -/
def State.readHosts (s : State) (h : HostNo) (index sub : Nat) : Int :=
  if index = 0x2100 then
    if sub = 1 then ((pick 32 fun x => s.hosts[x].used).length : Nat)
    else if sub = 3 then b2n (decide (s.lockOwner = some h))
    else if sub = 4 then ((s.lockOwner.map fun o : HostNo => (o : Nat)).getD 0xFF : Nat)
    else if sub = 6 then (if s.lockOwner.isSome then quant ((s.lockMs : Rat) / 1000) else 0)
    else if sub = 7 then s.hostsRefused
    else if sub = 8 then (h : Nat)
    else s.wallOffsetMs
  else if index = 0x2102 ∨ index = 0x2103 then
    let p : CanNo := ⟨index % 2, by omega⟩
    if sub = 7 then s.can[p].port.code else s.can[p].busOffCount
  else
    match inst? 0x2140 32 index with
    | some x =>
      let y := s.hosts[x]
      if !y.used then (if sub = 9 then 0xFF else 0)
      else if sub = 1 then 1
      else if sub = 2 then Key.code y.key
      else if sub = 3 then y.key.port
      else if sub = 4 then y.key.addr
      else if sub = 5 then y.cls.code
      else if sub = 6 then y.silenceMs
      else if sub = 7 then ((s.ledger.grants.toList.filter fun g => g.standing && decide (g.owner = some x)).length : Nat)
      else if sub = 8 then y.sessions.length
      else ((y.ownSink.map fun o : SinkNo => (o : Nat)).getD 0xFF : Nat)
    | none => 0

/-- Ledger, allocator, bus loop, sinks and grants (2201 to 22BF). -/
def State.readLedger (s : State) (index sub : Nat) : Int :=
  let n := s.ledger.now
  if index = 0x2201 then
    if sub = 1 then milli n.availMw
    else if sub = 2 then milli n.bookedMw
    else if sub = 3 then milli n.headroomMw
    else if sub = 4 then milli n.ownMw
    else if sub = 5 then milli n.residualMw
    else if sub = 6 then b2n n.shortfall
    else if sub = 7 then wrap32 s.ledger.tickCount
    else if sub = 8 then milli n.kEffMw
    else if sub = 9 then milli n.eLbMwh
    else if sub = 0xA then milli n.guardMwh
    else if sub = 0xB then milli n.reservedMwh
    else n.runtimeS
  else if index = 0x2220 then s.grantsStanding
  else if index = 0x2230 then
    let a := s.alloc
    if sub = 1 then quant (a.lam * 4194304)
    else if sub = 2 then quant (a.demandMw / 1000)
    else if sub = 3 then quant (a.shortfallMw / 1000)
    else wrap32 s.solveCount
  else if index = 0x2231 then
    let b := s.bus
    if sub = 1 then (if b.valid then quantN b.vBusMv else 0)
    else if sub = 2 then (if s.lanesRun then quantN b.vSetMv else 0)
    else quant (b.demandMw / 1000)
  else if index = 0x2232 then s.pins.leak.toNat
  else if index = 0x2233 then (match inst? 1 48 sub with | some i => quant s.alloc.target[i] | none => 0)
  else if index = 0x2234 then
    (match inst? 1 48 sub with | some i => min 65535 (quant (s.alloc.factor[i] * 65536)) | none => 0)
  else if index < 0x2280 then
    match inst? 0x2240 64 index with
    | some x =>
      let k := s.ledger.sinks[x]
      if sub = 5 then k.capW
      else if sub = 6 then milli k.bookedMw
      else if sub = 7 then k.measMw
      else if sub = 8 then k.throttle
      else if sub = 9 then (if k.throttle = 0 then 0 else k.targetW)
      else k.shed
    | none => 0
  else
    match inst? 0x2280 64 index with
    | some g =>
      let x := s.ledger.grants[g]
      if sub = 1 then x.st.code
      else if sub = 2 then ((x.owner.map fun o : HostNo => (o : Nat)).getD 0xFF : Nat)
      else if sub = 3 then (if x.generation = 0 then 0 else grantId g x.generation)
      else if sub = 4 then (if x.st = .free then 0 else x.req.total)
      else if sub = 5 then (if x.standing ∧ x.req.durationS ≠ 0 then quant ((x.remainMs : Rat) / 1000) else 0)
      else if sub = 6 then quant (x.resRemainUj / 3600000000)
      else x.endCause
    | none => 0

/-- Sequencer, rails, thermal inputs and lanes (2300 to 2502). -/
def State.readShelf (s : State) (index sub : Nat) : Int :=
  let q := s.seq
  if index = 0x2300 then
    if sub = 1 then q.st.code
    else if sub = 2 then wrap32 s.seqMs
    else if sub = 4 then s.railMask .good
    else if sub = 5 then s.railMask .failed
    else q.count
  else if index = 0x2301 then
    if sub = 1 then b2n q.pfi
    else if sub = 2 then q.pfiCount
    else if sub = 3 then b2n q.recordMode
    else if sub = 5 then q.commitUs
    else q.commitBytes
  else if index < 0x2330 then
    match inst? 0x2310 32 index with
    | some r => if sub = 0xC then q.rails[r].st.code else if sub = 0xD then b2n q.rails[r].pgLevel else 0
    | none => 0
  else if index = 0x2402 then (match inst? 1 16 sub with | some k => (s.loops[k].derate : Int) | none => 0)
  else if index < 0x2430 then
    match inst? 0x2410 22 index with
    | some i =>
      let x := s.thermal[i]
      if sub = 0x10 then quant (x.temp * 10)
      else if sub = 0x11 then quant (x.rateNow * 100)
      else if sub = 0x12 then x.st.code
      else if sub = 0x13 then x.band
      else dfltOf index sub
    | none => 0
  else if index = 0x2500 then
    let p := s.lanes
    if sub = 1 then p.pair.code
    else if sub = 2 then s.activeLane
    else if sub = 3 then p.switchCount
    else if sub = 4 then p.mismatchCount
    else if sub = 5 then p.transientCount
    else if sub = 6 then p.gapNs
    else if sub = 0xC then p.cmd
    else p.cmdResult
  else
    let x := s.lanes.lane (if index = 0x2501 then .a else .b)
    if sub = 1 then x.st.code
    else if sub = 2 then x.retireCause
    else if sub = 3 then x.passCount
    else if sub = 4 then x.failCount
    else if sub = 5 then x.bgFails
    else if sub = 6 then x.signature.toNat
    else if sub = 7 then x.bgSweeps
    else if sub = 8 then x.corrected
    else if sub = 9 then x.autoLeft
    else x.copyUs

/-- Key slot of a subindex of 2710 and 2711. -/
def keySlotOf (sub : Nat) : Nat := sub - 1

/-- Recorder, trace units, firmware, keys and two-wire ports (2600 to 28FF). -/
def State.readManage (s : State) (h : HostNo) (index sub : Nat) : Int :=
  let q := s.recorder
  if index = 0x2600 then if sub = 4 then q.suppressed else if sub = 6 then newestOf q.ring else oldestOf q.ring
  else if index = 0x2601 then s.hosts[h].ringCursor
  else if index = 0x2602 then if sub = 1 then q.ringRetired else if sub = 2 then q.peatRetired else 0
  else if index = 0x2603 then if sub = 1 then s.hosts[h].peatCursor else q.gasps.length
  else if index < 0x2620 then
    match inst? 0x2610 4 index with
    | some u => if sub = 1 then s.traces[u].st.code else if sub = 0x16 then s.traces[u].preCaptured else 0
    | none => 0
  else if index = 0x2700 then
    let w := s.fw
    if sub = 1 then ((w.active : FwSlot) : Nat)
    else if sub = 2 then w.slots[0].st.code
    else if sub = 3 then w.slots[1].st.code
    else if sub = 4 then w.slots[0].release
    else if sub = 5 then w.slots[1].release
    else if sub = 0xA then w.secVersion
    else if sub = 0xB then (if w.trial.isSome then quant ((w.trialLeftMs : Rat) / 1000) else 0)
    else if sub = 0xC then w.lastUpdate
    else if sub = 0xD then ((w.bootsel : Fin 4) : Nat)
    else 0
  else if index = 0x2710 then
    match s.fw.keys.find? fun k => k.slot = keySlotOf sub with
    | some k => if k.locked then 2 else 1
    | none => 0
  else if index = 0x2711 then
    match s.secret (keySlotOf sub) with
    | some k => numAt (Config.sha256 k) 0 4
    | none => 0
  else
    match inst? 0x2800 12 index with
    | some p =>
      let t := s.tw[p]
      if sub = 6 then s.twPolicy p
      else if sub = 7 then (s.twShown p).code
      else if sub = 8 then t.errPec
      else if sub = 9 then t.errLen
      else if sub = 0xA then t.errCmd
      else if sub = 0xB then t.errSeq
      else if sub = 0xC then t.timeouts
      else if sub = 0xD then t.arbLost
      else if sub = 0xE then t.recoveries
      else if sub = 0xF then t.notifyFails
      else b2n t.alertPending
    | none => 0

/-- Cells (3000 to 302F). -/
def State.readCell (s : State) (c : CellNo) (sub : Nat) : Int :=
  let x := s.cells[c]
  let f := x.feeder
  let o := x.oring
  if sub = 3 then x.role.code
  else if sub = 4 then x.pinMode.toNat
  else if sub = 6 then x.st.code
  else if sub = 7 then x.faultLatch.toNat
  else if sub = 8 then x.safeCause
  else if sub = 9 then x.maintCmd
  else if sub = 0xA then x.maintResult
  else if sub = 0x11 then x.calBand
  else if sub = 0x12 then x.faultCount
  else if sub = 0x13 then x.compCount
  else if sub = 0x36 then f.st.code
  else if sub = 0x37 then f.tripCause
  else if sub = 0x39 then quant ((f.retryTimerUs : Rat) / 1000)
  else if sub = 0x3A then f.retryLeft
  else if sub = 0x3B then quant f.meanI
  else if sub = 0x3C then quantN f.meanV
  else if sub = 0x3D then min 65535 f.soaUsed
  else if sub = 0x3E then f.tripCount
  else if sub = 0x3F then f.inrushUs
  else if sub = 0x4A then o.st.code
  else if sub = 0x4B then o.revCount
  else if sub = 0x4D then quant (s.iOrMa c)
  else if sub = 0x4E then quantN o.inMv
  else if sub = 0x4F then quantN o.outMv
  else 0

/-- Loops (3100 to 310F). -/
def State.readLoop (s : State) (k : LoopNo) (sub : Nat) : Int :=
  let l := s.loops[k]
  if sub = 3 then l.st.code
  else if sub = 0xA then l.activeCode
  else if sub = 0xB then l.setInForce.code
  else if sub = 0x10 then l.computeLat
  else if sub = 0x11 then l.overrunCount
  else if sub = 0x17 then l.flCount
  else if sub = 0x18 then l.stopCause
  else if sub = 0x70 then b2n l.pg
  else if sub = 0x76 then l.sync.code
  else if sub = 0x77 then l.periodInForce
  else if sub = 0x78 then l.capacityW
  else if sub = 0x79 then l.shed.toNat
  else if sub = 0x7A then l.dropped.toNat
  else if sub = 0x7B then l.stage.code
  else l.hiccupLeft

/-- Line groups (3200 to 3217). -/
def State.readGroup (s : State) (g : GroupNo) (sub : Nat) : Int :=
  let x := s.groups[g]
  if sub = 3 then x.st.code
  else if sub = 4 then x.stopCause
  else if sub = 0x20 then x.vLineMv
  else if sub = 0x21 then quant x.iLineUa
  else if sub = 0x22 then quant x.pBusMw
  else if sub = 0x23 then (if x.rKnown then quantN (x.rOhm * 1000) else 0)
  else if sub = 0x24 then (if x.rKnown then quantN (x.vsV * 1000) else 0)
  else if sub = 0x25 then b2n x.exchLimit
  else if sub = 0x26 then (if x.st.run then quantN (s.ceiling g) else 0)
  else if sub = 0x27 then quantN x.targetUa
  else if sub = 0x28 then x.energyUj
  else if sub = 0x29 then x.retryLeft
  else 0

/-- Strings (3300 to 3303). -/
def State.readString (s : State) (n : StringNo) (sub : Nat) : Int :=
  let b := s.strings[n]
  if sub = 2 then b.st.code
  else if sub = 0x30 then hundredths b.soc
  else if sub = 0x31 then hundredths b.sigma
  else if sub = 0x32 then hundredths b.socLb
  else if sub = 0x33 then quantN (b.eLbMwh / 1000)
  else if sub = 0x34 then quantN (b.pLimMw / 1000)
  else if sub = 0x35 then quant b.iMa
  else if sub = 0x36 then quantN b.vStringMv
  else if sub = 0x37 then (if b.st = .disabled then 0 else hundredths b.capAh)
  else if sub = 0x38 then hundredths b.cycles
  else if sub = 0x39 then b.restS
  else if sub = 0x3A then b.anchorAgeS
  else if sub = 0x3B then b.stage.code
  else if sub = 0x3D then b.authResult
  else if sub = 0x3E then b.disconnectCause
  else if sub = 0x3F then (match b.blocks with | [] => 0 | v :: r => (r.foldl min v : Nat))
  else if sub = 0x40 then ((b.blocks.foldl max 0 : Nat) : Int)
  else 0

/-- A regulator's index is in use: discovered in the present ON of its feeder (R321). -/
def State.regLive (s : State) (x : Reg) : Bool :=
  decide (x.st ≠ 0) && match toFin? 48 x.cell with
    | some c => s.cells[c].role = .feeder && s.cells[c].feeder.st = .on && decide (s.cells[c].feeder.onCount = x.epoch)
    | none => false

/-- Discovered regulators (3400 to 34FF). -/
def Reg.read (x : Reg) (sub : Nat) : Int :=
  if sub = 1 then x.st
  else if sub = 2 then x.port
  else if sub = 3 then x.addr
  else if sub = 4 then x.slot
  else if sub = 5 then x.status
  else if sub = 6 then x.vout
  else if sub = 7 then x.iout
  else if sub = 8 then x.vin
  else if sub = 9 then x.temp
  else if sub = 0xA then x.pout
  else x.fails

/-- ENTRY_COUNT of release 1.x (Table 00-2; log 22). -/
def entryCount : Nat := 106545

/-- Value of a fixed-size status, command or per-host entry, read by host `h`. -/
def State.statusValue (s : State) (h : HostNo) (index sub : Nat) : Int :=
  if index = 0x1001 then s.errorRegister
  else if index = 0x1018 then if sub = 3 then s.release else if sub = 4 then (Config.uniqueId.toNat % 2 ^ 32 : Nat) else dfltOf index sub
  else if index < 0x2000 then dfltOf index sub
  else if index = 0x2003 then entryCount
  else if index < 0x2010 then s.readGlobal h index sub
  else if index < 0x2200 then s.readHosts h index sub
  else if index < 0x2300 then s.readLedger index sub
  else if index < 0x2600 then s.readShelf index sub
  else if index < 0x2900 then s.readManage h index sub
  else if index < 0x3030 then (match inst? 0x3000 48 index with | some c => s.readCell c sub | none => 0)
  else if index < 0x3110 then (match inst? 0x3100 16 index with | some k => s.readLoop k sub | none => 0)
  else if index < 0x3218 then (match inst? 0x3200 24 index with | some g => s.readGroup g sub | none => 0)
  else if index < 0x3304 then (match inst? 0x3300 4 index with | some n => s.readString n sub | none => 0)
  else if index < 0x3500 then (match inst? 0x3400 256 index with | some r => (if s.regLive s.regs[r] then s.regs[r] else Reg.reset).read sub | none => 0)
  else 0

/-! DOMAINs and strings. -/

/-- Digits of a number, most significant first; `fuel` bounds their count. -/
def digits : Nat → Nat → Bytes
  | 0, _ => []
  | fuel + 1, n => (if n < 10 then [] else digits fuel (n / 10)) ++ byte (48 + n % 10)

/-- Bytes of ASCII text. -/
def ascii (t : List Char) : Bytes := t.map fun c => BitVec.ofNat 8 c.toNat

/-- SW_VERSION: major.minor.build in decimal (R293). -/
def State.swVersion (s : State) : Bytes :=
  let r := s.release
  digits 5 (r / 2 ^ 24) ++ byte 46 ++ digits 5 (r / 2 ^ 16 % 256) ++ byte 46 ++ digits 5 (r % 2 ^ 16)

/-- Every index that the tables define, rising, each with its entries; an index of two rows has the entries of both. -/
def indexTable : List (Nat × List Entry) :=
  let rows := entryMap.flatMap fun r => (List.range r.2.1).map fun i => (r.1 + i, r.2.2)
  let sorted := rows.mergeSort fun a b => decide (a.1 ≤ b.1)
  sorted.foldr (fun r (acc : List (Nat × List Entry)) => match acc with
    | (i, es) :: t => if i = r.1 then (i, r.2 ++ es) :: t else r :: (i, es) :: t
    | [] => [r]) []

/-- Item of DIRECTORY (Table 14-2). -/
def directoryItem (r : Nat × List Entry) : Bytes :=
  let es := r.2
  let kind := if es.all (fun e => e.sub = 0) then 7 else if es.all (fun e => e.ty = (es.head?.map (·.ty)).getD .u8) then 8 else 9
  let cell := if 0x3200 ≤ r.1 ∧ r.1 < 0x3218 then 1 else 0
  let n := (es.map (·.count)).sum + cell + (if es.any fun e => e.sub = 0 then 0 else 1)
  le 2 r.1 ++ byte (highest r.1) ++ byte kind ++ le 2 n
    ++ byte (b2n (es.any fun e => e.kind = .config || e.kind = .word) + 2 * b2n (es.any fun e => e.kind = .perHost)) ++ [0]

/-- DIRECTORY (R289, log 22). -/
def directory : Bytes := indexTable.flatMap directoryItem

/-- Newest pack record of a string (4320+s:01), empty when it has none. -/
def State.packRecord (s : State) (n : StringNo) : Bytes :=
  match (s.strings[n].packId).bind s.slotOf with
  | some p => (p.record).getD []
  | none => []

/-- Content of a VISIBLE_STRING or DOMAIN entry other than the windows. -/
def State.domainValue (s : State) (h : HostNo) (index sub : Nat) : Bytes :=
  if index = 0x1008 then ascii ['O', 'L', '4', '8', '8', '0']
  else if index = 0x1009 then ascii ['A', '1']
  else if index = 0x100A then s.swVersion
  else if index = 0x2000 then ascii ['O', 'L', '4', '8', '8', '0', '-', 'A', 'K']
  else if index = 0x2007 then directory
  else if index = 0x2009 then s.pendingList
  else if index = 0x2104 ∧ sub = 2 then s.hosts[h].multiResult
  else if index = 0x2220 ∧ sub = 2 then s.hosts[h].grantResult
  else if 0x2280 ≤ index ∧ index < 0x22C0 then
    (match inst? 0x2280 64 index with
    | some g => if s.ledger.grants[g].st = .free then [] else s.ledger.grants[g].record
    | none => [])
  else if index = 0x2500 then if sub = 7 then s.lanes.lastMismatch else s.health
  else if index = 0x2603 then s.recorder.gasps.getD (sub - 4) []
  else if index = 0x2606 then codeList
  else if 0x2610 ≤ index ∧ index < 0x2614 then (match inst? 0x2610 4 index with | some u => s.capture u | none => [])
  else if 0x3300 ≤ index ∧ index < 0x3304 then
    (match inst? 0x3300 4 index with | some n => (s.strings[n].packId).getD [] | none => [])
  else if 0x3400 ≤ index ∧ index < 0x3500 then (match inst? 0x3400 256 index with | some r => (if s.regLive s.regs[r] then s.regs[r].mfr else []) | none => [])
  else if 0x4320 ≤ index ∧ index < 0x4324 then (match inst? 0x4320 4 index with | some n => s.packRecord n | none => [])
  else if 0x4400 ≤ index ∧ index < 0x4430 then (match inst? 0x4400 48 index with | some c => (s.cells[c].cal).getD [] | none => [])
  else []

/-! Windows of the recorder (R354). -/

/-- A cursor stands on a record that a store has lost. -/
def cursorLost (cursor gone : Nat) : Bool := cursor ≠ 0 && gone ≠ 0 && seqLe cursor gone

/-- Records at and after a cursor. -/
def fromCursor (cursor gone : Nat) (rs : List Rec) : List Rec :=
  if cursor = 0 ∨ cursorLost cursor gone then rs else rs.filter fun r => seqLe cursor r.seq

/-- As many whole records as fit in `n` bytes. -/
def fit : Nat → List Rec → List Rec
  | _, [] => []
  | n, r :: rs => if r.size ≤ n then r :: fit (n - r.size) rs else []

/-- The cursor past the records delivered. -/
def cursorAfter (cursor gone : Nat) (out : List Rec) : Nat :=
  match out.getLast? with
  | some r => seqNext r.seq
  | none => if cursorLost cursor gone then seqNext gone else cursor

/-- Bytes of a window (Table 17-5); empty when nothing lies beyond the cursor and no record was lost. -/
def windowBytes (lost : Bool) (out : List Rec) : Bytes :=
  if out = [] ∧ lost = false then []
  else byte (b2n lost) ++ [0] ++ le 2 out.length ++ le 4 ((out.head?.map (·.seq)).getD 0) ++ out.flatMap Rec.bytes

/-- A read of WINDOW: the records are closed, delivered and passed. -/
def State.readWindow (h : HostNo) (s : State) : Bytes × State :=
  let cursor := s.hosts[h].ringCursor
  let gone := s.recorder.ringGone
  let seqs := (fit 4088 (fromCursor cursor gone s.recorder.ring)).map (·.seq)
  let s := s.closeRecs (fun r => seqs.contains r.seq) false
  let out := s.recorder.ring.filter fun r => seqs.contains r.seq
  (windowBytes (cursorLost cursor gone) out, s.modHost h fun x => { x with ringCursor := cursorAfter cursor gone out })

/-- A read of PEAT_WINDOW. -/
def State.readPeatWindow (h : HostNo) (s : State) : Bytes × State :=
  let cursor := s.hosts[h].peatCursor
  let gone := s.recorder.peatGone
  let out := fit 4088 (fromCursor cursor gone s.recorder.log)
  (windowBytes (cursorLost cursor gone) out, s.modHost h fun x => { x with peatCursor := cursorAfter cursor gone out })

/-- The bytes an entry reads as for host `h`, and the state after the read: only the windows change anything (R354). -/
def State.content (h : HostNo) (index sub : Nat) (s : State) : Bytes × State :=
  if index = 0x2601 ∧ sub = 1 then s.readWindow h
  else if index = 0x2603 ∧ sub = 2 then s.readPeatWindow h
  else
    match entryOf index sub with
    | none => ([], s)
    | some e =>
      if sub = 0 ∧ 0 < highest index ∧ e.kind = .status then (e.ty.encode (highest index), s)
      else if e.ty = .str ∨ e.ty = .dom then (s.domainValue h index sub, s)
      else
        match e.kind with
        | .config | .word => (e.ty.encode (s.writ index sub), s)
        | _ => (e.ty.encode (s.statusValue h index sub), s)

end Sys2Proof.Machine
end

