-- ==== Sys2Proof/Machine/Access.lean ====
section
/-! DEFINITION. Machine/Access.lean: how an access is judged and applied (R6, R284, R291, R292, R304), what a write of each
entry does, the multi-entry write (R274, R296), store and restore (R299, R300), and reads in parts (R303). -/

namespace Sys2Proof.Machine

/-! Judging (R304). -/

/-- The value of a fixed-size entry is admitted: 0, or the abort code (R69, R291). -/
def checkValue (e : Entry) (v : Int) : Nat :=
  let ok : Bool := match e.chk with
    | .any | .flags => true
    | .nonzero => decide (v ≠ 0)
    | .range lo hi => decide (lo ≤ v) && decide (v ≤ hi)
    | .rangeOr lo hi x => (decide (lo ≤ v) && decide (v ≤ hi)) || decide (v = x)
    | .zeroOr lo hi => decide (v = 0) || (decide (lo ≤ v) && decide (v ≤ hi))
    | .oneOf vs => vs.contains v
    | .period lo hi => decide (lo ≤ v) && decide (v ≤ hi)
  let period := match e.chk with
    | .period _ _ => decide (v = 0)
    | _ => false
  if period then 0x06090032
  else if !ok ∨ (e.ty = .bool ∧ v ≠ 0 ∧ v ≠ 1) then 0x06090030
  else 0

/-- An SLT host writes CLEAR of its own slot and grant requests, which the ledger holds to its own sink, and nothing else (R175). -/
def State.sltMay (s : State) (h : HostNo) (index sub : Nat) : Bool :=
  (index = 0x2220 && sub = 1)
    || (decide (0x3000 ≤ index ∧ index < 0x3030) && sub = 0x38
      && decide ((s.hosts[h].ownSink.map fun x : SinkNo => (x : Nat)) = some (index - 0x3000)))

/-- Step 2 of R304: the write class. -/
def State.mayWrite (s : State) (h : HostNo) (index sub : Nat) (e : Entry) : Bool :=
  match e.wr with
  | none => false
  | some w => if s.hosts[h].cls = .slt then s.sltMay h index sub else s.hosts[h].cls.atLeast w

/-- Step 3 of R304: the configuration lock (R284). -/
def State.lockBars (s : State) (h : HostNo) (e : Entry) : Bool :=
  e.wr = some .eng && s.hosts[h].cls ≠ .vnd && s.lockOwner.isSome && decide (s.lockOwner ≠ some h)

/-! Store and restore (R298 to R300). -/

/-- Scope 1 to 4 of an index (Table 14-9). -/
def inScope (scope index : Nat) : Bool :=
  let comm : Bool := decide (index < 0x2000) || (decide (0x2100 ≤ index) && decide (index < 0x2200))
    || (decide (0x2800 ≤ index) && decide (index < 0x2900))
  if scope = 1 then true
  else if scope = 2 then comm
  else if scope = 3 then decide (index < 0x4000) && !comm
  else decide (0x4000 ≤ index) && decide (index < 0x6000)

/-- An entry is stored: it has a write class and is neither a command nor a per-host entry (R298). -/
def isStored (index sub : Nat) : Bool :=
  match entryOf index sub with
  | some e => e.wr.isSome && (e.kind = .config || e.kind = .word)
  | none => false

/-- The values stored where they are not the written ones: the set to resume of each loop, the committed role and pin mode of
each cell (R298). -/
def State.storedSpecial (s : State) : Dict :=
  let loops := (List.finRange 16).map fun k : LoopNo =>
    (keyOf (0x3100 + k) 0xA, ((if s.loops[k].resumeSet = .set1 then 1 else 0 : Int)))
  let cells := (List.finRange 48).flatMap fun c : CellNo =>
    [(keyOf (0x3000 + c) 1, ((Role.code s.cells[c].role : Nat) : Int)), (keyOf (0x3000 + c) 2, (s.cells[c].pinMode.toNat : Int))]
  loops ++ cells

/-- The key is one of those of `storedSpecial`. -/
def specialKey (k : Nat) : Bool :=
  let index := k / 256
  let sub := k % 256
  (decide (0x3100 ≤ index ∧ index < 0x3110) && sub = 0xA) || (decide (0x3000 ≤ index ∧ index < 0x3030) && (sub = 1 || sub = 2))

/-- Snapshot of the stored entries of a scope; entries at their default are not listed (R299). -/
def State.snapshot (s : State) (scope : Nat) : Dict :=
  let plain := s.dict.written.filter fun p => inScope scope (p.1 / 256) && isStored (p.1 / 256) (p.1 % 256) && !specialKey p.1
  (s.storedSpecial.filter fun p => inScope scope (p.1 / 256) && decide (p.2 ≠ dfltOf (p.1 / 256) (p.1 % 256))).foldl
    (fun d p => Dict.put d p.1 p.2) plain

/-- A copy passes its CRC (R299, R301). -/
def Image.ok (i : Image) : Bool := decide (i.crc = crc32 (imageBytes i.seq i.vals))

/-- Sequence number of a copy that passes its CRC, 0 for any other. -/
def copySeq (o : Option Image) : Nat :=
  match o with
  | some i => if i.ok then i.seq else 0
  | none => 0

/-- An image one above the newer copy (R299). -/
def DictState.sealImage (d : DictState) (vals : Dict) : Image :=
  let seq := max (copySeq d.imageA) (copySeq d.imageB) + 1
  { seq := seq, vals := vals, crc := crc32 (imageBytes seq vals) }

/-- Image of a store: the snapshot in scope, the image in force outside it (R299). -/
def State.newImage (s : State) (scope : Nat) : Image :=
  let old := match s.dict.imageInForce with
    | some i => i.vals.filter fun p => !inScope scope (p.1 / 256)
    | none => []
  s.dict.sealImage ((s.snapshot scope).foldl (fun d p => Dict.put d p.1 p.2) old)

/-- STORE (1010:01 to :04, R299): the answer follows once the copy is committed. -/
def writeStore (h : HostNo) (sub : Nat) (v : Nat) (s : State) : Nat × State :=
  if v ≠ 0x65766173 then (0x08000020, s)
  else if s.dict.storing.isSome then (0x08000080, s)
  else
    let i := s.newImage sub
    (0, s.modDict fun d => { d with storing := some (sub, i, s.hosts[h].key) })

/-- RESTORE (1011:01 to :04, R300). -/
def writeRestore (sub : Nat) (v : Nat) (s : State) : Nat × State :=
  if v ≠ 0x64616F6C then (0x08000020, s)
  else if s.dict.storing.isSome then (0x08000080, s)
  else (0, s.modDict fun d => { d with restore := d.restore ||| BitVec.ofNat 8 (2 ^ (sub - 1)) })

/-! The recorder's entries (R354, R355). -/

/-- Newest number of a store, or the newest it has lost when it is empty. -/
def topOf (gone : Nat) (rs : List Rec) : Nat := if rs = [] then gone else newestOf rs

/-- A number lies above the newest record of a store. -/
def aboveTop (gone : Nat) (rs : List Rec) (v : Nat) : Bool := topOf gone rs = 0 || !seqLe v (topOf gone rs)

/-- What a write of a cursor sets it to (R354): a record present, the next one after a number between records, or a number that the store
has lost, which the next read reports. -/
def cursorFor (gone : Nat) (rs : List Rec) (v : Nat) : Option Nat :=
  if v = 0 then some 0
  else if v = 0xFFFFFFFF then some (seqNext (topOf gone rs))
  else if aboveTop gone rs v then none
  else if cursorLost v gone then some v
  else some (((rs.find? fun r => seqLe v r.seq).map fun r => r.seq).getD v)

/-- A write of CURSOR (2601:02). -/
def writeCursor (h : HostNo) (v : Nat) (s : State) : Nat × State :=
  match cursorFor s.recorder.ringGone s.recorder.ring v with
  | some n => (0, s.modHost h fun x => { x with ringCursor := n, tw := { x.tw with partSeq := 0, part := 0 } })
  | none => (0x06090030, s)

/-- A write of PEAT_CURSOR (2603:01). -/
def writePeatCursor (h : HostNo) (v : Nat) (s : State) : Nat × State :=
  match cursorFor s.recorder.peatGone s.recorder.log v with
  | some n => (0, s.modHost h fun x => { x with peatCursor := n })
  | none => (0x06090030, s)

/-- Highest number lost after the records at or below `v` are removed. -/
def goneRetired (gone v : Nat) (rs : List Rec) : Nat :=
  match (rs.filter fun r => seqLe r.seq v).getLast? with
  | some r => r.seq
  | none => gone

/-- RING_RETIRE (R355). -/
def writeRingRetire (h : HostNo) (v : Nat) (s : State) : Nat × State :=
  let q := s.recorder
  if v = 0 then (0, s)
  else if aboveTop q.ringGone q.ring v then (0x06090030, s)
  else
    let s := s.modRec fun q => { q with ring := q.ring.filter (fun r => !seqLe r.seq v), ringRetired := v
                                        ringGone := goneRetired q.ringGone v q.ring }
    (0, s.event (srcManage 23) 0xB031 h (le 4 v ++ byte h))

/-- PEAT_RETIRE (R355). -/
def writePeatRetire (h : HostNo) (v : Nat) (s : State) : Nat × State :=
  let q := s.recorder
  if v = 0 then (0, s)
  else if aboveTop q.peatGone q.log v then (0x06090030, s)
  else
    let s := s.modRec fun q => { q with log := q.log.filter (fun r => !seqLe r.seq v), peatRetired := v
                                        peatGone := goneRetired q.peatGone v q.log }
    (0, s.event (srcManage 23) 0xB032 h (le 4 v ++ byte h))

/-- GASP_CLEAR (R355). -/
def writeGaspClear (v : Nat) (s : State) : Nat × State :=
  (0, if v = 1 then s.modRec fun q => { q with gasps := [] } else s)

/-! Single entries with a rule of their own. -/

/-- SHUTDOWN_LATCH: 0 clears it (R31). -/
def writeShutdownLatch (s : State) : Nat × State := (0, s.modModes fun m => { m with shutdownLatch := false })

/-- OWN_POWER_PEAK: 0 clears it (R37). -/
def writePeak (s : State) : Nat × State := (0, { s with own := { s.own with peak := 0 } })

/-- A budget of the writing host (R35). -/
def writeBudget (h : HostNo) (b : Fin 4) (v : Nat) (s : State) : Nat × State :=
  (0, s.modHost h fun x => { x with budgets := x.budgets.set b v })

/-- Addresses that TARGET_ADDR refuses (R323). -/
def addrRefused (v : Nat) : Bool :=
  decide (v ≤ 8) || decide (v = 0xC) || decide (v = 0x28) || decide (v = 0x37) || decide (v = 0x61)
    || (decide (0x78 ≤ v) && decide (v ≤ 0x7F))

/-- APP_CONFIRM (R365): only a DAP channel's write counts. -/
def writeAppConfirm (h : HostNo) (v : Nat) (s : State) : Nat × State :=
  if s.hosts[h].key.kind ≠ .dap then (0x08000022, s)
  else (0, if v = 1 ∧ s.fw.trial.isSome then s.modFw fun w => { w with appConfirmed := true } else s)

/-- ROLLBACK (R366): acted on at the next tick boundary. -/
def writeRollback (v : Nat) (s : State) : Nat × State :=
  if v = 0 then (0, s)
  else if s.fw.trial.isNone then (0x08000022, s)
  else (0, s.modFw fun w => { w with rollbackDue := true })

/-- A PDO mapping names an entry of a fixed-size type, or nothing (R275). -/
def mappable (v : Nat) : Bool :=
  decide (v = 0) || (match entryOf (v / 65536) (v / 256 % 256) with
    | some e => e.ty.size.isSome
    | none => false)

/-- After a write of ROLE or PIN_MODE: a COMMIT that found the pair pending applies it now (R58). -/
def State.commitAfter (c : CellNo) (s : State) : State :=
  if s.cells[c].commitPending ∧ !s.isPending ⟨1, c, 0xFF⟩ then
    (s.applyRole c).modCell c fun x => { x with commitPending := false, maintResult := 2 }
  else s

/-! What a write does, by index. -/

/-- Maintenance command of a code. -/
def maintOf (v : Nat) : Option MaintCmd :=
  [MaintCmd.drain, .drainForce, .commit, .repair, .release, .abandon].find? fun m => m.code = v

/-- Entries below 0x2200. -/
def writeComm (h : HostNo) (index sub : Nat) (v : Int) (s : State) : Nat × State :=
  let n := v.toNat
  let plain := (0, s.setWritten index sub v)
  if index = 0x1010 then writeStore h sub n s
  else if index = 0x1011 then writeRestore sub n s
  else if ((0x1600 ≤ index ∧ index < 0x1610) ∨ (0x1A00 ≤ index ∧ index < 0x1A20)) ∧ sub ≠ 0 then
    if mappable n then plain else (0x06040041, s)
  else if index = 0x2001 ∧ sub = 3 then writeModeRequest h n s
  else if index = 0x2001 ∧ sub = 7 then writeShutdownLatch s
  else if index = 0x2005 then (match inst? 1 4 sub with | some b => writeBudget h b n s | none => (0x06020000, s))
  else if index = 0x2006 then writePeak s
  else if index = 0x2100 ∧ sub = 3 then writeLockCmd h n s
  else plain

/-- Entries from 0x2200 to 0x2FFF. -/
def writeShelf (h : HostNo) (index sub : Nat) (v : Int) (s : State) : Nat × State :=
  let n := v.toNat
  let plain := (0, s.setWritten index sub v)
  if 0x2310 ≤ index ∧ index < 0x2330 ∧ sub = 0xE then
    (match inst? 0x2310 32 index with | some r => writeRailClear r n s | none => (0x06020000, s))
  else if index = 0x2500 ∧ sub = 0xC then writeLaneCmd n s
  else if index = 0x2601 then writeCursor h n s
  else if index = 0x2602 then
    if sub = 1 then writeRingRetire h n s else if sub = 2 then writePeatRetire h n s else writeGaspClear n s
  else if index = 0x2603 then writePeatCursor h n s
  else if 0x2610 ≤ index ∧ index < 0x2614 then
    match inst? 0x2610 4 index with
    | some u => if sub = 0x14 then writeTraceCommand u n s else writeTraceConfig u sub v s
    | none => (0x06020000, s)
  else if index = 0x2700 then
    if sub = 7 then (if s.writ 0x2700 6 ≤ v then (0x06090030, s) else plain)
    else if sub = 8 then writeAppConfirm h n s
    else if sub = 9 then writeRollback n s
    else plain
  else if 0x2240 ≤ index ∧ index < 0x2280 ∧ sub = 3 then (0, (s.setWritten index sub v).alertPins)
  else if 0x2800 ≤ index ∧ index < 0x280C ∧ sub = 4 ∧ addrRefused n then (0x06090030, s)
  else plain

/-- A cell in maintenance, drained: the one state in which its role and pin mode may be written, in TENDING (R29, Table 03-10). -/
def Cell.mayAssign (x : Cell) : Bool := x.maintained && x.st = .drained

/-- Entries of a cell. -/
def writeCell (h : HostNo) (c : CellNo) (sub : Nat) (v : Int) (s : State) : Nat × State :=
  let n := v.toNat
  if (sub = 1 ∨ sub = 2) ∧ (s.cells[c].mayAssign = false ∨ !s.inModes [.tending]) then (0x08000022, s)
  else if sub = 2 then (0, s.setWritten (0x3000 + c) 2 (pinModeOf n).toNat)
  else if sub = 5 then writeSafeAction c n s
  else if sub = 7 then writeFaultLatch c n s
  else if sub = 9 then
    match maintOf n with
    | some m => writeMaintCmd c m s
    | none => (0, s)
  else if sub = 0xB then writeSamplePoint c v s
  else if sub = 0x20 then writeFeedEnable c n s
  else if sub = 0x33 ∨ sub = 0x34 then writeSlotBinding c sub v s
  else if sub = 0x38 then writeFeederClear c n (s.hosts[h].cls.atLeast .opr) h s
  else if sub = 0x40 then writeOrEnable c n s
  else if sub = 0x4C then writeOrClear c n s
  else (0, s.setWritten (0x3000 + c) sub v)

/-- Entries of a loop. -/
def writeLoop (h : HostNo) (k : LoopNo) (sub : Nat) (v : Int) (s : State) : Nat × State :=
  let n := v.toNat
  if sub = 1 then writeMembers k n s
  else if sub = 2 then writeEnable k n s
  else if sub = 4 then writeControlMode k n s
  else if sub = 5 ∨ sub = 6 ∨ sub = 0x75 then writePeriod k sub v s
  else if sub = 0xA then writeActiveSet k n s
  else if sub = 0xD then writeSafeLock k n (decide (s.lockOwner = some h)) s
  else if (0x30 ≤ sub ∧ sub < 0x60) ∨ sub = 0x74 then writeBelowPeriod k sub v s
  else if sub = 0x60 then (0, (s.setWritten (0x3100 + k) 0x60 v).recapacity k)
  else (0, s.setWritten (0x3100 + k) sub v)

/-- Entries of a string (R223). -/
def writeString (n : StringNo) (sub : Nat) (v : Int) (s : State) : Nat × State :=
  if sub = 1 then writeStringEnable n v.toNat s
  else if sub = 0x41 then writeStringClear n v.toNat s
  else if 3 ≤ sub ∧ sub ≤ 0x13 ∧ s.strings[n].st ≠ .disabled then (0x08000022, s)
  else (0, s.setWritten (0x3300 + n) sub v)

/-- A write of a fixed-size value that has passed R304's first five steps. -/
def writeValue (h : HostNo) (index sub : Nat) (v : Int) (s : State) : Nat × State :=
  if index < 0x2200 then writeComm h index sub v s
  else if index < 0x3000 then writeShelf h index sub v s
  else if index < 0x3100 then (match inst? 0x3000 48 index with | some c => writeCell h c sub v s | none => (0x06020000, s))
  else if index < 0x3200 then (match inst? 0x3100 16 index with | some k => writeLoop h k sub v s | none => (0x06020000, s))
  else if index < 0x3300 then
    match inst? 0x3200 24 index with
    | some g =>
      if sub = 2 then writeGroupEnable g v.toNat s
      else if sub = 0x1A then writeGroupClear g v.toNat s
      else writeGroupConfig g sub v s
    | none => (0x06020000, s)
  else if index < 0x3400 then (match inst? 0x3300 4 index with | some n => writeString n sub v s | none => (0x06020000, s))
  else if 0x4100 ≤ index ∧ index < 0x4130 then writeCoefficient index sub v s
  else if 0x4320 ≤ index ∧ index < 0x4324 then
    (match inst? 0x4320 4 index with | some n => writeRecordReset n v.toNat s | none => (0x06020000, s))
  else (0, s.setWritten index sub v)

/-- Two-wire port of a host, for the Host Notify of a decision (R318). -/
def State.hostPort (s : State) (h : HostNo) : Option TwNo :=
  if s.hosts[h].key.kind = .twoWire then toFin? 12 s.hosts[h].key.port else none

/-- A write of a DOMAIN entry: each has its own length test. -/
def writeDomain (h : HostNo) (index : Nat) (data : Bytes) (s : State) : Nat × State :=
  if index = 0x2220 then writeGrantRequest h (s.hostPort h) data s
  else if 0x4400 ≤ index ∧ index < 0x4430 then
    (match inst? 0x4400 48 index with | some c => writeCalRecord c data s | none => (0x06020000, s))
  else (0x08000022, s)

/-- A single write judged in the order of R304 and applied (R6, R273): the abort code, 0 when applied. The agreement sets of the
entry are left to the caller (R295, R296). -/
def State.writeEntry (h : HostNo) (index sub : Nat) (data : Bytes) (s : State) : Nat × State :=
  match entryOf index sub with
  | none => (0x06020000, s)
  | some e =>
    if !s.mayWrite h index sub e then (0x06010002, s)
    else if s.lockBars h e then (0x08000021, s)
    else
      match e.ty.size with
      | none => writeDomain h index data s
      | some n =>
        if data.length ≠ n then (0x06070010, s)
        else
          let v := e.ty.decode data
          let bad := checkValue e v
          if bad ≠ 0 then (bad, s) else writeValue h index sub v s

/-- The sets of a written entry are tested (R295), and a COMMIT that waits for its pair goes on (R58). -/
def State.afterWrite (index sub : Nat) (s : State) : State :=
  let s := s.testEntry index sub
  if 0x3000 ≤ index ∧ index < 0x3030 ∧ (sub = 1 ∨ sub = 2) then s.onFin 48 (index - 0x3000) State.commitAfter else s

/-! Multi-entry writes (R274, R296). -/

/-- One entry of a record. -/
structure MultiItem where
  index : Nat
  sub : Nat
  data : Bytes
  clean : Bool
  deriving DecidableEq, Repr

/-- The entries of a record; none when the lengths do not add up. -/
def multiItems : Nat → Bytes → Option (List MultiItem)
  | 0, b => if b = [] then some [] else none
  | n + 1, b =>
    let len := numAt b 4 2
    let full := 8 + padTo 4 len
    if b.length < 8 ∨ 1012 < len ∨ b.length < full then none
    else
      let clean := (b.getD 3 0 = 0) && decide (numAt b 6 2 = 0) && ((slice b (8 + len) (padTo 4 len - len)).all fun x => x = 0)
      (multiItems n (b.drop full)).map fun r =>
        { index := numAt b 0 2, sub := numAt b 2 1, data := slice b 8 len, clean := clean } :: r

/-- What the entries of a record came to. -/
structure MultiResult where
  applied : Nat
  code : Nat
  index : Nat
  sub : Nat
  touched : List (Nat × Nat)
  deriving DecidableEq, Repr

/-- Apply entries in record order up to the first refusal (R274). -/
def multiApply (h : HostNo) : List MultiItem → MultiResult → State → MultiResult × State
  | [], r, s => (r, s)
  | i :: rest, r, s =>
    let (code, t) := if i.index = 0x2104 ∧ i.sub = 1 then (0x08000022, s) else s.writeEntry h i.index i.sub i.data
    if code ≠ 0 then ({ r with code := code, index := i.index, sub := i.sub }, t)
    else multiApply h rest { r with applied := r.applied + 1, touched := r.touched ++ [(i.index, i.sub)] } t

/-- MULTI_RESULT (Table 13-3). -/
def MultiResult.bytes (r : MultiResult) : Bytes :=
  byte 1 ++ byte r.applied ++ [0, 0] ++ le 4 r.code ++ le 2 r.index ++ byte r.sub ++ [0]

/-- A write of MULTI_WRITE (R274): length, then format, then its entries; the sets are tested once after the last (R296). -/
def writeMulti (h : HostNo) (b : Bytes) (s : State) : Nat × State :=
  let n := numAt b 1 1
  if b.length < 4 ∨ 1024 < b.length ∨ n < 1 ∨ 64 < n then (0x06070010, s)
  else
    match multiItems n (b.drop 4) with
    | none => (0x06070010, s)
    | some items =>
      if numAt b 0 1 ≠ 1 ∨ numAt b 2 2 ≠ 0 ∨ !(items.all (·.clean)) then (0x06090030, s)
      else
        let (r, s) := multiApply h items { applied := 0, code := 0, index := 0, sub := 0, touched := [] } s
        let s := s.over r.touched fun p t => t.afterWrite p.1 p.2
        (0, s.modHost h fun x => { x with multiResult := r.bytes })

/-- A write by host `h` (R273): the abort code, 0 when applied. -/
def State.write (h : HostNo) (index sub : Nat) (data : Bytes) (s : State) : Nat × State :=
  if index = 0x2104 ∧ sub = 1 then
    if s.hosts[h].cls = .slt then (0x06010002, s) else writeMulti h data s
  else
    let (code, t) := s.writeEntry h index sub data
    if code = 0 then (0, t.afterWrite index sub) else (code, t)

/-! Reads (R273, R303). -/

/-- A read by host `h`: abort code, whole content, and the state after it. -/
def State.read (h : HostNo) (index sub : Nat) (s : State) : Nat × Bytes × State :=
  match entryOf index sub with
  | none => (0x06020000, [], s)
  | some _ =>
    let (b, s) := s.content h index sub
    (0, b, s)

/-- Longest DOMAIN that is copied whole (R303). -/
def copyLimit : Nat := 4096

end Sys2Proof.Machine
end

