-- ==== Sys2Proof/Machine/Images.lean ====
section
/-! DEFINITION. Machine/Images.lean: firmware images and slots: the checks of Table 18-2, the choice of a slot, the fallback and the
end of a Fafort session (R358 to R367). -/

namespace Sys2Proof.Machine

/-- Contents of a key slot. -/
def Firmware.key (w : Firmware) (slot : Nat) : Option Bytes := (w.keys.find? fun k => k.slot = slot).map (·.key)

/-- Change firmware slot `i`. -/
def State.modSlot (s : State) (i : FwSlot) (f : Fw → Fw) : State := s.modFw fun w => { w with slots := w.slots.set i (f w.slots[i]) }

/-- The other slot. -/
def otherSlot (i : FwSlot) : FwSlot := if i = 0 then 1 else 0

/-- Every byte is 0. -/
def zeros (b : Bytes) : Bool := b.all fun x => x = 0

/-- Check 1 (Table 18-2): magic, format, reserved bytes, body length. -/
def headerFormat (h : Bytes) : Bool :=
  decide (h.length = 512) && decide (numAt h 0 4 = 0x4F4C4657) && decide (numAt h 4 1 = 1) && decide (numAt h 5 1 < 4)
    && zeros (slice h 33 3) && zeros (slice h 124 4) && zeros (slice h 336 176) && decide (numAt h 16 4 ≤ 3141120)

/-- Check 4: the counter-signature, when key slot 0x21 holds a hash. -/
def Firmware.counterSigned (w : Firmware) (h : Bytes) : Bool :=
  match w.key 0x21 with
  | some hash =>
    let pub := slice h 272 64
    bit (numAt h 5 1) 0 && decide (Config.sha256 pub = hash) && Config.ecdsaOk pub (Config.sha256 (slice h 0 192)) (slice h 192 64)
  | none => true

/-- Checks 1 to 5 of Table 18-2: the Fafort status of the first that fails, 0 when all pass. -/
def Firmware.headerStatus (w : Firmware) (h : Bytes) : Nat :=
  if !headerFormat h then 2
  else if (dfltOf 0x2000 2).toNat < numAt h 6 2 then 0xA
  else if !Config.ecdsaOk Config.byerastraKey (Config.sha256 (slice h 0 128)) (slice h 128 64) then 6
  else if !w.counterSigned h then 6
  else if numAt h 12 4 < w.secVersion then 9
  else 0

/-- The content key of an image (check 6): none when the transit key is another or the unwrap fails. -/
def Firmware.contentKey (w : Firmware) (h : Bytes) : Option Bytes :=
  match w.key 0x20 with
  | some k => if slice (Config.sha256 k) 0 4 = slice h 36 4 then Config.keyUnwrap k (slice h 40 40) else none
  | none => none

/-- A slot passes the checks of the boot ROM (R367). -/
def Firmware.bootOk (w : Firmware) (i : FwSlot) : Bool :=
  let x := w.slots[i]
  x.factory || (decide (w.headerStatus x.header = 0) && decide (Config.sha256 x.body = slice x.header 92 32))

/-- The CONFIRMED slots, the higher activation sequence number first. -/
def Firmware.confirmed (w : Firmware) : List FwSlot :=
  let c := pick 2 fun i => w.slots[i].st = .confirmed
  if w.slots[0].activation < w.slots[1].activation then c.reverse else c

/-- The slot that is TRIAL. -/
def Firmware.trialSlot (w : Firmware) : Option FwSlot := (pick 2 fun i => w.slots[i].st = .trial).head?

/-- The TENDING request that an activation holds is withdrawn (R365, R366). -/
def State.withdrawTending (s : State) : State := (s.modFw fun w => { w with tendingHeld := none }).chooseRequest

/-- The trial of slot `i` has failed (R366): FAILED, the old slot active again, event 0xC023. -/
def State.failTrial (cause : Nat) (i : FwSlot) (s : State) : State :=
  let s := (s.modSlot i fun x => { x with st := .failed }).modFw fun w =>
    { w with trial := none, trialLeftMs := 0, active := otherSlot i, rollbackDue := false, appConfirmed := false }
  (s.withdrawTending).event (srcManage 0) 0xC023 i (byte i ++ byte cause)

/-- A trial begins with the start of its base firmware (R365). -/
def State.beginTrial (i : FwSlot) (s : State) : State :=
  let ms := s.cfgN 0x2700 6 * 1000
  let s := (s.modSlot i fun x => { x with trialBegun := true }).modFw fun w =>
    { w with active := i, trial := some i, trialLeftMs := ms, settleMs := 0, appConfirmed := false, rollbackDue := false }
  s.event (srcManage 0) 0xC021 i (byte i)

/-- The Fafort session ends (R362, R282): its context is released; what counts its failures stays. -/
def State.endSession (s : State) : State :=
  let q := s.fw.session
  let s := match s.ctxOf serviceKey with
    | some h => s.releaseHost 5 h
    | none => s
  s.modSession fun _ => { Session.reset with failures := q.failures, lockout := q.lockout, lockoutUs := q.lockoutUs, lastSeq := q.lastSeq, lastReply := q.lastReply }

end Sys2Proof.Machine
end

