-- ==== Sys2Proof/Machine/Serve.lean ====
section
/-! DEFINITION. Machine/Serve.lean: accesses as hosts send them (R272, R273, R279, R281, R283): which channel answers, contact,
sessions, and every row of the table that is one write or read of an entry. -/

namespace Sys2Proof.Machine

/-- Code of a reply that is still to come (log 4). -/
def notYet : Nat := 0xFFFFFFFF

/-- The PROTOCOL in force of a CAN port: 0 CANopen FD, 1 classic (R269). -/
def State.protocol (s : State) (p : CanNo) : Nat := s.cfgN (0x2102 + p) 1

/-- A CAN port serves dictionary accesses (R270, R271, R283). -/
def State.canServes (s : State) (p : CanNo) (protocol : Nat) : Bool :=
  s.canUp p && (s.can[p].port = .active || s.can[p].port = .passive)
    && (s.can[p].nmt = .preOperational || s.can[p].nmt = .operational) && decide (s.protocol p = protocol)

/-- A two-wire port serves frames at its TARGET_ADDR (R307, R320). -/
def State.twServes (s : State) (p : TwNo) : Bool :=
  s.cfgN (0x2800 + p) 4 ≠ 0xFF && s.twShown p ≠ .off && s.twShown p ≠ .fault

/-- An application core runs and reaches its DAP channel (R285, R326). -/
def State.dapServes (s : State) (d : DapNo) : Bool :=
  s.recorderUp && decide (s.cores[(⟨d + 2, by omega⟩ : CoreNo)].run = .running)

/-- The channel of a key answers; a request on one that does not is lost (R283). In recovery only Fafort is served (R368). -/
def State.channelUp (s : State) (k : Key) : Bool :=
  keyOk k && s.recorderUp &&
    match k.kind with
    | .usdo => s.phase = .running && (match toFin? 2 k.port with | some p => s.canServes p 0 | none => false)
    | .sdo => s.phase = .running && (match toFin? 2 k.port with | some p => s.canServes p 1 | none => false)
    | .twoWire => s.phase = .running && (match toFin? 12 k.port with | some p => s.twServes p | none => false)
    | .dap => s.phase = .running && (match toFin? 2 k.addr with | some d => s.dapServes d | none => false)
    | .service => (s.phase = .running || s.phase = .recovery) && s.fw.session.authed

/-- USDO sessions open on a CAN port (R272). -/
def State.openOn (s : State) (p : Nat) : Nat :=
  ((s.hosts.toList.filter fun h => h.used && h.key.kind = .usdo && h.key.port = p).map fun h => h.sessions.length).sum

/-- A further session would be the ninth of its port (R272). -/
def State.portFull (s : State) (k : Key) : Bool := k.kind = .usdo && decide (8 ≤ s.openOn k.port)

/-- A request under a key: lost when the channel does not answer, refused with 0x0504_0005 when no context or no session is
left, else served in the caller's context (R272, R273, R281). -/
def State.serve (s : State) (k : Key) (f : HostNo → State → State) : Out :=
  if !s.channelUp k then .next s
  else
    match s.contact k with
    | (none, t) => settle s (t.answer 0x05040005 [] 0)
    | (some h, t) => settle s (f h t)

/-- A write by host `h`, answered (R273); the answer to a store follows its commit (R299). -/
def State.answerWrite (k : Key) (index sub : Nat) (data : Bytes) (h : HostNo) (s : State) : State :=
  if s.portFull k then s.answer 0x05040005 [] 0
  else
    let (code, t) := s.write h index sub data
    t.answer (if code = 0 ∧ index = 0x1010 then notYet else code) [] 0

/-- One write of an entry by the host of a key. -/
def State.hostWrite (s : State) (k : Key) (index sub : Nat) (data : Bytes) : Out := s.serve k (State.answerWrite k index sub data)

/-- Replace the sessions of a host. -/
def State.setSessions (s : State) (h : HostNo) (ts : List Transfer) : State := s.modHost h fun x => { x with sessions := ts }

/-- A read of an entry from `offset`: whole, or in parts of 4 096 bytes through an open session (R272, R303). A server channel of
classic CANopen holds one transfer, so a new request there ends the one before (log 88). -/
def State.answerRead (k : Key) (index sub offset : Nat) (h : HostNo) (s : State) : State :=
  let mine := fun t : Transfer => t.index = index && t.sub = sub && t.next = offset
  let now := s.clk.timeUs
  let ts := if k.kind = .sdo ∧ offset = 0 then [] else s.hosts[h].sessions
  match if offset = 0 then none else ts.find? mine with
  | some t =>
    let (code, b, s) := s.read h index sub
    let rest := ts.filter fun x => !mine x
    if code ≠ 0 then (s.setSessions h rest).answer code [] 0
    else if b ≠ t.content then (s.setSessions h rest).answer 0x08000081 [] 0
    else
      let s := s.setSessions h (if offset + copyLimit < b.length then rest ++ [{ t with next := offset + copyLimit, frameUs := now }] else rest)
      s.answer 0 (slice b offset copyLimit) b.length
  | none =>
    if s.portFull k then s.answer 0x05040005 [] 0
    else
      let (code, b, s) := s.read h index sub
      if code ≠ 0 then s.answer code [] 0
      else if b.length < offset then s.answer 0x08000082 [] 0
      else
        let s := if offset + copyLimit < b.length then
            s.setSessions h (ts ++ [{ index := index, sub := sub, next := offset + copyLimit, content := b, frameUs := now }])
          else s.setSessions h ts
        s.answer 0 (slice b offset copyLimit) b.length

/-- USDO_REQUEST (R272, R273): a dictionary read or write on a USDO or SDO channel. -/
def execUsdoRequest (who : Key) (access : Access) (s : State) : Out :=
  if who.kind ≠ .usdo ∧ who.kind ≠ .sdo then .next s
  else
    match access with
    | .read index sub offset => s.serve who (State.answerRead who index sub offset)
    | .write index sub data => s.hostWrite who index sub data

/-- SEGMENTED_TRANSFER_TIMEOUT (R272): a transfer that has had no frame for 1 000 ms ends with 0x0504_0000; a write that was under way
leaves the entry as it was (R302). -/
def execSegmentedTransferTimeout (who : Key) (s : State) : Out :=
  if (who.kind ≠ .usdo ∧ who.kind ≠ .sdo) ∨ !s.channelUp who then .next s
  else
    match s.ctxOf who with
    | some h =>
      let stale := fun t : Transfer => decide (t.frameUs + 1000000 ≤ s.clk.timeUs)
      let ts := s.hosts[h].sessions
      if ts.any stale then .next ((s.setSessions h (ts.filter fun t => !stale t)).answer 0x05040000 [] 0) else .next s
    | none => .next s

/-- A read of one of the recorder's windows (R354). -/
def execWindow (who : Key) (store : Store) (s : State) : Out :=
  match store with
  | .ring => s.serve who (State.answerRead who 0x2601 1 0)
  | .peat => s.serve who (State.answerRead who 0x2603 2 0)

/-- CURSOR: a write of 2601:02 or 2603:01 (R354). -/
def execCursor (who : Key) (store : Store) (data : Bytes) (s : State) : Out :=
  match store with
  | .ring => s.hostWrite who 0x2601 2 data
  | .peat => s.hostWrite who 0x2603 1 data

/-- RING_RETIRE: a write of 2602:01 or :02 (R355). -/
def execRingRetire (who : Key) (store : Store) (data : Bytes) (s : State) : Out :=
  match store with
  | .ring => s.hostWrite who 0x2602 1 data
  | .peat => s.hostWrite who 0x2602 2 data

/-! Rows that are one write of one entry. -/

/-- MODE_REQUEST: a write of 2001:03 (R30, R32). -/
def execModeRequest (who : Key) (data : Bytes) (s : State) : Out := s.hostWrite who 0x2001 3 data

/-- SHUTDOWN_LATCH_CLEAR: a write of 2001:07 (R31). -/
def execShutdownLatchClear (who : Key) (data : Bytes) (s : State) : Out := s.hostWrite who 0x2001 7 data

/-- PROFILE_SELECT: a write of 2004:01 (R33). -/
def execProfileSelect (who : Key) (data : Bytes) (s : State) : Out := s.hostWrite who 0x2004 1 data

/-- LATENCY_BUDGET_WRITE: a write of 2005:01 to :04 (R35). -/
def execLatencyBudgetWrite (who : Key) (budget : Fin 4) (data : Bytes) (s : State) : Out := s.hostWrite who 0x2005 (budget + 1) data

/-- OWN_POWER_PEAK_CLEAR: a write of 2006:06 (R37). -/
def execOwnPowerPeakClear (who : Key) (data : Bytes) (s : State) : Out := s.hostWrite who 0x2006 6 data

/-- LOOP_ENABLE: a write of 3100+k:02 (R69, R113). -/
def execLoopEnable (who : Key) (k : LoopNo) (data : Bytes) (s : State) : Out := s.hostWrite who (0x3100 + k) 2 data

/-- ACTIVE_SET_WRITE: a write of 3100+k:0A (R81). -/
def execActiveSetWrite (who : Key) (k : LoopNo) (data : Bytes) (s : State) : Out := s.hostWrite who (0x3100 + k) 0xA data

/-- SAFE_LOCK_WRITE: a write of 3100+k:0D (R83). -/
def execSafeLockWrite (who : Key) (k : LoopNo) (data : Bytes) (s : State) : Out := s.hostWrite who (0x3100 + k) 0xD data

/-- ARM: 1 to 2610+u:14 (R88). -/
def execArm (who : Key) (u : TraceNo) (s : State) : Out := s.hostWrite who (0x2610 + u) 0x14 (byte 1)

/-- FORCE_TRIGGER: 2 to 2610+u:14 (R90). -/
def execForceTrigger (who : Key) (u : TraceNo) (s : State) : Out := s.hostWrite who (0x2610 + u) 0x14 (byte 2)

/-- DISARM: 3 to 2610+u:14 (R88). -/
def execDisarm (who : Key) (u : TraceNo) (s : State) : Out := s.hostWrite who (0x2610 + u) 0x14 (byte 3)

/-- FAULT_LATCH_CLEAR: a write of 3000+nn:07 (R48). -/
def execFaultLatchClear (who : Key) (c : CellNo) (data : Bytes) (s : State) : Out := s.hostWrite who (0x3000 + c) 7 data

/-- SAFE_ACTION_WRITE: a write of 3000+nn:05 (R50). -/
def execSafeActionWrite (who : Key) (c : CellNo) (data : Bytes) (s : State) : Out := s.hostWrite who (0x3000 + c) 5 data

/-- CAL_RECORD_WRITE: a write of 4400+nn:01 (R45). -/
def execCalRecordWrite (who : Key) (c : CellNo) (data : Bytes) (s : State) : Out := s.hostWrite who (0x4400 + c) 1 data

/-- DRAIN: 1 to 3000+nn:09 (R55, R56). -/
def execDrain (who : Key) (c : CellNo) (s : State) : Out := s.hostWrite who (0x3000 + c) 9 (byte 1)

/-- DRAIN_FORCE: 2 to 3000+nn:09 (R56). -/
def execDrainForce (who : Key) (c : CellNo) (s : State) : Out := s.hostWrite who (0x3000 + c) 9 (byte 2)

/-- COMMIT: 3 to 3000+nn:09 (R58). -/
def execCommit (who : Key) (c : CellNo) (s : State) : Out := s.hostWrite who (0x3000 + c) 9 (byte 3)

/-- REPAIR: 4 to 3000+nn:09 (R59). -/
def execRepair (who : Key) (c : CellNo) (s : State) : Out := s.hostWrite who (0x3000 + c) 9 (byte 4)

/-- RELEASE: 5 to 3000+nn:09 (R60). -/
def execRelease (who : Key) (c : CellNo) (s : State) : Out := s.hostWrite who (0x3000 + c) 9 (byte 5)

/-- ABANDON: 6 to 3000+nn:09 (R61). -/
def execAbandon (who : Key) (c : CellNo) (s : State) : Out := s.hostWrite who (0x3000 + c) 9 (byte 6)

/-- GROUP_ENABLE: a write of 3200+g:02 (R130). -/
def execGroupEnable (who : Key) (g : GroupNo) (data : Bytes) (s : State) : Out := s.hostWrite who (0x3200 + g) 2 data

/-- GROUP_CLEAR: a write of 3200+g:1A (R137). -/
def execGroupClear (who : Key) (g : GroupNo) (data : Bytes) (s : State) : Out := s.hostWrite who (0x3200 + g) 0x1A data

/-- FEEDER_CLEAR: a write of 3000+nn:38 (R172, R175). -/
def execFeederClear (who : Key) (c : CellNo) (data : Bytes) (s : State) : Out := s.hostWrite who (0x3000 + c) 0x38 data

/-- FEED_ENABLE: a write of 3000+nn:20 (R174). -/
def execFeedEnable (who : Key) (c : CellNo) (data : Bytes) (s : State) : Out := s.hostWrite who (0x3000 + c) 0x20 data

/-- OR_CLEAR: a write of 3000+nn:4C (R177). -/
def execOrClear (who : Key) (c : CellNo) (data : Bytes) (s : State) : Out := s.hostWrite who (0x3000 + c) 0x4C data

/-- OR_ENABLE: a write of 3000+nn:40 (R179). -/
def execOrEnable (who : Key) (c : CellNo) (data : Bytes) (s : State) : Out := s.hostWrite who (0x3000 + c) 0x40 data

/-- GRANT_REQUEST: a write of 2220:01 (R187). -/
def execGrantRequest (who : Key) (data : Bytes) (s : State) : Out := s.hostWrite who 0x2220 1 data

/-- STRING_ENABLE: a write of 3300+s:01 (R203, R206). -/
def execStringEnable (who : Key) (n : StringNo) (data : Bytes) (s : State) : Out := s.hostWrite who (0x3300 + n) 1 data

/-- STRING_CLEAR: a write of 3300+s:41 (Table 09-2). -/
def execStringClear (who : Key) (n : StringNo) (data : Bytes) (s : State) : Out := s.hostWrite who (0x3300 + n) 0x41 data

/-- RECORD_RESET: a write of 4320+s:02 (R223). -/
def execRecordReset (who : Key) (n : StringNo) (data : Bytes) (s : State) : Out := s.hostWrite who (0x4320 + n) 2 data

/-- RAIL_CLEAR: a write of 2310+r:0E (R230). -/
def execRailClear (who : Key) (r : RailNo) (data : Bytes) (s : State) : Out := s.hostWrite who (0x2310 + r) 0xE data

/-- RETURN_A: 1 to 2500:0C (R265). -/
def execReturnA (who : Key) (s : State) : Out := s.hostWrite who 0x2500 0xC (byte 1)

/-- RETURN_B: 2 to 2500:0C (R265). -/
def execReturnB (who : Key) (s : State) : Out := s.hostWrite who 0x2500 0xC (byte 2)

/-- RETIRE_STANDBY: 3 to 2500:0C (R264, R265). -/
def execRetireStandby (who : Key) (s : State) : Out := s.hostWrite who 0x2500 0xC (byte 3)

/-- DICT_WRITE: a write of any entry, judged under R6, R291 and R304, with its agreement sets (R295). -/
def execDictWrite (who : Key) (index sub : Nat) (data : Bytes) (s : State) : Out := s.hostWrite who index sub data

/-- MULTI_WRITE: a write of 2104:01 (R274). -/
def execMultiWrite (who : Key) (data : Bytes) (s : State) : Out := s.hostWrite who 0x2104 1 data

/-- LOCK_CMD: a write of 2100:03 (R284). -/
def execLockCmd (who : Key) (data : Bytes) (s : State) : Out := s.hostWrite who 0x2100 3 data

/-- STORE_SAVE: a write of 1010 (R299). -/
def execStoreSave (who : Key) (sub : Nat) (data : Bytes) (s : State) : Out := s.hostWrite who 0x1010 sub data

/-- RESTORE_LOAD: a write of 1011 (R300). -/
def execRestoreLoad (who : Key) (sub : Nat) (data : Bytes) (s : State) : Out := s.hostWrite who 0x1011 sub data

/-- GASP_CLEAR: a write of 2602:03 (R355). -/
def execGaspClear (who : Key) (data : Bytes) (s : State) : Out := s.hostWrite who 0x2602 3 data

/-- ROLLBACK: a write of 2700:09 (R366). -/
def execRollback (who : Key) (data : Bytes) (s : State) : Out := s.hostWrite who 0x2700 9 data

/-- APP_CONFIRM: a write of 2700:08 through a DAP channel (R365). -/
def execAppConfirm (d : DapNo) (data : Bytes) (s : State) : Out := s.hostWrite (dapKey d) 0x2700 8 data

end Sys2Proof.Machine
end

