-- ==== Sys2Proof/Machine/Icu.lean ====
section
/-! DEFINITION. Machine/Icu.lean: the management cores as the rest of the block sees them: interrupt controller (R330 to R337), core
timers (R338), memory errors (R339, R341), scrubber (R343, R344) and application faults (R326). -/

namespace Sys2Proof.Machine

/-! What is deliverable (R331). -/

/-- A core is idle in WFI, state retention and the halt of R326 included. -/
def CoreRun.idle : CoreRun → Bool
  | .wfi => true | .retention => true | .halted => true | .running => false | .held => false

/-- Events counted since the last claim (R332). -/
def Src.counted (x : Src) : Nat := if x.claimedBy.isSome then x.duringClaim else x.events

/-- Counted events that moderation no longer holds: it is off, bypassed, or MOD_COUNT is reached (R332). -/
def Src.free (idle : Bool) (x : Src) : Bool :=
  decide (0 < x.counted) && (decide (x.modHold = 0) || idle || (decide (x.modCount ≠ 0) && decide (x.modCount ≤ x.counted)))

/-- Shared source `n` is deliverable to core `c` (R331). -/
def State.sharedReady (s : State) (c : CoreNo) (n : SharedNo) : Bool :=
  let x := s.srcs[n]
  x.pending && x.claimedBy.isNone && x.released && decide (x.target = c) && decide (x.prio ≠ 0)
    && decide (s.cores[c].threshold < x.prio)

/-- Level of private source `p` of core `c`: a timer's while the timestamp is at or above its compare (R338), else what the DAP channel or
the scrubber drives. -/
def State.privHigh (s : State) (c : CoreNo) (p : Fin 32) : Bool :=
  let x := s.cores[c]
  match toFin? 4 p with
  | some n => decide (x.cmp[n] ≤ s.now)
  | none => x.privLevel.getLsbD p

/-- Private source `p` of core `c` is pending (R330). -/
def State.privPending (s : State) (c : CoreNo) (p : Fin 32) : Bool := s.privHigh c p && !s.cores[c].privClaimed.getLsbD p

/-- Private source `p` of core `c` is deliverable (R331). -/
def State.privReady (s : State) (c : CoreNo) (p : Fin 32) : Bool :=
  let x := s.cores[c]
  s.privPending c p && decide (x.privPrio[p] ≠ 0) && decide (x.threshold < x.privPrio[p])

/-- Deliverable sources of a core with their priorities, IDs rising. -/
def State.ready (s : State) (c : CoreNo) : List (Nat × IrqSource) :=
  ((pick 32 fun p => s.privReady c p).map fun p => (s.cores[c].privPrio[p], .priv c p))
    ++ ((pick 160 fun n => s.sharedReady c n).map fun n => (s.srcs[n].prio, .shared n))

/-- The external interrupt line of a core (R331). -/
def State.irqLine (s : State) (c : CoreNo) : Bool := s.ready c ≠ []

/-- The source that a claim returns: highest priority, then lowest ID (R331). -/
def State.topSource (s : State) (c : CoreNo) : Option IrqSource :=
  ((s.ready c).foldl (fun (best : Option (Nat × IrqSource)) x => match best with
    | none => some x
    | some b => if b.1 < x.1 then some x else some b) none).map (·.2)

/-- Interrupt ID of a source. -/
def irqId : IrqSource → Nat
  | .priv _ p => 1 + p
  | .shared n => 33 + n

/-- A deliverable source wakes its core from WFI (R333). A halted core and an application core without firmware stay (R324, R326). -/
def State.wakeCore (c : CoreNo) (s : State) : State :=
  if (s.cores[c].run = .wfi ∨ s.cores[c].run = .retention) ∧ s.coreFits c ∧ s.irqLine c then
    s.modCore c fun x => { x with run := .running }
  else s

/-- MANAGE runs and core `c` executes instructions. -/
def State.coreUp (s : State) (c : CoreNo) : Bool := decide (s.manage = .running) && decide (s.cores[c].run = .running)

/-! Sources (R330, R332). -/

/-- What moderation and the claim leave of a shared source: released when nothing holds its events, and its target woken. -/
def State.refreshSrc (n : SharedNo) (s : State) : State :=
  let idle := CoreRun.idle s.cores[s.srcs[n].target].run
  let s := s.modSrc n fun x => { x with released := x.released || x.free idle }
  s.wakeCore s.srcs[n].target

/-- An event while the clock of MANAGE is stopped or MANAGE is in reset: the count saturates at 32 767, and the source then records event
0xD005 once in the stop (R379). -/
def State.accrue (n : SharedNo) (s : State) : State :=
  let w := s.srcs[n].waiting
  let s := s.modSrc n fun x => { x with waiting := min 32767 (w + 1) }
  if w = 32766 then s.event (srcWatch 0) 0xD005 0xFF (byte n) else s

/-- One event on an edge source (R330, R332, R379). Reserved sources are never asserted (Table 16-3). -/
def State.irqEvent (n : SharedNo) (s : State) : State :=
  if 100 ≤ (n : Nat) ∨ s.phase = .held then s
  else if s.manage = .running then
    let s := s.modSrc n fun x =>
      let x := if x.counted = 0 then { x with firstUs := s.clk.timeUs } else x
      if x.claimedBy.isSome then { x with duringClaim := x.duringClaim + 1 } else { x with events := x.events + 1, pending := true }
    s.refreshSrc n
  else s.accrue n

/-- The DAP channel or the scrubber of a core drives its private source (R330). -/
def State.privSet (c : CoreNo) (p : Fin 32) (high : Bool) (s : State) : State :=
  if s.manage = .running then
    let m := BitVec.ofNat 32 (2 ^ (p : Nat))
    let s := s.modCore c fun x => { x with privLevel := if high then x.privLevel ||| m else x.privLevel &&& ~~~ m }
    s.wakeCore c
  else s

/-- ICU_SOURCE_EVENT (R330): an event of an edge source; or a change of a private source's level, which its unit drives, and which may
wake the core (R333). -/
def execIcuSourceEvent (src : IrqSource) (s : State) : Out :=
  match src with
  | .shared n => .next (s.irqEvent n)
  | .priv c _ => .next (if s.manage = .running then s.wakeCore c else s)

/-- SWSET (Table 16-4): one event on each selected software source, written by a service core. -/
def execSwset (c : CoreNo) (mask : BitVec 8) (s : State) : Out :=
  if s.coreUp c ∧ (c : Nat) < 2 then
    .next (s.each 8 fun i t => if mask.getLsbD i then t.irqEvent ⟨52 + i, by omega⟩ else t)
  else .next s

/-- MODERATION_RELEASE (R332): MOD_HOLD has passed since the first counted event. -/
def execModerationRelease (n : SharedNo) (s : State) : Out :=
  let x := s.srcs[n]
  if s.manage = .running ∧ 0 < x.counted ∧ x.modHold ≠ 0 ∧ x.firstUs + x.modHold ≤ s.clk.timeUs then
    .next ((s.modSrc n fun x => { x with released := true }).wakeCore s.srcs[n].target)
  else .next s

/-- CORE_WFI (R332, R333, Table 02-9): held sources are released at once; a core with nothing deliverable idles, a service core in
state retention when no USDO session is open and the governing budget is at least 1 ms. -/
def execCoreWfi (c : CoreNo) (s : State) : Out :=
  if s.coreUp c then
    let deep := decide ((c : Nat) < 2) && decide (s.openOn 0 + s.openOn 1 = 0) && decide (1 ≤ s.governing fun _ => true)
    let s := s.modCore c fun x => { x with run := if deep then .retention else .wfi }
    .next ((s.each 160 fun n t => if t.srcs[n].target = c then t.refreshSrc n else t).wakeCore c)
  else .next s

/-! Claim and completion (R331, R334). -/

/-- A source is claimed, and CLAIM_SNAP taken (Table 16-5). -/
def State.claimSource (c : CoreNo) (src : IrqSource) (s : State) : State :=
  match src with
  | .priv _ p =>
    s.modCore c fun x => { x with privClaimed := x.privClaimed ||| BitVec.ofNat 32 (2 ^ (p : Nat)), snapId := irqId src
                                  snapEvents := 0, snapLevel := true }
  | .shared n =>
    let e := s.srcs[n].events
    (s.modSrc n fun x => { x with claimedBy := some c, pending := false, released := false, events := 0, duringClaim := 0 }).modCore c
      fun x => { x with snapId := irqId src, snapEvents := min e 255, snapLevel := false }

/-- CLAIM: a read of the core's CLAIM (R331). -/
def execClaim (c : CoreNo) (s : State) : Out :=
  if s.coreUp c then
    match s.topSource c with
    | some src => .next ((s.claimSource c src).answer 0 (le 4 (irqId src)) 4)
    | none => .next (s.answer 0 (le 4 0) 4)
  else .next s

/-- COMPLETE (R334): the claim of this core ends; a source still asserted, or with events since, is pending again. -/
def execComplete (c : CoreNo) (id : BitVec 8) (s : State) : Out :=
  let i := id.toNat
  if s.coreUp c then
    if 1 ≤ i ∧ i ≤ 32 then
      .next (s.modCore c fun x => { x with privClaimed := x.privClaimed &&& ~~~ BitVec.ofNat 32 (2 ^ (i - 1)) })
    else
      match inst? 33 160 i with
      | some n =>
        if s.srcs[n].claimedBy = some c then
          .next ((s.modSrc n fun x => { x with claimedBy := none, pending := decide (0 < x.duringClaim), events := x.duringClaim
                                               duringClaim := 0 }).refreshSrc n)
        else .next s
      | none => .next s
  else .next s

/-- A whole-word write of SRC_CFG of shared source `n` (Table 16-4). -/
def State.writeSrcCfg (n : SharedNo) (word : BitVec 32) (s : State) : State :=
  let w := word.toNat
  let s := s.modSrc n fun x => { x with modCount := w / 65536 % 256, modHold := w / 256 % 256, prio := w % 16
                                        target := ⟨w / 16 % 4, Nat.mod_lt _ (by decide)⟩ }
  s.refreshSrc n

/-- The ICU shared page answers a running service core (Table 16-1). -/
def State.sharedPage (s : State) (c : CoreNo) : Bool := s.coreUp c && decide ((c : Nat) < 2)

/-- TARGET_WRITE (R335): a write of SRC_CFG moves a source with its events and holdoff; a claim stays with its core. -/
def execTargetWrite (c : CoreNo) (n : SharedNo) (word : BitVec 32) (s : State) : Out :=
  if s.sharedPage c then .next (s.writeSrcCfg n word) else .next s

/-- PRIO_WRITE (R336): a write of SRC_CFG, or of PRIV_PRIO[m] by the core itself (R328). -/
def execPrioWrite (c : CoreNo) (reg : PrioReg) (word : BitVec 32) (s : State) : Out :=
  match reg with
  | .shared n => if s.sharedPage c then .next (s.writeSrcCfg n word) else .next s
  | .priv d m =>
    if s.coreUp c ∧ d = c then
      .next ((s.modCore c fun x => { x with privPrio := Vector.ofFn fun (p : Fin 32) =>
        if (p : Nat) / 8 = m then word.toNat / 16 ^ ((p : Nat) % 8) % 16 else x.privPrio[p] }).wakeCore c)
    else .next s

/-- THRESHOLD_WRITE (R331): by the core itself (R328); claims stand (Table 16-6). -/
def execThresholdWrite (c : CoreNo) (threshold : Fin 16) (s : State) : Out :=
  if s.coreUp c then .next (s.modCore c fun x => { x with threshold := threshold }) else .next s

/-! Timers (R338, R380). -/

/-- TIMER_COMPARE_WRITE (R338): CMPn_LO, then CMPn_HI, which puts the whole compare in force. -/
def execTimerCompareWrite (c : CoreNo) (n : Fin 4) (hi : BitVec 16) (lo : BitVec 32) (s : State) : Out :=
  if s.coreUp c then
    .next (s.modCore c fun x => { x with cmpLo := x.cmpLo.set n lo.toNat, cmp := x.cmp.set n (hi.toNat * 0x100000000 + lo.toNat) })
  else .next s

/-- TIMER_COMPARE_MATCH (R338, R333): the timestamp is at or above the compare, whose source may wake the core. -/
def execTimerCompareMatch (c : CoreNo) (n : Fin 4) (s : State) : Out :=
  .next (if s.manage = .running ∧ s.privHigh c ⟨n, by omega⟩ then s.wakeCore c else s)

/-- TIME_LO_READ (Table 16-7, R380): latches TIME_HI. -/
def execTimeLoRead (c : CoreNo) (s : State) : Out :=
  if s.coreUp c then
    .next ((s.modCore c fun x => { x with timeHi := s.now / 0x100000000 }).answer 0 (le 4 (s.now % 0x100000000)) 4)
  else .next s

/-! Memory errors (R339, R341). -/

/-- Codes of Table 16-11. -/
def Memory.code : Sys2Proof.Memory → Nat
  | .sram => 0 | .mothTrap => 1 | .loopMemory => 2 | .mram => 3

/-- Source byte of a memory's controller (Table 17-2). -/
def Memory.source : Sys2Proof.Memory → Nat
  | .sram => srcManage 4 | .mothTrap => srcManage 5 | .loopMemory => srcLoop 7 | .mram => srcManage 6

/-- ECC_CORRECTED (R339): event 0xB001 and shared source 44. -/
def execEccCorrected (mem : Sys2Proof.Memory) (addr : BitVec 32) (_requester : Fin 12) (s : State) : Out :=
  .next ((s.event (Memory.source mem) 0xB001 0xFF (byte (Memory.code mem) ++ le 4 addr.toNat)).irqEvent 44)

/-! Scrubber (R343, R344). -/

/-- Level of a core's scrubber source: DONE, ERR or ABORTED under IRQ_EN (Table 16-9). -/
def State.scrubLevel (c : CoreNo) (s : State) : State :=
  let x := s.cores[c]
  s.privSet c 9 (x.scrubIrq && (x.scrubDone || x.scrubErr || x.scrubAborted))

/-- A store to the scrubber's page of a core (Table 16-9): CTRL.WRITEBACK, the cleared bits of STATUS, IRQ_EN; CTRL.GO and CTRL.ABORT are
rows of their own; START and LENGTH wait for a GO; other registers are read-only. -/
def State.storeScrub (c : CoreNo) (w : BitVec 12 × BitVec 32) (s : State) : State :=
  let off := w.1.toNat
  let v := w.2.toNat
  (s.modCore c fun x =>
    if off = 0 then { x with scrubWriteback := bit v 4 }
    else if off = 4 then { x with scrubStart := v / 4 * 4 }
    else if off = 8 then { x with scrubWords := v / 4 % 0x400000 }
    else if off = 0xC then { x with scrubDone := x.scrubDone && !bit v 30, scrubErr := x.scrubErr && !bit v 29
                                    scrubAborted := x.scrubAborted && !bit v 28 }
    else if off = 0x1C then { x with scrubIrq := bit v 0 }
    else x).scrubLevel c

/-! What a core reaches (R325, R327 to R329). -/

/-- A byte range lies in one region. -/
def within (lo size a n : Nat) : Bool := decide (lo ≤ a) && decide (a + n ≤ lo + size)

/-- Bases of Table 16-1. -/
def xipBase : Nat := 0x10000000
/-- System SRAM. -/
def sramBase : Nat := 0x20000000

/-- Regions of Table 16-1; a per-core page carries its core. -/
inductive Region
  | rom | xip | sram (b : Fin 8) | icuShared | icu (c : CoreNo) | scrub (c : CoreNo) | dapPage (c : CoreNo) | timer (c : CoreNo)
  deriving DecidableEq, Repr

/-- Bases and sizes of Table 16-1. -/
def regionTable : List (Nat × Nat × Region) :=
  [(0, 0x10000, .rom), (xipBase, 0x300000, .xip), (0x40010000, 0x1000, .icuShared)]
    ++ (List.finRange 8).map (fun (b : Fin 8) => (sramBase + 0x40000 * b.val, 0x40000, Region.sram b))
    ++ (List.finRange 4).map (fun (c : CoreNo) => (0x40011000 + 0x1000 * c.val, 0x1000, Region.icu c))
    ++ (List.finRange 4).map (fun (c : CoreNo) => (0x40020000 + 0x1000 * c.val, 0x1000, Region.scrub c))
    ++ [(0x40030000, 0x1000, .dapPage 2), (0x40031000, 0x1000, .dapPage 3)]
    ++ (List.finRange 4).map (fun (c : CoreNo) => (0x40040000 + 0x1000 * c.val, 0x1000, Region.timer c))

/-- Region of an address. -/
def regionAt (a : Nat) : Option Region := (regionTable.find? fun r => within r.1 r.2.1 a 1).map fun r => r.2.2

/-- A bank that the active image declares (R329); banks 0 to 4 are base firmware's. A bank that no image declares is off
(Table 02-9), and so is one that failed its self-test (Table 16-8). -/
def State.bankOn (s : State) (b : Fin 8) : Bool :=
  (decide ((b : Nat) < 5) || bit (numAt s.fw.slots[s.fw.active].header 32 1) b)
    && !s.badBanks.any fun f => decide (f = .bank b)

/-- Customer code range that the active image declares, inside the execute-in-place window. -/
def State.customerCode (s : State) (a n : Nat) : Bool :=
  let h := s.fw.slots[s.fw.active].header
  within (xipBase + numAt h 24 4) (numAt h 28 4) a n

/-- Kinds of a core's access that R327 tells apart. -/
inductive AccessKind | fetch | load | store | atomic
  deriving DecidableEq, Repr

/-- Region granted to user mode on core `c` (Table 16-2). -/
def State.userGrant (s : State) (c : CoreNo) (kind : AccessKind) (a : Nat) : Bool :=
  decide (2 ≤ (c : Nat)) &&
    match regionAt a with
    | some .xip => s.customerCode a 1 && (kind = .fetch || kind = .load)
    | some (.sram b) => kind ≠ .fetch && s.bankOn b && (decide ((b : Nat) = c + 3) || decide ((b : Nat) = 7))
    | some (.dapPage d) | some (.icu d) | some (.scrub d) | some (.timer d) => kind ≠ .fetch && decide (d = c)
    | _ => false

/-- Exception of an access of `n` bytes by core `c` (R325, R327): its mcause, 0 instruction address misaligned and so on as the ISA numbers
them; none when it is served. Misalignment is tested for loads, stores and AMOs (log 147). -/
def State.accessFault (s : State) (c : CoreNo) (machine : Bool) (kind : AccessKind) (a n : Nat) : Option Nat :=
  let code := match kind with | .fetch => 1 | .load => 5 | .store => 7 | .atomic => 7
  let misaligned := match kind with | .fetch => 0 | .load => 4 | .store => 6 | .atomic => 6
  let allowed : Bool := match regionAt a with
    | none => false
    | some .rom | some .xip => kind = .fetch || kind = .load
    | some (.sram _) => true
    | some .icuShared => kind ≠ .atomic && machine && decide ((c : Nat) < 2)
    | some _ => kind ≠ .atomic
  if kind ≠ .fetch ∧ n ≠ 0 ∧ a % n ≠ 0 then some misaligned
  else if allowed && (machine || s.userGrant c kind a) then none
  else some code

/-- The core may read a range in user mode: regions of Table 16-2. -/
def State.userReads (s : State) (c : CoreNo) (a n : Nat) : Bool :=
  let bank := fun (b : Nat) => ((toFin? 8 b).map s.bankOn).getD false && within (sramBase + 0x40000 * b) 0x40000 a n
  decide (2 ≤ (c : Nat)) && (s.customerCode a n || bank (c + 3) || bank 7
    || (s.bankOn 6 && s.bankOn 7 && decide ((c : Nat) = 3) && within (sramBase + 0x180000) 0x80000 a n))

/-- A range is accepted at GO (R343): inside system SRAM or inside the execute-in-place window, readable in the mode of the GO. -/
def State.scrubOk (s : State) (c : CoreNo) (machine : Bool) (a n : Nat) : Bool :=
  (within sramBase 0x200000 a n || within xipBase 0x300000 a n) && (machine || s.userReads c a n)

/-! Ranges (R343, R344). -/

/-- The first of the queue scrubs (R343). -/
def State.nextScrub (s : State) : State :=
  match s.scrubOrder with
  | c :: _ => s.modCore c fun x => { x with scrubBusy := true, scrubQueued := false }
  | [] => s

/-- A range ends: it leaves the queue, its summary stands, event 0xB005, and 0xB002 for FIRST_BAD (R344). -/
def State.endScrub (c : CoreNo) (aborted : Bool) (corr uncorr : Nat) (bad : BitVec 32) (s : State) : State :=
  let s := s.modCore c fun x => { x with scrubBusy := false, scrubQueued := false, scrubAbortDue := false, corr := wrap32 corr
                                         uncorr := wrap32 uncorr, firstBad := bad, scrubDone := x.scrubDone || !aborted
                                         scrubAborted := x.scrubAborted || aborted }
  let s := { s with scrubOrder := s.scrubOrder.filter fun d => decide (d ≠ c) }
  let s := if bad = 0xFFFFFFFF#32 then s
    else
      let xip := decide (bad.toNat < sramBase)
      (s.event (srcManage (if xip then 6 else 4)) 0xB002 0xFF (byte (if xip then 3 else 0) ++ le 4 bad.toNat ++ byte 9)).irqEvent 45
  let s := s.event (srcManage c) 0xB005 c (byte c ++ le 4 (wrap32 corr) ++ le 4 (wrap32 uncorr) ++ le 4 bad.toNat)
  (s.scrubLevel c).nextScrub

/-- SCRUB_GO (R343, Table 16-9), after the stores that the core made to its page before: a GO while BUSY or QUEUED is ignored. -/
def execScrubGo (c : CoreNo) (stores : Stores) (machineMode : Bool) (start words : Nat) (s : State) : Out :=
  if s.coreUp c then
    let s := s.over stores (State.storeScrub c)
    if s.cores[c].scrubBusy ∨ s.cores[c].scrubQueued then .next s
    else
      let a := start % 0x100000000 / 4 * 4
      let n := words % 0x400000
      let s := s.modCore c fun x => { x with scrubStart := a, scrubWords := n }
      if n = 0 then
        .next ((s.modCore c fun x => { x with corr := 0, uncorr := 0, firstBad := 0xFFFFFFFF#32, scrubDone := true }).scrubLevel c)
      else if s.scrubOk c machineMode a (4 * n) then
        let s := s.modCore c fun x => { x with corr := 0, uncorr := 0, firstBad := 0xFFFFFFFF#32, scrubQueued := true }
        .next (({ s with scrubOrder := s.scrubOrder ++ [c] }.nextScrub).scrubLevel c)
      else .next ((s.modCore c fun x => { x with scrubErr := true }).scrubLevel c)
  else .next s

/-- SCRUB_ABORT (Table 16-9): the range ends at the next word with the summary up to it; `atWord` false is the write itself, and
a range that only waits ends at once. -/
def execScrubAbort (c : CoreNo) (atWord : Bool) (corr uncorr : Nat) (firstBad : BitVec 32) (s : State) : Out :=
  if atWord then
    if s.manage = .running ∧ s.cores[c].scrubBusy ∧ s.cores[c].scrubAbortDue then .next (s.endScrub c true corr uncorr firstBad) else .next s
  else if s.coreUp c then
    if s.cores[c].scrubQueued then .next (s.endScrub c true 0 0 0xFFFFFFFF#32)
    else .next (s.modCore c fun x => { x with scrubAbortDue := x.scrubBusy })
  else .next s

/-- SCRUB_DONE (R344): the range has been read to its end. -/
def execScrubDone (c : CoreNo) (corr uncorr : Nat) (firstBad : BitVec 32) (s : State) : Out :=
  if s.manage = .running ∧ s.cores[c].scrubBusy then .next (s.endScrub c false corr uncorr firstBad) else .next s

/-! Application faults (R326). -/

/-- The core's ICU context, timer block and scrubber channel are reset; its claims end, and level sources still asserted pend
again (Table 16-6). The DAP channel is no part of it. -/
def State.resetCoreUnits (c : CoreNo) (s : State) : State :=
  let dapLevel := s.cores[c].privLevel &&& 0x100#32
  let s := s.modCore c fun x => { Core.reset with run := x.run, faultTimes := x.faultTimes, privLevel := dapLevel }
  let s := { s with scrubOrder := s.scrubOrder.filter fun d => decide (d ≠ c) }.nextScrub
  s.each 160 fun n t =>
    if t.srcs[n].claimedBy = some c then
      (t.modSrc n fun x => { x with claimedBy := none, pending := decide (0 < x.duringClaim), events := x.duringClaim
                                    duringClaim := 0 }).refreshSrc n
    else t

/-- Faults of the last 600 s. -/
def recentFaults (now : Nat) (ts : List Nat) : List Nat := ts.filter fun t => decide (now - t ≤ 600000000)

/-- An application fault (R326): event 0xB020 and a restart; the third within 600 s halts the core. During a trial, confirmation waits a
further TRIAL_SETTLE_S (Table 18-8). -/
def State.appFault (c : CoreNo) (mcause mtval : Nat) (s : State) : State :=
  let ts := recentFaults s.now s.cores[c].faultTimes ++ [s.now]
  let s := s.event (srcManage c) 0xB020 c (byte c ++ le 4 mcause ++ le 4 mtval)
  let s := (s.modFw fun w => { w with settleMs := 0 }).modCore c fun x => { x with faultTimes := ts }
  let s := s.resetCoreUnits c
  if 3 ≤ ts.length then (s.modCore c fun x => { x with run := .halted }).event (srcManage c) 0xB021 c (byte c) else s

/-- APP_FAULT (R326): an exception taken from user mode on an application core that runs. -/
def execAppFault (c : CoreNo) (mcause mtval : BitVec 32) (s : State) : Out :=
  if s.coreUp c ∧ 2 ≤ (c : Nat) then .next (s.appFault c mcause.toNat mtval.toNat) else .next s

end Sys2Proof.Machine
end

