-- ==== Sys2Proof/Machine/Dap.lean ====
section
/-! DEFINITION. Machine/Dap.lean: the dictionary access port of the application cores (Table 13-6, R285). -/

namespace Sys2Proof.Machine

/-- The core that channel `d` serves. -/
def dapCore (d : DapNo) : CoreNo := ⟨d + 2, by omega⟩

/-- Level of the channel's ICU source: DONE or ERR under IRQ_EN (Table 13-6, Table 16-3). -/
def State.dapLevel (d : DapNo) (s : State) : State :=
  let x := s.dap[d]
  s.privSet (dapCore d) 8 ((x.irqErr && x.err) || (x.irqDone && x.done))

/-- A request ends with a code, 0 for none. -/
def State.endDap (d : DapNo) (code : Nat) (s : State) : State :=
  (s.modDap d fun x => { x with req := none, done := x.done || decide (code = 0), err := x.err || decide (code ≠ 0)
                                abort := if code = 0 then x.abort else code }).dapLevel d

/-- The first bytes of the buffer are replaced; its other bytes stay (they are undefined after reset, log 11). -/
def bufferPut (b data : Bytes) : Bytes := data.take 1024 ++ b.drop (min 1024 data.length)

/-- The length of a write of the request is within LEN's range. -/
def DapReq.lengthOk : DapReq → Bool
  | .read _ _ _ => true
  | .write _ _ b => decide (b.length ≤ 1024)
  | .multi b => decide (b.length ≤ 1024)

/-- Registers that a GO writes beside CMD. -/
def Dap.load (r : DapReq) (x : Dap) : Dap :=
  match r with
  | .read i n o =>
    { x with op := 0, index := i, sub := n, offset := o, first := if x.index = i ∧ x.sub = n then x.first else [] }
  | .write i n b => { x with op := 1, index := i, sub := n, len := b.length, buffer := bufferPut x.buffer b, first := [] }
  | .multi b => { x with op := 2, len := b.length, buffer := bufferPut x.buffer b, first := [] }

/-- A store to the channel's page (Table 13-6): CMD.OP, ADDR, LEN, the cleared bits of STATUS, IRQ_EN, OFFSET and BUFFER; CMD.GO and
CMD.ABORT are rows of their own, and other registers are read-only. A request under way keeps what it was started with (log 98). -/
def State.storeDap (d : DapNo) (w : BitVec 12 × BitVec 32) (s : State) : State :=
  let off := w.1.toNat
  let v := w.2.toNat
  (s.modDap d fun x =>
    if off = 0 then { x with op := v / 4 % 4 }
    else if off = 4 then { x with index := v / 65536, sub := v / 256 % 256 }
    else if off = 8 then { x with len := v % 2048 }
    else if off = 0xC then { x with done := x.done && !bit v 30, err := x.err && !bit v 29 }
    else if off = 0x14 then { x with irqErr := bit v 1, irqDone := bit v 0 }
    else if off = 0x18 then { x with offset := v }
    else if 0x800 ≤ off ∧ off < 0xC00 then
      let i := off / 4 * 4 - 0x800
      { x with buffer := x.buffer.take i ++ le 4 v ++ x.buffer.drop (i + 4) }
    else x).dapLevel d

/-- A GO (Table 13-6), after the stores that the core made to its page before: ignored while BUSY. It is a contact (R279). -/
def State.dapGo (d : DapNo) (stores : Stores) (r : DapReq) (s : State) : Out :=
  if s.dapServes d then
    let t := s.over stores (State.storeDap d)
    if t.dap[d].req.isSome then .next t
    else
      let t := t.modDap d (Dap.load r)
      match t.contact (dapKey d) with
      | (none, t) => settle s (t.endDap d 0x05040005)
      | (some _, t) =>
        if r.lengthOk then settle s ((t.modDap d fun x => { x with req := some r }).dapLevel d)
        else settle s (t.endDap d 0x06070010)
  else .next s

/-- DAP_READ (R285). -/
def execDapRead (d : DapNo) (stores : Stores) (index sub offset : Nat) (s : State) : Out := s.dapGo d stores (.read index sub offset)

/-- DAP_WRITE (R285). -/
def execDapWrite (d : DapNo) (stores : Stores) (index sub : Nat) (data : Bytes) (s : State) : Out :=
  s.dapGo d stores (.write index sub data)

/-- DAP_MULTI_WRITE (R285): the buffer to 2104:01. -/
def execDapMultiWrite (d : DapNo) (stores : Stores) (data : Bytes) (s : State) : Out := s.dapGo d stores (.multi data)

/-- A write of this channel that was applied and waits for its store (R299). -/
def State.dapStoring (s : State) (d : DapNo) : Bool :=
  match s.dict.storing, s.dap[d].req with
  | some (_, _, k), some (.write 0x1010 _ _) => decide (k = dapKey d)
  | _, _ => false

/-- DAP_ABORT: a request not yet applied ends with ERR (Table 13-6). -/
def execDapAbort (d : DapNo) (s : State) : Out :=
  if s.dapServes d ∧ s.dap[d].req.isSome ∧ !s.dapStoring d then .next (s.endDap d 0x08000000) else .next s

/-- A read is applied: at most 1 024 bytes from the offset (R285), in parts under R303. -/
def State.dapReadEnd (d : DapNo) (h : HostNo) (index sub offset : Nat) (s : State) : State :=
  let first := s.dap[d].first
  let held : Bool := offset ≠ 0 && decide (first ≠ []) && decide (first.length ≤ copyLimit)
  let (code, b, s) := if held then (0, first, s) else s.read h index sub
  if code ≠ 0 then s.endDap d code
  else if offset ≠ 0 ∧ first ≠ [] ∧ b ≠ first then (s.modDap d fun x => { x with first := [] }).endDap d 0x08000081
  else if b.length < offset then s.endDap d 0x08000082
  else
    let part := slice b offset 1024
    (s.modDap d fun x => { x with buffer := bufferPut x.buffer part, rlen := part.length, total := b.length, first := b }).endDap d 0

/-- DAP_REQUEST_END: the queued access is applied (R273) and DONE or ERR sets; an accepted store ends with its commit (R299). -/
def execDapRequestEnd (d : DapNo) (s : State) : Out :=
  if s.recorderUp ∧ s.phase = .running ∧ !s.dapStoring d then
    match s.dap[d].req, s.ctxOf (dapKey d) with
    | some (.read i n o), some h => settle s (s.dapReadEnd d h i n o)
    | some (.write i n b), some h =>
      let (code, t) := s.write h i n b
      settle s (if code = 0 ∧ i = 0x1010 then t else t.endDap d code)
    | some (.multi b), some h =>
      let (code, t) := s.write h 0x2104 1 b
      settle s (t.endDap d code)
    | _, _ => .next s
  else .next s

end Sys2Proof.Machine
end

