-- ==== Sys2Proof/Machine/TwoWire.lean ====
section
/-! DEFINITION. Machine/TwoWire.lean: the twelve two-wire ports: frames addressed to the OL4880 (R307 to R315), busy, stretching and
sleep (R316, R317), its own transactions (R318 to R320) and the regulators it polls (R321). -/

namespace Sys2Proof.Machine

/-! Frames. -/

/-- Change the two-wire part of a context. -/
def State.modCtx (s : State) (h : HostNo) (f : TwCtx → TwCtx) : State := s.modHost h fun x => { x with tw := f x.tw }

/-- A port answers a frame at its address now: served, its clocks run, and SCL free (R307, R316, R317). -/
def State.twAwake (s : State) (p : TwNo) : Bool :=
  s.recorderUp && s.phase = .running && s.twServes p && decide (s.tw[p].st ≠ .asleep) && s.tw[p].stretch.isNone

/-- A frame whose source byte is acknowledged and that ends with P: a contact, then its effect (R309, R310). One that R281 refuses is
given N and has none. -/
def State.twFrame (s : State) (p : TwNo) (src : BitVec 7) (f : HostNo → State → State) : Out :=
  if s.twAwake p then
    let t := s.modTw p fun x => { x with st := .idle, frameUs := s.clk.timeUs }
    match t.contact (twKey p src) with
    | (some h, t) => settle s (f h t)
    | (none, t) => settle s t
  else .next s

/-- A frame error is counted and kept for the caller: 1 length, 2 PEC, 3 sequence (Table 15-4). -/
def State.frameFault (p : TwNo) (h : HostNo) (n : Nat) (s : State) : State :=
  (s.modTw p fun x =>
    { x with errLen := if n = 1 then wrap32 (x.errLen + 1) else x.errLen, errPec := if n = 2 then wrap32 (x.errPec + 1) else x.errPec
             errSeq := if n = 3 then wrap32 (x.errSeq + 1) else x.errSeq }).modCtx h fun c => { c with frameError := n }

/-- The bytes of a frame up to its source byte: address with the write bit, command, source (R307). -/
def State.frameHead (s : State) (p : TwNo) (cmd : Nat) (src : BitVec 7) : Bytes :=
  byte (2 * s.cfgN (0x2800 + p) 4) ++ byte cmd ++ byte (2 * src.toNat)

/-- Data and PEC of a fixed write of length `n`; none for any other number of bytes (R307). -/
def fixedBytes (n : Nat) (b : Bytes) : Option (Bytes × Option Byte) :=
  if b.length = n then some (b, none) else if b.length = n + 1 then some (b.take n, b.getLast?) else none

/-- Data, its COUNT byte first, and PEC of a counted write; none when the bytes do not match COUNT (R307, R314). -/
def countedBytes (b : Bytes) : Option (Bytes × Option Byte) := fixedBytes (numAt b 0 1 + 1) b

/-- A write frame (R307, R308): discarded for its length or its PEC, else its effect on the data. A PEC covers every byte before it. -/
def State.twWrite (s : State) (p : TwNo) (src : BitVec 7) (cmd : Nat) (parsed : Option (Bytes × Option Byte))
    (f : Bytes → HostNo → State → State) : Out :=
  s.twFrame p src fun h t =>
    match parsed with
    | none => t.frameFault p h 1
    | some (data, pec) =>
      let ok : Bool := match pec with
        | some x => decide (x = crc8 (t.frameHead p cmd src ++ data))
        | none => t.cfgN (0x2800 + p) 5 = 0
      if ok then f data h t else t.frameFault p h 2

/-- A read frame (R307 to R310): its data are fixed when the address after Sr is acknowledged; `n` bytes are clocked, the PEC after the
last of them when the controller wants it; and what it advances, it advances only when every announced byte was clocked. -/
def State.twRead (s : State) (p : TwNo) (src : BitVec 7) (cmd : Nat) (r : TwRead) (data : HostNo → State → Bytes × State)
    (done : HostNo → State → State) : Out :=
  s.twFrame p src fun h t =>
    match r with
    | .stop => t
    | .extra => t.frameFault p h 1
    | .clocked n =>
      let (b, u) := data h t
      let pec := crc8 (t.frameHead p cmd src ++ byte (2 * t.cfgN (0x2800 + p) 4 + 1) ++ b)
      let u := u.answer 0 ((b ++ [pec]).take n) b.length
      if b.length ≤ n then done h u else u

/-- A read frame that advances nothing. -/
def State.twShow (s : State) (p : TwNo) (src : BitVec 7) (cmd : Nat) (r : TwRead) (data : HostNo → State → Bytes) : Out :=
  s.twRead p src cmd r (fun h t => (data h t, t)) fun _ t => t

/-- The data of a counted read: COUNT first. -/
def withCount (b : Bytes) : Bytes := byte b.length ++ b

/-- Cursor and ring of a caller: what lies beyond it. -/
def State.beyond (s : State) (h : HostNo) : List Rec := fromCursor s.hosts[h].ringCursor s.recorder.ringGone s.recorder.ring

/-- The host's own sink holds a throttle request (Table 15-4). -/
def State.ownThrottled (s : State) (h : HostNo) : Bool :=
  match s.hosts[h].ownSink with
  | some k => decide (s.ledger.sinks[k].throttle ≠ 0)
  | none => false

/-- STATUS data (Table 15-4). -/
def State.statusBytes (h : HostNo) (s : State) : Bytes :=
  let x := s.hosts[h]
  let flags := b2n s.modes.safe + 2 * b2n s.ledger.now.shortfall + 4 * b2n (decide (x.tw.result = 1)) + 8 * b2n x.grantPending
    + 16 * b2n (s.ownThrottled h) + 32 * b2n (decide (s.beyond h ≠ []))
  byte ((s.modes.mode.map Mode.code).getD 0) ++ byte flags ++ byte x.tw.frameError ++ [0]

/-- STATUS (Table 15-4): the read clears the caller's frame error. -/
def execTwStatus (p : TwNo) (src : BitVec 7) (r : TwRead) (s : State) : Out :=
  s.twRead p src 0x01 r (fun h t => (t.statusBytes h, t)) fun h t => t.modCtx h fun c => { c with frameError := 0 }

/-! Dictionary (R311). -/

/-- What DICT_RESULT reports next: result 2 done, 3 refused, 1 pending (Table 15-5). -/
def TwCtx.report (op index sub code total : Nat) (c : TwCtx) : TwCtx :=
  { c with result := if code = 0 then 2 else 3, op := op, index := index, sub := sub, abort := code, total := total }

/-- A select-read: the copy from the offset, or its refusal (R303, R311). -/
def State.selectRead (h : HostNo) (index sub offset : Nat) (s : State) : State :=
  let c := s.hosts[h].tw
  let started : Bool := offset ≠ 0 && decide (c.op = 1 ∧ c.index = index ∧ c.sub = sub) && decide (copyLimit < c.first.length)
  let (code, b, s) := s.read h index sub
  let code := if code ≠ 0 then code else if started ∧ b ≠ c.first then 0x08000081 else if b.length < offset then 0x08000082 else 0
  let fail := decide (code ≠ 0)
  s.modCtx h fun c =>
    { c.report 1 index sub code (if fail then 0 else b.length) with
      selWrite := none, copy := if fail then [] else slice b offset copyLimit, first := if fail then [] else b }

/-- DICT_SELECT's data (R311): op, index, subindex, a reserved byte, offset. An op that is not listed, and a reserved byte that is not
0, are refused as an offset of a write is (log 93). -/
def State.dictSelect (p : TwNo) (b : Bytes) (h : HostNo) (s : State) : State :=
  let op := numAt b 0 1
  let index := numAt b 1 2
  let sub := numAt b 3 1
  let offset := numAt b 5 4
  let plain := decide (numAt b 4 1 = 0)
  if s.hosts[h].tw.result = 1 then s.frameFault p h 3
  else if op = 1 ∧ plain then s.selectRead h index sub offset
  else if op = 2 ∧ plain ∧ offset = 0 then
    s.modCtx h fun c => { c with selWrite := some (index, sub), buffer := [], bufferOver := false }
  else s.modCtx h fun c => { c.report op index sub 0x06090030 0 with selWrite := none }

/-- DICT_SELECT (R311). -/
def execDictSelect (p : TwNo) (src : BitVec 7) (bytes : Bytes) (s : State) : Out :=
  s.twWrite p src 0x10 (fixedBytes 9 bytes) (State.dictSelect p)

/-- The next bytes of the read copy; none when the last access was refused (R311). -/
def TwCtx.nextBytes (c : TwCtx) : Bytes := if c.result = 3 then [] else c.copy.take 255

/-- A DICT_READ frame whose data are ready (R309, R311). -/
def State.dictRead (s : State) (p : TwNo) (src : BitVec 7) (r : TwRead) : Out :=
  s.twRead p src 0x11 r (fun h t => (withCount t.hosts[h].tw.nextBytes, t)) fun h t =>
    t.modCtx h fun c => { c with copy := c.copy.drop c.nextBytes.length }

/-- The caller's access is pending: DICT_READ finds the port busy (R316). -/
def State.twBusy (s : State) (p : TwNo) (src : BitVec 7) : Bool :=
  match s.ctxOf (twKey p src) with
  | some h => decide (s.hosts[h].tw.result = 1)
  | none => false

/-- DICT_READ (R309, R311). While the port is busy, LIMITED holds SCL low for it, and NEVER gives N with nothing committed
(Table 15-6). -/
def execTwDictRead (p : TwNo) (src : BitVec 7) (r : TwRead) (s : State) : Out :=
  if s.twBusy p src then
    .next (if s.twAwake p ∧ s.twPolicy p = 0 then s.modTw p fun x => { x with stretch := some (src, r, s.clk.timeUs) } else s)
  else s.dictRead p src r

/-- LAST: the buffer as the whole value, as one access (R273). -/
def State.applyLast (h : HostNo) (index sub : Nat) (s : State) : State :=
  let c := s.hosts[h].tw
  let (code, t) := if c.bufferOver then (0x06070010, s) else s.write h index sub c.buffer
  t.modCtx h fun x =>
    let y := { x.report 2 index sub code 0 with selWrite := none, buffer := [], bufferOver := false }
    if code = 0 ∧ index = 0x1010 then { y with result := 1 } else y

/-- DICT_WRITE's data (R311): COUNT, flags, value bytes. They join the buffer; LAST applies it. -/
def State.dictWrite (p : TwNo) (b : Bytes) (h : HostNo) (s : State) : State :=
  let last := decide (numAt b 1 1 % 2 = 1)
  let data := b.drop 2
  match s.hosts[h].tw.selWrite with
  | none => s.frameFault p h 3
  | some (index, sub) =>
    if last ∧ s.hosts[h].tw.result = 1 then s.frameFault p h 3
    else
      let s := s.modCtx h fun c =>
        if 1024 < c.buffer.length + data.length then { c with bufferOver := true } else { c with buffer := c.buffer ++ data }
      if last then s.applyLast h index sub else s

/-- DICT_WRITE (R311, R314): COUNT 1 to 255. -/
def execTwDictWrite (p : TwNo) (src : BitVec 7) (bytes : Bytes) (s : State) : Out :=
  s.twWrite p src 0x12 ((countedBytes bytes).filter fun x => decide (2 ≤ x.1.length)) (State.dictWrite p)

/-- DICT_RESULT (Table 15-5). -/
def execDictResult (p : TwNo) (src : BitVec 7) (r : TwRead) (s : State) : Out :=
  s.twShow p src 0x13 r fun h t =>
    let c := t.hosts[h].tw
    byte c.result ++ byte c.op ++ le 2 c.index ++ byte c.sub ++ [0, 0, 0] ++ le 4 c.abort ++ le 4 c.total

/-! Events (R313). -/

/-- EVENT_CURSOR's data (R313): op 1 oldest, 2 newest, 3 a sequence number. -/
def State.eventCursor (p : TwNo) (b : Bytes) (h : HostNo) (s : State) : State :=
  let op := numAt b 0 1
  if op = 1 then (writeCursor h 0 s).2
  else if op = 2 then
    let n := newestOf s.recorder.ring
    (writeCursor h (if n = 0 then 0xFFFFFFFF else n) s).2
  else if op = 3 then
    let (code, u) := writeCursor h (numAt b 1 4) s
    if code = 0 then u else s.frameFault p h 3
  else s.frameFault p h 3

/-- EVENT_CURSOR (R313). -/
def execEventCursor (p : TwNo) (src : BitVec 7) (bytes : Bytes) (s : State) : Out :=
  s.twWrite p src 0x20 (fixedBytes 5 bytes) (State.eventCursor p)

/-- A block of EVENT_WINDOW: whole records within 254 bytes, or one of the two parts of a longer record; with it the cursor, the
record in parts and how much of it has been read. -/
def eventBlock (lost : Bool) (cursor gone partSeq part : Nat) (rs : List Rec) : Bytes × Nat × Nat × Nat :=
  let flag := 4 * b2n lost
  match rs with
  | [] => ([], cursor, partSeq, part)
  | r :: _ =>
    if 254 < r.size then
      if partSeq = r.seq ∧ part ≠ 0 then (byte (2 + flag) ++ r.bytes.drop part, seqNext r.seq, 0, 0)
      else (byte (1 + flag) ++ r.bytes.take 254, r.seq, r.seq, 254)
    else
      let out := fit 254 rs
      (byte (3 + flag) ++ out.flatMap Rec.bytes, cursorAfter cursor gone out, 0, 0)

/-- The records a window of a host gives: as many as fit 254 bytes, or one longer record in parts (R313). -/
def State.windowRecords (s : State) (h : HostNo) : List Rec :=
  match s.beyond h with
  | r :: rest => if 254 < r.size then [r] else fit 254 (r :: rest)
  | [] => []

/-- The block that EVENT_WINDOW gives a host, and where its cursor stands after it (R313). -/
def State.eventBlockOf (h : HostNo) (s : State) : Bytes × Nat × Nat × Nat :=
  let x := s.hosts[h]
  let gone := s.recorder.ringGone
  eventBlock (cursorLost x.ringCursor gone) x.ringCursor gone x.tw.partSeq x.tw.part (s.beyond h)

/-- The records of a window are closed when they are delivered (R349). -/
def State.closeWindow (h : HostNo) (s : State) : State :=
  let seqs : List Nat := (s.windowRecords h).map fun (r : Rec) => r.seq
  s.closeRecs (fun (r : Rec) => seqs.contains r.seq) false

/-- EVENT_WINDOW (R313): the cursor moves only when every byte was clocked (R309). -/
def execEventWindow (p : TwNo) (src : BitVec 7) (r : TwRead) (s : State) : Out :=
  s.twRead p src 0x21 r
    (fun h t => let t := t.closeWindow h; (withCount (t.eventBlockOf h).1, t))
    fun h t =>
      let (_, cursor, ps, n) := t.eventBlockOf h
      t.modHost h fun y => { y with ringCursor := cursor, tw := { y.tw with partSeq := ps, part := n } }

/-! Grants and alerts (R312, R314). -/

/-- The record of GRANT_REQUEST, after its COUNT byte, as a write to 2220:01; its refusal shows in DICT_RESULT with op 3 (R312). -/
def State.submitGrant (b : Bytes) (h : HostNo) (s : State) : State :=
  let (code, u) := s.write h 0x2220 1 (b.drop 1)
  u.modCtx h (TwCtx.report 3 0x2220 1 code 0)

/-- GRANT_REQUEST (R312, R314): COUNT 20 to 48. -/
def execTwGrantRequest (p : TwNo) (src : BitVec 7) (bytes : Bytes) (s : State) : Out :=
  s.twWrite p src 0x30 ((countedBytes bytes).filter fun x => decide (21 ≤ x.1.length ∧ x.1.length ≤ 49)) State.submitGrant

/-- GRANT_STATE (R312): the caller's result record. -/
def execGrantState (p : TwNo) (src : BitVec 7) (r : TwRead) (s : State) : Out :=
  s.twShow p src 0x31 r fun h t => withCount t.hosts[h].grantResult

/-- The sink that ALERT_CAUSE names (R312). -/
def State.alertSink (s : State) (p : TwNo) (h : HostNo) : Option SinkNo :=
  let out := pick 64 fun x => s.ledger.sinks[x].throttle ≠ 0
  match s.hosts[h].cls, s.hosts[h].ownSink with
  | .slt, some x => some x
  | _, _ => ((out.filter fun x => decide (s.slotPort x = some p)) ++ out).head?

/-- ALERT_CAUSE (Table 15-3): reading clears nothing. -/
def execAlertCause (p : TwNo) (src : BitVec 7) (r : TwRead) (s : State) : Out :=
  s.twShow p src 0x3E r fun h t =>
    match t.alertSink p h with
    | some x =>
      let k := t.ledger.sinks[x]
      byte x ++ byte k.throttle ++ le 2 (min 65535 k.targetW)
    | none => [0xFF#8, 0, 0, 0]

/-- PORT_INFO (Table 15-3). -/
def execPortInfo (p : TwNo) (src : BitVec 7) (r : TwRead) (s : State) : Out :=
  s.twShow p src 0x3F r fun h t =>
    let i := 0x2800 + (p : Nat)
    let speed := t.cfgN i 1
    byte p ++ byte (t.twPolicy p) ++ byte (if speed = 1000 then 2 else if speed = 400 then 1 else 0) ++ byte (t.cfgN i 5)
      ++ byte (t.cfgN i 4) ++ byte 1 ++ byte h ++ byte t.hosts[h].cls.code

/-- QUICK_COMMAND (Table 15-1): the address is acknowledged; no contact, no other effect. -/
def execQuickCommand (p : TwNo) (s : State) : Out :=
  .next (if s.twAwake p then s.modTw p fun x => { x with st := .idle, frameUs := s.clk.timeUs } else s)

/-- ALERT_RESPONSE (R312): while an alert is pending, the Alert Response Address is answered with TARGET_ADDR, and its PEC when that is
clocked. The alert clears when the byte was sent whole; a rival with a lower address wins the arbitration, and it stays. -/
def execAlertResponse (p : TwNo) (rival : Option (BitVec 7)) (pec : Bool) (s : State) : Out :=
  if s.twAwake p ∧ s.tw[p].alertPending then
    let own := s.cfgN (0x2800 + p) 4
    let b := byte (2 * own)
    let won : Bool := match rival with
      | some a => decide (own ≤ a.toNat)
      | none => true
    if won then
      let out := if pec then b ++ [crc8 ([0x19#8] ++ b)] else b
      .next ((s.answer 0 out 1).modTw p fun x => { x with alertPending := false })
    else .next s
  else .next s

/-- ERR_CMD (R310): N at the command byte; no context is touched. -/
def execErrCmd (p : TwNo) (s : State) : Out :=
  .next (if s.twAwake p then s.modTw p fun x => { x with errCmd := wrap32 (x.errCmd + 1) } else s)

/-! Bus errors, stretching and sleep (R315 to R317). -/

/-- A port that takes part in a transaction as target: served and not asleep, SCL held or not. -/
def State.twTarget (s : State) (p : TwNo) : Bool :=
  s.recorderUp && s.phase = .running && s.twServes p && decide (s.tw[p].st ≠ .asleep)

/-- TW_BUS_ERROR (R315): nothing is committed; the error is the caller's when its source byte was acknowledged. -/
def execTwBusError (p : TwNo) (src : Option (BitVec 7)) (s : State) : Out :=
  if s.twTarget p then
    let t := s.modTw p fun x => { x with stretch := none, frameUs := s.clk.timeUs }
    match src with
    | some a =>
      match t.ctxOf (twKey p a) with
      | some h => .next (t.frameFault p h 3)
      | none => .next (t.modTw p fun x => { x with errSeq := wrap32 (x.errSeq + 1) })
    | none => .next t
  else .next s

/-- STRETCH_LIMIT (Table 15-6): a stretch has reached 2 ms; SCL is released and the frame commits nothing. -/
def execStretchLimit (p : TwNo) (s : State) : Out :=
  match s.tw[p].stretch with
  | some (_, _, since) =>
    .next (if since + 2000 ≤ s.clk.timeUs then s.modTw p fun x => { x with stretch := none, frameUs := s.clk.timeUs } else s)
  | none => .next s

/-- Governing budget of a port: over the hosts reached through it (R35). -/
def State.portBudget (s : State) (p : TwNo) : Nat := s.governing fun x => x.key.kind = .twoWire && decide (x.key.port = (p : Nat))

/-- A regulator of a cell's slot is polled on port `p` (R321). -/
def State.polls (s : State) (p : TwNo) (c : CellNo) : Bool :=
  s.cells[c].role = .feeder && s.cells[c].feeder.st = .on && s.cell c 0x33 = (p : Nat) && s.cell c 0x50 ≠ 0 && s.cell c 0x51 ≠ 0

/-- The telemetry interval has passed since a slot's regulators were last polled (R321, R36). -/
def State.pollDue (s : State) (c : CellNo) : Bool := decide (s.cells[c].regUs + s.telemetryMs * 1000 ≤ s.clk.timeUs)

/-- A poll of a pack is due on TW11 (R202). -/
def State.packDue (s : State) (n : StringNo) : Bool :=
  s.string n 7 ≠ 0 && s.string n 8 ≠ 0
    && (decide (s.strings[n].pollUs + 1000000 ≤ s.clk.timeUs) || (s.string n 7 = 1 && decide (s.strings[n].tempUs + 10000000 ≤ s.clk.timeUs)))

/-- A poll is due on a port (R317). -/
def State.twPollDue (s : State) (p : TwNo) : Bool :=
  (pick 48 fun c => s.polls p c && s.pollDue c) ≠ [] || (decide ((p : Nat) = 11) && (pick 4 s.packDue) ≠ [])

/-- PORT_SLEEP (R317, Table 02-9): 5 ms without a frame addressed to the port, nothing queued, no alert pending and no poll due, and
the budget allows the wake. -/
def execPortSleep (p : TwNo) (s : State) : Out :=
  let x := s.tw[p]
  let slack := if s.twPolicy p = 0 then 1 else 10
  if s.recorderUp ∧ s.twShown p = .idle ∧ x.frameUs + 5000 ≤ s.clk.timeUs ∧ x.notifies = [] ∧ !x.alertPending ∧ !s.twPollDue p
      ∧ slack ≤ s.portBudget p then
    .next (s.modTw p fun x => { x with st := .asleep })
  else .next s

/-- ADDRESS_RECOGNISED_ASLEEP (R316, R317): the clocks start; under NEVER the waking address is given N, under LIMITED the frame is
served once they run. -/
def execAddressRecognisedAsleep (p : TwNo) (s : State) : Out :=
  .next (if s.recorderUp ∧ s.twServes p ∧ s.tw[p].st = .asleep then s.modTw p fun x => { x with st := .idle } else s)

/-! The OL4880 as controller (R318 to R320). -/

/-- The Host Notify at the front has received another N: after the third it is dropped (R318). -/
def State.notifyNack (p : TwNo) (s : State) : State :=
  match s.tw[p].notifies with
  | (x, cause) :: rest =>
    if s.tw[p].nacks < 2 then s.modTw p fun t => { t with nacks := t.nacks + 1 }
    else
      (s.modTw p fun t => { t with notifies := rest, nacks := 0, notifyFails := wrap32 (t.notifyFails + 1) }).event
        (srcManage (10 + p)) 0xA023 p (byte p ++ byte x ++ byte cause)
  | [] => s

/-- The Host Notify at the front goes out (R318). -/
def State.sendNotify (p : TwNo) (acked : Bool) (s : State) : State :=
  match s.tw[p].notifies with
  | (x, cause) :: rest =>
    let s := ((s.send (.notify p x cause)).twRan p).modTw p fun t => { t with notifyUs := s.clk.timeUs }
    if acked then s.modTw p fun t => { t with notifies := rest, nacks := 0 } else s.notifyNack p
  | [] => s

/-- HOST_NOTIFY (R318). -/
def execHostNotify (p : TwNo) (acked : Bool) (s : State) : Out :=
  .next (if s.twDrives p ∧ s.tw[p].nacks = 0 then s.sendNotify p acked else s)

/-- HOST_NOTIFY_RETRY (R318): 10 ms after an N, at most twice. -/
def execHostNotifyRetry (p : TwNo) (acked : Bool) (s : State) : Out :=
  .next (if s.twDrives p ∧ s.tw[p].nacks ≠ 0 ∧ s.tw[p].notifyUs + 10000 ≤ s.clk.timeUs then s.sendNotify p acked else s)

/-- TW_TIMEOUT (R320, Table 15-12): SCL low for 35 ms, as target; or, as controller, a transaction abandoned because the clock was held
low too long (log 93). -/
def execTwTimeout (p : TwNo) (controller : Bool) (s : State) : Out :=
  if (if controller then s.twDrives p else s.twTarget p) then
    .next ((s.modTw p fun x => { x with timeouts := wrap32 (x.timeouts + 1), stretch := none }).event (srcManage (10 + p)) 0xA022 p
      (byte p ++ byte (b2n controller)))
  else .next s

/-- BUS_RECOVERY (R320): an attempt to free SDA with up to 9 SCL pulses, at least 10 ms after the one before; `sda` holds its level
after each pulse. The third attempt that fails puts the port in fault. -/
def execBusRecovery (p : TwNo) (sda : List Bool) (s : State) : Out :=
  let x := s.tw[p]
  let now := s.clk.timeUs
  if s.twDrives p ∧ (x.attempts = 0 ∨ x.attemptUs + 10000 ≤ now) then
    if (sda.take 9).any id then .next (s.modTw p fun x => { x with attempts := 0 })
    else if x.attempts < 2 then .next (s.modTw p fun x => { x with attempts := x.attempts + 1, attemptUs := now })
    else
      .next ((s.modTw p fun x => { x with attempts := 0, st := .fault, notifies := [], nacks := 0, faultUs := now }).event
        (srcManage (10 + p)) 0xA020 p (byte p))
  else .next s

/-- PORT_FAULT_CHECK (R320): every 1 s the lines of a faulted port are checked; high for 10 ms, they end the fault. -/
def execPortFaultCheck (p : TwNo) (linesHigh : Bool) (s : State) : Out :=
  if s.recorderUp ∧ s.tw[p].st = .fault ∧ s.tw[p].faultUs + 1000000 ≤ s.clk.timeUs then
    if linesHigh then
      .next ((s.modTw p fun x => { x with st := .idle, recoveries := wrap32 (x.recoveries + 1) }).event (srcManage (10 + p)) 0xA021 p (byte p))
    else .next (s.modTw p fun x => { x with faultUs := s.clk.timeUs })
  else .next s

/-! Regulators (R321). -/

/-- Signed value of the low `n` bits of `v`. -/
def signed (n v : Nat) : Int :=
  let x := v % 2 ^ n
  if 2 ^ (n - 1) ≤ x then (x : Int) - 2 ^ n else x

/-- 2 to a signed power. -/
def pow2 (n : Int) : Rat := if 0 ≤ n then (2 : Rat) ^ n.toNat else 1 / (2 : Rat) ^ (-n).toNat

/-- A LINEAR11 word (R321). -/
def linear11 (w : BitVec 16) : Rat := (signed 11 w.toNat : Rat) * pow2 (signed 5 (w.toNat / 2048))

/-- A ULINEAR16 word with the exponent of VOUT_MODE (Table 15-7). -/
def ulinear16 (mode : Nat) (w : BitVec 16) : Rat := (w.toNat : Rat) * pow2 (signed 5 mode)

/-- A value as a 32-bit entry holds it. -/
def int32 (x : Rat) : Int := clampI (-2147483648) 2147483647 (quant x)

/-- VOUT_MODE is linear (R321). -/
def linearMode (mode : Nat) : Bool := mode / 32 % 8 = 0

/-- The data of a read of a regulator: `n` bytes, with a PEC after them when CAPABILITY reports it, covering the frame (R308, R321). -/
def regBytes (addr cmd n : Nat) (pec : Bool) (b : Bytes) : Option Bytes :=
  let d := b.take n
  let head := byte (2 * addr) ++ byte cmd ++ byte (2 * addr + 1)
  if b.length = n + b2n pec ∧ (!pec ∨ b.getLast? = some (crc8 (head ++ d))) then some d else none

/-- A read and its one repeat. -/
def regRead (addr cmd n : Nat) (pec : Bool) (t : Tries) : Option Bytes :=
  (t.first.bind (regBytes addr cmd n pec)) <|> (t.again.bind (regBytes addr cmd n pec))

/-- A read word. -/
def regWord (addr cmd : Nat) (pec : Bool) (t : Tries) : Option (BitVec 16) :=
  (regRead addr cmd 2 pec t).map fun b => BitVec.ofNat 16 (unle b)

/-- MFR_ID, a block read of at most 16 bytes with its count first (Table 15-7); nothing when it was not read. -/
def regBlock (addr : Nat) (pec : Bool) (t : Tries) : Bytes :=
  let one := fun (b : Bytes) => (regBytes addr 0x99 (numAt b 0 1 + 1) pec b).map fun d => (d.drop 1).take 16
  ((t.first.bind one) <|> (t.again.bind one)).getD []

/-- The values of a poll; in another format only STATUS_WORD is read. None when a read failed. -/
def Reg.load (a : RegAnswer) (x : Reg) : Option Reg :=
  let word := fun cmd t => regWord x.addr cmd x.pec t
  match word 0x79 a.statusWord with
  | none => none
  | some status =>
    let x := { x with status := status.toNat, failRun := 0, st := if linearMode x.mode then 1 else 3 }
    if !linearMode x.mode then some x
    else
      match word 0x88 a.vin, word 0x8B a.vout, word 0x8C a.iout, word 0x8D a.temp, word 0x96 a.pout with
      | some vin, some vout, some iout, some temp, some pout =>
        some { x with vout := int32 (1000 * ulinear16 x.mode vout), iout := int32 (1000 * linear11 iout), vin := int32 (1000 * linear11 vin)
                      temp := clampI (-32768) 32767 (quant (10 * linear11 temp)), pout := int32 (1000 * linear11 pout) }
      | _, _, _, _, _ => none

/-- Change regulator index `r`. -/
def State.modReg (s : State) (r : Fin 256) (f : Reg → Reg) : State := { s with regs := s.regs.set r (f s.regs[r]) }

/-- Index of the regulator at an address of a cell's slot. -/
def State.regAt (s : State) (c : CellNo) (addr : Nat) : Option (Fin 256) :=
  (pick 256 fun r => s.regLive s.regs[r] && decide (s.regs[r].cell = (c : Nat)) && decide (s.regs[r].addr = addr)).head?

/-- A poll of a discovered regulator has failed: three in succession lose it (R321). -/
def State.pollFailed (r : Fin 256) (s : State) : State :=
  let s := s.modReg r fun x => { x with fails := wrap32 (x.fails + 1), failRun := x.failRun + 1 }
  let x := s.regs[r]
  if x.failRun = 3 then
    (s.modReg r fun x => { x with st := 2 }).event (srcManage (10 + x.port)) 0xA025 x.port (byte x.port ++ byte x.addr ++ byte r)
  else s

/-- A poll of a discovered regulator: its values, with event 0xA029 when STATUS_WORD has changed since the last; or a failed poll. -/
def State.pollKnown (r : Fin 256) (a : RegAnswer) (first : Bool) (s : State) : State :=
  let x := s.regs[r]
  match x.load a with
  | some y =>
    let s := s.modReg r fun _ => y
    if first ∨ y.status = x.status then s else s.event (srcManage (10 + x.port)) 0xA029 x.port (byte r ++ le 2 y.status)
  | none => s.pollFailed r

/-- An address not yet discovered is probed with PMBUS_REVISION, CAPABILITY and VOUT_MODE: a regulator that answers takes the lowest free
index, its MFR_ID is read, and its first poll follows (log 94); with no index free, event 0xA027. -/
def State.discover (c : CellNo) (p : TwNo) (a : RegAnswer) (s : State) : State :=
  let probe := fun cmd t => regRead a.addr cmd 1 false t
  match probe 0x98 a.revision, probe 0x19 a.capability, probe 0x20 a.voutMode with
  | some _, some cap, some vm =>
    match (pick 256 fun r => !s.regLive s.regs[r]).head? with
    | some r =>
      let mode := unle vm
      let pec := bit (unle cap) 7
      let x : Reg := { Reg.reset with st := if linearMode mode then 1 else 3, cell := c, epoch := s.cells[c].feeder.onCount, port := p
                                      addr := a.addr, slot := s.cell c 0x35, mode := mode, pec := pec, mfr := regBlock a.addr pec a.mfrId }
      let s := (s.modReg r fun _ => x).event (srcManage (10 + p)) 0xA024 p (byte p ++ byte a.addr ++ byte r)
      let s := if linearMode mode then s else s.event (srcManage (10 + p)) 0xA026 p (byte p ++ byte a.addr ++ byte mode)
      s.pollKnown r a true
    | none => s.event (srcManage (10 + p)) 0xA027 p (byte p ++ byte a.addr)
  | _, _, _ => s

/-- One address of a poll. -/
def State.pollReg (c : CellNo) (p : TwNo) (answers : List RegAnswer) (addr : Nat) (s : State) : State :=
  match s.regAt c addr, answers.find? fun a => decide (a.addr = addr) with
  | some r, some a => s.pollKnown r a false
  | some r, none => s.pollFailed r
  | none, some a => s.discover c p a
  | none, none => s

/-- REGULATOR_POLL (R321): while the feeder is ON, once per telemetry interval in force. -/
def execRegulatorPoll (c : CellNo) (answers : List RegAnswer) (s : State) : Out :=
  match toFin? 12 (s.cell c 0x33) with
  | some p =>
    if s.polls p c ∧ s.pollDue c ∧ s.twDrives p then
      let first := s.cell c 0x50
      let t := (s.twRan p).modCell c fun x => { x with regUs := s.clk.timeUs }
      .next (t.over ((List.range (s.cell c 0x51)).map (· + first)) fun a u => u.pollReg c p answers a)
    else .next s
  | none => .next s

/-- ARBITRATION_LOST (R319): each loss is counted; after three in succession the transaction is abandoned: a Host Notify with one N, a
poll as failed. Whether the port then serves its own address is the frame that follows. -/
def execArbitrationLost (p : TwNo) (own : OwnFrame) (s : State) : Out :=
  if s.twDrives p then
    let t := s.modTw p fun x => { x with arbLost := wrap32 (x.arbLost + 1), arbRun := x.arbRun + 1 }
    if t.tw[p].arbRun < 3 then .next t
    else
      let t := t.modTw p fun x => { x with arbRun := 0 }
      match own with
      | .notify => .next ((t.modTw p fun x => { x with notifyUs := t.clk.timeUs }).notifyNack p)
      | .poll c addr =>
        match t.regAt c addr with
        | some r => .next (t.pollFailed r)
        | none => .next t
  else .next s

end Sys2Proof.Machine
end

