-- ==== Sys2Proof/Machine/Store.lean ====
section
/-! DEFINITION. Machine/Store.lean: the commit of a store (R299) and the adoption points of agreement sets (R295, R297). -/

namespace Sys2Proof.Machine

/-- The image takes the place of the older copy and is in force (R299). -/
def DictState.commitImage (i : Image) (d : DictState) : DictState :=
  let d := if copySeq d.imageA ≤ copySeq d.imageB then { d with imageA := some i } else { d with imageB := some i }
  { d with imageInForce := some i }

/-- Restores that a store of a scope leaves pending (R299): those of the parts that it does not cover. -/
def restoreAfter (scope : Nat) (r : BitVec 8) : BitVec 8 :=
  let own := BitVec.ofNat 8 (2 ^ (scope - 1))
  if scope = 1 then 0#8
  else if r.getLsbD 0 then (r ||| 0b1110#8) &&& ~~~ own &&& 0b1110#8
  else r &&& ~~~ own

/-- Event 0xB010 of a written image. -/
def State.storeEvent (scope : Nat) (i : Image) (s : State) : State :=
  s.event (srcManage 6) 0xB010 0xFF (byte scope ++ le 4 i.seq ++ le 4 (imageBytes i.seq i.vals).length)

/-- A two-wire read frame for which SCL was held goes on once its caller's access has ended (Table 15-6). -/
def State.endStretch (k : Key) (s : State) : State :=
  s.onFin 12 k.port fun p t =>
    match t.tw[p].stretch with
    | some (src, r, _) =>
      if src.toNat ≠ k.addr then t
      else
        let t := t.modTw p fun x => { x with stretch := none }
        match t.dictRead p src r with
        | .next u => u
        | _ => t
    | none => t

/-- The answer of a store to its writer. -/
def State.answerStore (k : Key) (s : State) : State :=
  match k.kind with
  | .twoWire =>
    match s.ctxOf k with
    | some h => (s.modCtx h fun c => { c with result := 2 }).endStretch k
    | none => s
  | .dap => s.onFin 2 k.addr fun d t => t.endDap d 0
  | .service => (s.modSession fun x => { x with lastReply := { code := 0, data := [], total := 0 } }).answer 0 [] 0
  | _ => s.answer 0 [] 0

/-- STORE_WRITTEN (R299): the copy is committed `ms` after the save, event 0xB010 recorded, and the save answered. A store waits
for a last-gasp record under way (Table 14-11). -/
def execStoreWritten (ms : Nat) (s : State) : Out :=
  if s.manage = .running ∧ s.seq.gaspPending = none ∧ s.seq.settlePending = none then
    match s.dict.storing with
    | some (scope, i, k) =>
      let t := s.modDict fun d => { d.commitImage i with storing := none, restore := restoreAfter scope d.restore, lastStoreMs := ms }
      .next ((t.storeEvent scope i).answerStore k)
    | none => .next s
  else .next s

/-- Largest instance of a set. -/
def setCount (set : Nat) : Nat :=
  if set = 2 then 6 else if set = 3 ∨ set = 4 ∨ set = 0x14 then 16 else if set = 5 then 24
  else if set = 0xC ∨ set = 0xD ∨ set = 0xE ∨ set = 0xF then 4 else if set = 0x10 then 32 else if set = 0x11 then 22
  else if set = 0x12 then 1 else if set = 0x13 then 2 else 48

/-- AGREEMENT_ADOPTION (R295, R297): a set at its adoption point. Roles wait for COMMIT (R58), rail delays for a common start (R226)
and port rates for a reset communication (R287), which are rows of their own. -/
def execAgreementAdoption (set inst band : Nat) (s : State) : Out :=
  if setCount set ≤ inst then .next s
  else if set = 6 ∨ set = 7 ∨ set = 9 then .next (s.onFin 48 inst State.feederAdopt)
  else if set = 0xE ∨ set = 0xF then (if band < 6 then .next (s.adoptSet ⟨set, inst, band⟩) else .next s)
  else if set = 0 ∨ set = 1 ∨ set = 0x10 ∨ set = 0x13 ∨ 0x14 < set then .next s
  else .next (s.adoptSet ⟨set, inst, 0xFF⟩)

end Sys2Proof.Machine
end

