-- ==== Sys2Proof/Machine/Reset.lean ====
section
/-! DEFINITION. Machine/Reset.lean: cold reset, boot and the load of the stored image (R301, R367, R384, R386), warm reset and restart of
MANAGE (R270, R351, R385), and the wake of MANAGE by a host (R36). -/

namespace Sys2Proof.Machine

/-! Cold reset (Table 19-6). -/

/-- A store under way leaves its copy torn: it fails its CRC at the next load (Table 14-11). -/
def DictState.tear (d : DictState) : DictState :=
  match d.storing with
  | some (_, i, _) =>
    let bad := some { i with crc := (i.crc + 1) % 0x100000000 }
    let d := { d with storing := none }
    if copySeq d.imageA ≤ copySeq d.imageB then { d with imageA := bad } else { d with imageB := bad }
  | none => d

/-- The later of two sequence numbers in the window comparison of R347. -/
def seqMax (a b : Nat) : Nat := if seqLe a b then b else a

/-- A copy that was being written fails its CRC. -/
def Reserve.tear (r : Reserve) : Reserve := { r with crc := (r.crc + 1) % 0x100000000 }

/-- MRAM writes of the recorder that a cold reset may cut (R347, R352): `cut` says whether it did; a torn append leaves an entry that
fails its CRC, a torn limit the other copy in force. -/
def Recorder.cutWrites (cut : Bool) (q : Recorder) : Recorder :=
  if !cut then q
  else
    let q := if q.appendDue = [] then q else { q with torn := q.torn + 1 }
    if !q.reserveDue then q
    else if q.reserveA.order ≤ q.reserveB.order then { q with reserveA := q.reserveA.tear } else { q with reserveB := q.reserveB.tear }

/-- The recorder after a cold reset: the ring is empty, the Peat core stands, numbering goes on above everything found (R347, R352). -/
def Recorder.afterCold (gaspLost cut : Bool) (q : Recorder) : Recorder :=
  let q := q.cutWrites cut
  let gasps := if gaspLost then q.gasps.take 7 else q.gasps
  let found := (q.log.map (·.seq) ++ gasps.map fun b => numAt b 4 4).filter fun n => decide (n ≠ 0)
  let next := found.foldl (fun m n => seqMax m (seqNext n)) q.limitFound
  { Recorder.reset with nextSeq := next, limit := q.limitFound, reserveA := q.reserveA, reserveB := q.reserveB, reserveDue := true
                        log := q.log, torn := q.torn, gasps := gasps
                        ringGone := if next = 1 then 0xFFFFFFFE else next - 1, peatGone := q.peatGone }

/-- Everything that a cold reset keeps (Table 19-6): MRAM, and the model's own queue, counter and sent messages. Whether it cuts a write of
the recorder is a free value (log 3). -/
def State.afterCold (cause : ColdCause) (supplyFault : BitVec 6) (s : State) : State :=
  let r := State.reset
  let d := s.dict.tear
  let (n, u) := s.fresh
  let fault := if cause = .supply then supplyFault else if cause = .rstN then s.clk.supplyFault else 0#6
  { r with
    pending := s.pending, freeCount := u.freeCount, sent := s.sent
    clk := { r.clk with resetCause := cause, supplyFault := fault, bootCount := wrap32 (s.clk.bootCount + 1) }
    cells := Vector.ofFn fun (c : CellNo) => { r.cells[c] with calA := s.cells[c].calA, calB := s.cells[c].calB }
    packs := s.packs
    dict := { r.dict with imageA := d.imageA, imageB := d.imageB, restore := d.restore }
    recorder := s.recorder.afterCold (s.seq.gaspPending.isSome || s.seq.settlePending.isSome) (bit n 0)
    fw := { r.fw with slots := s.fw.slots, keys := s.fw.keys, secVersion := s.fw.secVersion, active := s.fw.active } }

/-- COLD_RESET (R384): the whole device, from any state. -/
def execColdReset (cause : ColdCause) (supplyFault : BitVec 6) (s : State) : Out := .next (s.afterCold cause supplyFault)

/-! The load of the stored image (R301). -/

/-- A pending restore of scope `n` writes a copy without the entries of that scope. -/
def State.applyRestore (n : Nat) (s : State) : State :=
  if s.dict.restore.getLsbD (n - 1) then
    let old := if copySeq s.dict.imageA ≤ copySeq s.dict.imageB then s.dict.imageB else s.dict.imageA
    let vals := match old with
      | some i => if i.ok then i.vals.filter fun p => !inScope n (p.1 / 256) else []
      | none => []
    let i := s.dict.sealImage vals
    let s := s.modDict fun d => { d.commitImage i with restore := d.restore &&& ~~~BitVec.ofNat 8 (2 ^ (n - 1)) }
    s.storeEvent n i
  else s

/-- Event 0xB011 of a copy that fails its CRC. -/
def State.copyFailed (n : Nat) (o : Option Image) (s : State) : State :=
  match o with
  | some i => if i.ok then s else s.event (srcManage 6) 0xB011 0xFF (byte n ++ le 4 i.seq)
  | none => s

/-- Enabling entries, which are applied last. -/
def enabling (k : Nat) : Bool :=
  let i := k / 256
  let n := k % 256
  (decide (0x3100 ≤ i ∧ i < 0x3110) && n = 2) || (decide (0x3000 ≤ i ∧ i < 0x3030) && (n = 0x20 || n = 0x40))
    || (decide (0x3200 ≤ i ∧ i < 0x3218) && n = 2) || (decide (0x3300 ≤ i ∧ i < 0x3304) && n = 1)

/-- The key of 3100+k:0A ACTIVE_SET, whose stored value is the set to resume (R298). -/
def activeSetKey (k : Nat) : Bool := decide (0x3100 ≤ k / 256 ∧ k / 256 < 0x3110) && k % 256 = 0xA

/-- An enabling entry is written under its own rule. -/
def State.applyEnable (k : Nat) (v : Nat) (s : State) : State :=
  let i := k / 256
  let n := k % 256
  let (code, t) : Nat × State :=
    match inst? 0x3000 48 i with
    | some c => if n = 0x20 then writeFeedEnable c v s else writeOrEnable c v s
    | none =>
      match inst? 0x3100 16 i with
      | some k => writeEnable k v s
      | none =>
        match inst? 0x3200 24 i with
        | some g => writeGroupEnable g v s
        | none =>
          match inst? 0x3300 4 i with
          | some m => writeStringEnable m v s
          | none => (0, s)
  if code = 0 then t else s.event (srcManage 0) 0xB013 0xFF (le 2 i ++ byte n ++ le 4 code)

/-- Written values from the image, the values in force of the sets that agree, and every other set pending with its defaults. -/
def State.loadValues (vals : Dict) (s : State) : State :=
  let known := vals.filter fun p => isStored (p.1 / 256) (p.1 % 256)
  let plain := known.filter fun p => !enabling p.1 && !activeSetKey p.1
  let s := s.modDict fun d => { d with written := plain, force := [], pending := [], wasPending := [] }
  let s := s.over plain fun p t => t.over (t.setsOf (p.1 / 256) (p.1 % 256)) State.testSet
  let late := plain.filter fun p =>
    (match entryOf (p.1 / 256) (p.1 % 256) with
      | some e => e.late
      | none => false) && s.entryFree (p.1 / 256) (p.1 % 256)
  let s := s.modDict fun d => { d with force := late }
  s.over (known.filter fun p => activeSetKey p.1) fun p t => t.onFin 16 (p.1 / 256 - 0x3100) fun k u =>
    u.modLoop k fun l =>
      let n : SetName := if p.2 = 1 then .set1 else .set0
      { l with setInForce := n, resumeSet := n, activeCode := p.2.toNat }

/-- The image is loaded: the newer copy that passes, or defaults. -/
def State.loadImage (s : State) : State :=
  let s := ((((s.applyRestore 1).applyRestore 2).applyRestore 3).applyRestore 4)
  let a := s.dict.imageA
  let b := s.dict.imageB
  let s := (s.copyFailed 0 a).copyFailed 1 b
  if copySeq a = 0 ∧ copySeq b = 0 then s.event (srcManage 6) 0xB012 0xFF []
  else
    match if copySeq a < copySeq b then b else a with
    | some i => (s.modDict fun d => { d with imageInForce := some i }).loadValues i.vals
    | none => s

/-- The enabling entries of the image, judged one by one against the values in force. -/
def State.loadEnables (s : State) : State :=
  match s.dict.imageInForce with
  | some i => s.over (i.vals.filter fun p => enabling p.1 && decide (p.2 ≠ 0)) fun p t => t.applyEnable p.1 p.2.toNat
  | none => s

/-! Boot (R367, R368). -/

/-- Event 0xB003 of a part that failed its self-test (R342). Which number stands for a checker, and for the bank of a memory without
banks, the spec does not say: free values (log 3). -/
def State.memFailed (f : MemFail) (s : State) : State :=
  let (x, t) := s.fresh
  let (y, u) := t.fresh
  match f with
  | .bank b => s.event (srcManage 4) 0xB003 0xFF (byte 0 ++ byte b)
  | .mothTrap => t.event (srcManage 5) 0xB003 0xFF (byte 1 ++ byte x)
  | .loopMemory => t.event (srcLoop 7) 0xB003 0xFF (byte 2 ++ byte x)
  | .checker => u.event (srcManage 4) 0xB003 0xFF (byte x ++ byte y)

/-- A failure after which the LOOP region is not started (Table 16-8). -/
def MemFail.fatal : MemFail → Bool
  | .bank b => decide ((b : Nat) < 5)
  | .loopMemory => true
  | .checker => true
  | .mothTrap => false

/-- The slot that boots (R367): a TRIAL slot whose trial has not begun, when it passes, else the first CONFIRMED slot that passes. -/
def State.chooseSlot (s : State) : Option FwSlot :=
  let plain := s.fw.confirmed.find? fun i => s.fw.bootOk i
  match s.fw.trialSlot with
  | some t => if !s.fw.slots[t].trialBegun ∧ s.fw.bootOk t then some t else plain
  | none => plain

/-- What a TRIAL slot comes to at a boot: its trial begins, or falls back for a reset during it (cause 0x03) or a failed check
(cause 0x05). -/
def State.bootTrial (s : State) : State :=
  match s.fw.trialSlot with
  | some t =>
    if s.fw.slots[t].trialBegun then s.failTrial 3 t
    else if s.fw.bootOk t then s.beginTrial t
    else s.failTrial 5 t
  | none => s

/-- A CAN port after a cold reset or an NMT reset: its boot-up message, and pre-operational (R270). -/
def State.portBoot (p : CanNo) (s : State) : State :=
  let s := s.modCan p fun x => { x with nmt := .preOperational }
  if s.canUp p ∧ s.can[p].port ≠ .off then (s.send (.bootUp p)).modCan p fun x => { x with beatUs := s.clk.timeUs } else s

/-- The roles in force start, with nothing enabled yet (R60, R61). -/
def State.bootCell (c : CellNo) (s : State) : State :=
  let role := Role.ofCode (s.cell c 1)
  let pins := pinModeOf (s.cell c 2)
  ((s.modCell c fun x => { x with role := role, pinMode := pins }).calCheck c).startRole c

/-- What a boot finds (R367, R368): the memory tests' result, the clocks locked to XIN, the crystal, and BOOTSEL. -/
def State.bootStart (bootsel : Fin 4) (fails : List MemFail) (crystalOk : Bool) (s : State) : State :=
  let s := { s with manage := .running, badBanks := fails }
  let s := s.modClk fun k => { k with xin := true, pllS := true, pllL := true, pllH := true, wclkCrystal := crystalOk }
  s.modFw fun w => { w with bootsel := bootsel }

/-- Why a boot enters recovery (R368): BOOTSEL, a bank of MANAGE that failed, or no image that passes; none when it boots. -/
def State.recoveryReason (s : State) : Option Nat :=
  if s.fw.bootsel ≠ 0 then some 0 else if s.badBanks.any MemFail.fatal then some 2 else if s.chooseSlot.isNone then some 1 else none

/-- Event 0xD020 with the cause of the reset. -/
def State.resetEvent (s : State) : State :=
  s.event (srcWatch 0) 0xD020 0xFF (byte (ColdCause.code s.clk.resetCause) ++ byte s.clk.supplyFault.toNat)

/-- The scan of the Peat log (R352): entries that fail their CRC are skipped, and event 0xB033 counts them. -/
def State.scanLog (s : State) : State :=
  if s.recorder.torn = 0 then s else s.event (srcManage 23) 0xB033 0xFF (le 4 s.recorder.torn)

/-- Recovery (R368): the CAN ports are off, and only Fafort is served. -/
def State.recover (why : Nat) (s : State) : State :=
  let t := { s with phase := .recovery, can := Vector.ofFn fun (p : CanNo) => { s.can[p] with port := .off } }
  let t := (t.event (srcManage 0) 0xC040 0xFF (byte s.fw.bootsel ++ byte why)).resetEvent
  (t.over s.badBanks State.memFailed).loadImage.scanLog

/-- The boot of the image of a slot (R367, R386). -/
def State.bootFrom (slot : Fin 2) (laneA laneB : LaneTest) (s : State) : State :=
  let fails := s.badBanks
  let s := { s with phase := .booted }
  let s := (s.modFw fun w => { w with active := slot }).resetEvent.over fails State.memFailed
  let s := s.loadImage.scanLog.bootTrial
  let s := s.modBus fun b => { b with vSetMv := s.cfgN 0x2231 7 }
  let s := (s.each 48 State.bootCell).modPins fun p => { p with safeN := true }
  let s := s.modModes fun m => { m with profile := s.profileNow }
  let s := (s.each 16 fun k t => t.modLoop k fun l => { l with capacityW := t.capacity k }).loadEnables
  let s := s.lanesStart.decideLanes laneA laneB 0
  s.startCores.armWatchdog.each 2 State.portBoot

/-- BOOT (R367, R368, R386): the clocks run, BOOTSEL is sampled, the self-test and the slots are judged; then a normal boot or
recovery. -/
def execBoot (bootsel : Fin 4) (fails : List MemFail) (crystalOk : Bool) (laneA laneB : LaneTest) (s : State) : Out :=
  if s.phase = .held then
    let s := s.bootStart bootsel fails crystalOk
    match s.recoveryReason with
    | some why => .next (s.recover why)
    | none => .next (s.bootFrom (s.chooseSlot.getD 0) laneA laneB)
  else .next s

/-- MANAGE goes into warm reset: sessions, selections and stores are lost, its cores and the ICU reset; LOOP, CHANNEL and WATCH run
on. -/
def State.warmReset (cause : Nat) (s : State) : State :=
  let s := (s.endSession.closeRecs (fun _ => true) false).modDict DictState.tear
  let s := s.modClk fun k => { k with warmCause := cause, warmResets := wrap32 (k.warmResets + 1) }
  let s := s.modFw fun w => { w with session := Session.reset, activating := none }
  State.cutChannels { s with
    manage := .warmReset, scrubOrder := [], cores := Vector.replicate 4 Core.reset, srcs := Vector.replicate 160 Src.reset
    dap := Vector.replicate 2 Dap.reset, tpdoInhibit := Vector.replicate 32 false, tpdoDue := Vector.replicate 32 false
    tpdoSync := Vector.replicate 32 0
    can := s.can.map (fun x => { x with nmt := if cause = 1 then .initialising else x.nmt, inhibited := false, emcyQueue := [], lost := [], heard := [],
                                        port := if x.port = .off then .off else .active }) }

/-- WATCHDOG_EXPIRY (R385): a service core has not serviced it within WATCHDOG_MS, which have passed at least since it was armed; disarmed
in record mode, in DORMANT and while MANAGE does not run. -/
def execWatchdogExpiry (_core : Fin 2) (s : State) : Out :=
  if s.manage = .running ∧ (s.phase = .booted ∨ s.phase = .running) ∧ !s.seq.recordMode ∧ !s.dormant
      ∧ s.clk.armedUs + s.cfgN 0x2000 0x16 * 1000 ≤ s.clk.timeUs then settle s (s.warmReset 3)
  else .next s

/-- What becomes of a trial when MANAGE restarts (R364 to R366): an activated slot begins its trial or fails its check; a running
trial falls back with cause 0x04. -/
def State.restartTrial (s : State) : State :=
  match s.fw.trial, s.fw.trialSlot with
  | some t, _ => s.failTrial 4 t
  | none, some t =>
    if s.fw.slots[t].trialBegun ∨ s.clk.warmCause ≠ 2 then s
    else if s.fw.bootOk t then s.beginTrial t
    else s.failTrial 5 t
  | none, none => s

/-- A CAN port after a warm reset (R270, Table 18-6). -/
def State.portResume (p : CanNo) (s : State) : State :=
  let cause := s.clk.warmCause
  let s :=
    if cause = 1 then s.portBoot p
    else if (cause = 2 ∨ cause = 4) ∧ s.canUp p ∧ s.can[p].port ≠ .off then s.sendBeat p
    else s
  s.emcyOn p 0xFF51 (byte (if cause = 1 then 1 else if cause = 3 then 3 else 2))

/-- Throttle requests that began while MANAGE was down reach their hosts (Table 08-7). -/
def State.tellHeld (s : State) : State :=
  let held := s.ledger.heldBack
  (s.modLedger fun l => { l with heldBack := [] }).over held fun h t =>
    if t.ledger.sinks[h.1].throttle ≠ 0 then t.tellThrottle h.1 h.2.1 h.2.2 else t

/-- MANAGE_RESTART (R351, Table 18-6): event 0xD021 first, then the queue of the LOOP region; then the ports resume. -/
def execManageRestart (s : State) : Out :=
  if s.manage = .warmReset ∧ s.phase ≠ .held then
    let t := { s with manage := .running, srcs := s.srcs.map fun (x : Src) => { x with waiting := 0 } }
    let t := t.event (srcManage 0) 0xD021 0xFF (byte t.clk.warmCause)
    let t := if t.recorderUp then t.drainQueue else t
    settle s (((t.restartTrial.startCores.armWatchdog.each 2 State.portResume).each 2 State.rejoin).tellHeld)
  else .next s

/-! The wake by a host (R36, R283). -/

/-- A failure of one of MANAGE's SRAM banks (R368). -/
def MemFail.isBank (f : MemFail) : Bool :=
  match f with
  | .bank _ => true
  | _ => false

/-- HOST_WAKE: a host wakes MANAGE from Cocoon in DORMANT and receives a context; from deep Cocoon the boot ROM first tests system
SRAM (R342), and a bad bank of base firmware leaves the part in recovery (Table 16-8). -/
def execHostWake (who : Key) (fails : List MemFail) (s : State) : Out :=
  if s.dormant ∧ (s.manage = .shallow ∨ s.manage = .deep) ∧ keyOk who then
    let deep := decide (s.manage = .deep)
    let banks := fails.filter MemFail.isBank
    let others := s.badBanks.filter fun f => !MemFail.isBank f
    let t : State := if deep then { s with badBanks := banks ++ others } else s
    if deep ∧ banks.any MemFail.fatal then
      let t := { t with manage := .running, phase := .recovery, can := t.can.map (fun (x : Can) => { x with port := CanState.off }) }
      let t := (t.each 48 fun c u => u.modCell c Cell.outputsLow).modModes fun m => { m with mode := none }
      let t := t.modPins fun p => { p with safeN := false, laneAct := false }
      let t := t.event (srcManage 0) 0xC040 0xFF (byte t.fw.bootsel ++ byte 2)
      settle s (t.over banks State.memFailed)
    else
      let t := t.wakeManage
      let t := if deep then t.over banks State.memFailed else t
      settle s (t.contact who).2
  else .next s

end Sys2Proof.Machine
end

