-- ==== Sys2Proof/Machine/Can.lean ====
section
/-! DEFINITION. Machine/Can.lean: the CAN ports: bus-off, NMT, heartbeats, SYNC, TIME, LSS and PDOs (R268 to R276). -/

namespace Sys2Proof.Machine

/-- A port takes part in its bus: MANAGE runs outside record mode and recovery, and the port is neither off nor bus-off. -/
def State.onBus (s : State) (p : CanNo) : Bool :=
  s.recorderUp && decide (s.phase = .booted ∨ s.phase = .running) && (s.can[p].port = .active || s.can[p].port = .passive)

/-- A port on its bus that answers more than LSS (R271). -/
def State.canLive (s : State) (p : CanNo) : Bool := s.onBus p && s.canUp p

/-- CAN_BUS_OFF (R268). -/
def execCanBusOff (p : CanNo) (s : State) : Out :=
  if s.onBus p then
    let t := s.modCan p fun x => { x with port := .busOff, busOffCount := wrap32 (x.busOffCount + 1) }
    settle s (t.event (srcManage (8 + p)) 0xA001 p (byte p))
  else .next s

/-- BUS_OFF_RECOVERY (R268, Table 13-4). -/
def execBusOffRecovery (p : CanNo) (s : State) : Out :=
  if s.can[p].port = .busOff ∧ s.manage = .running then
    settle s ((s.modCan p fun x => { x with port := .active }).emcy 0x8140 (byte (s.can[p].busOffCount % 256)))
  else .next s

/-- ERROR_PASSIVE (R278): into or out of error-passive. -/
def execErrorPassive (p : CanNo) (into : Bool) (s : State) : Out :=
  if s.onBus p then settle s (s.modCan p fun x => { x with port := if into then .passive else .active }) else .next s

/-! NMT (R270). -/

/-- NMT_RESET_NODE (R270): a MANAGE warm reset of both ports. -/
def execNmtResetNode (p : CanNo) (s : State) : Out := if s.canLive p then settle s (s.warmReset 1) else .next s

/-- A host reaches the part through CAN port `p`. -/
def onPort (p : CanNo) (k : Key) : Bool := (k.kind = .usdo || k.kind = .sdo) && decide (k.port = (p : Nat))

/-- The port is initialised again (R270, R287): its sessions are aborted and its entries come into force; contexts stay. -/
def State.reinitPort (p : CanNo) (s : State) : State :=
  let i := 0x2102 + (p : Nat)
  let s := { s with hosts := s.hosts.map fun (x : HostCtx) => if onPort p x.key then { x with sessions := [] } else x }
  let s := ((s.adoptEntry i 1).adoptEntry i 5).adoptEntry i 6
  let s := s.adoptSet ⟨0x13, p, 0xFF⟩
  (s.modCan p fun x => { x with port := .active, inhibited := false, emcyQueue := [], lost := [], heard := [] }).portBoot p

/-- NMT_RESET_COMMUNICATION (R270). -/
def execNmtResetCommunication (p : CanNo) (s : State) : Out := if s.canLive p then settle s (s.reinitPort p) else .next s

/-- A port's NMT state changes; nothing else does (R270). -/
def State.setNmt (p : CanNo) (n : Nmt) (s : State) : State := s.modCan p fun x => { x with nmt := n }

/-- NMT_START (R270). -/
def execNmtStart (p : CanNo) (s : State) : Out := if s.canLive p then .next (s.setNmt p .operational) else .next s

/-- NMT_STOP (R270, R277): in stopped no EMCY is sent and nothing is queued, so what waits is dropped. -/
def execNmtStop (p : CanNo) (s : State) : Out :=
  if s.canLive p then .next ((s.setNmt p .stopped).modCan p fun x => { x with emcyQueue := [] }) else .next s

/-- NMT_ENTER_PREOPERATIONAL (R270). -/
def execNmtEnterPreoperational (p : CanNo) (s : State) : Out :=
  if s.canLive p then .next (s.setNmt p .preOperational) else .next s

/-! Heartbeats, SYNC and TIME (R271). -/

/-- A context of port `p` that belongs to a node. -/
def State.ofNode (s : State) (p : CanNo) (node : Nat) (x : HostCtx) : Bool :=
  x.used && onPort p x.key &&
    match x.key.kind with
    | .usdo => decide (x.key.addr = node)
    | _ => decide (node ≠ 0) && decide (s.cfgN (0x1200 + x.key.addr) 3 = node)

/-- HEARTBEAT_RECEIVED (R271): contact for every existing context of that node; a timeout of the node ends. -/
def execHeartbeatReceived (p : CanNo) (node : Nat) (s : State) : Out :=
  if s.canLive p then
    let t := s.over (pick 32 fun h => s.ofNode p node s.hosts[h]) State.touch
    settle s (t.modCan p fun x => { x with lost := x.lost.filter fun n => decide (n ≠ node)
                                           heard := x.heard.filter (fun n => decide (n.1 ≠ node)) ++ [(node, s.clk.timeUs)] })
  else .next s

/-- Consumer time in ms that 1016h gives a node, 0 where it names none (R271; the layout is CiA 301's, log 17). -/
def State.consumerMs (s : State) (node : Nat) : Nat :=
  (((List.range 8).map fun n => s.cfgN 0x1016 (n + 1)).find? fun v => decide (v / 65536 % 128 = node)).getD 0 % 65536

/-- A consumed node's heartbeat is overdue: one has been heard, and the consumer time has passed since the last (R271, log 144). -/
def State.overdue (s : State) (p : CanNo) (node : Nat) : Bool :=
  match s.can[p].heard.find? fun n => decide (n.1 = node) with
  | some n => s.consumerMs node ≠ 0 && decide (n.2 + s.consumerMs node * 1000 ≤ s.clk.timeUs)
  | none => false

/-- HEARTBEAT_LOST (R271): the consumer time of 1016h has passed since the node's last heartbeat. -/
def execHeartbeatLost (p : CanNo) (node : Nat) (s : State) : Out :=
  if s.canLive p ∧ s.overdue p node then
    let t := s.modCan p fun x => { x with lost := x.lost ++ [node], heard := x.heard.filter fun n => decide (n.1 ≠ node) }
    settle s ((t.event (srcManage (8 + p)) 0xA003 p (byte p ++ byte node)).emcy 0x8130 (byte node))
  else .next s

/-- HEARTBEAT_PRODUCE (Table 13-1): the producer time of 1017h in ms has passed since the last heartbeat. -/
def execHeartbeatProduce (p : CanNo) (s : State) : Out :=
  if s.canLive p ∧ s.cfg 0x1017 0 ≠ 0 ∧ s.can[p].nmt ≠ .initialising ∧ s.can[p].beatUs + s.cfgN 0x1017 0 * 1000 ≤ s.clk.timeUs then
    .next (s.sendBeat p)
  else .next s

/-- ms between 1970-01-01 and 1984-01-01, the day from which a CiA 301 time of day counts (log 145). -/
def timeOfDayBase : Nat := 5113 * 86400000

/-- TIME_RECEIVED (R271): a time of day in days and ms; WALL_OFFSET_MS is what maps the µs timestamp to it (log 145). -/
def execTimeReceived (p : CanNo) (days ms : Nat) (s : State) : Out :=
  if s.canLive p then
    .next { s with wallOffsetMs := ((timeOfDayBase + days * 86400000 + ms : Nat) : Int) - ((s.clk.timeUs / 1000 : Nat) : Int) }
  else .next s

/-! LSS (R271). -/

/-- Arbitration rates that ARB_RATE_K admits. -/
def arbRates : List Nat := [125, 250, 500, 800, 1000]

/-- LSS_CONFIGURE_BIT_TIMING (R271): a rate of ARB_RATE_K is taken for the next reset communication; any other is answered as not
supported. -/
def execLssConfigureBitTiming (p : CanNo) (rateK : Nat) (s : State) : Out :=
  if s.onBus p then
    if arbRates.contains rateK then
      let i := 0x2102 + (p : Nat)
      .next (((s.setWritten i 3 rateK).afterWrite i 3).send (.lss p 0))
    else .next (s.send (.lss p 1))
  else .next s

/-- LSS_CONFIGURE_NODE_ID (R271): pending until the store. -/
def execLssConfigureNodeId (p : CanNo) (node : Nat) (s : State) : Out :=
  if s.onBus p then
    if (1 ≤ node ∧ node ≤ 127) ∨ node = 255 then .next ((s.modCan p fun x => { x with lssNode := some node }).send (.lss p 0))
    else .next (s.send (.lss p 1))
  else .next s

/-- LSS_STORE_CONFIGURATION (R271): the node-ID goes to NODE_ID. -/
def execLssStoreConfiguration (p : CanNo) (s : State) : Out :=
  if s.onBus p then
    match s.can[p].lssNode with
    | some n =>
      let t := (s.setWritten (0x2102 + p) 2 n).modCan p fun x => { x with lssNode := none }
      .next (t.send (.lss p 0))
    | none => .next (s.send (.lss p 0))
  else .next s

/-! PDOs (R275, R276). -/

/-- Mapped entries of a PDO's mapping object: index and subindex. -/
def State.mapping (s : State) (index : Nat) : List (Nat × Nat) :=
  (List.range (min 64 (s.cfgN index 0))).map fun n => let v := s.cfgN index (n + 1); (v / 65536, v / 256 % 256)

/-- Bytes of a mapped entry; those of no fixed size have none. -/
def mapSize (p : Nat × Nat) : Nat :=
  match entryOf p.1 p.2 with
  | some e => e.ty.size.getD 0
  | none => 0

/-- Value of a mapped entry; one that a host reads as its own has no reader here (log 3). -/
def State.pdoBytes (s : State) (p : Nat × Nat) : Bytes :=
  match entryOf p.1 p.2 with
  | some e =>
    if e.ty.size.isNone then []
    else if e.kind = .perHost ∨ p = (0x2100, 3) ∨ p = (0x2100, 8) then e.ty.encode (Config.pdoPerHost (keyOf p.1 p.2))
    else (s.content 0 p.1 p.2).1
  | none => []

/-- A PDO's COB-ID is valid: bit 31 is 0. -/
def State.pdoValid (s : State) (index : Nat) : Bool := decide (s.cfgN index 1 < 0x80000000)

/-- Port of TPDO `n` when it may be sent: valid, and its port operational. -/
def State.tpdoPort (s : State) (n : Fin 32) : Option CanNo :=
  match toFin? 2 (s.cfgN 0x2106 (n + 1)) with
  | some p => if s.canLive p ∧ s.can[p].nmt = .operational ∧ s.pdoValid (0x1800 + n) then some p else none
  | none => none

/-- Bytes of TPDO `n`. -/
def State.tpdoBytes (s : State) (n : Fin 32) : Bytes := (s.mapping (0x1A00 + n)).flatMap s.pdoBytes

/-- Transmission type of TPDO `n`. -/
def State.tpdoType (s : State) (n : Fin 32) : Nat := s.cfgN (0x1800 + n) 2

/-- Longest PDO on a port: 64 bytes of a CAN FD frame, 8 of a classical one (Table 13-1). -/
def State.pdoLimit (s : State) (p : CanNo) : Nat := if s.protocol p = 0 then 64 else 8

/-- TPDO `n` is sent, and its inhibit time starts. A mapping longer than a frame sends nothing (log 86). -/
def State.sendTpdo (p : CanNo) (n : Fin 32) (s : State) : State :=
  let b := s.tpdoBytes n
  let hold := decide (s.cfgN (0x1800 + n) 3 ≠ 0) && decide (254 ≤ s.tpdoType n)
  let s := if b.length ≤ s.pdoLimit p then s.send (.tpdo p n b) else s
  { s with
    tpdoLast := s.tpdoLast.set n b, tpdoInhibit := s.tpdoInhibit.set n hold, tpdoDue := s.tpdoDue.set n false
    tpdoSync := s.tpdoSync.set n 0, tpdoUs := s.tpdoUs.set n s.clk.timeUs }

/-- An event-driven TPDO is to be sent: at once, or when its inhibit time ends. -/
def State.raiseTpdo (p : CanNo) (n : Fin 32) (s : State) : State :=
  if s.tpdoInhibit[n] then { s with tpdoDue := s.tpdoDue.set n true } else s.sendTpdo p n

/-- SYNC_RECEIVED (R271): a synchronous TPDO of type t is sent at every t-th SYNC. -/
def execSyncReceived (p : CanNo) (s : State) : Out :=
  if s.canLive p then
    .next (s.each 32 fun n t =>
      if t.tpdoPort n = some p ∧ 1 ≤ t.tpdoType n ∧ t.tpdoType n ≤ 240 then
        let k := t.tpdoSync[n] + 1
        if t.tpdoType n ≤ k then t.sendTpdo p n else { t with tpdoSync := t.tpdoSync.set n k }
      else t)
  else .next s

/-- An event-driven TPDO whose mapped values have changed since it was sent is to be sent (R275). -/
def State.checkTpdo (n : Fin 32) (s : State) : State :=
  match s.tpdoPort n with
  | some p => if 254 ≤ s.tpdoType n ∧ s.tpdoBytes n ≠ s.tpdoLast[n] then s.raiseTpdo p n else s
  | none => s

/-- TPDO_EVENT_CHECK (R275): once the telemetry interval in force (R36) has passed since the last check, every event-driven TPDO whose
mapped values have changed is sent. -/
def execTpdoEventCheck (s : State) : Out :=
  if s.recorderUp ∧ s.checkUs + s.telemetryMs * 1000 ≤ s.clk.timeUs then
    .next (({ s with checkUs := s.clk.timeUs } : State).each 32 State.checkTpdo)
  else .next s

/-- A time of TPDO `n`, in µs, has passed since it was last sent. -/
def State.tpdoTimeUp (s : State) (n : Fin 32) (us : Nat) : Bool := decide (s.tpdoUs[n] + us ≤ s.clk.timeUs)

/-- TPDO_EVENT_TIMER (R275): the inhibit time, counted in 100 µs, runs out, and a TPDO that waits is sent; with none running, the event
timer, counted in ms, does, and the TPDO is sent (units: log 17). -/
def execTpdoEventTimer (n : Fin 32) (s : State) : Out :=
  match s.tpdoPort n with
  | some p =>
    if s.tpdoType n < 254 then .next s
    else if s.tpdoInhibit[n] then
      if !s.tpdoTimeUp n (s.cfgN (0x1800 + n) 3 * 100) then .next s
      else
        let t := { s with tpdoInhibit := s.tpdoInhibit.set n false }
        .next (if s.tpdoDue[n] then t.sendTpdo p n else t)
    else if s.cfgN (0x1800 + n) 5 ≠ 0 ∧ s.tpdoTimeUp n (s.cfgN (0x1800 + n) 5 * 1000) then .next (s.sendTpdo p n)
    else .next s
  | none => .next { s with tpdoInhibit := s.tpdoInhibit.set n false }

/-- Mapped entries with the bytes of each; none when the frame is too short. -/
def rpdoItems : List (Nat × Nat) → Bytes → Option (List ((Nat × Nat) × Bytes))
  | [], _ => some []
  | p :: r, b => if b.length < mapSize p then none else (rpdoItems r (b.drop (mapSize p))).map fun x => (p, b.take (mapSize p)) :: x

/-- A refused entry of an RPDO: event 0xA004, at most once a second (R276). -/
def State.rpdoRefused (p : CanNo) (n : Fin 16) (code : Nat) (s : State) : State :=
  let next := s.rpdoSecond[n]
  if s.clk.timeUs < next then s
  else { s with rpdoSecond := s.rpdoSecond.set n (s.clk.timeUs + 1000000) }.event (srcManage (8 + p)) 0xA004 n (byte p ++ byte n ++ le 4 code)

/-- One mapped entry of an RPDO, judged and applied (R6, R276). -/
def State.rpdoEntry (p : CanNo) (n : Fin 16) (h : HostNo) (i : (Nat × Nat) × Bytes) (s : State) : State :=
  let (code, t) := s.write h i.1.1 i.1.2 i.2
  if code = 0 then t else t.rpdoRefused p n code

/-- RPDO_RECEIVED (R276): a write of each mapped entry by the context of the RPDO's owner. -/
def execRpdoReceived (n : Fin 16) (data : Bytes) (s : State) : Out :=
  match toFin? 2 (s.cfgN 0x2107 (n + 1)) with
  | some p =>
    let owner := s.cfgN 0x2108 (n + 1)
    if s.canLive p ∧ s.can[p].nmt = .operational ∧ s.pdoValid (0x1400 + n) ∧ owner ≠ 0 ∧ data.length ≤ s.pdoLimit p then
      match rpdoItems (s.mapping (0x1600 + n)) data with
      | some items =>
        match s.contact { kind := .usdo, port := p, addr := owner } with
        | (some h, t) => settle s (t.over items (State.rpdoEntry p n h))
        | (none, t) => settle s t
      | none => .next s
    else .next s
  | none => .next s

end Sys2Proof.Machine
end

