-- ==== Sys2Proof/Machine/CellFaults.lean ====
section
/-! DEFINITION. Machine/CellFaults.lean: the happenings that set a fault-latch bit (Table 03-6) and what they do in each
role. -/

namespace Sys2Proof.Machine

/-- Outputs low for a latched fault, in every role; a conducting ORING cell is then BLOCKING (R48). -/
def State.faultLow (c : CellNo) (s : State) : State :=
  let s := s.modCell c Cell.outputsLow
  match s.cells[c].role with
  | .oring => s.modOring c Oring.toBlocking
  | _ => s

/-- FAST_TRIP (R42, R47, R167): the shunt voltage crosses the threshold DAC at FAST_LEVEL_MA times SHUNT_UOHM; in hardware, in every
mode. The lanes take the trip at their next control period, after a switch-over gap if one is open (Tables 07-2 and 07-7). -/
def execFastTrip (c : CellNo) (sense : TripSense) (s : State) : Out :=
  if s.cells[c].role ≠ .feeder ∨ s.cells[c].faultLatch.getLsbD 0 ∨ !s.cells[c].crosses (s.fastRatio c) false sense then .next s
  else
    .next (((s.feederOff c).setFault c 0).noteTrip c 1)

/-- FLT is a driver fault of the cell's pin mode (Table 03-4). -/
def usesDriverFlt (p : BitVec 16) : Bool := fltUse p = 1 || fltUse p = 2

/-- A cause at the pins stands or has gone (R49). -/
def Cell.setCause (b : Nat) (present : Bool) (x : Cell) : Cell :=
  { x with causes := if present then x.causes ||| faultBit b else x.causes &&& ~~~faultBit b }

/-- DRIVER_FLT (R48): FLT asserted, or released, with FLT_USE 01 or 10; asserted, a FEEDER trips with cause 0x06, a LINE group stops with
cause 0x04 in hardware (R132, R170). -/
def execDriverFlt (c : CellNo) (present : Bool) (s : State) : Out :=
  if s.cells[c].role = .idle ∨ !usesDriverFlt s.cells[c].pinMode then .next s
  else
    let s := s.modCell c (Cell.setCause 1 present)
    if !present ∨ s.cells[c].faultLatch.getLsbD 1 then .next s
    else
      let t := (s.faultLow c).setFault c 1
      match s.cells[c].role with
      | .feeder => .next (t.noteTrip c 6)
      | .line =>
        .next (match t.groupOf c with
          | some g => t.groupStop g 4 (srcCell c)
          | none => t)
      | _ => .next t

/-- A sense becomes invalid by a latch bit (R48): outputs low; a FEEDER in INRUSH or ON trips with cause 0x07, a LINE group
stops with cause 0x05. In TESTING the sense inputs are disconnected, and no bit sets (R59). -/
def State.senseFault (c : CellNo) (b : Nat) (s : State) : State :=
  if s.cells[c].faultLatch &&& faultBit b ≠ 0 ∨ s.cells[c].st = .testing then s
  else
    let on := s.cells[c].feeder.gateOn
    let role := s.cells[c].role
    let s := (s.faultLow c).setFault c b
    if role = .feeder ∧ on then s.noteTrip c 7
    else if role = .line then s.stopCellGroup c 5
    else s

/-- A sense cause that comes or goes. -/
def State.senseCause (c : CellNo) (b : Nat) (present : Bool) (s : State) : State :=
  let s := s.modCell c (Cell.setCause b present)
  if present then s.senseFault c b else s

/-- SENSE_RANGE_FAULT (R48): 16 conversions at the limit of their range, or the first inside it again. -/
def execSenseRangeFault (c : CellNo) (sense : Sense) (present : Bool) (s : State) : Out :=
  let p := s.cells[c].pinMode
  let used := match sense with
    | .cs => decide (csMode p ≠ 0)
    | .vs => vsEn p
  if s.cells[c].role = .idle ∨ !used then .next s
  else settle s (s.senseCause c (match sense with | .cs => 2 | .vs => 3) present)

/-- The cell takes a bitstream (Table 03-4). -/
def usesBitstream (p : BitVec 16) : Bool := csMode p = 3 || auxMode p = 2

/-- BITCLK_LOSS (R48). -/
def execBitclkLoss (c : CellNo) (present : Bool) (s : State) : Out :=
  if s.cells[c].role = .idle ∨ !usesBitstream s.cells[c].pinMode then .next s else settle s (s.senseCause c 4 present)

/-- BITSTREAM_STUCK (R48). -/
def execBitstreamStuck (c : CellNo) (present : Bool) (s : State) : Out :=
  if s.cells[c].role = .idle ∨ !usesBitstream s.cells[c].pinMode then .next s else settle s (s.senseCause c 5 present)

/-- HOLD_WINDOW (R50): eight periods outside ±10 % under HOLD. -/
def execHoldWindow (c : CellNo) (s : State) : Out :=
  let x := s.cells[c]
  .next (
    if (x.role = .phase ∨ x.role = .line) ∧ x.safeCause ≠ 0 ∧ x.safeHold ∧ 8 ≤ x.holdRun then
      (s.modCell c Cell.outputsLow).setFault c 8
    else s)

end Sys2Proof.Machine
end

