-- ==== Sys2Proof/Machine/Clock.lean ====
section
/-! DEFINITION. Machine/Clock.lean: the reference, the PLLs, WCLK and the die link's training (R373 to R375, R382), and the block's own
consumption (R37). -/

namespace Sys2Proof.Machine

/-- XIN and PLL S run: not in cold reset and not in deep Cocoon (Table 19-2). -/
def State.xinRuns (s : State) : Bool := decide (s.phase ≠ .held) && decide (s.manage ≠ .deep)

/-- The link, PLL L and PLL H run: outside DORMANT too (Table 19-2). -/
def State.clocked (s : State) : Bool := s.xinRuns && !s.dormant

/-- A PLL runs (Table 19-2). -/
def State.pllRuns (s : State) (p : Pll) : Bool := if p = .s then s.xinRuns else s.clocked

/-- Holdover is entered once, and counted (R373, 2000:14). -/
def Clocks.enterHoldover (k : Clocks) : Clocks :=
  { k with holdover := true, holdovers := if k.holdover then k.holdovers else wrap32 (k.holdovers + 1) }

/-- CAN A and CAN B leave their buses (R373). -/
def State.leaveBuses (s : State) : State := { s with can := s.can.map fun (x : Can) => { x with port := CanState.off } }

/-- XIN_LOST (R373): PLL S and PLL L in holdover, the CAN ports off their buses, event 0xD001. -/
def execXinLost (s : State) : Out :=
  if s.xinRuns ∧ s.clk.xin then
    let t := s.modClk fun k => { k.enterHoldover with xin := false, pllS := false, pllL := false, lostUs := s.clk.timeUs }
    settle s (t.leaveBuses.event (srcWatch 0) 0xD001 0xFF [])
  else .next s

/-- A PLL's lock bit. -/
def Clocks.setLock (p : Pll) (b : Bool) (k : Clocks) : Clocks :=
  match p with
  | .s => { k with pllS := b }
  | .l => { k with pllL := b }
  | .h => { k with pllH := b }

/-- Code of a PLL in event 0xD003. -/
def Pll.code : Sys2Proof.Pll → Fin 3
  | .s => 0 | .l => 1 | .h => 2

/-- Lock bit of a PLL. -/
def Clocks.locked (p : Pll) (k : Clocks) : Bool :=
  match p with
  | .s => k.pllS
  | .l => k.pllL
  | .h => k.pllH

/-- The time of a PLL's last loss of lock, or try, is now. -/
def State.notePll (p : Pll) (s : State) : State := s.modClk fun k => { k with retryUs := k.retryUs.set (Pll.code p) s.clk.timeUs }

/-- PLL_UNLOCK (R373): a PLL loses lock with XIN present. PLL S gives the CAN ports their clock (Table 19-1), and they leave their buses
in the same way (log 148). -/
def execPllUnlock (pll : Pll) (s : State) : Out :=
  if s.pllRuns pll ∧ s.clk.xin ∧ s.clk.locked pll then
    let t := (s.modClk fun k => (k.setLock pll false).enterHoldover).notePll pll
    let t := if pll = .s then t.leaveBuses else t
    settle s (t.event (srcWatch 0) 0xD003 0xFF (byte (Pll.code pll)))
  else .next s

/-- Holdover ends once every PLL is locked (R374). -/
def Clocks.endHoldover (k : Clocks) : Clocks := { k with holdover := !(k.pllS && k.pllL && k.pllH) }

/-- Lock (R374): event 0xD002 with the holdover error in 0.01 %, and the CAN ports rejoin. -/
def State.atLock (errorCentiPct : Int) (s : State) : State :=
  ((s.modClk Clocks.endHoldover).event (srcWatch 0) 0xD002 0xFF (leI 2 errorCentiPct)).each 2 State.rejoin

/-- XIN_LOCKED (R374): 1 ms of edges requalifies the reference, and the steering of 0.5 % per ms has taken the error away. -/
def execXinLocked (errorCentiPct : Int) (s : State) : Out :=
  if s.xinRuns ∧ !s.clk.xin ∧ s.clk.lostUs + 1000 + 20 * errorCentiPct.natAbs ≤ s.clk.timeUs then
    settle s ((s.modClk fun k => { k with xin := true, pllS := true, pllL := true, pllH := true }).atLock errorCentiPct)
  else .next s

/-- PLL_RELOCK_RETRY (R374): every 10 ms an unlocked PLL tries the sequence again with XIN present; a try that locks it gives the holdover
error it had. -/
def execPllRelockRetry (pll : Pll) (lockedCentiPct : Option Int) (s : State) : Out :=
  if s.pllRuns pll ∧ s.clk.xin ∧ !s.clk.locked pll ∧ s.clk.retryUs[Pll.code pll] + 10000 ≤ s.clk.timeUs then
    let t := s.notePll pll
    match lockedCentiPct with
    | some e => settle s ((t.modClk (Clocks.setLock pll true)).atLock e)
    | none => .next t
  else .next s

/-- X32_FAIL (R375). -/
def execX32Fail (s : State) : Out :=
  if s.phase ≠ .held ∧ s.clk.wclkCrystal then
    .next ((s.modClk fun k => { k with wclkCrystal := false }).event (srcWatch 0) 0xD004 0xFF [])
  else .next s

/-- WISP_TRIM (R375): every second while XIN runs. -/
def execWispTrim (trim : Int) (s : State) : Out :=
  if s.xinRuns ∧ s.clk.xin ∧ s.clk.trimUs + 1000000 ≤ s.clk.timeUs then
    .next (s.modClk fun k => { k with wispTrim := trim, trimUs := s.clk.timeUs })
  else .next s

/-- LINK_RETRAIN (R382): every 10 ms a step of at most 1/32 UI of one lane's sample point, which is counted (log 149); a phase error that
cannot be corrected records event 0xD012. -/
def execLinkRetrain (upstream : Bool) (lane : Fin 8) (step : Int) (corrected : Bool) (s : State) : Out :=
  let i : Fin 16 := ⟨lane + 8 * b2n upstream, by have := lane.isLt; cases upstream <;> simp [b2n] <;> omega⟩
  if s.clocked ∧ s.clk.retrainUs[i] + 10000 ≤ s.clk.timeUs then
    let t := s.modClk fun k => { k with samplePoints := k.samplePoints.set i (k.samplePoints[i] + clampI (-1) 1 step)
                                        retrainUs := k.retrainUs.set i s.clk.timeUs, retrains := wrap32 (k.retrains + 1) }
    .next (if corrected then t else t.event (srcWatch 0) 0xD012 0xFF (byte (b2n upstream) ++ byte lane))
  else .next s

/-- CONSUMPTION_UPDATE (R37): once per second the parts are estimated from activity, supplies and temperature, which the command
brings. -/
def execConsumptionUpdate (watch loop channel manage : Nat) (s : State) : Out :=
  if s.phase = .held ∨ s.clk.timeUs < s.own.us + 1000000 then .next s
  else
    let dormant := s.dormant
    let l := if dormant then 0 else loop
    let m := if s.manage = .running then manage else 0
    let total := watch + l + channel + m
    .next { s with own := { total := total, watch := watch, loop := l, channel := channel, manage := m, peak := max s.own.peak total
                            us := s.clk.timeUs } }

end Sys2Proof.Machine
end

