-- ==== Sys2Proof/Machine/Firmware.lean ====
section
/-! DEFINITION. Machine/Firmware.lean: Fafort on the service port (R361, R362), image transfer (R363), keys (R369), activation, trial
and fallback (R364 to R366). -/

namespace Sys2Proof.Machine

/-! Frames (R361). -/

/-- What a frame answers: its status (Table 18-4), its payload, and the state after it. -/
abbrev Answer := Nat × Bytes × State

/-- The service port is served (R362, R368). -/
def State.fafortUp (s : State) : Bool := s.recorderUp && decide (s.phase = .running ∨ s.phase = .recovery)

/-- Length and CRC-32 of a request frame of a type are right (R361). -/
def Fafort.whole (type : Nat) (f : Sys2Proof.Fafort) : Bool :=
  let head := byte 0xA5 ++ byte type ++ byte f.seq.toNat ++ [0] ++ le 2 f.length.toNat
  decide (f.length.toNat = f.payload.length) && decide (f.payload.length ≤ 1024) && decide (f.crc.toNat = crc32 (head ++ f.payload))

/-- A request frame whose payload has an admitted length (R361, Table 18-3): a bad CRC or length is answered 0x02 and has no effect; the
sequence number of the previous request repeats its response and nothing more. Any request restarts the session's 10 s (R362). -/
def State.frame (s : State) (type : Nat) (f : Sys2Proof.Fafort) (fits : Nat → Bool) (body : Bytes → State → Answer) : Out :=
  if s.fafortUp then
    let q := s.fw.session
    let u := s.modSession fun x => { x with requestUs := s.clk.timeUs }
    if !Fafort.whole type f ∨ !fits f.payload.length then .next { u with reply := { code := 2, data := [], total := 0 } }
    else if q.lastSeq = some f.seq then .next { u with reply := q.lastReply }
    else
      let (status, b, t) := body f.payload u
      let r : Reply := { code := status, data := b, total := b.length }
      settle s { t.modSession fun x => { x with lastSeq := some f.seq, lastReply := r } with reply := r }
  else .next s

/-- A frame that is served only after AUTH_PROVE has passed; any other time it is answered 0x03 (R362). It is a contact. -/
def State.sessionFrame (s : State) (type : Nat) (f : Sys2Proof.Fafort) (fits : Nat → Bool) (body : Bytes → HostNo → State → Answer) : Out :=
  s.frame type f fits fun b t =>
    match t.fw.session.authed, t.ctxOf serviceKey with
    | true, some h => body b h (t.touch h)
    | _, _ => (3, [], t)

/-- The payload has one length. -/
def exactly (n k : Nat) : Bool := decide (k = n)

/-- UNIQUE_ID as bytes. -/
def uniqueIdBytes : Bytes := le 8 Config.uniqueId.toNat

/-- IDENTIFY (Table 18-3): a contact only in an authenticated session. -/
def execIdentify (f : Sys2Proof.Fafort) (s : State) : Out :=
  s.frame 0x01 f (exactly 0) fun _ t =>
    let t : State := match t.fw.session.authed, t.ctxOf serviceKey with
      | true, some h => t.touch h
      | _, _ => t
    (0, uniqueIdBytes ++ le 2 (dfltOf 0x2000 2).toNat ++ le 4 t.release ++ byte (b2n (decide (t.phase = .recovery))) ++ [0], t)

/-- AUTH_BEGIN (R362): a session and its nonce. -/
def execAuthBegin (f : Sys2Proof.Fafort) (s : State) : Out :=
  s.frame 0x02 f (exactly 0) fun _ t =>
    if t.fw.session.open_ ∨ t.fw.session.lockout then (5, [], t)
    else
      let n := Config.random16 t.freeCount
      let t := { t with freeCount := t.freeCount + 1 }
      (0, n, t.modSession fun x =>
        { Session.reset with failures := x.failures, lockout := x.lockout, lockoutUs := x.lockoutUs, requestUs := x.requestUs, open_ := true
                             nonce := n, wrapKey := (t.fw.key 0x22).getD [] })

/-- AUTH_PROVE failed (R362): the session ends; three failures lock AUTH_BEGIN. -/
def State.authFailed (s : State) : State :=
  let n := s.fw.session.failures + 1
  let s := s.endSession.modSession fun x => { x with failures := n, lockout := decide (3 ≤ n), lockoutUs := s.clk.timeUs }
  s.event (srcManage 22) 0xC002 0xFF (byte 0xFF ++ byte n)

/-- AUTH_PROVE (R362): the proof under the service key, and the context of the session. -/
def execAuthProve (f : Sys2Proof.Fafort) (s : State) : Out :=
  s.frame 0x03 f (exactly 16) fun proof t =>
    let q := t.fw.session
    if !q.open_ then (3, [], t)
    else if q.authed then (5, [], t)
    else if proof = Config.hmac16 q.wrapKey (q.nonce ++ uniqueIdBytes) then
      match t.newHost serviceKey with
      | (some h, u) =>
        let u := u.modSession fun x => { x with authed := true, host := some h, failures := 0 }
        (0, [], u.event (srcManage 22) 0xC001 h (byte h))
      | (none, u) => (5, [], u.endSession)
    else (6, [], t.authFailed)

/-- CLOSE (R362). -/
def execClose (f : Sys2Proof.Fafort) (s : State) : Out :=
  s.frame 0x3F f (exactly 0) fun _ t => if t.fw.session.open_ then (0, [], t.endSession.cocoonCheck) else (3, [], t)

/-- SESSION_TIMEOUT (R362): 10 s without a request. -/
def execSessionTimeout (s : State) : Out :=
  if s.fw.session.open_ ∧ s.manage = .running ∧ s.fw.session.requestUs + 10000000 ≤ s.clk.timeUs then settle s s.endSession.cocoonCheck
  else .next s

/-- AUTH_LOCKOUT_END (R362): 60 s have passed. -/
def execAuthLockoutEnd (s : State) : Out :=
  .next (if s.fw.session.lockout ∧ s.fw.session.lockoutUs + 60000000 ≤ s.clk.timeUs then
    s.modSession fun x => { x with lockout := false, failures := 0 } else s)

/-! Dictionary frames (R362, R285). -/

/-- A refusal of the dictionary: status 0x08 with the abort code. -/
def refusal (code : Nat) (s : State) : Answer := (8, le 4 code, s)

/-- FAFORT_DICT_READ: at most 1 024 bytes from an offset, as R285 reads. -/
def State.fafortRead (b : Bytes) (h : HostNo) (t : State) : Answer :=
  let index := numAt b 0 2
  let sub := numAt b 2 1
  let offset := numAt b 4 4
  let q := t.fw.session
  let going : Bool := offset ≠ 0 && decide (q.readOf = some (index, sub))
  let held : Bool := going && decide (q.first.length ≤ copyLimit)
  let (code, b, t) := if held then (0, q.first, t) else t.read h index sub
  if code ≠ 0 then refusal code t
  else if going ∧ b ≠ q.first then refusal 0x08000081 (t.modSession fun x => { x with readOf := none, first := [] })
  else if b.length < offset then refusal 0x08000082 t
  else (0, slice b offset 1024, t.modSession fun x => { x with readOf := some (index, sub), first := b })

/-- FAFORT_DICT_READ: index, subindex, a byte, offset (Table 18-3). -/
def execFafortDictRead (f : Sys2Proof.Fafort) (s : State) : Out := s.sessionFrame 0x10 f (exactly 8) State.fafortRead

/-- The value's bytes join; LAST applies them as one access. A store is answered busy, status 0x01, until its commit (R299, log 101). -/
def State.fafortWrite (b : Bytes) (h : HostNo) (t : State) : Answer :=
  let index := numAt b 0 2
  let sub := numAt b 2 1
  let q := t.fw.session
  let buf := (if q.writeSel = some (index, sub) then q.writeBuf else []) ++ b.drop 4
  if bit (numAt b 3 1) 0 then
    let (code, u) := (t.modSession fun x => { x with writeSel := none, writeBuf := [] }).write h index sub buf
    if code ≠ 0 then refusal code u else if index = 0x1010 then (1, [], u) else (0, [], u)
  else (0, [], t.modSession fun x => { x with writeSel := some (index, sub), writeBuf := buf })

/-- FAFORT_DICT_WRITE: index, subindex, flags, data (Table 18-3). -/
def execFafortDictWrite (f : Sys2Proof.Fafort) (s : State) : Out := s.sessionFrame 0x11 f (fun n => decide (4 ≤ n)) State.fafortWrite

/-! Image transfer (R359, R360, R363). -/

/-- Slot and release of an image event. -/
def slotRelease (i : FwSlot) (h : Bytes) : Bytes := byte i ++ slice h 8 4

/-- IMAGE_BEGIN (R363): refused while a slot is TRIAL; checks 1 to 6; the inactive slot is WRITING. -/
def execImageBegin (f : Sys2Proof.Fafort) (s : State) : Out :=
  s.sessionFrame 0x20 f (exactly 512) fun header _ t =>
    let i := otherSlot t.fw.active
    let status := t.fw.headerStatus header
    if t.fw.trialSlot.isSome then (5, [], t)
    else if status ≠ 0 then (status, [], t)
    else if (t.fw.contentKey header).isNone then (7, [], t)
    else
      let t := t.modSlot i fun x => { x with st := .writing, factory := false, header := header, body := [], trialBegun := false }
      let t := t.modSession fun x => { x with transfer := true, nextOffset := 0, lastChunk := none, cipher := [] }
      (0, byte i, t.event (srcManage 22) 0xC010 i (slotRelease i header))

/-- IMAGE_DATA (R363): chunks in order; a repeated one is not written twice. -/
def execImageData (f : Sys2Proof.Fafort) (s : State) : Out :=
  s.sessionFrame 0x21 f (fun n => decide (5 ≤ n ∧ n ≤ 1024)) fun b _ t =>
    let offset := numAt b 0 4
    let chunk := b.drop 4
    let q := t.fw.session
    let i := otherSlot t.fw.active
    let n := chunk.length
    let full := numAt t.fw.slots[i].header 16 4
    if !q.transfer then (4, le 4 0, t)
    else if q.lastChunk = some (offset, n) then (0, le 4 q.nextOffset, t)
    else if offset ≠ q.nextOffset then (4, le 4 q.nextOffset, t)
    else if full < offset + n ∨ (n % 4 ≠ 0 ∧ offset + n ≠ full) then (2, [], t)
    else
      (0, le 4 (offset + n), t.modSession fun x =>
        { x with cipher := x.cipher ++ chunk, nextOffset := offset + n, lastChunk := some (offset, n) })

/-- IMAGE_END (R359, R363): check 7, then VALID or FAILED. -/
def execImageEnd (f : Sys2Proof.Fafort) (s : State) : Out :=
  s.sessionFrame 0x22 f (exactly 0) fun _ _ t =>
    let q := t.fw.session
    let i := otherSlot t.fw.active
    let h := t.fw.slots[i].header
    if !q.transfer ∨ q.nextOffset < numAt h 16 4 then (4, [], t)
    else
      let key := (t.fw.contentKey h).getD []
      let body := Config.gcmDecrypt key (slice h 80 12) (slice h 0 256) q.cipher
      let ok := decide (Config.gcmTag key (slice h 80 12) (slice h 0 256) q.cipher = slice h 256 16)
        && decide (Config.sha256 body = slice h 92 32)
      let t := t.modSession fun x => { x with transfer := false, cipher := [] }
      if ok then
        let t := (t.modSlot i fun x => { x with st := .valid, body := body }).modFw fun w => { w with lastUpdate := 0 }
        (0, slotRelease i h, t.event (srcManage 22) 0xC011 i (slotRelease i h))
      else
        let t := (t.modSlot i fun x => { x with st := .failed }).modFw fun w => { w with lastUpdate := 6 }
        (6, [], t.event (srcManage 22) 0xC012 i (slotRelease i h ++ byte 6))

/-! Keys (R369). -/

/-- Slots of Table 18-7. -/
def keySlotOk (slot : Nat) : Bool := decide (slot < 0x10) || decide (0x20 ≤ slot ∧ slot ≤ 0x22)

/-- A refused KEY_WRITE. -/
def keyRefused (slot status : Nat) (s : State) : Answer := (status, [], s.event (srcManage 24) 0xC031 0xFF (byte slot ++ byte status))

/-- KEY_WRITE (R369): slot, flags, two bytes, the wrapped key (Table 18-3), unwrapped under the session's service key. -/
def execKeyWrite (f : Sys2Proof.Fafort) (s : State) : Out :=
  s.sessionFrame 0x30 f (exactly 44) fun b _ t =>
    let slot := numAt b 0 1
    let lock := bit (numAt b 1 1) 0
    let wrapped := b.drop 4
    if !keySlotOk slot ∨ t.fw.keys.any fun k => decide (k.slot = slot) && k.locked then keyRefused slot 5 t
    else
      match Config.keyUnwrap t.fw.session.wrapKey wrapped with
      | none => keyRefused slot 7 t
      | some key =>
        let t := t.modFw fun w =>
          { w with keys := w.keys.filter (fun k => decide (k.slot ≠ slot)) ++ [{ slot := slot, key := key, locked := lock }] }
        (0, slice (Config.sha256 key) 0 4, t.event (srcManage 24) 0xC030 0xFF (byte slot))

/-! Activation, trial and fallback (R364 to R366). -/

/-- The activation sequence number above both slots. -/
def Firmware.nextActivation (w : Firmware) : Nat := max w.slots[0].activation w.slots[1].activation + 1

/-- Slot `i` is TRIAL under the next activation sequence number, its trial not begun. -/
def State.markTrial (i : FwSlot) (s : State) : State :=
  let n := s.fw.nextActivation
  s.modSlot i fun x => { x with st := .trial, activation := n, trialBegun := false }

/-- ACTIVATE (R364): a TENDING request in the session's context, as if a VND host had made it (R29); in recovery the slot is marked at once
(R368). -/
def execActivate (f : Sys2Proof.Fafort) (s : State) : Out :=
  s.sessionFrame 0x23 f (exactly 0) fun _ h t =>
    let i := otherSlot t.fw.active
    let x := t.fw.slots[i]
    if x.st ≠ .valid ∨ numAt x.header 12 4 < t.fw.secVersion ∨ t.fw.trialSlot.isSome then (5, [], t)
    else
      let t := t.event (srcManage 22) 0xC020 i (byte i)
      if t.phase = .recovery then (0, byte i, t.markTrial i)
      else (0, byte i, (t.placeRequest h 5 3).modFw fun w => { w with activating := some i, activateUs := t.clk.timeUs })

/-- A heartbeat on each port in pre-operational or operational (R364). -/
def State.heartbeats (s : State) : State :=
  s.each 2 fun p t =>
    if t.canLive p ∧ (t.can[p].nmt = .preOperational ∨ t.can[p].nmt = .operational) then t.sendBeat p else t

/-- ACTIVATION (R364): at a boundary in TENDING the slot is TRIAL, and a warm restart follows. -/
def execActivation (s : State) : Out :=
  match s.fw.activating with
  | some i =>
    if s.inModes [.tending] ∧ !s.modes.safe ∧ s.manage = .running ∧ s.fw.slots[i].st = .valid then
      let n := s.modes.orderCount
      let t := (s.markTrial i).modFw fun w => { w with tendingHeld := some n }
      let t := t.modModes fun m => { m with orderCount := n + 1 }
      settle s (t.heartbeats.warmReset 2)
    else .next s
  | none => .next s

/-- ACTIVATE_CANCELLED (R364): TENDING has not been reached 60 s after acceptance. -/
def execActivateCancelled (s : State) : Out :=
  match s.fw.activating with
  | some i =>
    if s.fw.activateUs + 60000000 ≤ s.clk.timeUs ∧ s.manage = .running then
      let t := s.modFw fun w => { w with activating := none }
      let t := match t.ctxOf serviceKey with
        | some h => (t.modHost h fun x => { x with request := if x.request = 3 then 0 else x.request }).chooseRequest
        | none => t
      .next (t.event (srcManage 0) 0xC024 i (byte i))
    else .next s
  | none => .next s

/-- The conditions of a confirmation (R365). -/
def State.confirmable (s : State) (i : FwSlot) : Bool :=
  decide (s.cfgN 0x2700 7 * 1000 ≤ s.fw.settleMs) && (!bit (numAt s.fw.slots[i].header 5 1) 1 || s.fw.appConfirmed)

/-- TRIAL_CONFIRM (R365). -/
def execTrialConfirm (s : State) : Out :=
  match s.fw.trial with
  | some i =>
    if s.manage = .running ∧ s.confirmable i then
      let v := numAt s.fw.slots[i].header 12 4
      let t := (s.modSlot i fun x => { x with st := .confirmed }).modSlot (otherSlot i) fun x => { x with st := .valid }
      let t := t.modFw fun w => { w with trial := none, trialLeftMs := 0, secVersion := max w.secVersion v, rollbackDue := false }
      .next (t.withdrawTending.event (srcManage 0) 0xC022 i (byte i))
    else .next s
  | none => .next s

/-- FALLBACK (R366): the window has ended unconfirmed (cause 0x01), or ROLLBACK is acted on (cause 0x02); a warm restart makes the old
slot active. -/
def execFallback (s : State) : Out :=
  match s.fw.trial with
  | some i =>
    if s.manage = .running ∧ (s.fw.rollbackDue ∨ s.fw.trialLeftMs = 0) then
      settle s ((s.failTrial (if s.fw.rollbackDue then 2 else 1) i).warmReset 4)
    else .next s
  | none => .next s

end Sys2Proof.Machine
end

