-- ==== Sys2Proof/Machine/Frames.lean ====
section
/-! DEFINITION. Machine/Frames.lean: what the mixed-signal die samples in every mode (R52, R128, R406), and the die link and block
resets (R10, R12, R13, R16, R384). -/

namespace Sys2Proof.Machine

/-- LINE_QUALIFIED (R128): the group has stayed stable for QUAL_TIME_MS; it may be a start condition. -/
def execLineQualified (g : GroupNo) (s : State) : Out :=
  if s.qualified g then settle s (s.qualify g).dormantWake else .next s

/-- START_INPUT_QUALIFIED (R406): the start input has stayed in its window for START_QUAL_MS. -/
def execStartInputQualified (k : LoopNo) (s : State) : Out :=
  let l := s.loops[k]
  if s.isPhaseLoop k ∧ l.startInWindow ∧ s.loop k 0x1A ≠ 0 ∧ s.loop k 0x1B * 1000 ≤ l.qualUs then
    let t := s.modLoop k fun l => { l with startQualified := true }
    settle s (if t.inModes [.holdup] then t.tryStart k else t.dormantWake)
  else .next s

/-- The cell whose AUX is the start input of a loop: its lowest PHASE member in service (R406). -/
def State.startCell (s : State) (k : LoopNo) : Option CellNo :=
  (pick 48 fun c => s.isMember k c && s.cells[c].role = .phase && s.cells[c].st = .inService).head?

/-- The start window of loop `k` after a frame of block `b`: the time in it counts in frames of 16 µs, from the first sample
inside (R52, R406). -/
def State.startWindow (b : BlockNo) (k : LoopNo) (s : State) : State :=
  match s.startCell k with
  | some c =>
    if (c : Nat) / 8 ≠ b ∨ !s.cells[c].auxValid then s
    else
      let v := 2 * s.cells[c].aux
      let ok := decide ((s.loop k 0x19 : Int) ≤ v) && decide (v ≤ (s.loop k 0x1A : Int)) && s.loop k 0x1A ≠ 0
      s.modLoop k fun l => { l with startInWindow := ok, qualUs := if ok ∧ l.startInWindow then l.qualUs + 16 else 0
                                    startQualified := l.startQualified && ok }
  | none => s.modLoop k fun l => { l with startInWindow := false, qualUs := 0, startQualified := false }

/-! The block voltage ADC (R52, R53). -/

/-- What a slot of a frame converts (Table 03-9). -/
inductive SlotUse
  | thermal (i : InputNo) | string (n : StringNo) | monitor (m : Fin 5) | aux (c : CellNo) | ref
  deriving DecidableEq, Repr

/-- The slow input of an even slot: the `j`-th of Table 03-9. -/
def slowUse (b : BlockNo) (j : Fin 8) : SlotUse :=
  match (b : Nat) with
  | 0 => .thermal ⟨j, by omega⟩
  | 1 => .thermal ⟨8 + j, by omega⟩
  | 2 => if h : (j : Nat) < 4 then .string ⟨j, h⟩ else .ref
  | 3 => if h : (j : Nat) < 5 then .monitor ⟨j, h⟩ else .ref
  | _ => .ref

/-- The cells that the odd slots serve, in order: one slot per cell per round, in rising cell order (R52). -/
def State.auxSlots (s : State) (b : BlockNo) : List CellNo :=
  let cells := pick 48 fun c => (c : Nat) / 8 = b && auxMode s.cells[c].pinMode = 1
  (List.range 8).flatMap fun r => cells.filter fun (c : CellNo) => decide (r < s.cell c 0xE)

/-- What slot `i` of a frame converts. -/
def State.slotUse (s : State) (b : BlockNo) (i : Fin 16) : SlotUse :=
  if (i : Nat) % 2 = 0 then slowUse b ⟨(i : Nat) / 2, by omega⟩
  else
    match (s.auxSlots b)[(i : Nat) / 2]? with
    | some c => .aux c
    | none => .ref

/-- A reference conversion lies within 8 LSB of its ideal: internal zero or half-scale. -/
def refNear (half : Bool) (code : BitVec 12) : Bool :=
  if half then decide (2040 ≤ code.toNat) && decide (code.toNat ≤ 2056) else decide (code.toNat ≤ 8)

/-- The reference checks of a frame, and which ideal the next one converts: zero and half-scale alternate, zero first after a reset
(R52, log 131). -/
def State.refChecks (s : State) (b : BlockNo) (f : AdcFrame) : Bool × Bool :=
  (List.finRange 16).foldl (fun p i => if s.slotUse b i = .ref then (p.1 && refNear p.2 f.slots[i], !p.2) else p)
    (true, s.refHalf.getLsbD b)

/-- A corrected AUX sample of a cell whose AUX comes from the block ADC (R43, R52). -/
def State.auxSample (c : CellNo) (code : BitVec 12) (s : State) : State :=
  let s := s.modCell c fun x => { x with aux := x.correctAux (vsWord code), auxValid := true }
  if s.cells[c].role = .oring then
    let v : Rat := (s.cells[c].aux : Rat) * 1800 * s.cell c 0x15 / 32768000
    s.modOring c fun o => { o with inMv := v }
  else s

/-- A conversion goes where it belongs. Thermal means hold in a switch-over gap, and thermistors give none without excitation (R239,
Table 11-6). -/
def State.slotSample (u : SlotUse) (code : BitVec 12) (s : State) : State :=
  match u with
  | .thermal i =>
    if s.thx ∧ !s.inGap then s.modThermal i fun x => { x with rawSum := x.rawSum + code.toNat, rawN := x.rawN + 1 } else s
  | .string n => s.bsvSample n code
  | .monitor m => { s with monitors := s.monitors.set m code }
  | .aux c => s.auxSample c code
  | .ref => s

/-- BLOCK_ADC_FRAME (R52, R53): sixteen conversions by the block's schedule; a failed reference check marks the whole frame invalid. -/
def execBlockAdcFrame (b : BlockNo) (frame : AdcFrame) (s : State) : Out :=
  if s.heldBlocks.getLsbD b then .next s
  else
    let t := s.adoptSet ⟨2, b, 0xFF⟩
    let (ok, half) := t.refChecks b frame
    let m : BitVec 6 := BitVec.ofNat 6 (2 ^ (b : Nat))
    let t := { t with refHalf := if half then t.refHalf ||| m else t.refHalf &&& ~~~m }
    if !ok then .next (t.event (0x80 + b) 0x1012 0xFF (byte b))
    else
      let uses := (List.finRange 16).map fun i => (t.slotUse b i, frame.slots[i])
      let t := t.over uses fun p u => u.slotSample p.1 p.2
      let t := t.each 16 fun k u => if u.isPhaseLoop k then u.startWindow b k else u
      settle s t.dormantWake

/-- SLOT_CRC_FAIL (R10): the slot is counted. A discarded command leaves the cell on its previous one for that period; a discarded
sample makes its loop repeat its output. -/
def execSlotCrcFail (what : SlotKind) (s : State) : Out :=
  let t := s.modClk fun c => { c with crcErrors := wrap32 (c.crcErrors + 1) }
  .next (match what with
    | .sample c => if t.cells[c].role = .idle then t else t.modCell c fun x => { x with lostSample := true }
    | .command c => if t.cells[c].role = .idle then t else t.modCell c fun x => { x with lostCommand := true }
    | .other => t)

/-- LINK_LOSS (R12): the mixed-signal die sets every safe action and drives SAFE_N low; the digital die enters the global safe
state. -/
def execLinkLoss (die : Die) (s : State) : Out :=
  match die with
  | .mixedSignal => .next ((s.setSafeAll 2).modPins fun p => { p with safeN := false })
  | .digital => settle s (s.enterSafe 2)

/-- LCLK_LOSS (R16); the monitor is disarmed while LOOP is powered down (R376). -/
def execLclkLoss (s : State) : Out :=
  if s.lanes.pair = .off then .next s else settle s (s.enterSafe 3)

/-- What a cell reset clears in a cell (R384): its duty, filters and tests; latches, role and counts stay. A converter's outputs are low
until its next period drives them; a level that a role holds returns after the 10 µs (log 132). -/
def Cell.localReset (x : Cell) : Cell :=
  let y := if x.pwa = .switching ∨ x.pwb = .switching then x.outputsLow else x
  { y with onSteps := 0, nextSteps := 0, lostSample := false, lostCommand := false, devRun := 0, stuckRun := 0, compRun := 0
           compThis := false, holdRun := 0, csSinc := ⟨[], 0, 0⟩, auxSinc := ⟨[], 0, 0⟩, auxValid := false }

/-- A channel block's local reset: its cells, its voltage ADC, and the check of its calibration (R384). -/
def State.resetBlock (b : BlockNo) (s : State) : State :=
  let s := s.each 48 fun c u => if (c : Nat) / 8 = b then (u.modCell c Cell.localReset).calCheck c else u
  { s with refHalf := s.refHalf &&& ~~~BitVec.ofNat 6 (2 ^ (b : Nat)) }

/-- BLOCK_LOCAL_RESET (R13, R384): a block that fails its check twice is held in reset; a channel block's cells then apply
their safe actions. What a local reset of any other block clears, and how its holding is reported, the spec does not say: it clears
nothing, and the block does nothing while it is held (log 133). -/
def execBlockLocalReset (block : BlockId) (firstOk secondOk : Bool) (s : State) : Out :=
  let ok := firstOk || secondOk
  match block with
  | .cb b =>
    let t := s.resetBlock b
    if ok then .next t
    else
      let t := { t with heldBlocks := t.heldBlocks ||| BitVec.ofNat 6 (2 ^ (b : Nat)) }
      settle s (t.each 48 fun c u => if (c : Nat) / 8 = b then u.setSafe c 3 else u)
  | .other src =>
    if ok ∨ s.heldOther.contains src then .next s else .next { s with heldOther := s.heldOther ++ [src] }

end Sys2Proof.Machine
end

