-- ==== Sys2Proof/Machine/Holdup.lean ====
section
/-! DEFINITION. Machine/Holdup.lean: power fail, record mode and the black-box commits (R232 to R236, R353). -/

namespace Sys2Proof.Machine

/-- Record mode begins (R233): loop rails and free loops go off, and running LINE groups stop with cause 0x0B. An image
transfer starts again (Table 18-8). In the global safe state every output keeps its safe action. -/
def State.enterRecordMode (s : State) : State :=
  let s := ((s.modSeq fun q => { q with recordMode := true }).modSession fun x => { x with transfer := false }).cutChannels
  if s.modes.safe then s
  else s.recordLoopsOff.each 24 fun g t => if t.groups[g].st.run then t.laneStop g 0xB else t

/-- PFI_ASSERT (R233, R353): the record, the closed records and the gasp of that moment, cause 0x0F, then record mode. In SETTLING the
cause shows, and the off-sequence under way goes on (Table 10-4). In DORMANT, and while no mode is in force, only the count. -/
def execPfiAssert (s : State) : Out :=
  let t := s.modSeq fun q => { q with pfi := true, pfiCount := wrap32 (q.pfiCount + 1), pfiUs := s.clk.timeUs }
  match s.modes.mode with
  | none => .next t
  | some m =>
    if m = .dormant then .next t
    else
      let t := t.event (srcWatch 4) 0x7020 0xFF (byte m.code)
      if s.seq.recordMode then settle s t
      else
        let t := t.closeRecs (fun _ => true) true
        let r := t.gaspRecord (t.gaspFlags false) t.now
        let t := t.modSeq fun q => { q with gaspPending := some r }
        let t := if t.modes.safe then t else if m = .settling then t.showMode .settling 0xF else t.enterMode .settling 0xF
        settle s t.enterRecordMode

/-- A record goes to the oldest of the eight slots (R353). -/
def State.commitSlot (r : Bytes) (s : State) : State := s.modRec fun q => { q with gasps := (r :: q.gasps).take 8 }

/-- The black-box record of SETTLING is committed (R232). -/
def State.committed (s : State) : State :=
  if s.inModes [.settling] then
    s.modSeq fun q => { q with committed := true, doneUs := s.clk.timeUs, st := if q.st = .offDone then .restartWait else q.st }
  else s

/-- LASTGASP_COMMITTED (R235): the commit took `us` µs. -/
def execLastgaspCommitted (us : Nat) (s : State) : Out :=
  .next (
    match s.seq.gaspPending with
    | some r =>
      let n := r.length
      let s := (s.commitSlot r).modSeq fun q => { q with gaspPending := none, commitUs := us, commitBytes := n }
      (s.event (srcManage 0) 0x7021 0xFF (le 4 us ++ le 2 n)).committed
    | none => s)

/-- SETTLE_COMMITTED (R232): MRAM serves a waiting last-gasp record first (Table 10-4). -/
def execSettleCommitted (s : State) : Out :=
  .next (
    match s.seq.settlePending, s.seq.gaspPending with
    | some r, none =>
      let s := (s.commitSlot r).modSeq fun q => { q with settlePending := none }
      (s.event (srcManage 0) 0x7023 0xFF (le 4 r.length)).committed
    | _, _ => s)

/-- RESTART_DELAY_END (R232): RESTART_DELAY_MS has run from the later of the commit and the off-sequence being done. -/
def execRestartDelayEnd (s : State) : Out :=
  .next (if s.inModes [.settling] ∧ s.seq.offDone ∧ s.seq.committed
      ∧ s.seq.doneUs + s.cfgN 0x2300 3 * 1000 ≤ s.clk.timeUs then s.modSeq fun q => { q with delayElapsed := true } else s)

/-- PFI_RELEASE (R236): PFI has stayed low for PFI_RELEASE_MS, which is after its assertion; event 0x7022 gives the time since that. -/
def execPfiRelease (s : State) : Out :=
  let us := s.clk.timeUs - s.seq.pfiUs
  if s.seq.pfi ∧ s.cfgN 0x2301 4 * 1000 ≤ us then
    let t := s.modSeq fun q => { q with pfi := false }
    if s.seq.recordMode then
      let t := t.modSeq fun q => { q with recordMode := false }
      let t := if t.manage = .running then t.drainQueue else t
      settle s (((t.event (srcWatch 4) 0x7022 0xFF (le 4 (us / 1000))).armWatchdog).each 2 State.rejoin)
    else .next t
  else .next s

end Sys2Proof.Machine
end

