-- ==== Sys2Proof/Machine/RecorderCmds.lean ====
section
/-! DEFINITION. Machine/RecorderCmds.lean: the recorder's own timed events (R347, R349, R352). -/

namespace Sys2Proof.Machine

/-- FOLD_TIMEOUT (R349): FOLD_MS has passed without a fold, and the block's open record closes. -/
def execFoldTimeout (source : BitVec 8) (s : State) : Out :=
  let ms := s.cfgN 0x2600 5
  if s.manage = .running ∧ ms ≠ 0 then
    .next (s.closeRecs (fun r => decide (r.source = source.toNat) && decide (r.last + ms * 1000 ≤ s.now)) false)
  else .next s

/-- PEAT_APPEND (R352): a closed record goes to the log, behind a last-gasp commit under way (R13). -/
def execPeatAppend (seq : Nat) (s : State) : Out :=
  if s.manage = .running ∧ s.seq.gaspPending = none ∧ s.seq.settlePending = none then
    match s.recorder.appendDue.find? fun r => r.seq = seq with
    | some r =>
      .next (s.modRec fun q =>
        let all := q.log ++ [r]
        { q with log := logTrim all, peatGone := goneAfter q.peatGone all (logTrim all)
                 appendDue := q.appendDue.filter fun x => decide (x.seq ≠ seq) })
    | none => .next s
  else .next s

/-- The copy of the number reserve with a limit and a copy sequence. -/
def Reserve.sealed (limit seq : Nat) : Reserve := { limit := limit, seq := seq, crc := reserveCrc limit seq }

/-- A new limit, 65 536 above the present one, goes to the older copy and is in force (R347). -/
def Recorder.reserveNext (q : Recorder) : Recorder :=
  let limit := seqAdd q.limit 65536
  let new := Reserve.sealed limit (wrap32 (max q.reserveA.order q.reserveB.order))
  if q.reserveA.order ≤ q.reserveB.order then { q with limit := limit, reserveA := new } else { q with limit := limit, reserveB := new }

/-- NUMBER_RESERVE_WRITE (R347): the new limit is committed, and records that waited for it are written. -/
def execNumberReserveWrite (s : State) : Out :=
  if s.manage = .running ∧ s.recorder.reserveDue ∧ s.seq.gaspPending = none ∧ s.seq.settlePending = none then
    let rs := s.recorder.waiting
    let t := s.modRec fun q => { q.reserveNext with reserveDue := false, waiting := [] }
    .next (t.over rs State.writeRec)
  else .next s

end Sys2Proof.Machine
end

