-- ==== Sys2Proof/Machine/Registers.lean ====
section
/-! DEFINITION. Machine/Registers.lean: what a load of each register of the management cores' pages gives (R7, R328, Tables 13-6, 16-4,
16-5, 16-7, 16-9), and what an uncorrectable error does to the operation that met it (R341). -/

namespace Sys2Proof.Machine

/-- A word with a bit set for each true test, the first test at bit 0. -/
def wordOf (bs : List Bool) : Nat := bs.foldr (fun b n => b2n b + 2 * n) 0

/-- The ICU shared page (Table 16-4); the shared sources are edge sources, and SWSET reads 0. -/
def State.loadShared (s : State) (off : Nat) : Nat :=
  let group := fun (w : Nat) (p : Src → Bool) => wordOf (((s.srcs.toList.drop (32 * w)).take 32).map p)
  match inst? 0 160 (off / 4) with
  | some n => let x := s.srcs[n]; x.modCount * 65536 + x.modHold * 256 + 16 * x.target + x.prio
  | none =>
    if 0x400 ≤ off ∧ off < 0x414 then group ((off - 0x400) / 4) fun x => x.pending
    else if 0x420 ≤ off ∧ off < 0x434 then group ((off - 0x420) / 4) fun x => x.claimedBy.isSome
    else 0

/-- The ICU context of core `c` (Table 16-5); CLAIM shows the ID that the claim of this load returns, and COMPLETE reads 0. -/
def State.loadContext (s : State) (c : CoreNo) (off : Nat) : Nat :=
  let x := s.cores[c]
  if off = 0 then x.threshold
  else if off = 4 then (match s.topSource c with | some src => irqId src | none => 0)
  else if off = 0xC then
    let now : Bool := match inst? 1 32 x.snapId with
      | some p => s.privHigh c p
      | none => false
    b2n x.snapLevel * 0x80000000 + b2n now * 0x40000000 + x.snapEvents * 65536 + x.snapId
  else if off = 0x10 then wordOf ((List.finRange 32).map (s.privPending c))
  else if 0x20 ≤ off ∧ off < 0x30 then
    ((x.privPrio.toList.drop ((off - 0x20) / 4 * 8)).take 8).foldr (fun p n => p % 16 + 16 * n) 0
  else if off = 0x30 then 2 * b2n (decide (x.run = .retention)) + b2n (CoreRun.idle x.run)
  else 0

/-- The timer block of core `c` (Table 16-7). -/
def State.loadTimer (s : State) (c : CoreNo) (off : Nat) : Nat :=
  let x := s.cores[c]
  if off = 0 then s.now % 0x100000000
  else if off = 4 then x.timeHi
  else if 0x10 ≤ off ∧ off < 0x30 then
    match toFin? 4 ((off - 0x10) / 8) with
    | some n => if off / 4 % 2 = 0 then x.cmpLo[n] else x.cmp[n] / 0x100000000
    | none => 0
  else 0

/-- The scrubber channel of core `c` (Table 16-9). -/
def State.loadScrub (s : State) (c : CoreNo) (off : Nat) : Nat :=
  let x := s.cores[c]
  if off = 0 then 16 * b2n x.scrubWriteback
  else if off = 4 then x.scrubStart
  else if off = 8 then 4 * x.scrubWords
  else if off = 0xC then
    b2n x.scrubBusy * 0x80000000 + b2n x.scrubDone * 0x40000000 + b2n x.scrubErr * 0x20000000 + b2n x.scrubAborted * 0x10000000
      + b2n x.scrubQueued * 0x8000000
  else if off = 0x10 then x.corr
  else if off = 0x14 then x.uncorr
  else if off = 0x18 then x.firstBad.toNat
  else if off = 0x1C then b2n x.scrubIrq
  else 0

/-- DAP channel `d` (Table 13-6). -/
def State.loadDap (s : State) (d : DapNo) (off : Nat) : Nat :=
  let x := s.dap[d]
  if off = 0 then 4 * x.op
  else if off = 4 then x.index * 65536 + x.sub * 256
  else if off = 8 then x.len
  else if off = 0xC then
    let h := match s.ctxOf (dapKey d) with | some h => (h : Nat) | none => 0xFF
    b2n x.req.isSome * 0x80000000 + b2n x.done * 0x40000000 + b2n x.err * 0x20000000 + h * 65536 + x.rlen
  else if off = 0x10 then x.abort
  else if off = 0x14 then 2 * b2n x.irqErr + b2n x.irqDone
  else if off = 0x18 then x.offset
  else if off = 0x1C then x.total
  else if 0x800 ≤ off ∧ off < 0xC00 then numAt x.buffer (off / 4 * 4 - 0x800) 4
  else 0

/-- What a load of a register by core `c` gives (R7, R328): a per-core page answers only its own core, any other reads 0; the shared page
answers the service cores; none outside the pages. -/
def State.pageLoad (s : State) (c : CoreNo) (a : Nat) : Option Nat :=
  let off := a % 0x1000 / 4 * 4
  match regionAt a with
  | some .icuShared => some (if (c : Nat) < 2 then s.loadShared off else 0)
  | some (.icu d) => some (if d = c then s.loadContext c off else 0)
  | some (.timer d) => some (if d = c then s.loadTimer c off else 0)
  | some (.scrub d) => some (if d = c then s.loadScrub c off else 0)
  | some (.dapPage d) => (inst? 2 2 d).map fun n : DapNo => if d = c then s.loadDap n off else 0
  | _ => none

/-! Uncorrectable errors (R341). -/

/-- Requester code of Table 16-11. -/
def Requester.code : Sys2Proof.Requester → Nat
  | .core c _ => c
  | .host k =>
    (match k.kind with
    | .usdo | .sdo => 4 + k.port
    | .twoWire => 6
    | .service => 7
    | .dap => 10)
  | .recorder => 8
  | .scrubber => 9
  | .mramController => 11

/-- Cause of the access fault that an uncorrectable error raises. -/
def CoreAccess.mcause : Sys2Proof.CoreAccess → Nat
  | .fetch => 1 | .load => 5 | .store => 7

/-- A dictionary read that met an uncorrectable error is refused with 0x0606_0000 (R303). -/
def State.refuseRead (k : Key) (s : State) : State :=
  if !s.channelUp k then s
  else
    match s.contact k with
    | (none, t) => t.answer 0x05040005 [] 0
    | (some h, t) =>
      match k.kind with
      | .dap => t.onFin 2 k.addr fun d u => if u.dap[d].req.isSome then u.endDap d 0x06060000 else u
      | .twoWire => t.modCtx h fun c => { c.report 1 c.index c.sub 0x06060000 0 with copy := [], first := [] }
      | _ => t.answer 0x06060000 [] 0

/-- ECC_UNCORRECTABLE (R341): event 0xB002 and shared source 45, and the requester's operation ends with an error: on an application core
an access fault, which its monitor handles as an application fault (R326), with mtval the address. -/
def execEccUncorrectable (mem : Sys2Proof.Memory) (addr : BitVec 32) (requester : Sys2Proof.Requester) (s : State) : Out :=
  let t := (s.event (Memory.source mem) 0xB002 0xFF
    (byte (Memory.code mem) ++ le 4 addr.toNat ++ byte (Requester.code requester))).irqEvent 45
  match requester with
  | .core c kind => .next (if t.coreUp c ∧ 2 ≤ (c : Nat) then t.appFault c (CoreAccess.mcause kind) addr.toNat else t)
  | .host k => settle s (t.refuseRead k)
  | .recorder | .scrubber | .mramController => .next t

end Sys2Proof.Machine
end

