-- ==== Sys2Proof/Machine/Thermal.lean ====
section
/-! DEFINITION. Machine/Thermal.lean: thermal inputs, their tests and states, throttling and derating, bands, and the region
difference (R239 to R251, R383). -/

namespace Sys2Proof.Machine

/-- Temperature of an input from its 100 ms mean (R240): a thermistor's mean is the fraction x of full scale, an on-die sensor's
the temperature itself. -/
def State.inputTemp (s : State) (i : InputNo) (mean : Rat) : Rat :=
  if (i : Nat) < 0x10 then
    Config.ntc mean (s.therm i 2).toNat (s.therm i 3).toNat (s.therm i 4).toNat + (s.therm i 5 : Rat) / 10
  else mean

/-- A mean that makes its input valid (R241). -/
def meanOk (i : InputNo) (mean : Rat) : Bool := decide (0x10 ≤ (i : Nat)) || (decide (1 / 50 ≤ mean) && decide (mean ≤ 49 / 50))

/-- TEMP_DC and RATE as entries and events show them. -/
def Thermal.shown (x : Thermal) : Bytes := leI 2 (quant (x.temp * 10)) ++ leI 2 (quant (x.rateNow * 100))

/-- A thermal event: input, TEMP_DC and RATE. -/
def State.thermalEvent (code : Nat) (i : InputNo) (s : State) : State :=
  s.event srcLedger code i (byte i ++ s.thermal[i].shown)

/-- The warn and throttle conditions (R243). -/
def Thermal.warns (x : Thermal) : Bool := x.warnAbs || x.warnRate
/-- The throttle condition. -/
def Thermal.throttles (x : Thermal) : Bool := x.limAbs || x.limRate
/-- The input's throttle actions are in force (R243). -/
def Thermal.acts (x : Thermal) : Bool := x.st = .throttle || x.stillThrottling

/-- Test of an absolute level in tenths of a degree, with its hysteresis; 32 767 is off (R243). -/
def absTest (was : Bool) (level hyst : Int) (temp : Rat) : Bool :=
  level ≠ 32767 && (if was then decide ((level - hyst : Int) ≤ temp * 10) else decide ((level : Rat) ≤ temp * 10))

/-- Rate over a window of W seconds in °C/min; none until the window is full (R242). -/
def Thermal.rate (x : Thermal) (w : Nat) : Option Rat :=
  match x.seconds.head?, x.seconds[w]? with
  | some a, some b => if w = 0 then none else some ((a - b) * 60 / w)
  | _, _ => none

/-- Test of a rate in 0.01 °C/min; level 0 is off (R242). -/
def Thermal.rateTest (x : Thermal) (level w : Nat) : Bool :=
  level ≠ 0 && match x.rate w with
    | some r => decide ((level : Rat) ≤ r * 100)
    | none => false

/-! Throttling and derating (R244 to R247). -/

/-- A derating step changes (R246). -/
def State.setDerate (k : LoopNo) (n : Nat) (s : State) : State :=
  if s.loops[k].derate = n then s
  else ((s.modLoop k fun l => { l with derate := n, derateUs := s.clk.timeUs }).event srcLedger 0x8005 k (byte k ++ byte n)).recapacity k

/-- The time to the next derating step of the input's loops counts from now: an input has entered or left THROTTLE (R246). -/
def State.derateTimers (i : InputNo) (s : State) : State :=
  let loops := (s.therm i 0xD).toNat
  s.each 16 fun k t => if bit loops k then t.modLoop k fun l => { l with derateUs := s.clk.timeUs } else t

/-- An input enters THROTTLE: it fixes its thermal caps and derates its loops, unless all that is frozen (R244, R246). -/
def State.enterThrottle (i : InputNo) (s : State) : State :=
  let s := (s.modThermal i fun x => { x with st := .throttle, stillThrottling := false }).thermalEvent 0x8002 i
  if s.modes.safe then s
  else
    let mask := (s.therm i 0xC).toNat
    let pct := (s.therm i 0xE).toNat
    let caps := (pick 64 fun x => bit mask x && s.isSink x).map fun x => (x, s.ledger.sinks[x].capW * pct / 100)
    let s := s.modThermal i fun x => { x with caps := caps }
    let loops := (s.therm i 0xD).toNat
    (s.derateTimers i).each 16 fun k t => if bit loops k ∧ t.loops[k].derate = 0 then t.setDerate k 1 else t

/-- An input's throttle actions end (R247). -/
def State.releaseCaps (i : InputNo) (s : State) : State :=
  let caps := s.thermal[i].caps
  let s := (s.derateTimers i).modThermal i fun x => { x with caps := [], stillThrottling := false }
  s.over caps fun p t =>
    if t.ledger.sinks[p.1].throttle = 2 ∧ !t.thermalHolds p.1 then (t.dropThrottle p.1).event srcLedger 0x5006 p.1 (byte p.1) else t

/-- WARN or NORMAL by the warn condition. -/
def State.toWarnOrNormal (i : InputNo) (s : State) : State :=
  if s.thermal[i].warns then (s.modThermal i fun x => { x with st := .warn }).thermalEvent 0x8001 i
  else s.modThermal i fun x => { x with st := .normal }

/-- The transitions of Table 11-2 on the conditions as they stand. -/
def State.thermalStep (i : InputNo) (s : State) : State :=
  let x := s.thermal[i]
  match x.st with
  | .normal =>
    if x.throttles then s.enterThrottle i else if x.warns then s.toWarnOrNormal i else s
  | .warn =>
    if x.throttles then s.enterThrottle i
    else if x.warns then s
    else (s.modThermal i fun x => { x with st := .normal }).thermalEvent 0x8008 i
  | .throttle | .invalid | .off => s

/-- Table 11-6, R244: a sink whose thermal cap is exceeded receives a request with cause 0x02. -/
def State.thermalRequests (s : State) : State :=
  s.each 64 fun x t =>
    let caps := t.thermal.toList.flatMap fun i => (i.caps.filter fun p => p.1 = x).map (·.2)
    match caps with
    | [] => t
    | c :: r =>
      let cap := r.foldl min c
      if t.fed x ∧ t.aboveTol x cap ∧ t.ledger.sinks[x].throttle ≠ 2 then t.throttle x 2 cap (t.graceOf x) else t

/-! Bands (R248, R249). -/

/-- The cell's calibration band moves: a channel without a calibration in it sets CAL_INVALID (R44), and a test under way has seen a
band change (R59). -/
def State.cellBand (c : CellNo) (b : Nat) (s : State) : State :=
  if s.cells[c].calBand = b then s
  else (s.modCell c fun y => { y with calBand := b, bandMoved := y.bandMoved || decide (y.st = .testing) }).calCheck c

/-- The input's band follows a valid mean; the cells of MS0's and MS1's blocks follow theirs. -/
def State.moveBand (i : InputNo) (s : State) : State :=
  let x := s.thermal[i]
  let b := if x.seen then s.bandStep x.band x.temp else s.bandDirect x.temp
  let s := s.modThermal i fun x => { x with band := b, seen := true }
  let s := if (i : Nat) = 0x10 ∨ (i : Nat) = 0x11 then
      s.each 48 fun c t => if ((c : Nat) < 24) = ((i : Nat) = 0x10) then t.cellBand c b else t
    else s
  if b = x.band then s else s.event srcLedger 0x8007 i (byte i ++ byte x.band ++ byte b)

/-- Inputs are evaluated now: in every mode but DORMANT, and not in a switch-over gap (R239, Table 11-6). -/
def State.thermalRuns (s : State) : Bool := s.modes.mode.isSome && !s.dormant && !s.inGap

/-- The input becomes invalid (R241). -/
def State.inputInvalid (i : InputNo) (s : State) : State :=
  if s.thermal[i].st = .invalid then s
  else
    let s := s.modThermal i fun x =>
      { x with st := .invalid, stillThrottling := x.acts, warnAbs := false, warnRate := false, limAbs := false, limRate := false
               tenths := [], seconds := [], rateNow := 0 }
    s.event srcLedger 0x8003 i (byte i)

/-- The time since which the throttle condition is clear restarts when it holds, and when the input was not valid (R243). -/
def Thermal.keepClear (x old : Thermal) (now : Nat) : Thermal :=
  if x.throttles ∨ old.throttles ∨ old.st = .invalid then { x with clearUs := now } else x

/-- A valid mean: temperature, band and absolute tests (R242, R243). -/
def State.validMean (i : InputNo) (mean : Rat) (s : State) : State :=
  let temp := s.inputTemp i mean
  let hyst := s.cfg 0x2400 7
  let warn := s.therm i 6
  let lim := s.therm i 7
  let st := s.thermal[i].st
  let s := s.modThermal i fun (x : Thermal) => Thermal.keepClear
    { x with temp := temp, tenths := (x.tenths ++ [temp]).drop (x.tenths.length + 1 - 10), warnAbs := absTest x.warnAbs warn hyst temp
             limAbs := absTest x.limAbs lim hyst temp, st := if x.st = .invalid ∨ x.st = .off then .normal else x.st } x s.clk.timeUs
  let s := if st = .invalid then s.event srcLedger 0x8009 i (byte i) else s
  (s.moveBand i).thermalStep i

/-- Mean of a thermistor's conversions of the last 100 ms, as a fraction of full scale (R240, R241); none without a valid sample. -/
def Thermal.mean (x : Thermal) : Option Rat := if x.rawN = 0 then none else some ((x.rawSum : Rat) / (4096 * x.rawN))

/-- THERMAL_EVALUATION: one 100 ms mean; none when no sample was valid (R241). A thermistor's is formed from its conversions. How an
on-die sensor's conversions give its temperature the spec does not say: its mean comes with the command (log 135). -/
def execThermalEvaluation (i : InputNo) (die : Option Rat) (s : State) : Out :=
  if s.thermalRuns ∧ s.thermal[i].evalUs + 100000 ≤ s.clk.timeUs then
    let mean := if (i : Nat) < 0x10 then s.thermal[i].mean else die
    let t := (s.adoptSet ⟨0x12, 0, 0xFF⟩).adoptSet ⟨0x11, i, 0xFF⟩
    let t := t.modThermal i fun x => { x with rawSum := 0, rawN := 0, evalUs := s.clk.timeUs }
    settle s (
      if (i : Nat) < 0x10 ∧ t.therm i 1 = 0 then
        (if t.thermal[i].acts then t.releaseCaps i else t).modThermal i fun x =>
          { Thermal.reset with st := .off, band := x.band, seen := x.seen, evalUs := x.evalUs }
      else
        match mean with
        | some m => if meanOk i m then t.validMean i m else t.inputInvalid i
        | none => t.inputInvalid i)
  else .next s

/-- Means of 1 s of the on-die inputs give DIE_TEMP_DIFF; above 20 °C the regions differ too much (R381, R383). -/
def State.dieDifference (s : State) : State :=
  let latest := fun is : List InputNo => is.filterMap fun i => s.thermal[i].seconds.head?
  let ms := latest [0x10, 0x11]
  let ds := latest [0x12, 0x13, 0x14, 0x15]
  let d := (ms.flatMap fun a => ds.map fun b => |a - b|).foldl max 0
  let s := s.modClk fun c => { c with dieDiff := d, diffUs := if 18 < d then s.clk.timeUs else c.diffUs }
  if s.clk.regionDiff = false ∧ 20 < d then
    (s.modClk fun c => { c with regionDiff := true }).event (srcWatch 0) 0xD010 0xFF (leI 2 (quant (d * 10)))
  else s

/-- THERMAL_RATE_EVALUATION: the 1 s mean of ten 100 ms means, and the rate tests (R241, R242). -/
def execThermalRateEvaluation (i : InputNo) (s : State) : Out :=
  if s.thermalRuns ∧ s.thermal[i].st ≠ .invalid ∧ s.thermal[i].st ≠ .off ∧ s.thermal[i].tenths.length = 10 then
    let lvlW := (s.therm i 8).toNat
    let winW := (s.therm i 9).toNat
    let lvlT := (s.therm i 0xA).toNat
    let winT := (s.therm i 0xB).toNat
    let t := s.modThermal i fun x =>
      { x with seconds := (meanOf x.tenths :: x.seconds).take 601, tenths := [] }
    let t := t.modThermal i fun (x : Thermal) => Thermal.keepClear
      { x with warnRate := x.rateTest lvlW winW, limRate := x.rateTest lvlT winT, rateNow := (x.rate winW).getD 0 } x s.clk.timeUs
    settle s ((if 0x10 ≤ (i : Nat) then t.dieDifference else t).thermalStep i)
  else .next s

/-- THERMAL_RELEASE (R243, R247): the throttle condition has been clear for RELEASE_S. -/
def execThermalRelease (i : InputNo) (s : State) : Out :=
  let x := s.thermal[i]
  if s.thermalRuns ∧ x.acts ∧ x.st ≠ .invalid ∧ x.throttles = false ∧ x.clearUs + s.cfgN 0x2400 9 * 1000000 ≤ s.clk.timeUs then
    let t := if s.modes.safe then s else s.releaseCaps i
    let t := t.thermalEvent 0x8004 i
    settle s (if x.st = .throttle then t.toWarnOrNormal i else t)
  else .next s

/-- DERATE_STEP (R246): DERATE_STEP_S has passed, or one second where it is 0; the step rises while an input that names the loop
throttles, else it falls. -/
def execDerateStep (k : LoopNo) (s : State) : Out :=
  .next (
    if s.modes.safe ∨ s.clk.timeUs < s.loops[k].derateUs + max 1 (s.cfgN 0x2400 8) * 1000000 then s
    else
      let up := (List.finRange 22).any fun i => s.thermal[i].acts && bit (s.therm i 0xD).toNat k
      let d := s.loops[k].derate
      let n := if up then min 3 (d + 1) else d - 1
      (s.modLoop k fun l => { l with derateUs := s.clk.timeUs }).setDerate k n)

/-- REGION_DIFF_CLEAR (R383): the difference has stayed at or below 18 °C for 10 s. -/
def execRegionDiffClear (s : State) : Out :=
  .next (
    if s.clk.regionDiff ∧ s.clk.dieDiff ≤ 18 ∧ s.clk.diffUs + 10000000 ≤ s.clk.timeUs then
      (s.modClk fun c => { c with regionDiff := false }).event (srcWatch 0) 0xD011 0xFF (leI 2 (quant (s.clk.dieDiff * 10)))
    else s)

end Sys2Proof.Machine
end

