-- ==== Sys2Proof/Machine/Tick.lean ====
section
/-! DEFINITION. Machine/Tick.lean: LEDGER_TICK, the 1 ms boundary (R18, R23, Table 01-7). -/

namespace Sys2Proof.Machine

/-- The µs timestamp at the next boundary: boundaries lie at the multiples of 1 000 µs (log 18). -/
def nextBoundary (t : Nat) : Nat := (t / 1000 + 1) * 1000

/-- Counts of MANAGE that a tick moves: silence, lease, the trial and its settling (R279, R284, R365); they stop while MANAGE is down. -/
def State.manageClock (s : State) : State :=
  if s.manage = .running then
    let s := s.modFw fun w =>
      if w.trial.isSome then { w with trialLeftMs := w.trialLeftMs - 1, settleMs := w.settleMs + 1 } else w
    { s with lockMs := s.lockMs - 1
             hosts := s.hosts.map fun (x : HostCtx) => if x.used then { x with silenceMs := x.silenceMs + 1 } else x }
  else s

/-- A loop's tick means (R96), and its hiccup wait (R116); a loop that stands still shows 0. -/
def State.loopMeans (k : LoopNo) (s : State) : State :=
  let on := s.loops[k].active
  s.modLoop k fun l =>
    let l := { l with waitMs := l.waitMs - 1 }
    if l.count = 0 then { l with meanI := if on then l.meanI else 0, meanP := if on then l.meanP else 0 }
    else { l with meanI := l.sumI / l.count, meanP := l.sumP / l.count, sumI := 0, sumP := 0, count := 0 }

/-- The tick's means are latched, and the retry timers run (R18, R96, R125, R158, R171, R179). -/
def State.tickMeans (s : State) : State :=
  let s := s.each 48 fun c t => t.modCell c fun (x : Cell) => { x with feeder := x.feeder.tickMeans.tickTimer, oring := x.oring.tickMeans }
  ((s.each 16 State.loopMeans).each 24 State.groupTick).idCeiling

/-- Entries of the ledger, the sinks and the lanes whose written values come into force at a boundary (R200, R267). -/
def tickEntries : List (Nat × Nat) :=
  (List.range 11).map (fun j => (0x2200, j + 1)) ++ [2, 3, 4, 6, 7, 8, 9, 0xB, 0xC, 0xD].map (fun j => (0x2202, j))
    ++ (List.range 64).flatMap (fun x => [(0x2240 + x, 1), (0x2240 + x, 2)]) ++ [8, 9, 0xA, 0xB].map (fun j => (0x2500, j))

/-- What a boundary brings into force (Table 14-7, R200, R267). -/
def State.tickAdopt (s : State) : State :=
  let s := s.over tickEntries fun p t => t.adoptEntry p.1 p.2
  let s := s.each 4 fun n t =>
    ((t.adoptSet ⟨0xC, n, 0xFF⟩).adoptSet ⟨0xD, n, 0xFF⟩).over (List.range 6) fun b u => u.adoptSet ⟨0xF, n, b⟩
  s.each 16 fun k t => t.adoptSet ⟨0x14, k, 0xFF⟩

/-- The next buffer half comes into force: targets, factors, caps, results (R18, R190); the global safe state freezes them (R16). -/
def State.tickSwap (s : State) : State :=
  (if s.modes.safe then s else { s with alloc := s.allocNext }.swapHalves).giveResults

/-- The cause with which the loop's shed members return once shedding is disallowed: 3 when the change was one of the profile to
RESPONSIVE, else 4 (R102); it stands until shedding is allowed again. -/
def returnCauseOf (allowed toResponsive : Bool) (old : Nat) : Nat :=
  if allowed then 0 else if old ≠ 0 then old else if toResponsive then 3 else 4

/-- Shed and burst at a boundary, by the tick's means (R100, R102, R104, R106): dwell counts, members that return, and the end of a
burst. `changed` says that the profile has changed at this boundary. -/
def State.stageTick (changed : Bool) (k : LoopNo) (s : State) : State :=
  let shedQ := s.shedQualifies k
  let burstQ := s.burstQualifies k
  let out := s.loops[k].stage = .burst && (s.savingOff || (changed && !burstQ))
  let s := s.modLoop k fun l =>
    { l with shedRun := if shedQ then l.shedRun + 1 else 0, burstRun := if burstQ then l.burstRun + 1 else 0
             burstExit := l.burstExit || out
             returnCause := returnCauseOf (s.shedAllowed k) (changed && (shedLevels s.modes.profile).isNone) l.returnCause }
  if s.loops[k].stage = .burst ∨ s.loops[k].st ≠ .running then s
  else if !s.shedAllowed k then
    s.over (s.shedMembers k) fun c t => t.addPhase k c false s.loops[k].returnCause
  else
    match shedLevels s.modes.profile, s.shedMembers k with
    | some (_, hi), c :: _ =>
      if s.loops[k].meanP > (s.nA k : Rat) * (s.loop k 0x60 * 10 * hi) then s.addPhase k c false 1 else s
    | _, _ => s

/-- The planning layer's part of a tick on the snapshot (Table 01-7): the allocator, the ledger, the strings, the thermal caps. In the
global safe state no lane gives an output, and the ledger only refuses (Table 08-7). -/
def State.plan (s : State) : State :=
  let s := if s.modes.safe ∨ s.blockHeld (srcLoop 4) then s else s.allocate
  let s := s.ledgerTick.batteryTick
  if s.modes.safe then s else s.thermalRequests

/-- BG_SWEEPS and CORRECTED_COUNT of a lane that is clocked: how many sweeps a tick completes and how many register-file errors it corrects
are not given, and no row reports them; free numbers stand for them (R255, R262; log 24). -/
def State.laneCounts (l : Lane) (s : State) : State :=
  let x := s.lanes.lane l
  if x.st = .off ∨ x.st = .retired then s
  else
    let (n, s) := s.fresh
    let (m, s) := s.fresh
    s.modLane l fun x => { x with bgSweeps := wrap32 (x.bgSweeps + n), corrected := wrap32 (x.corrected + m) }

/-- The boundary in a mode in which the LOOP region runs. -/
def State.tickBoundary (s : State) : State :=
  let s := s.tickMeans.ledgerClock.tickSwap.tickAdopt
  let profile := s.modes.profile
  let s := s.arbitrate.adoptProfile
  let changed := decide (s.modes.profile ≠ profile)
  if s.dormant then s
  else
    let s := s.plan
    let s := if s.modes.safe then s else s.each 16 (State.stageTick changed)
    let s := if s.idAt.isSome ∧ s.idGroup = none ∧ s.lanesRun then s.idNext else s
    ((s.laneCounts .a).laneCounts .b).traceSlow 0x11

/-- LEDGER_TICK (R18): in cold reset, in recovery and before BOOT_COMPLETE only time passes; in DORMANT the LOOP region has no power, and
a start condition found now ends it (R24). -/
def execLedgerTick (s : State) : Out :=
  let t := s.modClk fun k => { k with timeUs := nextBoundary k.timeUs }
  if t.phase = .held then .next t
  else
    let t := t.manageClock
    settle s (
      if t.phase ≠ .running ∨ t.modes.mode = none then t
      else if t.dormant then t.chooseRequest.dormantWake
      else t.tickBoundary)

end Sys2Proof.Machine
end

