-- ==== Sys2Proof/Machine/Dispatch.lean ====
section
/-! DEFINITION. Machine/Dispatch.lean: one arm for each command, each one direct call of its meaning. -/

namespace Sys2Proof.Machine

/-- The effect of a command on everything but the queue. -/
def exec (i : Instr) (s : State) : Host.Outcome State Fault Refusal :=
  match i with
  | .coldReset cause supplyFault => Sys2Proof.Machine.execColdReset cause supplyFault s
  | .boot bootsel fails crystalOk laneA laneB => Sys2Proof.Machine.execBoot bootsel fails crystalOk laneA laneB s
  | .bootComplete => Sys2Proof.Machine.execBootComplete s
  | .manageRestart => Sys2Proof.Machine.execManageRestart s
  | .watchdogExpiry core => Sys2Proof.Machine.execWatchdogExpiry core s
  | .slotCrcFail what => Sys2Proof.Machine.execSlotCrcFail what s
  | .linkLoss die => Sys2Proof.Machine.execLinkLoss die s
  | .lclkLoss => Sys2Proof.Machine.execLclkLoss s
  | .blockLocalReset block firstOk secondOk => Sys2Proof.Machine.execBlockLocalReset block firstOk secondOk s
  | .ledgerTick => Sys2Proof.Machine.execLedgerTick s
  | .phaseShed k => Sys2Proof.Machine.execPhaseShed k s
  | .burstEntry k => Sys2Proof.Machine.execBurstEntry k s
  | .sinkRestore q => Sys2Proof.Machine.execSinkRestore q s
  | .grantExpiry g => Sys2Proof.Machine.execGrantExpiry g s
  | .noticeExpiry what => Sys2Proof.Machine.execNoticeExpiry what s
  | .throttleOverCap q => Sys2Proof.Machine.execThrottleOverCap q s
  | .throttleEnforce q => Sys2Proof.Machine.execThrottleEnforce q s
  | .modeRequest who data => Sys2Proof.Machine.execModeRequest who data s
  | .shutdownLatchClear who data => Sys2Proof.Machine.execShutdownLatchClear who data s
  | .profileSelect who data => Sys2Proof.Machine.execProfileSelect who data s
  | .latencyBudgetWrite who budget data => Sys2Proof.Machine.execLatencyBudgetWrite who budget data s
  | .ownPowerPeakClear who data => Sys2Proof.Machine.execOwnPowerPeakClear who data s
  | .consumptionUpdate watch loop channel manage => Sys2Proof.Machine.execConsumptionUpdate watch loop channel manage s
  | .hostWake who fails => Sys2Proof.Machine.execHostWake who fails s
  | .loopPeriod k m x => Sys2Proof.Machine.execLoopPeriod k m x s
  | .overrunStop k => Sys2Proof.Machine.execOverrunStop k s
  | .shareRampComplete m => Sys2Proof.Machine.execShareRampComplete m s
  | .syncinEdge stamp => Sys2Proof.Machine.execSyncinEdge stamp s
  | .syncLocked k => Sys2Proof.Machine.execSyncLocked k s
  | .syncLost => Sys2Proof.Machine.execSyncLost s
  | .loopEnable who k data => Sys2Proof.Machine.execLoopEnable who k data s
  | .softStartEnd k => Sys2Proof.Machine.execSoftStartEnd k s
  | .pgRise k => Sys2Proof.Machine.execPgRise k s
  | .startAbort k cause => Sys2Proof.Machine.execStartAbort k cause s
  | .hiccupRetry k => Sys2Proof.Machine.execHiccupRetry k s
  | .hiccupReload k => Sys2Proof.Machine.execHiccupReload k s
  | .phaseDrop m cause => Sys2Proof.Machine.execPhaseDrop m cause s
  | .startInputQualified k => Sys2Proof.Machine.execStartInputQualified k s
  | .activeSetWrite who k data => Sys2Proof.Machine.execActiveSetWrite who k data s
  | .safeLockWrite who k data => Sys2Proof.Machine.execSafeLockWrite who k data s
  | .coefficientWordLand k => Sys2Proof.Machine.execCoefficientWordLand k s
  | .arm who u => Sys2Proof.Machine.execArm who u s
  | .forceTrigger who u => Sys2Proof.Machine.execForceTrigger who u s
  | .disarm who u => Sys2Proof.Machine.execDisarm who u s
  | .cycleByCycleLimit c step sense => Sys2Proof.Machine.execCycleByCycleLimit c step sense s
  | .fastTrip c sense => Sys2Proof.Machine.execFastTrip c sense s
  | .oringReverse c sense => Sys2Proof.Machine.execOringReverse c sense s
  | .driverFlt c present => Sys2Proof.Machine.execDriverFlt c present s
  | .senseRangeFault c sense present => Sys2Proof.Machine.execSenseRangeFault c sense present s
  | .bitclkLoss c present => Sys2Proof.Machine.execBitclkLoss c present s
  | .bitstreamStuck c present => Sys2Proof.Machine.execBitstreamStuck c present s
  | .holdWindow c => Sys2Proof.Machine.execHoldWindow c s
  | .faultLatchClear who c data => Sys2Proof.Machine.execFaultLatchClear who c data s
  | .safeActionWrite who c data => Sys2Proof.Machine.execSafeActionWrite who c data s
  | .calRecordWrite who c data => Sys2Proof.Machine.execCalRecordWrite who c data s
  | .blockAdcFrame b frame => Sys2Proof.Machine.execBlockAdcFrame b frame s
  | .drain who c => Sys2Proof.Machine.execDrain who c s
  | .drainForce who c => Sys2Proof.Machine.execDrainForce who c s
  | .commit who c => Sys2Proof.Machine.execCommit who c s
  | .repair who c => Sys2Proof.Machine.execRepair who c s
  | .release who c => Sys2Proof.Machine.execRelease who c s
  | .abandon who c => Sys2Proof.Machine.execAbandon who c s
  | .maintCmdStart c => Sys2Proof.Machine.execMaintCmdStart c s
  | .drainComplete c => Sys2Proof.Machine.execDrainComplete c s
  | .drainTimeout c => Sys2Proof.Machine.execDrainTimeout c s
  | .repairDone c finding => Sys2Proof.Machine.execRepairDone c finding s
  | .cellStartComplete c => Sys2Proof.Machine.execCellStartComplete c s
  | .lineVendSample g bits => Sys2Proof.Machine.execLineVendSample g bits s
  | .lineQualified g => Sys2Proof.Machine.execLineQualified g s
  | .groupEnable who g data => Sys2Proof.Machine.execGroupEnable who g data s
  | .groupStart g => Sys2Proof.Machine.execGroupStart g s
  | .groupRampComplete g => Sys2Proof.Machine.execGroupRampComplete g s
  | .groupStop g cause => Sys2Proof.Machine.execGroupStop g cause s
  | .heldTestMet g cause => Sys2Proof.Machine.execHeldTestMet g cause s
  | .leakTrip l asserted => Sys2Proof.Machine.execLeakTrip l asserted s
  | .dischargeEnd g => Sys2Proof.Machine.execDischargeEnd g s
  | .groupRetry g => Sys2Proof.Machine.execGroupRetry g s
  | .groupRetryReload g => Sys2Proof.Machine.execGroupRetryReload g s
  | .groupClear who g data => Sys2Proof.Machine.execGroupClear who g data s
  | .idCycle => Sys2Proof.Machine.execIdCycle s
  | .identificationDone g => Sys2Proof.Machine.execIdentificationDone g s
  | .busLoopSample => Sys2Proof.Machine.execBusLoopSample s
  | .slotPresent c => Sys2Proof.Machine.execSlotPresent c s
  | .unseat c => Sys2Proof.Machine.execUnseat c s
  | .unseat50ms c => Sys2Proof.Machine.execUnseat50ms c s
  | .insertionCountDone c => Sys2Proof.Machine.execInsertionCountDone c s
  | .feederStart c => Sys2Proof.Machine.execFeederStart c s
  | .feederControlPeriod c x => Sys2Proof.Machine.execFeederControlPeriod c x s
  | .inrushTimeout c => Sys2Proof.Machine.execInrushTimeout c s
  | .passDeviceFault c cause => Sys2Proof.Machine.execPassDeviceFault c cause s
  | .feederUnloaded c => Sys2Proof.Machine.execFeederUnloaded c s
  | .feederRetry c => Sys2Proof.Machine.execFeederRetry c s
  | .feederRetryReload c => Sys2Proof.Machine.execFeederRetryReload c s
  | .feederClear who c data => Sys2Proof.Machine.execFeederClear who c data s
  | .feedEnable who c data => Sys2Proof.Machine.execFeedEnable who c data s
  | .oringControlPeriod c x => Sys2Proof.Machine.execOringControlPeriod c x s
  | .oringRearm c => Sys2Proof.Machine.execOringRearm c s
  | .orClear who c data => Sys2Proof.Machine.execOrClear who c data s
  | .orEnable who c data => Sys2Proof.Machine.execOrEnable who c data s
  | .grantRequest who data => Sys2Proof.Machine.execGrantRequest who data s
  | .estimatorUpdate q => Sys2Proof.Machine.execEstimatorUpdate q s
  | .restWindowEnd q cause => Sys2Proof.Machine.execRestWindowEnd q cause s
  | .restAnchor q => Sys2Proof.Machine.execRestAnchor q s
  | .fullAnchor q => Sys2Proof.Machine.execFullAnchor q s
  | .absorbTimeout q => Sys2Proof.Machine.execAbsorbTimeout q s
  | .impedanceRcUpdate q => Sys2Proof.Machine.execImpedanceRcUpdate q s
  | .packPoll q poll => Sys2Proof.Machine.execPackPoll q poll s
  | .stringAuthenticate q answer => Sys2Proof.Machine.execStringAuthenticate q answer s
  | .stringAbsent q => Sys2Proof.Machine.execStringAbsent q s
  | .stringLvd q => Sys2Proof.Machine.execStringLvd q s
  | .stringBlockLimit q => Sys2Proof.Machine.execStringBlockLimit q s
  | .stringEnable who q data => Sys2Proof.Machine.execStringEnable who q data s
  | .stringClear who q data => Sys2Proof.Machine.execStringClear who q data s
  | .recordReset who q data => Sys2Proof.Machine.execRecordReset who q data s
  | .recordWriteback q => Sys2Proof.Machine.execRecordWriteback q s
  | .pgSample pins => Sys2Proof.Machine.execPgSample pins s
  | .railSlot r => Sys2Proof.Machine.execRailSlot r s
  | .railPgTimeout r => Sys2Proof.Machine.execRailPgTimeout r s
  | .railRetry r => Sys2Proof.Machine.execRailRetry r s
  | .railNotOff r => Sys2Proof.Machine.execRailNotOff r s
  | .railClear who r data => Sys2Proof.Machine.execRailClear who r data s
  | .settleCommitted => Sys2Proof.Machine.execSettleCommitted s
  | .restartDelayEnd => Sys2Proof.Machine.execRestartDelayEnd s
  | .pfiAssert => Sys2Proof.Machine.execPfiAssert s
  | .lastgaspCommitted us => Sys2Proof.Machine.execLastgaspCommitted us s
  | .pfiRelease => Sys2Proof.Machine.execPfiRelease s
  | .thermalEvaluation j mean => Sys2Proof.Machine.execThermalEvaluation j mean s
  | .thermalRateEvaluation j => Sys2Proof.Machine.execThermalRateEvaluation j s
  | .thermalRelease j => Sys2Proof.Machine.execThermalRelease j s
  | .derateStep k => Sys2Proof.Machine.execDerateStep k s
  | .regionDiffClear => Sys2Proof.Machine.execRegionDiffClear s
  | .mismatch kind inst active standby => Sys2Proof.Machine.execMismatch kind inst active standby s
  | .selftestDecision a b gapNs => Sys2Proof.Machine.execSelftestDecision a b gapNs s
  | .standbyInternalError => Sys2Proof.Machine.execStandbyInternalError s
  | .bgSelftestFail lane unit => Sys2Proof.Machine.execBgSelftestFail lane unit s
  | .laneWindow test copyUs => Sys2Proof.Machine.execLaneWindow test copyUs s
  | .returnA who => Sys2Proof.Machine.execReturnA who s
  | .returnB who => Sys2Proof.Machine.execReturnB who s
  | .retireStandby who => Sys2Proof.Machine.execRetireStandby who s
  | .autoReturn lane => Sys2Proof.Machine.execAutoReturn lane s
  | .laneReturnSelftestDone test => Sys2Proof.Machine.execLaneReturnSelftestDone test s
  | .laneResyncDone us => Sys2Proof.Machine.execLaneResyncDone us s
  | .laneCopyTimeout => Sys2Proof.Machine.execLaneCopyTimeout s
  | .canBusOff p => Sys2Proof.Machine.execCanBusOff p s
  | .busOffRecovery p => Sys2Proof.Machine.execBusOffRecovery p s
  | .nmtResetNode p => Sys2Proof.Machine.execNmtResetNode p s
  | .nmtResetCommunication p => Sys2Proof.Machine.execNmtResetCommunication p s
  | .nmtStart p => Sys2Proof.Machine.execNmtStart p s
  | .nmtStop p => Sys2Proof.Machine.execNmtStop p s
  | .nmtEnterPreoperational p => Sys2Proof.Machine.execNmtEnterPreoperational p s
  | .heartbeatReceived p node => Sys2Proof.Machine.execHeartbeatReceived p node s
  | .heartbeatLost p node => Sys2Proof.Machine.execHeartbeatLost p node s
  | .heartbeatProduce p => Sys2Proof.Machine.execHeartbeatProduce p s
  | .syncReceived p => Sys2Proof.Machine.execSyncReceived p s
  | .timeReceived p days ms => Sys2Proof.Machine.execTimeReceived p days ms s
  | .lssConfigureBitTiming p rateK => Sys2Proof.Machine.execLssConfigureBitTiming p rateK s
  | .lssConfigureNodeId p node => Sys2Proof.Machine.execLssConfigureNodeId p node s
  | .lssStoreConfiguration p => Sys2Proof.Machine.execLssStoreConfiguration p s
  | .usdoRequest who access => Sys2Proof.Machine.execUsdoRequest who access s
  | .segmentedTransferTimeout who => Sys2Proof.Machine.execSegmentedTransferTimeout who s
  | .dictWrite who index sub data => Sys2Proof.Machine.execDictWrite who index sub data s
  | .agreementAdoption set inst band => Sys2Proof.Machine.execAgreementAdoption set inst band s
  | .multiWrite who data => Sys2Proof.Machine.execMultiWrite who data s
  | .rpdoReceived n data => Sys2Proof.Machine.execRpdoReceived n data s
  | .tpdoEventCheck => Sys2Proof.Machine.execTpdoEventCheck s
  | .emcyInhibitExpiry p => Sys2Proof.Machine.execEmcyInhibitExpiry p s
  | .lingerExpiry h => Sys2Proof.Machine.execLingerExpiry h s
  | .lockCmd who data => Sys2Proof.Machine.execLockCmd who data s
  | .lockLeaseExpiry => Sys2Proof.Machine.execLockLeaseExpiry s
  | .dapRead ch stores index sub offset => Sys2Proof.Machine.execDapRead ch stores index sub offset s
  | .dapWrite ch stores index sub data => Sys2Proof.Machine.execDapWrite ch stores index sub data s
  | .dapMultiWrite ch stores data => Sys2Proof.Machine.execDapMultiWrite ch stores data s
  | .dapAbort ch => Sys2Proof.Machine.execDapAbort ch s
  | .dapRequestEnd ch => Sys2Proof.Machine.execDapRequestEnd ch s
  | .storeSave who sub data => Sys2Proof.Machine.execStoreSave who sub data s
  | .storeWritten ms => Sys2Proof.Machine.execStoreWritten ms s
  | .restoreLoad who sub data => Sys2Proof.Machine.execRestoreLoad who sub data s
  | .twStatus p src r => Sys2Proof.Machine.execTwStatus p src r s
  | .dictSelect p src bytes => Sys2Proof.Machine.execDictSelect p src bytes s
  | .twDictRead p src r => Sys2Proof.Machine.execTwDictRead p src r s
  | .twDictWrite p src bytes => Sys2Proof.Machine.execTwDictWrite p src bytes s
  | .dictResult p src r => Sys2Proof.Machine.execDictResult p src r s
  | .eventCursor p src bytes => Sys2Proof.Machine.execEventCursor p src bytes s
  | .eventWindow p src r => Sys2Proof.Machine.execEventWindow p src r s
  | .twGrantRequest p src bytes => Sys2Proof.Machine.execTwGrantRequest p src bytes s
  | .grantState p src r => Sys2Proof.Machine.execGrantState p src r s
  | .alertCause p src r => Sys2Proof.Machine.execAlertCause p src r s
  | .portInfo p src r => Sys2Proof.Machine.execPortInfo p src r s
  | .quickCommand p => Sys2Proof.Machine.execQuickCommand p s
  | .alertResponse p rival pec => Sys2Proof.Machine.execAlertResponse p rival pec s
  | .twBusError p src => Sys2Proof.Machine.execTwBusError p src s
  | .stretchLimit p => Sys2Proof.Machine.execStretchLimit p s
  | .portSleep p => Sys2Proof.Machine.execPortSleep p s
  | .hostNotify p acked => Sys2Proof.Machine.execHostNotify p acked s
  | .hostNotifyRetry p acked => Sys2Proof.Machine.execHostNotifyRetry p acked s
  | .arbitrationLost p own => Sys2Proof.Machine.execArbitrationLost p own s
  | .twTimeout p controller => Sys2Proof.Machine.execTwTimeout p controller s
  | .busRecovery p sda => Sys2Proof.Machine.execBusRecovery p sda s
  | .portFaultCheck p linesHigh => Sys2Proof.Machine.execPortFaultCheck p linesHigh s
  | .regulatorPoll c answers => Sys2Proof.Machine.execRegulatorPoll c answers s
  | .appFault c mcause mtval => Sys2Proof.Machine.execAppFault c mcause mtval s
  | .icuSourceEvent src => Sys2Proof.Machine.execIcuSourceEvent src s
  | .swset c mask => Sys2Proof.Machine.execSwset c mask s
  | .moderationRelease n => Sys2Proof.Machine.execModerationRelease n s
  | .coreWfi c => Sys2Proof.Machine.execCoreWfi c s
  | .claim c => Sys2Proof.Machine.execClaim c s
  | .complete c id => Sys2Proof.Machine.execComplete c id s
  | .targetWrite c n word => Sys2Proof.Machine.execTargetWrite c n word s
  | .timerCompareWrite c n hi lo => Sys2Proof.Machine.execTimerCompareWrite c n hi lo s
  | .timerCompareMatch c n => Sys2Proof.Machine.execTimerCompareMatch c n s
  | .timeLoRead c => Sys2Proof.Machine.execTimeLoRead c s
  | .eccCorrected mem addr requester => Sys2Proof.Machine.execEccCorrected mem addr requester s
  | .eccUncorrectable mem addr requester => Sys2Proof.Machine.execEccUncorrectable mem addr requester s
  | .scrubGo c stores machineMode start words => Sys2Proof.Machine.execScrubGo c stores machineMode start words s
  | .scrubAbort c atWord corr uncorr firstBad => Sys2Proof.Machine.execScrubAbort c atWord corr uncorr firstBad s
  | .scrubDone c corr uncorr firstBad => Sys2Proof.Machine.execScrubDone c corr uncorr firstBad s
  | .foldTimeout source => Sys2Proof.Machine.execFoldTimeout source s
  | .peatAppend seq => Sys2Proof.Machine.execPeatAppend seq s
  | .numberReserveWrite => Sys2Proof.Machine.execNumberReserveWrite s
  | .window who store => Sys2Proof.Machine.execWindow who store s
  | .cursor who store data => Sys2Proof.Machine.execCursor who store data s
  | .ringRetire who store data => Sys2Proof.Machine.execRingRetire who store data s
  | .gaspClear who data => Sys2Proof.Machine.execGaspClear who data s
  | .identify f => Sys2Proof.Machine.execIdentify f s
  | .authBegin f => Sys2Proof.Machine.execAuthBegin f s
  | .authProve f => Sys2Proof.Machine.execAuthProve f s
  | .fafortDictRead f => Sys2Proof.Machine.execFafortDictRead f s
  | .fafortDictWrite f => Sys2Proof.Machine.execFafortDictWrite f s
  | .imageBegin f => Sys2Proof.Machine.execImageBegin f s
  | .imageData f => Sys2Proof.Machine.execImageData f s
  | .imageEnd f => Sys2Proof.Machine.execImageEnd f s
  | .activate f => Sys2Proof.Machine.execActivate f s
  | .keyWrite f => Sys2Proof.Machine.execKeyWrite f s
  | .close f => Sys2Proof.Machine.execClose f s
  | .sessionTimeout => Sys2Proof.Machine.execSessionTimeout s
  | .authLockoutEnd => Sys2Proof.Machine.execAuthLockoutEnd s
  | .activation => Sys2Proof.Machine.execActivation s
  | .activateCancelled => Sys2Proof.Machine.execActivateCancelled s
  | .appConfirm d data => Sys2Proof.Machine.execAppConfirm d data s
  | .trialConfirm => Sys2Proof.Machine.execTrialConfirm s
  | .rollback who data => Sys2Proof.Machine.execRollback who data s
  | .fallback => Sys2Proof.Machine.execFallback s
  | .xinLost => Sys2Proof.Machine.execXinLost s
  | .pllUnlock pll => Sys2Proof.Machine.execPllUnlock pll s
  | .xinLocked errorCentiPct => Sys2Proof.Machine.execXinLocked errorCentiPct s
  | .x32Fail => Sys2Proof.Machine.execX32Fail s
  | .wispTrim trim => Sys2Proof.Machine.execWispTrim trim s
  | .linkRetrain upstream lane step corrected => Sys2Proof.Machine.execLinkRetrain upstream lane step corrected s
  | .addressRecognisedAsleep p => Sys2Proof.Machine.execAddressRecognisedAsleep p s
  | .errCmd p => Sys2Proof.Machine.execErrCmd p s
  | .errorPassive p into => Sys2Proof.Machine.execErrorPassive p into s
  | .tpdoEventTimer n => Sys2Proof.Machine.execTpdoEventTimer n s
  | .prioWrite c reg word => Sys2Proof.Machine.execPrioWrite c reg word s
  | .thresholdWrite c threshold => Sys2Proof.Machine.execThresholdWrite c threshold s
  | .pllRelockRetry pll lockedCentiPct => Sys2Proof.Machine.execPllRelockRetry pll lockedCentiPct s

end Sys2Proof.Machine
end

