-- ==== Sys2Proof/Machine/Step.lean ====
section
/-! DEFINITION. Machine/Step.lean: one step of the block takes the command at the front of its queue. With nothing
waiting the block idles and one microsecond passes (log 18). -/

namespace Sys2Proof.Machine

/-- Take the front command and run it on the state with the rest of the queue; an empty queue lets 1 µs pass. -/
def step (s : State) : Host.Outcome State Fault Refusal :=
  match s.pending with
  | [] => .next (s.modClk fun c => { c with timeUs := c.timeUs + 1 })
  | c :: rest => exec c { s with pending := rest }

/-- The state with the command that a word spells at the front of its queue. -/
def State.withFetchWord (s : State) (nbits w : Nat) : State :=
  match decodeTableWord nbits w with
  | some c => { s with pending := c :: s.pending }
  | none => s

end Sys2Proof.Machine
end

