-- ==== Sys2Proof/Safety.lean ====
section
/-! DEFINITION. Safety.lean: the terms in which statements speak: the canonical form of the dictionary, the bounds of the recorder, what
a step may never undo, and when an access is admitted. -/

namespace Sys2Proof.Machine

/-! Invariants. -/

/-- The stored images of the dictionary: both copies, the one in force, and one under way (R299). -/
def DictState.images (d : DictState) : List Image :=
  d.imageA.toList ++ d.imageB.toList ++ d.imageInForce.toList ++ (d.storing.map fun x => x.2.1).toList

/-- Canonical form: in every store of the dictionary the keys rise strictly, so that each entry is listed at most once. -/
def DictState.canonical (d : DictState) : Prop := Dict.wf d.written ∧ Dict.wf d.force ∧ ∀ i ∈ d.images, Dict.wf i.vals

/-- The recorder keeps within its memories: the ring within 262 144 bytes (R350), the Peat log within 1 015 808 (R352), the queue within
8 192 (R351), and at most eight last-gasp slots (R353). -/
def Recorder.bounded (q : Recorder) : Prop :=
  totalBy (fun r => padTo 4 r.size) q.ring ≤ 262144 ∧ totalBy (fun r => padTo 8 (r.size + 8)) q.log ≤ 1015808
    ∧ totalBy Rec.size q.queue ≤ 8192 ∧ q.gasps.length ≤ 8

/-- The invariant that every step keeps. -/
def State.Inv (s : State) : Prop := s.dict.canonical ∧ s.recorder.bounded

/-- What no command undoes: SEC_VERSION never falls (R365), and a locked key slot keeps its key (R369). -/
def Firmware.guards (a b : Firmware) : Prop :=
  a.secVersion ≤ b.secVersion ∧ ∀ k ∈ a.keys, k.locked → k ∈ b.keys

/-! Accesses. -/

/-- Host `h` of channel `who` is served: the channel answers, `h` is its context, and a session is free (R272, R279). -/
def State.serves (s : State) (who : Key) (h : HostNo) : Prop :=
  s.channelUp who = true ∧ s.ctxOf who = some h ∧ s.portFull who = false

/-- A write of an entry of fixed size passes the steps of R304 that come before the entry's own: it exists, the class may write it, no
lock bars it, and its length and value are right; `v` is the value its bytes carry. -/
def State.admits (s : State) (h : HostNo) (index sub : Nat) (data : Bytes) (v : Int) : Prop :=
  ∃ e, entryOf index sub = some e ∧ s.mayWrite h index sub e = true ∧ s.lockBars h e = false ∧ e.ty.size = some data.length
    ∧ e.ty.decode data = v ∧ checkValue e v = 0

/-- The same for an entry whose length is its own rule's (a DOMAIN, R304). -/
def State.admitsDomain (s : State) (h : HostNo) (index sub : Nat) : Prop :=
  ∃ e, entryOf index sub = some e ∧ s.mayWrite h index sub e = true ∧ s.lockBars h e = false ∧ e.ty.size = none

/-- What a served write answers once its entry's own rule has made `t` of the state: the agreement sets of the entry are tested (R295),
the reply is 0, and EMCY 0x0000 is judged against the state before (Table 13-4). -/
def State.wrote (before : State) (index sub : Nat) (t : State) : State :=
  State.errReset before ((t.afterWrite index sub).answer 0 [] 0)

/-- A frame of a source address is taken by an awake two-wire port (R307, R309, R320): its context is `h`, and `t` is the state once the
contact is noted. -/
def State.twTakes (s : State) (p : TwNo) (src : BitVec 7) (h : HostNo) (t : State) : Prop :=
  s.twAwake p = true ∧ (s.modTw p fun x => { x with st := .idle, frameUs := s.clk.timeUs }).contact (twKey p src) = (some h, t)

/-- A Fafort frame of a type is whole, and new to a channel that answers (R361). -/
def State.fafortTakes (s : State) (type : Nat) (f : Sys2Proof.Fafort) : Prop :=
  s.fafortUp = true ∧ Fafort.whole type f = true ∧ s.fw.session.lastSeq ≠ some f.seq

/-- A request restarts the session's 10 s (R362). -/
def State.requested (s : State) : State := s.modSession fun x => { x with requestUs := s.clk.timeUs }

/-- The same inside an authenticated session, whose context is `h`; `t` is the state once the request and the contact are noted (R362). -/
def State.sessionTakes (s : State) (type : Nat) (f : Sys2Proof.Fafort) (h : HostNo) (t : State) : Prop :=
  s.fafortTakes type f ∧ s.fw.session.authed = true ∧ s.ctxOf serviceKey = some h ∧ t = s.requested.touch h

/-- What a Fafort frame comes to, given its status, data and state: the reply, kept for a repeat of its sequence number (R361). -/
def State.framed (before : State) (f : Sys2Proof.Fafort) (status : Nat) (data : Bytes) (t : State) : State :=
  let r : Reply := { code := status, data := data, total := data.length }
  State.errReset before { t.modSession fun x => { x with lastSeq := some f.seq, lastReply := r } with reply := r }

/-! Frames. -/

/-- The controlled plant stands as it was: cells, loops, groups, the bus, the ledger, strings and packs, rails, thermal inputs, lanes, the
dictionary, the mode and the pins. -/
def State.samePlant (s t : State) : Prop :=
  t.cells = s.cells ∧ t.loops = s.loops ∧ t.groups = s.groups ∧ t.bus = s.bus ∧ t.ledger = s.ledger ∧ t.strings = s.strings
    ∧ t.packs = s.packs ∧ t.seq = s.seq ∧ t.thermal = s.thermal ∧ t.lanes = s.lanes ∧ t.dict = s.dict ∧ t.modes = s.modes
    ∧ t.pins = s.pins ∧ t.phase = s.phase ∧ t.clk = s.clk

/-- Commands that touch the controlled plant not at all: the CAN ports' own rows, the two-wire ports' lines and regulators, the Fafort rows
that neither access the dictionary nor end a session, activate or fall back, the cores, the interrupt controller and the scrubber, and the
recorder's own writes. -/
def leavesPlant (c : Instr) : Bool :=
  match c with
  | .canBusOff _ | .busOffRecovery _ | .errorPassive .. | .nmtStart _ | .nmtStop _ | .nmtEnterPreoperational _ | .heartbeatReceived ..
  | .heartbeatLost .. | .heartbeatProduce _ | .timeReceived .. | .lssConfigureNodeId .. | .syncReceived _ | .tpdoEventCheck
  | .tpdoEventTimer _ | .emcyInhibitExpiry _ | .quickCommand _ | .alertResponse .. | .errCmd _ | .twBusError .. | .stretchLimit _
  | .portSleep _ | .addressRecognisedAsleep _ | .twTimeout .. | .busRecovery .. | .portFaultCheck .. | .hostNotify .. | .hostNotifyRetry ..
  | .arbitrationLost .. | .authLockoutEnd | .identify _ | .authBegin _ | .imageBegin .. | .imageData .. | .imageEnd _
  | .keyWrite .. | .dapAbort _ | .icuSourceEvent .. | .swset .. | .moderationRelease _ | .coreWfi _ | .claim _ | .complete ..
  | .targetWrite .. | .prioWrite .. | .thresholdWrite .. | .timerCompareWrite .. | .timerCompareMatch .. | .timeLoRead _ | .eccCorrected ..
  | .scrubGo .. | .scrubAbort .. | .scrubDone .. | .foldTimeout _ | .peatAppend _ | .numberReserveWrite => true
  | _ => false

/-- Only cell `c` differs: every other cell, every loop, group, string and pack, the bus layer, the rails, the thermal inputs, the lanes, the
mode and the written values of the dictionary stand as they were. -/
def State.onlyCell (c : CellNo) (s t : State) : Prop :=
  (∀ d : CellNo, d ≠ c → t.cells[d] = s.cells[d]) ∧ t.loops = s.loops ∧ t.groups = s.groups ∧ t.strings = s.strings ∧ t.packs = s.packs
    ∧ t.bus = s.bus ∧ t.seq = s.seq ∧ t.thermal = s.thermal ∧ t.lanes = s.lanes ∧ t.modes = s.modes ∧ t.phase = s.phase
    ∧ t.dict.written = s.dict.written

/-- The cell that a row of one FEEDER or ORING cell is about. -/
def cellOnly (i : Instr) : Option CellNo :=
  match i with
  | .slotPresent c | .unseat c | .insertionCountDone c | .feederStart c | .feederControlPeriod c _ | .inrushTimeout c | .passDeviceFault c _
  | .feederUnloaded c | .feederRetry c .. | .feederRetryReload c | .oringReverse c _ | .oringControlPeriod c _ | .oringRearm c => some c
  | _ => none

/-- Commands that may change the boot phase or the mode of operation: reset, boot and wake, the tick, PFI, MANAGE's restart, and what can
find a start condition in DORMANT (R22, R23, R36, R367, R384). -/
def ModeMover (c : Instr) : Bool :=
  match c with
  | .coldReset .. | .boot .. | .bootComplete | .hostWake .. | .manageRestart | .ledgerTick | .pfiAssert | .blockAdcFrame ..
  | .startInputQualified _ | .lineQualified .. => true
  | _ => false

/-- The channel a host's own request arrives on: accesses, and the rows that are a write of one entry by a host. -/
def requester (c : Instr) : Option Key :=
  match c with
  | .modeRequest who .. | .shutdownLatchClear who .. | .profileSelect who .. | .latencyBudgetWrite who ..
  | .ownPowerPeakClear who .. | .loopEnable who .. | .activeSetWrite who .. | .safeLockWrite who .. | .arm who ..
  | .forceTrigger who .. | .disarm who .. | .faultLatchClear who .. | .safeActionWrite who .. | .calRecordWrite who ..
  | .drain who .. | .drainForce who .. | .commit who .. | .repair who .. | .release who .. | .abandon who ..
  | .groupEnable who .. | .groupClear who .. | .feederClear who .. | .feedEnable who .. | .orClear who ..
  | .orEnable who .. | .grantRequest who .. | .stringEnable who .. | .stringClear who .. | .recordReset who ..
  | .railClear who .. | .returnA who | .returnB who | .retireStandby who | .usdoRequest who .. | .dictWrite who ..
  | .multiWrite who .. | .lockCmd who .. | .storeSave who .. | .restoreLoad who .. | .window who .. | .cursor who ..
  | .ringRetire who .. | .gaspClear who .. | .rollback who .. => some who
  | _ => none

end Sys2Proof.Machine
end

