-- ==== Sys2Proof/Certificates/Slice0/Obligations.lean ====
section
/-! DEFINITION. Certificates/Slice0/Obligations.lean: the statements about this model that the provers are asked for. -/

open Sys2Proof Sys2Proof.Machine

/-- A step takes the command at the front of the queue and runs it on the state with the queue's rest. -/
def Obligations.StepRunsFront : Prop :=
  ∀ (s : State) (c : Instr) (rest : List Instr), s.pending = c :: rest → step s = exec c { s with pending := rest }

/-- On an empty queue one microsecond passes and nothing else happens (the model's choice, log 18). -/
def Obligations.IdleStep : Prop :=
  ∀ s : State, s.pending = [] → step s = .next { s with clk := { s.clk with timeUs := s.clk.timeUs + 1 } }

/-- Right after a power-on reset: the machine is held, no mode and no safe state is in force, every cell is idle with its outputs low, every
loop is stopped, every group and string is disabled, no host, lock, session or grant stands, the ring, the last-gasp slots and the written
dictionary are empty, and the invariant holds. -/
def Obligations.ResetState : Prop :=
  State.reset.phase = .held ∧ State.reset.modes.mode = none ∧ State.reset.modes.safe = false ∧ State.reset.modes.shutdownLatch = false
  ∧ State.reset.pending = [] ∧ State.reset.Inv
  ∧ (∀ c : CellNo, State.reset.cells[c].pwa = .low ∧ State.reset.cells[c].pwb = .low ∧ State.reset.cells[c].role = .idle)
  ∧ (∀ k : LoopNo, State.reset.loops[k].active = false) ∧ (∀ g : GroupNo, State.reset.groups[g].st = .disabled)
  ∧ (∀ n : StringNo, State.reset.strings[n].st = .disabled) ∧ (∀ h : HostNo, State.reset.hosts[h].used = false)
  ∧ (∀ g : GrantNo, State.reset.ledger.grants[g].standing = false) ∧ State.reset.fw.session.open_ = false
  ∧ State.reset.recorder.ring = [] ∧ State.reset.recorder.gasps = [] ∧ State.reset.dict.written = [] ∧ State.reset.lockOwner = none

/-- The clock block (R36, R37, R373, R374, R375, R382): losing XIN or a lock enters holdover once, counts it, takes the CAN ports off their
buses where XIN or PLL S is lost, and records its event; a lock after 1 ms of edges and the steering, or at a try every 10 ms, ends what it
locks; WCLK's crystal and its trim of every second; a sample point moves by at most one step every 10 ms; and once a second the consumption
parts and their peak, of which those of parts that do not run are 0. -/
def Obligations.ClockCommands : Prop :=
  (∀ s : State, s.phase ≠ .held → s.manage ≠ .deep → s.clk.xin = true →
    exec .xinLost s = .next (State.errReset s (State.event (srcWatch 0) 0xD001 0xFF []
      { s with clk := { s.clk with xin := false, pllS := false, pllL := false, holdover := true, lostUs := s.clk.timeUs
                                   holdovers := if s.clk.holdover then s.clk.holdovers else wrap32 (s.clk.holdovers + 1) }
               can := s.can.map fun x => { x with port := .off } })))
  ∧ (∀ (s : State) (p : Pll), s.phase ≠ .held → s.manage ≠ .deep → p = .s ∨ s.dormant = false → s.clk.xin = true → s.clk.locked p = true →
    let t := s.modClk fun k =>
      { k.setLock p false with holdover := true, holdovers := if k.holdover then k.holdovers else wrap32 (k.holdovers + 1)
                               retryUs := k.retryUs.set (Sys2Proof.Machine.Pll.code p) s.clk.timeUs }
    let t := if p = .s then { t with can := t.can.map fun x => { x with port := .off } } else t
    exec (.pllUnlock p) s = .next (State.errReset s (t.event (srcWatch 0) 0xD003 0xFF (byte (Sys2Proof.Machine.Pll.code p)))))
  ∧ (∀ (s : State) (e : Int), s.phase ≠ .held → s.manage ≠ .deep → s.clk.xin = false →
    s.clk.lostUs + 1000 + 20 * e.natAbs ≤ s.clk.timeUs →
    exec (.xinLocked e) s = .next (State.errReset s (((s.modClk fun k =>
      { k with xin := true, pllS := true, pllL := true, pllH := true, holdover := false }).event
        (srcWatch 0) 0xD002 0xFF (leI 2 e)).each 2 State.rejoin)))
  ∧ (∀ (s : State) (p : Pll), s.phase ≠ .held → s.manage ≠ .deep → p = .s ∨ s.dormant = false → s.clk.xin = true → s.clk.locked p = false →
    s.clk.retryUs[Sys2Proof.Machine.Pll.code p] + 10000 ≤ s.clk.timeUs →
    let t := s.modClk fun k => { k with retryUs := k.retryUs.set (Sys2Proof.Machine.Pll.code p) s.clk.timeUs }
    exec (.pllRelockRetry p none) s = .next t
    ∧ (∀ e : Int, exec (.pllRelockRetry p (some e)) s = .next (State.errReset s ((((t.modClk (Clocks.setLock p true)).modClk fun k =>
        { k with holdover := !(k.pllS && k.pllL && k.pllH) }).event (srcWatch 0) 0xD002 0xFF (leI 2 e)).each 2 State.rejoin))))
  ∧ (∀ s : State, s.phase ≠ .held → s.clk.wclkCrystal = true →
    exec .x32Fail s = .next ((s.modClk fun k => { k with wclkCrystal := false }).event (srcWatch 0) 0xD004 0xFF []))
  ∧ (∀ (s : State) (d : Int), s.phase ≠ .held → s.manage ≠ .deep → s.clk.xin = true → s.clk.trimUs + 1000000 ≤ s.clk.timeUs →
    exec (.wispTrim d) s = .next (s.modClk fun k => { k with wispTrim := d, trimUs := s.clk.timeUs }))
  ∧ (∀ (s : State) (up : Bool) (lane : Fin 8) (step : Int) (ok : Bool) (i : Fin 16), s.phase ≠ .held → s.manage ≠ .deep → s.dormant = false →
    (i : Nat) = lane + 8 * b2n up → s.clk.retrainUs[i] + 10000 ≤ s.clk.timeUs →
    let t := s.modClk fun k => { k with samplePoints := k.samplePoints.set i (k.samplePoints[i] + max (-1) (min 1 step))
                                        retrainUs := k.retrainUs.set i s.clk.timeUs, retrains := wrap32 (k.retrains + 1) }
    exec (.linkRetrain up lane step ok) s = .next (if ok then t else t.event (srcWatch 0) 0xD012 0xFF (byte (b2n up) ++ byte lane)))
  ∧ (∀ (s : State) (w l c m : Nat), s.phase ≠ .held → s.own.us + 1000000 ≤ s.clk.timeUs →
    let l := if s.dormant then 0 else l
    let m := if s.manage = .running then m else 0
    exec (.consumptionUpdate w l c m) s = .next { s with own :=
      { total := w + l + c + m, watch := w, loop := l, channel := c, manage := m, peak := max s.own.peak (w + l + c + m)
        us := s.clk.timeUs } })

/-- What the two dies and their blocks report (R10, R12, R13, R16, R51, R384): a slot whose CRC fails is counted, a discarded sample or
command of a cell with a role counting as lost for the cell's next period; a lost link or LCLK enters the safe state of its die; a block
that fails its check is reset, and one that fails it twice is held in reset, a channel block's cells taking their safe actions. -/
def Obligations.LinkCommands : Prop :=
  (∀ (s : State) (c : CellNo), s.cells[c].role ≠ .idle →
    let t := s.modClk fun k => { k with crcErrors := wrap32 (k.crcErrors + 1) }
    exec (.slotCrcFail (.sample c)) s = .next (t.modCell c fun x => { x with lostSample := true })
    ∧ exec (.slotCrcFail (.command c)) s = .next (t.modCell c fun x => { x with lostCommand := true }))
  ∧ (∀ (s : State) (c : CellNo), s.cells[c].role = .idle →
    exec (.slotCrcFail (.sample c)) s = .next (s.modClk fun k => { k with crcErrors := wrap32 (k.crcErrors + 1) })
    ∧ exec (.slotCrcFail (.command c)) s = .next (s.modClk fun k => { k with crcErrors := wrap32 (k.crcErrors + 1) }))
  ∧ (∀ s : State, exec (.slotCrcFail .other) s = .next (s.modClk fun k => { k with crcErrors := wrap32 (k.crcErrors + 1) }))
  ∧ (∀ s : State, exec (.linkLoss .mixedSignal) s = .next ((s.setSafeAll 2).modPins fun p => { p with safeN := false }))
  ∧ (∀ s : State, exec (.linkLoss .digital) s = .next (State.errReset s (s.enterSafe 2)))
  ∧ (∀ s : State, s.lanes.pair ≠ .off → exec .lclkLoss s = .next (State.errReset s (s.enterSafe 3)))
  ∧ (∀ (s : State) (b : BlockNo) (x y : Bool),
    let t := s.resetBlock b
    (x = true ∨ y = true → exec (.blockLocalReset (.cb b) x y) s = .next t)
    ∧ (x = false → y = false → exec (.blockLocalReset (.cb b) x y) s = .next (State.errReset s
        (State.each { t with heldBlocks := t.heldBlocks ||| BitVec.ofNat 6 (2 ^ (b : Nat)) } 48 fun c u =>
          if (c : Nat) / 8 = b then u.setSafe c 3 else u))))
  ∧ (∀ (s : State) (src : BitVec 8) (x y : Bool),
    (x = true ∨ y = true → exec (.blockLocalReset (.other src) x y) s = .next s)
    ∧ (x = false → y = false → src ∉ s.heldOther →
      exec (.blockLocalReset (.other src) x y) s = .next { s with heldOther := s.heldOther ++ [src] }))

/-- What a cell's own hardware reports (R42, R47, R48, R50, R72, R132, R135, R167, R170): a crossing of the threshold DAC trips a FEEDER, and
a driver's FLT, an invalid sense or a missed HOLD window sets its latch bit, each driving the outputs low; a FEEDER notes the trip for its
control period, and a LINE cell's group stops; the cycle-by-cycle limit ends the on-pulse at its step and is counted. -/
def Obligations.CellFaultCommands : Prop :=
  (∀ (s : State) (c : CellNo) (x : TripSense), s.cells[c].role = .feeder → s.cells[c].faultLatch.getLsbD 0 = false →
    s.cells[c].crosses ((s.cell c 0x30 : Rat) * s.cell c 0x25 / 1000 / csFullScale s.cells[c].pinMode) false x = true →
    exec (.fastTrip c x) s = .next (((s.feederOff c).setFault c 0).noteTrip c 1))
  ∧ (∀ (s : State) (c : CellNo), fltUse s.cells[c].pinMode = 1 ∨ fltUse s.cells[c].pinMode = 2 →
    s.cells[c].faultLatch.getLsbD 1 = false →
    let u := s.modCell c fun x => { x with causes := x.causes ||| faultBit 1 }
    (s.cells[c].role = .phase → exec (.driverFlt c true) s = .next ((u.modCell c Cell.outputsLow).setFault c 1))
    ∧ (s.cells[c].role = .oring →
      exec (.driverFlt c true) s = .next (((u.modCell c Cell.outputsLow).modOring c Oring.toBlocking).setFault c 1))
    ∧ (s.cells[c].role = .line → ∃ t, t = (u.modCell c Cell.outputsLow).setFault c 1 ∧
        exec (.driverFlt c true) s = .next (match t.groupOf c with | some g => t.groupStop g 4 (srcCell c) | none => t))
    ∧ (s.cells[c].role = .feeder →
        exec (.driverFlt c true) s = .next (((u.modCell c Cell.outputsLow).setFault c 1).noteTrip c 6))
    ∧ (s.cells[c].role ≠ .idle →
        exec (.driverFlt c false) s = .next (s.modCell c fun x => { x with causes := x.causes &&& ~~~faultBit 1 })))
  ∧ (∀ (s : State) (c : CellNo) (p : Bool), s.cells[c].role ≠ .idle →
    (csMode s.cells[c].pinMode ≠ 0 → exec (.senseRangeFault c .cs p) s = .next (State.errReset s (s.senseCause c 2 p)))
    ∧ (vsEn s.cells[c].pinMode = true → exec (.senseRangeFault c .vs p) s = .next (State.errReset s (s.senseCause c 3 p)))
    ∧ (csMode s.cells[c].pinMode = 3 ∨ auxMode s.cells[c].pinMode = 2 →
        exec (.bitclkLoss c p) s = .next (State.errReset s (s.senseCause c 4 p))
        ∧ exec (.bitstreamStuck c p) s = .next (State.errReset s (s.senseCause c 5 p))))
  ∧ (∀ (s : State) (c : CellNo), s.cells[c].role = .phase ∨ s.cells[c].role = .line → s.cells[c].safeCause ≠ 0 →
    s.cells[c].safeHold = true → 8 ≤ s.cells[c].holdRun → exec (.holdWindow c) s = .next ((s.modCell c Cell.outputsLow).setFault c 8))
  ∧ (∀ (s : State) (c : CellNo) (n : Nat) (x : TripSense), s.cells[c].role = .phase ∨ s.cells[c].role = .line → n < s.cells[c].onSteps →
    s.cells[c].crosses (Config.limitRatio c) false x = true →
    let t := s.modCell c fun x => { x with compCount := wrap32 (x.compCount + 1), compThis := true }
    (∀ k, t.loopOf c = some k → exec (.cycleByCycleLimit c n x) s =
      .next ((t.modCell c (Cell.cutPulse (t.loop k (0x26 + t.cells[c].calBand)) n (t.loops[k].st = .starting || t.loops[k].braking))).modLoop k
        fun l => { l with compSeen := true }))
    ∧ (t.loopOf c = none → exec (.cycleByCycleLimit c n x) s = .next (t.modCell c (Cell.cutPulse 0 n true))))

/-- The writes of a host that set the mode of operation and the shelf's budgets (R30, R31, R32, R33, R34, R35, R37): a mode request is
placed under its host's class and the one in force chosen; 0 clears SHUTDOWN_LATCH and OWN_POWER_PEAK; PROFILE_SELECT is written; a latency budget is the writing
host's own. -/
def Obligations.ModeWrites : Prop :=
  ∀ (s : State) (who : Key) (h : HostNo) (data : Bytes) (v : Int), s.serves who h →
    (s.admits h 0x2001 3 data v → v.toNat ≤ 4 → requestClass v.toNat ≤ s.hosts[h].cls.code → s.modes.safe = false →
      exec (.modeRequest who data) s = .next (s.wrote 0x2001 3 ((s.touch h).placeRequest h s.hosts[h].cls.code v.toNat)))
    ∧ (s.admits h 0x2001 7 data v →
      exec (.shutdownLatchClear who data) s = .next (s.wrote 0x2001 7 ((s.touch h).modModes fun m => { m with shutdownLatch := false })))
    ∧ (s.admits h 0x2004 1 data v →
      exec (.profileSelect who data) s = .next (s.wrote 0x2004 1 ((s.touch h).setWritten 0x2004 1 v)))
    ∧ (∀ b : Fin 4, s.admits h 0x2005 (b + 1) data v →
      exec (.latencyBudgetWrite who b data) s = .next (s.wrote 0x2005 (b + 1) ((s.touch h).modHost h fun x =>
        { x with budgets := x.budgets.set b v.toNat })))
    ∧ (s.admits h 0x2006 6 data v →
      exec (.ownPowerPeakClear who data) s = .next (s.wrote 0x2006 6 { s.touch h with own := { s.own with peak := 0 } }))

/-- The writes of a loop's ENABLE, ACTIVE_SET and SAFE_SET_LOCK (R68, R69, R81, R83, R113). ENABLE 1 starts a loop whose timing fits;
ENABLE 0 stops it and clears what a stop clears; a set or SAFE is switched to at the next boundary; the lock can always be set. `t` is the
state with the contact noted. -/
def Obligations.LoopWrites : Prop :=
  ∀ (s t : State) (who : Key) (h : HostNo) (k : LoopNo) (data : Bytes) (v : Int), s.serves who h → t = s.touch h →
    (s.admits h (0x3100 + k) 2 data v → v = 0 → t.loops[k].st ≠ .starting → t.loops[k].st ≠ .running →
      exec (.loopEnable who k data) s = .next (s.wrote (0x3100 + k) 2 ((((t.setWritten (0x3100 + k) 2 0).modLoop k fun l =>
        { l with st := .stopped }).modLoop k fun l => { l with dropped := 0, computeLat := 0 }).recapacity k)))
    ∧ (s.admits h (0x3100 + k) 2 data v → v = 0 → t.loops[k].st = .starting ∨ t.loops[k].st = .running →
      exec (.loopEnable who k data) s = .next (s.wrote (0x3100 + k) 2 ((((t.setWritten (0x3100 + k) 2 0).stopLoop k .stopped 1).modLoop k
        fun l => { l with dropped := 0, computeLat := 0 }).recapacity k)))
    ∧ (s.admits h (0x3100 + k) 2 data v → v = 1 → t.loop k 1 ≠ 0 → (t.controlMode k = 1 → t.loop k 8 ≠ 0) →
      (t.isLineLoop k = true → t.loop k 5 ≤ 409600 ∧ t.loop k 0x75 ≤ 409600) → t.timingFail k (t.periodMin k) = none → t.enabled k = false →
      exec (.loopEnable who k data) s = .next (s.wrote (0x3100 + k) 2 (((t.setWritten (0x3100 + k) 2 1).modLoop k fun l =>
        { l with computeLat := 26, hiccupLeft := t.loop k 0x6E }).tryStart k)))
    ∧ (s.admits h (0x3100 + k) 0xA data v → v = 0 ∨ v = 1 → t.loop k 0xC ≠ 1 → t.loops[k].setNext ≠ some (.safe, 3) →
      exec (.activeSetWrite who k data) s = .next (s.wrote (0x3100 + k) 0xA (t.modLoop k fun l =>
        { l with activeCode := v.toNat
                 setNext := if l.setNext = some (.safe, 3) then l.setNext else some (if v = 0 then .set0 else .set1, 1) })))
    ∧ (s.admits h (0x3100 + k) 0xA data v → v = 2 →
      exec (.activeSetWrite who k data) s = .next (s.wrote (0x3100 + k) 0xA (t.modLoop k fun l =>
        { l with activeCode := 2, setNext := if l.setNext = some (.safe, 3) then l.setNext else some (.safe, 1) })))
    ∧ (s.admits h (0x3100 + k) 0xA data v → v = 3 → t.loops[k].setInForce = .safe →
      exec (.activeSetWrite who k data) s = .next (s.wrote (0x3100 + k) 0xA (t.modLoop k fun l =>
        { l with activeCode := 3
                 setNext := if l.setNext = some (.safe, 3) then l.setNext
                   else some (if t.loop k 0xC = 1 then profileSet t.modes.profile else t.loops[k].resumeSet, 4) })))
    ∧ (s.admits h (0x3100 + k) 0xD data v → v = 1 →
      exec (.safeLockWrite who k data) s = .next (s.wrote (0x3100 + k) 0xD (t.setWritten (0x3100 + k) 0xD 1)))
    ∧ (s.admits h (0x3100 + k) 0xD data v → v = 0 → t.inModes [.tending] = true → t.lockOwner = some h → t.enabled k = false →
      exec (.safeLockWrite who k data) s = .next (s.wrote (0x3100 + k) 0xD (t.setWritten (0x3100 + k) 0xD 0)))

/-- The three commands of a moth-trap unit (R88, R89, R90, R91) and the writes of a cell's FAULT_LATCH, SAFE_ACTION and calibration record
(R45, R49, R50, R127): ARM empties a unit, takes its memory and fixes its nodes, clock and depth; FORCE_TRIGGER marks an armed one that has
seen no event; DISARM returns it to idle; 1 clears a latch bit, and a LINE cell drives its group's code again; the action is held in both
dies; a record that passes its tests in TENDING takes the place of the older copy. -/
def Obligations.TraceAndCellWrites : Prop :=
  (
    ∀ (s t : State) (who : Key) (h : HostNo) (u : TraceNo), s.serves who h → t = s.touch h →
      (s.admits h (0x2610 + u) 0x14 (byte 1) 1 → (t.unitNodes u).all nodeOk = true →
        (sumOf 4 fun v => if v = u then 0 else t.traces[v].memory) + t.unitNeed u ≤ 262144 → MemFail.mothTrap ∉ t.badBanks →
        exec (.arm who u) s = .next (s.wrote (0x2610 + u) 0x14 (t.modTrace u fun _ =>
          { Trace.reset with st := .armed, memory := t.unitNeed u, slow := (t.unitNodes u).map t.nodeValue, codes := t.unitNodes u
                             source := t.unit u 2, decimate := t.unit u 3, preDepth := t.unit u 0xD })))
      ∧ (s.admits h (0x2610 + u) 0x14 (byte 2) 2 → t.traces[u].st = .armed → t.traces[u].eventSeen = false →
        exec (.forceTrigger who u) s = .next (s.wrote (0x2610 + u) 0x14 (t.modTrace u fun x => { x with flagForced := true })))
      ∧ (s.admits h (0x2610 + u) 0x14 (byte 2) 2 → t.traces[u].st ≠ .armed ∨ t.traces[u].eventSeen = true →
        exec (.forceTrigger who u) s = .next (s.wrote (0x2610 + u) 0x14 t))
      ∧ (s.admits h (0x2610 + u) 0x14 (byte 3) 3 →
        exec (.disarm who u) s = .next (s.wrote (0x2610 + u) 0x14 (t.modTrace u fun _ => Trace.reset))))
  ∧ (
    ∀ (s : State) (who : Key) (h : HostNo) (c : CellNo) (data : Bytes) (v : Int), s.serves who h →
      (s.admits h (0x3000 + c) 7 data v →
        let t := (s.touch h).clearFault c (BitVec.ofNat 16 v.toNat)
        (t.groupOf c = none → exec (.faultLatchClear who c data) s = .next (s.wrote (0x3000 + c) 7 t))
        ∧ (∀ g, t.groupOf c = some g → exec (.faultLatchClear who c data) s = .next (s.wrote (0x3000 + c) 7 (t.driveGroup g))))
      ∧ (s.admits h (0x3000 + c) 5 data v →
        exec (.safeActionWrite who c data) s = .next (s.wrote (0x3000 + c) 5 (((s.touch h).setWritten (0x3000 + c) 5 v.toNat).modCell c fun x =>
          { x with safeHold := decide (v.toNat = 1) })))
      ∧ (s.admitsDomain h (0x4400 + c) 1 → data.length = 112 → calOk c data = true → s.inModes [.tending] = true →
        exec (.calRecordWrite who c data) s = .next (s.wrote (0x4400 + c) 1 (((s.touch h).modCell c (Cell.storeCal data 112)).calCheck c))))

/-- The six maintenance commands of a cell (R29, R55, R56, R58, R59, R60, R61): in TENDING, with no other cell under maintenance and the
command valid for the cell, the command waits behind those accepted before it and shows as running. -/
def Obligations.MaintenanceWrites : Prop :=
  ∀ (s t : State) (who : Key) (h : HostNo) (c : CellNo), s.serves who h → t = s.touch h →
    t.inModes [.tending] = true → t.modes.safe = false → (∀ d : CellNo, d ≠ c → t.cells[d].maintained = false) →
    let waits := fun m : MaintCmd => s.wrote (0x3000 + c) 9 (t.modCell c fun x =>
      { x with maintCmd := m.code, maintResult := 1, waiting := x.waiting ++ [m], freshMaint := x.freshMaint || !x.maintained, maintained := true })
    (s.admits h (0x3000 + c) 9 (byte 1) 1 → t.maintValid c .drain = true → exec (.drain who c) s = .next (waits .drain))
    ∧ (s.admits h (0x3000 + c) 9 (byte 2) 2 → t.maintValid c .drainForce = true → exec (.drainForce who c) s = .next (waits .drainForce))
    ∧ (s.admits h (0x3000 + c) 9 (byte 3) 3 → t.maintValid c .commit = true → exec (.commit who c) s = .next (waits .commit))
    ∧ (s.admits h (0x3000 + c) 9 (byte 4) 4 → t.maintValid c .repair = true → exec (.repair who c) s = .next (waits .repair))
    ∧ (s.admits h (0x3000 + c) 9 (byte 5) 5 → t.maintValid c .release = true → exec (.release who c) s = .next (waits .release))
    ∧ (s.admits h (0x3000 + c) 9 (byte 6) 6 → t.maintValid c .abandon = true → exec (.abandon who c) s = .next (waits .abandon))

/-- The writes of a group's ENABLE and CLEAR (R127, R130, R132, R137): ENABLE 0 stops a running group, leaves a discharge to end and
disables any other; ENABLE 1 enables a disabled one whose configuration is complete; CLEAR returns a locked-out group whose cause is gone.
`t` is the state with the contact noted. -/
def Obligations.GroupWrites : Prop :=
  ∀ (s t : State) (who : Key) (h : HostNo) (g : GroupNo) (data : Bytes) (v : Int), s.serves who h → t = s.touch h →
    (s.admits h (0x3200 + g) 2 data v → v = 0 → t.groups[g].st.run = true →
      exec (.groupEnable who g data) s = .next (s.wrote (0x3200 + g) 2 ((t.setWritten (0x3200 + g) 2 0).laneStop g 1)))
    ∧ (s.admits h (0x3200 + g) 2 data v → v = 0 → t.groups[g].st = .discharging →
      exec (.groupEnable who g data) s = .next (s.wrote (0x3200 + g) 2 (t.setWritten (0x3200 + g) 2 0)))
    ∧ (s.admits h (0x3200 + g) 2 data v → v = 0 → t.groups[g].st.run = false → t.groups[g].st ≠ .discharging →
      exec (.groupEnable who g data) s = .next (s.wrote (0x3200 + g) 2 ((t.setWritten (0x3200 + g) 2 0).groupTo g .disabled)))
    ∧ (s.admits h (0x3200 + g) 2 data v → v = 1 → t.groups[g].st ≠ .disabled →
      exec (.groupEnable who g data) s = .next (s.wrote (0x3200 + g) 2 t))
    ∧ (s.admits h (0x3200 + g) 2 data v → v = 1 → t.groups[g].st = .disabled → t.groupEnables g = true →
      let u := (t.setWritten (0x3200 + g) 2 1).modGroup g fun x =>
        { x with retryLeft := t.group g 0x16, stopCause := 0 }
      exec (.groupEnable who g data) s = .next (s.wrote (0x3200 + g) 2 (if u.mustDisable g then u else u.groupTo g (u.byVend g))))
    ∧ (s.admits h (0x3200 + g) 0x1A data v → v = 0 →
      exec (.groupClear who g data) s = .next (s.wrote (0x3200 + g) 0x1A t))
    ∧ (s.admits h (0x3200 + g) 0x1A data v → v = 1 → t.groups[g].st = .lockedOut →
      (t.group g 0xE < 8 → t.pins.leak.getLsbD (t.group g 0xE) = false) →
      (t.groups[g].stopCause = 3 → t.overEnergy g t.groups[g].energyUj = false) →
      let u := t.modGroup g fun x => { x with retryLeft := t.group g 0x16 }
      exec (.groupClear who g data) s = .next (s.wrote (0x3200 + g) 0x1A (u.groupTo g (if u.mustDisable g then .disabled else u.byVend g))))

/-- The writes of a feeder's and an ORing cell's enables and clears (R160, R172, R174, R175, R177, R179). `t` is the state with the
contact noted. -/
def Obligations.SlotWrites : Prop :=
  ∀ (s t : State) (who : Key) (h : HostNo) (c : CellNo) (data : Bytes) (v : Int), s.serves who h → t = s.touch h →
    (s.admits h (0x3000 + c) 0x38 data v → v = 0 →
      exec (.feederClear who c data) s = .next (s.wrote (0x3000 + c) 0x38 t))
    ∧ (s.admits h (0x3000 + c) 0x38 data v → v = 1 → t.cells[c].feeder.st = .retryWait →
      let u := t.modFeeder c fun f => { f with retryLeft := t.cell c 0x31 }
      exec (.feederClear who c data) s = .next (s.wrote (0x3000 + c) 0x38 (u.event (srcManage 0) 0x4008 c (u.slotByte c ++ byte h))))
    ∧ (s.admits h (0x3000 + c) 0x38 data v → v = 1 → t.cells[c].feeder.st = .latched →
      t.cells[c].feeder.tripCause = 0x10 ∨ t.hosts[h].cls.atLeast .opr = true →
      let u := (if t.cells[c].feeder.tripCause = 0x10 then t else t.clearFault c 0x0200#16).modFeeder c fun f =>
        ({ f with retryLeft := t.cell c 0x31 }).byPresence
      exec (.feederClear who c data) s = .next (s.wrote (0x3000 + c) 0x38 (u.event (srcManage 0) 0x4008 c (u.slotByte c ++ byte h))))
    ∧ (s.admits h (0x3000 + c) 0x20 data v → v = 0 → t.cells[c].role = .feeder → t.cells[c].feeder.gateOn = true →
      exec (.feedEnable who c data) s = .next (s.wrote (0x3000 + c) 0x20 ((((t.setWritten (0x3000 + c) 0x20 0).feederOff c).modFeeder c fun f =>
        { f.discard with st := .disabled, countDone := false, countUs := 0 }).feederAdopt c)))
    ∧ (s.admits h (0x3000 + c) 0x20 data v → v = 0 → t.cells[c].role ≠ .feeder ∨ t.cells[c].feeder.gateOn = false →
      exec (.feedEnable who c data) s = .next (s.wrote (0x3000 + c) 0x20 (((t.setWritten (0x3000 + c) 0x20 0).modFeeder c fun f =>
        { f.discard with st := .disabled, countDone := false, countUs := 0 }).feederAdopt c)))
    ∧ (s.admits h (0x3000 + c) 0x20 data v → v = 1 → t.feederEnables c = true →
      let u := t.setWritten (0x3000 + c) 0x20 1
      exec (.feedEnable who c data) s = .next (s.wrote (0x3000 + c) 0x20 (u.modFeeder c fun f =>
        if f.st = .disabled then { f.byPresence with retryLeft := u.cell c 0x31, tripCause := 0 } else { f with retryLeft := u.cell c 0x31 })))
    ∧ (s.admits h (0x3000 + c) 0x4C data v → v = 0 →
      exec (.orClear who c data) s = .next (s.wrote (0x3000 + c) 0x4C t))
    ∧ (s.admits h (0x3000 + c) 0x4C data v → v = 1 → t.cells[c].oring.st = .latched →
      let u := t.modOring c fun o => { o with st := .blocking, onRun := 0, negRun := 0, fullRun := 0 }
      exec (.orClear who c data) s = .next (s.wrote (0x3000 + c) 0x4C (u.event u.srcLane 0x4043 c (byte c))))
    ∧ (s.admits h (0x3000 + c) 0x40 data v → v = 0 →
      let u := t.setWritten (0x3000 + c) 0x40 0
      exec (.orEnable who c data) s = .next (s.wrote (0x3000 + c) 0x40 ((if t.cells[c].role = .oring then u.modCell c Cell.gateOff else u).modOring c
        fun o => { o with st := .disabled, onRun := 0, fullRun := 0, negRun := 0, rearmRun := 0 })))
    ∧ (s.admits h (0x3000 + c) 0x40 data v → v = 1 → t.oringEnables c = true →
      exec (.orEnable who c data) s = .next (s.wrote (0x3000 + c) 0x40 ((t.setWritten (0x3000 + c) 0x40 1).modOring c fun o =>
        if o.st = .disabled then { o with st := .blocking, onRun := 0 } else o)))

/-- The writes of a string's ENABLE, CLEAR and RECORD_RESET, and of a rail's CLEAR (R203, R204, R206, R223, R230). `t` is the state with
the contact noted. -/
def Obligations.StringRailWrites : Prop :=
  ∀ (s t : State) (who : Key) (h : HostNo) (data : Bytes) (v : Int), s.serves who h → t = s.touch h →
    (∀ n : StringNo,
      (s.admits h (0x3300 + n) 1 data v → v = 0 → t.modes.safe = false ∨ t.strings[n].st ≠ .connected →
        exec (.stringEnable who n data) s = .next (s.wrote (0x3300 + n) 1 (((t.setWritten (0x3300 + n) 1 0).disconnect n 1 .disabled).modString n
          fun b => { b with st := .disabled, capAh := 0, stage := .none, steering := false, learnOk := false })))
      ∧ (s.admits h (0x3300 + n) 1 data v → v = 1 → t.stringEnables n = true →
        exec (.stringEnable who n data) s = .next (s.wrote (0x3300 + n) 1 ((t.setWritten (0x3300 + n) 1 1).modString n fun b =>
          if b.st = .disabled then
            { b with st := if b.present then .authenticating else .absent, disconnectCause := 0, authResult := 0 }
          else b)))
      ∧ (s.admits h (0x3300 + n) 0x41 data v → v = 0 → exec (.stringClear who n data) s = .next (s.wrote (0x3300 + n) 0x41 t))
      ∧ (s.admits h (0x3300 + n) 0x41 data v → v = 1 → t.strings[n].st = .rejected →
        exec (.stringClear who n data) s = .next (s.wrote (0x3300 + n) 0x41 (t.modString n fun b => { b with st := .authenticating })))
      ∧ (s.admits h (0x4320 + n) 2 data v → v = 0 → exec (.recordReset who n data) s = .next (s.wrote (0x4320 + n) 2 t))
      ∧ (s.admits h (0x4320 + n) 2 data v → v = 1 →
        exec (.recordReset who n data) s = .next (s.wrote (0x4320 + n) 2 (t.modString n fun b => { b with resetDue := true }))))
    ∧ (∀ r : RailNo,
      (s.admits h (0x2310 + r) 0xE data v → v = 0 → exec (.railClear who r data) s = .next (s.wrote (0x2310 + r) 0xE t))
      ∧ (s.admits h (0x2310 + r) 0xE data v → v = 1 → t.seq.rails[r].st = .latchedOff → t.inModes [.rising, .settling, .dormant] = false →
        t.modes.safe = false →
        exec (.railClear who r data) s = .next (s.wrote (0x2310 + r) 0xE ((t.railOn r).followers .latchedOff r))))

/-- The three lane commands of a host (R264, R265) and its grant request (R187): a retired lane whose return is not barred begins its
return; the standby of a live pair is retired with cause 5; a request record of the right length, format and class, with none pending,
waits for the ledger as the newest and shows as pending, its tick and headroom free (log 3). `t` is the state with the contact noted. -/
def Obligations.LaneAndGrantWrites : Prop :=
  (
    ∀ (s t : State) (who : Key) (h : HostNo), s.serves who h → t = s.touch h →
      (s.admits h 0x2500 0xC (byte 1) 1 → (t.lanes.lane .a).st = .retired → t.returnBarred = false →
        exec (.returnA who) s = .next (s.wrote 0x2500 0xC ((t.modLanes fun p => { p with cmd := 1, cmdResult := 1, cmdRunning := true }).beginReturn .a)))
      ∧ (s.admits h 0x2500 0xC (byte 2) 2 → (t.lanes.lane .b).st = .retired → t.returnBarred = false →
        exec (.returnB who) s = .next (s.wrote 0x2500 0xC ((t.modLanes fun p => { p with cmd := 2, cmdResult := 1, cmdRunning := true }).beginReturn .b)))
      ∧ (∀ l : Lane, s.admits h 0x2500 0xC (byte 3) 3 → t.standby = some l → t.laneLive = true →
        exec (.retireStandby who) s = .next (s.wrote 0x2500 0xC ((t.modLanes fun p =>
          { p with cmd := 3, cmdResult := 2, returning := none, cmdRunning := false }).retireLane l 5))))
  ∧ (
    ∀ (s t : State) (who : Key) (h : HostNo) (data : Bytes), s.serves who h → t = s.touch h → s.admitsDomain h 0x2220 1 →
      ∀ n : Nat, 1 ≤ n → n ≤ 8 → numAt data 2 1 = n → data.length = 16 + 4 * n → numAt data 0 1 = 1 → numAt data 1 1 ≤ 3 →
      grantReserved data n = false →
      t.hosts[h].grantPending = false →
      exec (.grantRequest who data) s = .next (s.wrote 0x2220 1
        (({ t with freeCount := t.freeCount + 2, ledger := { t.ledger with requests := t.ledger.requests ++
          [{ host := h, req := readGrant data, record := data, port := t.hostPort h }] } } : State).modHost h fun x =>
            { x with grantPending := true
                     grantResult := grantResult 2 0xFFFF (Config.free t.freeCount) (Config.free (t.freeCount + 1)) 0xFF })))

/-- Dictionary accesses of a host (R272, R273, R274, R291, R302, R303, R304): a served and admitted write whose entry's own rule answers 0
is answered 0 with what that rule made of the state (a cell's plain parameter is the value written, a pin mode without its
reserved bits); a write of MULTI_WRITE
answers 0 with its result; a read answers the content, whole or in parts of 4 096 bytes through a session; a transfer that has had no frame
for 1 000 ms ends with 0x05040000. `t` is the state with the contact noted. -/
def Obligations.DictionaryAccess : Prop :=
  ∀ (s t : State) (who : Key) (h : HostNo), s.serves who h → t = s.touch h →
    (∀ (index sub : Nat) (data : Bytes) (v : Int) (u : State), s.admits h index sub data v → index ≠ 0x2104 → index ≠ 0x1010 →
      writeValue h index sub v t = (0, u) →
      exec (.dictWrite who index sub data) s = .next (s.wrote index sub u)
      ∧ (who.kind = .usdo ∨ who.kind = .sdo → exec (.usdoRequest who (.write index sub data)) s = .next (s.wrote index sub u)))
    ∧ (∀ (c : CellNo) (sub : Nat) (data : Bytes) (v : Int), s.admits h (0x3000 + c) sub data v →
      sub ∉ [5, 7, 9, 0xB, 0x20, 0x33, 0x34, 0x38, 0x40, 0x4C] →
      (sub = 1 ∨ sub = 2 → t.cells[c].maintained = true ∧ t.cells[c].st = .drained ∧ t.inModes [.tending] = true) →
      exec (.dictWrite who (0x3000 + c) sub data) s = .next (s.wrote (0x3000 + c) sub (t.setWritten (0x3000 + c) sub
        (if sub = 2 then (pinModeOf v.toNat).toNat else v))))
    ∧ (∀ (index sub : Nat) (data : Bytes) (u : State), s.admitsDomain h index sub → index ≠ 0x2104 → index ≠ 0x1010 →
      writeDomain h index data t = (0, u) → exec (.dictWrite who index sub data) s = .next (s.wrote index sub u))
    ∧ (∀ (data : Bytes) (u : State), t.hosts[h].cls ≠ .slt → writeMulti h data t = (0, u) →
      exec (.multiWrite who data) s = .next (State.errReset s (u.answer 0 [] 0)))
    ∧ (∀ (index sub : Nat) (b : Bytes) (u : State), who.kind = .usdo ∨ who.kind = .sdo → t.read h index sub = (0, b, u) →
      exec (.usdoRequest who (.read index sub 0)) s = .next (State.errReset s
        ((u.setSessions h ((if who.kind = .sdo then [] else t.hosts[h].sessions) ++ (if copyLimit < b.length then
            [{ index := index, sub := sub, next := copyLimit, content := b, frameUs := t.clk.timeUs }] else []))).answer
          0 (slice b 0 copyLimit) b.length)))
    ∧ (∀ (index sub offset : Nat) (x : Transfer) (u : State), who.kind = .usdo ∨ who.kind = .sdo → offset ≠ 0 →
      (t.hosts[h].sessions.find? fun y => y.index = index && y.sub = sub && y.next = offset) = some x → t.read h index sub = (0, x.content, u) →
      let rest := t.hosts[h].sessions.filter fun y => !(y.index = index && y.sub = sub && y.next = offset)
      exec (.usdoRequest who (.read index sub offset)) s = .next (State.errReset s
        ((u.setSessions h (if offset + copyLimit < x.content.length then rest ++ [{ x with next := offset + copyLimit, frameUs := t.clk.timeUs }] else rest)).answer
          0 (slice x.content offset copyLimit) x.content.length)))
    ∧ (who.kind = .usdo ∨ who.kind = .sdo → (∃ x ∈ s.hosts[h].sessions, x.frameUs + 1000000 ≤ s.clk.timeUs) →
      exec (.segmentedTransferTimeout who) s = .next ((s.setSessions h (s.hosts[h].sessions.filter fun x =>
        !decide (x.frameUs + 1000000 ≤ s.clk.timeUs))).answer 0x05040000 [] 0))

/-- LOCK_CMD, STORE and RESTORE (R284, R298, R299, R300): a free lock is taken by any host, its holder gives it up, and a VND host ends or
takes that of another; a store with the right word forms the image to be written and is answered later (log 4); a restore sets the bit of
its scope for the next restart. `t` is the state with the contact noted. -/
def Obligations.LockAndStore : Prop :=
  ∀ (s t : State) (who : Key) (h : HostNo) (data : Bytes) (v : Int), s.serves who h → t = s.touch h →
    (s.admits h 0x2100 3 data v →
      (v = 1 → t.lockOwner = none → exec (.lockCmd who data) s = .next (s.wrote 0x2100 3 (t.takeLock h)))
      ∧ (v = 1 → t.lockOwner = some h → exec (.lockCmd who data) s = .next (s.wrote 0x2100 3 t))
      ∧ (v = 1 → t.lockOwner ≠ none → t.lockOwner ≠ some h → t.hosts[h].cls = .vnd →
          exec (.lockCmd who data) s = .next (s.wrote 0x2100 3 ((t.endLock 5).takeLock h)))
      ∧ (v = 0 → t.lockOwner = some h → exec (.lockCmd who data) s = .next (s.wrote 0x2100 3 (t.endLock 1)))
      ∧ (v = 0 → t.lockOwner ≠ some h → t.hosts[h].cls = .vnd → exec (.lockCmd who data) s = .next (s.wrote 0x2100 3 (t.endLock 4)))
      ∧ (v = 0 → t.lockOwner ≠ some h → t.hosts[h].cls ≠ .vnd → exec (.lockCmd who data) s = .next (s.wrote 0x2100 3 t)))
    ∧ (∀ sub : Nat, s.admits h 0x1010 sub data v → v = 0x65766173 → t.dict.storing = none →
      exec (.storeSave who sub data) s = .next (State.errReset s
        ((({ t with dict := { t.dict with storing := some (sub, t.newImage sub, t.hosts[h].key) } } : State).afterWrite 0x1010 sub).answer
          notYet [] 0)))
    ∧ (∀ sub : Nat, s.admits h 0x1011 sub data v → v = 0x64616F6C → t.dict.storing = none →
      exec (.restoreLoad who sub data) s = .next (s.wrote 0x1011 sub
        { t with dict := { t.dict with restore := t.dict.restore ||| BitVec.ofNat 8 (2 ^ (sub - 1)) } }))

/-- A host's commands on the recorder (R354, R355) and on a trial (R365, R366): a window is read from the host's own cursor; a cursor is
moved; retiring removes the records up to a number and is itself recorded; GASP_CLEAR empties the last-gasp slots; ROLLBACK in a trial is
acted on at the next tick boundary; APP_CONFIRM, written through a DAP channel, is the confirmation the trial waits for. `t` is the state
with the contact noted. -/
def Obligations.RecorderAndTrialWrites : Prop :=
  (
    ∀ (s t : State) (who : Key) (h : HostNo) (data : Bytes) (v : Int), s.serves who h → t = s.touch h →
      let sessions := if who.kind = .sdo then [] else t.hosts[h].sessions
      (∀ (b : Bytes) (u : State), t.read h 0x2601 1 = (0, b, u) → b.length ≤ copyLimit →
        exec (.window who .ring) s = .next (State.errReset s ((u.setSessions h sessions).answer 0 (slice b 0 copyLimit) b.length)))
      ∧ (∀ (b : Bytes) (u : State), t.read h 0x2603 2 = (0, b, u) → b.length ≤ copyLimit →
        exec (.window who .peat) s = .next (State.errReset s ((u.setSessions h sessions).answer 0 (slice b 0 copyLimit) b.length)))
      ∧ (∀ n, s.admits h 0x2601 2 data v → cursorFor t.recorder.ringGone t.recorder.ring v.toNat = some n →
        exec (.cursor who .ring data) s = .next (s.wrote 0x2601 2 (t.modHost h fun x => { x with ringCursor := n, tw := { x.tw with partSeq := 0, part := 0 } })))
      ∧ (∀ n, s.admits h 0x2603 1 data v → cursorFor t.recorder.peatGone t.recorder.log v.toNat = some n →
        exec (.cursor who .peat data) s = .next (s.wrote 0x2603 1 (t.modHost h fun x => { x with peatCursor := n })))
      ∧ (s.admits h 0x2602 1 data v → v.toNat ≠ 0 → aboveTop t.recorder.ringGone t.recorder.ring v.toNat = false →
        exec (.ringRetire who .ring data) s = .next (s.wrote 0x2602 1 ((t.modRec fun q =>
          { q with ring := q.ring.filter (fun r => !seqLe r.seq v.toNat), ringRetired := v.toNat
                   ringGone := goneRetired q.ringGone v.toNat q.ring }).event (srcManage 23) 0xB031 h (le 4 v.toNat ++ byte h))))
      ∧ (s.admits h 0x2602 2 data v → v.toNat ≠ 0 → aboveTop t.recorder.peatGone t.recorder.log v.toNat = false →
        exec (.ringRetire who .peat data) s = .next (s.wrote 0x2602 2 ((t.modRec fun q =>
          { q with log := q.log.filter (fun r => !seqLe r.seq v.toNat), peatRetired := v.toNat
                   peatGone := goneRetired q.peatGone v.toNat q.log }).event (srcManage 23) 0xB032 h (le 4 v.toNat ++ byte h))))
      ∧ (s.admits h 0x2602 3 data v → v = 1 →
        exec (.gaspClear who data) s = .next (s.wrote 0x2602 3 (t.modRec fun q => { q with gasps := [] }))))
  ∧ (
    ∀ (s t : State) (h : HostNo) (data : Bytes) (v : Int), t = s.touch h →
      (∀ who : Key, s.serves who h → s.admits h 0x2700 9 data v → v = 1 → t.fw.trial ≠ none →
        exec (.rollback who data) s = .next (s.wrote 0x2700 9 (t.modFw fun w => { w with rollbackDue := true })))
      ∧ (∀ who : Key, s.serves who h → s.admits h 0x2700 9 data v → v = 0 →
        exec (.rollback who data) s = .next (s.wrote 0x2700 9 t))
      ∧ (∀ d : DapNo, s.serves (dapKey d) h → s.hosts[h].key = dapKey d → s.admits h 0x2700 8 data v → v = 1 → t.fw.trial ≠ none →
        exec (.appConfirm d data) s = .next (s.wrote 0x2700 8 (t.modFw fun w => { w with appConfirmed := true }))))

/-- Boot and reset (R36, R301, R342, R367, R368, R384, R385, R386). A cold reset holds the machine; BOOT with BOOTSEL 0, no fatal bank and
an image that passes boots it from its slot, and otherwise enters recovery with its reason; the boot's end enters RISING when a start
condition holds and DORMANT when none does; MANAGE's restart serves again; its watchdog resets it warm; a host wakes it in DORMANT. -/
def Obligations.BootAndReset : Prop :=
  (∀ (s : State) (cause : ColdCause) (f : BitVec 6), exec (.coldReset cause f) s = .next (s.afterCold cause f)
    ∧ (s.afterCold cause f).phase = .held)
  ∧ (∀ (s t : State) (n : Fin 4) (fails : List MemFail) (ok : Bool) (a b : LaneTest), s.phase = .held → t = s.bootStart n fails ok →
    (∀ slot : Fin 2, n = 0 → fails.any MemFail.fatal = false → t.chooseSlot = some slot →
      exec (.boot n fails ok a b) s = .next (t.bootFrom slot a b) ∧ (t.bootFrom slot a b).phase = .booted)
    ∧ (n ≠ 0 ∨ fails.any MemFail.fatal = true ∨ t.chooseSlot = none →
      let why := if n ≠ 0 then 0 else if fails.any MemFail.fatal then 2 else 1
      exec (.boot n fails ok a b) s = .next (t.recover why) ∧ (t.recover why).phase = .recovery))
  ∧ (∀ s t : State, s.phase = .booted → t = { s with phase := .running } →
    (t.startCondition = true → exec .bootComplete s = .next (State.errReset s (t.enterMode .rising 1)))
    ∧ (t.startCondition = false → exec .bootComplete s = .next (State.errReset s (t.enterMode .dormant 1))))
  ∧ (∀ s : State, s.manage = .warmReset → s.phase ≠ .held →
    let t := State.event (srcManage 0) 0xD021 0xFF (byte s.clk.warmCause)
      { s with manage := .running, srcs := s.srcs.map fun x => { x with waiting := 0 } }
    let u := if t.recorderUp then t.drainQueue else t
    exec .manageRestart s = .next (State.errReset s
      ((((u.restartTrial.startCores.armWatchdog).each 2 State.portResume).each 2 State.rejoin).tellHeld)))
  ∧ (∀ (s : State) (core : Fin 2), s.manage = .running → s.phase = .booted ∨ s.phase = .running → s.seq.recordMode = false →
    s.dormant = false → s.clk.armedUs + s.cfgN 0x2000 0x16 * 1000 ≤ s.clk.timeUs →
    exec (.watchdogExpiry core) s = .next (State.errReset s (s.warmReset 3)))
  ∧ (∀ (s : State) (who : Key) (fails : List MemFail), s.dormant = true → s.manage = .shallow → keyOk who = true →
    exec (.hostWake who fails) s = .next (State.errReset s (s.wakeManage.contact who).2))
  ∧ (∀ (s : State) (who : Key) (fails : List MemFail), s.dormant = true → s.manage = .deep → keyOk who = true →
    let banks := fails.filter MemFail.isBank
    let others := s.badBanks.filter fun f => !MemFail.isBank f
    let t : State := { s with badBanks := banks ++ others }
    (banks.any MemFail.fatal = false →
      exec (.hostWake who fails) s = .next (State.errReset s ((State.over t.wakeManage banks State.memFailed).contact who).2))
    ∧ (banks.any MemFail.fatal = true → ∃ u : State, exec (.hostWake who fails) s = .next u ∧ u.phase = .recovery
      ∧ u.modes.mode = none ∧ u.pins.safeN = false ∧ ∀ p : CanNo, u.can[p].port = .off))

/-- The 20 kHz block frame, the start input of a loop and the vending search of a group (R52, R128, R406), SYNCIN, the words of a switch
of sets and the derating step of a loop (R80, R107, R108, R246): a frame whose references are in range gives its block's auxiliary
samples, the standby samples and the start windows; a bad reference leaves the words and is recorded; an edge in range extends the list of
edges, one out of range begins it anew. -/
def Obligations.FrameAndSyncCommands : Prop :=
  (
    (∀ (s t : State) (b : BlockNo) (f : AdcFrame), s.heldBlocks.getLsbD b = false → t = s.adoptSet ⟨2, b, 0xFF⟩ →
      let u : State := { t with refHalf := if (t.refChecks b f).2 then t.refHalf ||| BitVec.ofNat 6 (2 ^ (b : Nat))
                                           else t.refHalf &&& ~~~BitVec.ofNat 6 (2 ^ (b : Nat)) }
      ((t.refChecks b f).1 = false → exec (.blockAdcFrame b f) s = .next (u.event (0x80 + b) 0x1012 0xFF (byte b)))
      ∧ ((t.refChecks b f).1 = true →
        let v := u.over ((List.finRange 16).map fun i => (t.slotUse b i, f.slots[i])) fun p w => w.slotSample p.1 p.2
        exec (.blockAdcFrame b f) s =
          .next (State.errReset s (v.each 16 fun k w => if w.isPhaseLoop k then w.startWindow b k else w).dormantWake)))
    ∧ (∀ (s : State) (k : LoopNo), s.isPhaseLoop k = true → s.loops[k].startInWindow = true → s.loop k 0x1A ≠ 0 →
      s.loop k 0x1B * 1000 ≤ s.loops[k].qualUs →
      let t := s.modLoop k fun l => { l with startQualified := true }
      exec (.startInputQualified k) s = .next (State.errReset s (if t.inModes [.holdup] then t.tryStart k else t.dormantWake)))
    ∧ (∀ (s : State) (g : GroupNo), s.groups[g].st = .qualifying → s.groups[g].qualUs + s.group g 0xC * 1000 ≤ s.clk.timeUs →
      exec (.lineQualified g) s = .next (State.errReset s (s.qualify g).dormantWake)))
  ∧ (
    (∀ (s : State) (stamp : Nat) (e : Nat) (r : List Nat), s.syncPins.edges = e :: r →
      let edges := if syncinOk e stamp then (stamp :: e :: r).take 5 else [stamp]
      exec (.syncinEdge stamp) s = .next (State.each { s with syncPins :=
        { edges := edges, count := s.syncPins.count + 1, present := decide (3 ≤ edges.length) && s.syncPins.presentAt stamp } } 16 State.steer))
    ∧ (∀ (s : State) (stamp : Nat), s.syncPins.edges = [] →
      exec (.syncinEdge stamp) s = .next (State.each { s with syncPins := { edges := [stamp], count := s.syncPins.count + 1, present := false } }
        16 State.steer))
    ∧ (∀ (s : State) (k : LoopNo), s.loops[k].sync = .acquiring → 64 ≤ s.loops[k].lockRun →
      exec (.syncLocked k) s = .next (State.event s.srcLane 0x2026 k (byte k ++ le 4 s.loops[k].periodInForce)
        (s.modLoop k fun l => { l with sync := .locked })))
    ∧ (∀ s : State, exec .syncLost s = .next (State.each { s with syncPins := { s.syncPins with edges := [], present := false } } 16 fun k t =>
      if t.loop k 0x72 ≠ 0 ∧ (t.loops[k].sync = .acquiring ∨ t.loops[k].sync = .locked ∨ t.loops[k].sync = .outOfRange) then
        (t.modLoop k fun l => { l with sync := .returning, lockRun := 0 }).event t.srcLane 0x2027 k (byte k ++ le 4 t.loops[k].periodInForce)
      else t))
    ∧ (∀ (s : State) (k : LoopNo) (key : Nat) (v : Int) (rest : List (Nat × Int)), s.loops[k].landing = (key, v) :: rest →
      exec (.coefficientWordLand k) s = .next ((s.setForce (key / 256) (key % 256) v).modLoop k fun l =>
        { l with landing := rest, rewrite := l.rewrite.filter fun q => q ≠ key }))
    ∧ (∀ (s : State) (k : LoopNo), s.modes.safe = false → s.loops[k].derateUs + max 1 (s.cfgN 0x2400 8) * 1000000 ≤ s.clk.timeUs →
      let up := (List.finRange 22).any fun i => s.thermal[i].acts && bit (s.therm i 0xD).toNat k
      exec (.derateStep k) s = .next ((s.modLoop k fun l => { l with derateUs := s.clk.timeUs }).setDerate k (if up then min 3 (s.loops[k].derate + 1) else s.loops[k].derate - 1))))

/-- A loop's period (R13, R40, R50, R63, R66, R67, R75, R76): the member's period of an active loop opens the loop's own where it is due, and a
computing member then computes, or repeats in a switch-over gap; a memory error of running lanes stops the loop; a held cell of a loop that
takes no period watches its holding window on the sample; and a cell of a stopped loop only samples, if it is a PHASE cell. -/
def Obligations.LoopPeriodCommand : Prop :=
  ∀ (s : State) (k : LoopNo) (m : CellNo) (x : MemberSample), s.isMember k m = true → s.cells[m].role = .phase ∨ s.cells[m].role = .line →
    let watch := fun t : State => if s.cells[m].holding then t.modCell m Cell.holdWatch else t
    (s.loops[k].active = true → s.lanesRun = true → x.memoryOk = false → exec (.loopPeriod k m x) s = .next (watch (s.loopMemoryError k)))
    ∧ (s.loops[k].active = true → s.inGap = false → s.lanesRun = true → x.memoryOk = true →
      let t := s.periodStart k m
      ((t.computing k).contains m = true → exec (.loopPeriod k m x) s = .next (watch (if t.inGap then t.gapPeriod k m x else t.memberPeriod k m x)))
      ∧ ((t.computing k).contains m = false → s.boundaryDue k m = false ∨ t.lastMember k ≠ none →
        exec (.loopPeriod k m x) s = .next (watch t))
      ∧ ((t.computing k).contains m = false → s.boundaryDue k m = true → t.lastMember k = none →
        exec (.loopPeriod k m x) s = .next (watch (t.traceLoop k t.inGap))))
    ∧ (s.loops[k].active = true → s.inGap = true → s.lanesRun = false → ((s.periodStart k m).computing k).contains m = true →
      (s.periodStart k m).inGap = true → exec (.loopPeriod k m x) s = .next (watch ((s.periodStart k m).gapPeriod k m x)))
    ∧ (s.loops[k].active = false ∨ (s.inGap = false ∧ s.lanesRun = false) →
      exec (.loopPeriod k m x) s = .next (if s.cells[m].holding then (s.takeSample m x true).modCell m Cell.holdWatch
        else if s.cells[m].role = .phase ∧ s.loops[k].active = false ∧ s.cells[m].st ≠ .testing then s.takeSample m x true else s))

/-- What ends or changes a loop's stages (R86, R99, R100, R104, R113, R114, R115, R116, R118, R119): an overrun stop, a shed phase, a
burst, a completed share ramp, the end of a soft start, the rise of PG, an abort with retries left or none, a hiccup retry, the retries'
reload, and a phase dropped. -/
def Obligations.StageCommands : Prop :=
  (∀ (s : State) (k : LoopNo), s.loops[k].active = true → 16 ≤ s.loops[k].overruns.foldl (· + ·) 0 →
    exec (.overrunStop k) s = .next (s.stopLoop k .stoppedByCause 3))
  ∧ (∀ (s : State) (k : LoopNo) (c : CellNo), s.shedCandidate k = some c → s.shedQualifies k = true →
    max 1 (s.loop k 0x65) ≤ s.loops[k].shedRun →
    exec (.phaseShed k) s = .next (State.event s.srcLane 0x2020 c (byte c ++ byte (s.nA k - 1))
      ((s.modCell c fun x => { x with weightGoal := 0 }).modLoop k fun l => { l with shedRun := 0 })))
  ∧ (∀ (s : State) (k : LoopNo), s.burstQualifies k = true → s.loops[k].stage = .continuous → max 1 (s.loop k 0x6A) ≤ s.loops[k].burstRun →
    let t := s.modLoop k fun l => { l with stage := .burst, burstLeft := s.loop k 0x68, burstAsleep := false, burstExit := false
                                           shortSleeps := 0, burstRun := 0 }
    let u := t.event t.srcLane 0x2024 k (byte k)
    exec (.burstEntry k) s = .next (u.over ((u.running k).drop (u.loop k 0x64)).reverse (fun c t => t.shedNow k c)))
  ∧ (∀ (s : State) (m : CellNo) (k : LoopNo), s.loopOf m = some k →
    exec (.shareRampComplete m) s = .next ((s.modCell m fun x => { x with weight := x.weightGoal }).rampDone k m))
  ∧ (∀ (s : State) (k : LoopNo), s.loops[k].st = .starting → s.loops[k].stage = .softStart →
    stepsPerUs * s.loop k 0x6D ≤ s.loops[k].ssSteps →
    let t := s.modLoop k fun l => { l with st := .running, stage := .continuous, pgIn := 0, pgOutRun := 0 }
    exec (.softStartEnd k) s = .next (if s.loops[k].dropped = 0 then t
      else t.event t.srcLane 0x202C k (byte k ++ le 8 s.loops[k].dropped.toNat)))
  ∧ (∀ (s : State) (k : LoopNo), s.loops[k].st = .running → s.loops[k].pg = false → 20480000 ≤ s.loops[k].pgIn →
    exec (.pgRise k) s = .next (s.modLoop k fun l => { l with pg := true }))
  ∧ (∀ (s : State) (k : LoopNo) (cause : AbortCause), s.abortMet k cause = true →
    let t := (((s.event s.srcLane 0x202A k (byte k ++ byte (abortCode cause) ++ byte (s.running k).length)).endBrake k true).membersLow
      k).clearStates k
    (0 < t.loops[k].hiccupLeft →
      let u := t.modLoop k fun l => { l with st := .starting, stage := .hiccupWait, hiccupLeft := l.hiccupLeft - 1, pg := false,
                                             gridOn := false, waitMs := t.loop k 0x6F }
      exec (.startAbort k cause) s = .next (if u.loop k 0x6F = 0 then u.restartLoop k else u))
    ∧ (t.loops[k].hiccupLeft = 0 →
      let u := t.stopLoop k .stoppedByCause 5
      exec (.startAbort k cause) s = .next (u.event t.srcLane 0x202B k (byte k))))
  ∧ (∀ (s : State) (k : LoopNo), s.loops[k].st = .starting → s.loops[k].stage = .hiccupWait → s.loops[k].waitMs = 0 →
    s.loops[k].railOn = true → s.enabled k = true →
    exec (.hiccupRetry k) s = .next (if s.heldInput k then s.modLoop k fun l => { l with st := .stopped, stage := .continuous }
      else s.startLoop k))
  ∧ (∀ (s : State) (k : LoopNo), s.loops[k].pg = true → minuteSteps ≤ s.loops[k].pgRun →
    exec (.hiccupReload k) s = .next (s.modLoop k fun l => { l with hiccupLeft := s.loop k 0x6E }))
  ∧ (∀ (s : State) (m : CellNo) (cause : DropCause) (k : LoopNo), s.loopOf m = some k → s.loops[k].active = true → s.loops[k].burstAsleep = false →
    s.runs k m = true →
    s.failMet k m cause = true → exec (.phaseDrop m cause) s = .next (s.dropMember k m cause))

/-- What a maintenance command comes to (R55, R56, R57, R58, R59, R60, R61): the cell takes up the command that waits, a drain ends
drained or at its timeout, a repair ends with what it found (a finding that lacks a channel's point is no end, log 128), and a start ends in service. -/
def Obligations.MaintenanceSteps : Prop :=
  (∀ (s : State) (c : CellNo) (m : MaintCmd) (rest : List MaintCmd), s.cells[c].waiting = m :: rest →
    let t := s.modCell c fun x => { x with waiting := [], freshMaint := false }
    (s.inModes [.tending] = false ∨ s.modes.safe = true → exec (.maintCmdStart c) s = .next (t.modCell c fun x =>
      { x with maintResult := 0x14, maintained := x.maintained && !s.cells[c].freshMaint }))
    ∧ (s.inModes [.tending] = true → s.modes.safe = false → rest = [] → t.cells[c].admits m = false →
      exec (.maintCmdStart c) s = .next (t.modCell c fun x => { x with maintResult := 0x14 }))
    ∧ (s.inModes [.tending] = true → s.modes.safe = false → rest = [] → t.cells[c].admits m = true →
      (m = .drain → exec (.maintCmdStart c) s = .next (t.beginDrain c false))
      ∧ (m = .drainForce → exec (.maintCmdStart c) s = .next (t.beginDrain c true))
      ∧ (m = .commit → exec (.maintCmdStart c) s = .next (t.commitCell c))
      ∧ (m = .repair → exec (.maintCmdStart c) s = .next (t.beginRepair c))
      ∧ (m = .release → exec (.maintCmdStart c) s = .next (
          if (t.startRole c).cells[c].st = .starting then t.startRole c
          else (t.startRole c).modCell c fun x => { x with maintResult := 2 }))
      ∧ (m = .abandon → exec (.maintCmdStart c) s = .next (t.abandonCell c 0x13)))
    ∧ (s.inModes [.tending] = true → s.modes.safe = false →
      exec (.maintCmdStart c) s = .next ((t.startMaint c m).over rest fun n u => u.startMaint c n)))
  ∧ (∀ (s : State) (c : CellNo), s.cells[c].st = .draining → s.drained c = true →
    let t := s.showDrained c 2
    exec (.drainComplete c) s = .next (if t.cells[c].role = .feeder ∧ t.ledger.sinks[cellSink c].broken = 0 then
      t.modSink (cellSink c) fun k => { k with broken := 7 } else t))
  ∧ (∀ (s : State) (c : CellNo), s.cells[c].st = .draining → s.removing c = true → s.cell c 0x10 ≠ 0 →
    s.cells[c].removalUs + s.cell c 0x10 * 1000 ≤ s.clk.timeUs →
    exec (.drainTimeout c) s = .next ((s.showDrained c 0x10).event (srcCell c) 0x1020 c []))
  ∧ (∀ (s : State) (c : CellNo) (f : RepairFinding), s.cells[c].st = .testing →
    let ps := f.points.filter fun p => (s.repairChannels c).contains (p.channel : Nat)
    (f.selfTestOk = false → exec (.repairDone c f) s = .next (((s.setFault c 7).setSafe c 5).repairEnds c
        (if s.cells[c].stopTest then s.cells[c].maintResult else 0x11)))
    ∧ (f.selfTestOk = true → s.cells[c].stopTest = true →
      (s.cells[c].bandMoved = true ∨ ps.all pointOk = false ∨ s.pointsWhole c ps = false ∨ f.written = 0 →
        exec (.repairDone c f) s = .next (s.repairEnds c s.cells[c].maintResult))
      ∧ (s.cells[c].bandMoved = false → ps.all pointOk = true → s.pointsWhole c ps = true → f.written ≠ 0 →
        exec (.repairDone c f) s = .next ((s.writeRepair c ps f.written).repairEnds c s.cells[c].maintResult)))
    ∧ (f.selfTestOk = true → s.cells[c].stopTest = false →
      (s.cells[c].bandMoved = true → exec (.repairDone c f) s = .next (s.repairEnds c 0x16))
      ∧ (s.cells[c].bandMoved = false → ps.all pointOk = false → exec (.repairDone c f) s = .next (s.repairEnds c 0x12))
      ∧ (s.cells[c].bandMoved = false → ps.all pointOk = true → s.pointsWhole c ps = false → exec (.repairDone c f) s = .next s)
      ∧ (s.cells[c].bandMoved = false → ps.all pointOk = true → s.pointsWhole c ps = true →
        let t := (((s.writeRepair c ps f.written).modCell c fun x => { x with repaired := true }).event (srcCell c) 0x1021 c []).repairEnds c 2
        exec (.repairDone c f) s = .next (if t.cells[c].safeCause = 5 then t.releaseSafe c else t))))
  ∧ (∀ (s : State) (c : CellNo), s.cells[c].st = .starting →
    (∀ k, s.loopOf c = some k → s.cells[c].role ≠ .phase ∨ s.cells[c].weight = 1 ∨ s.loops[k].active = false) →
    exec (.cellStartComplete c) s = .next ((s.cellInService c).modCell c fun x =>
      { x with weight := 1, maintResult := if x.maintResult = 1 then 2 else x.maintResult }))

/-- The states of a group (R127, R128, R131, R132, R133, R134, R136, R140): the vending judgement of a sample, a start, its completed
ramp, a stop with its cause, the tests a held group keeps, LEAK, the end of a discharge, and the retries. -/
def Obligations.GroupCommands : Prop :=
  (∀ (s t : State) (g : GroupNo) (bits : List Bool) (c : CellNo), s.groupCell g = some c → s.cells[c].role = .line →
    s.groups[g].st.run = false → t = s.adoptSet ⟨5, g, 0xFF⟩ →
    let q := t.cells[c].auxSinc.feed (t.cell c 0xD) bits
    (q.2 = [] → exec (.lineVendSample g bits) s = .next (t.modCell c fun x => { x with auxSinc := q.1 }))
    ∧ (q.2 ≠ [] →
      let u := t.modCell c fun x => { x with auxSinc := q.1, aux := x.correctAux q.1.out, auxValid := true }
      exec (.lineVendSample g bits) s = .next (u.vendSample g ((u.cells[c].aux : Rat) * (u.group g 0x12 * 1000) / 32768))))
  ∧ (∀ (s : State) (g : GroupNo) (c : CellNo), s.groupCell g = some c → s.groupStarts g = true →
    let t := s.modGroup g fun x => { x with startTick := true, rampSteps := 0, targetUa := 0, deficitRun := 0, revRun := 0
                                            energyRun := 0, limitRun := 0, lostSteps := 0, overSteps := 0, lowUs := 0
                                            exchLimit := false, ceilingUa := 0 }
    let t := (t.modCell c fun x => { x.clearedMember with target := 0, weight := 1, weightGoal := 1, vEndPrev := x.aux * 256 }).groupTo g .starting
    (t.loopOf c = none → exec (.groupStart g) s = .next (t.event t.srcLane 0x3002 g (byte g)))
    ∧ (∀ k, t.loopOf c = some k →
      let u := (t.modCell c fun x => { x with offset := t.offsetGoal k c }).recapacity k
      exec (.groupStart g) s = .next (u.event u.srcLane 0x3002 g (byte g))))
  ∧ (∀ (s : State) (g : GroupNo), s.groups[g].st = .starting → (s.group g 5 : Rat) * 1000 ≤ s.rampLimit g →
    exec (.groupRampComplete g) s = .next ((s.groupTo g .delivering).modGroup g fun x => { x with deliverUs := s.clk.timeUs }))
  ∧ (∀ (s : State) (g : GroupNo) (cause : StopCause), s.groups[g].st.run = true → s.stopMet g cause = true →
    exec (.groupStop g cause) s = .next ((s.stopEvent g cause).laneStop g (stopCode cause)))
  ∧ (∀ (s : State) (g : GroupNo) (cause : HeldCause), s.heldTests g = true → s.groups[g].heldCause = 0 →
    s.groups[g].heldMet cause = true →
    let t := (s.groupLow g).modGroup g fun x => { x with heldCause := heldCode cause, dieLow := true }
    exec (.heldTestMet g cause) s = .next ((t.event (t.srcGroup g) 0x3004 g (byte g ++ byte (heldCode cause))).takeHeld g))
  ∧ (∀ (s : State) (l : LeakNo),
    exec (.leakTrip l false) s = .next (s.modPins fun p => { p with leak := p.leak &&& ~~~(BitVec.ofNat 8 (2 ^ (l : Nat))) })
    ∧ (let t := s.modPins fun p => { p with leak := p.leak ||| BitVec.ofNat 8 (2 ^ (l : Nat)) }
      let gs := t.leakGroups l
      exec (.leakTrip l true) s =
        .next ((t.over gs State.leakStop).event (srcWatch 0) 0x3008 l (byte l ++ le 4 (maskOf (gs.map fun g => (g : Nat)))))))
  ∧ (∀ (s : State) (g : GroupNo), s.groups[g].st = .discharging → s.groups[g].sinceUs + s.group g 0x10 * 1000 ≤ s.clk.timeUs →
    s.lanes.token.isSome = true → s.modes.safe = false →
    (∀ ms : Nat, s.groups[g].decayMs = some ms →
      exec (.dischargeEnd g) s = .next ((s.event s.srcLane 0x3005 g (byte g ++ le 4 ms)).afterDischarge g))
    ∧ (s.groups[g].decayMs = none → (s.group g 0xB : Rat) * 1000 ≤ s.groups[g].vEndMv →
      exec (.dischargeEnd g) s = .next (s.afterDischarge g))
    ∧ (s.groups[g].decayMs = none → s.groups[g].vEndMv < (s.group g 0xB : Rat) * 1000 →
      exec (.dischargeEnd g) s =
        .next ((s.event s.srcLane 0x3006 g (byte g ++ le 4 (quantN s.groups[g].vEndMv))).groupTo g .lockedOut)))
  ∧ (∀ (s : State) (g : GroupNo), s.groups[g].st = .retryWait → s.groups[g].sinceUs + s.group g 0x17 * 1000000 ≤ s.clk.timeUs →
    exec (.groupRetry g) s = .next (s.retryGroup g))
  ∧ (∀ (s : State) (g : GroupNo), s.groups[g].delivers = true → s.groups[g].deliverUs + 600000000 ≤ s.clk.timeUs →
    exec (.groupRetryReload g) s = .next (s.modGroup g fun x => { x with retryLeft := s.group g 0x16 }))

/-- The bus loop and the identification of the lines' resistance (R96, R141, R142, R143, R148, R149, R150, R151): a bus-loop sample forms the
means of its interval, measures each group, controls the bus and gives every group its target; an identification takes the groups one
after another once its period has passed, and a group is identified from the means of its two segments when both are over; a segment
without a sample ends it (log 129). -/
def Obligations.BusCommands : Prop :=
  (∀ s : State, s.lanesRun = true → s.blockHeld 0x45 = false →
    let t := ((s.busMeans.each 24 State.lineInterval).each 24 State.underDelivery).busControl
    exec .busLoopSample s = .next (((t.each 24 State.groupTarget).each 16 State.loopReference).traceSlow 0x10))
  ∧ (∀ s : State, s.cfgN 0x2232 1 ≠ 0 → s.idAt = none → s.idGroup = none → s.lanesRun = true →
    s.idCycleUs + s.cfgN 0x2232 1 * 1000000 ≤ s.clk.timeUs →
    exec .idCycle s = .next ({ s with idAt := some 0, idCycleUs := s.clk.timeUs } : State).idNext)
  ∧ (∀ (s : State) (g : GroupNo), s.idGroup = some g → s.groups[g].st = .identifying →
    2 * s.cfgN 0x2232 3 ≤ (s.clk.timeUs - s.groups[g].sinceUs) / 1000 →
    let a := s.groups[g].idA
    let b := s.groups[g].idB
    (a.n ≠ 0 → b.n ≠ 0 →
      let t := ({ s with idGroup := none } : State).modGroup g fun x => { x with st := .delivering, sinceUs := s.clk.timeUs }
      exec (.identificationDone g) s = .next (t.identify g (a.i / a.n) (b.i / b.n) (a.v / a.n) (b.v / b.n)).idNext)
    ∧ (a.n = 0 ∨ b.n = 0 → exec (.identificationDone g) s = .next (s.abandonId g).idNext))

/-- The states of a feeder (R159, R160, R161, R162, R163, R164, R165, R166, R170, R171, R172, R173): a slot becoming present, its
unseating, the insertion count, the start, the control period, the inrush timeout, the pass-device latch, the unloaded slot, and the
retries; a lost sample keeps the last one, and a lost command the last drive (R10). -/
def Obligations.FeederCommands : Prop :=
  (∀ (s : State) (c : CellNo), s.cells[c].role = .feeder → s.cells[c].feeder.present = false →
    fltUse s.cells[c].pinMode = 3 ∨ s.drainPresent c = true ∨ s.cell c 0x26 = 0 →
    let t := s.modFeeder c fun f => { f with present := true, countDone := false, countUs := 0, unseatUs := 0
                                             st := if f.st = .empty then .inserting else f.st }
    exec (.slotPresent c) s = .next (t.event t.srcLane 0x4007 c (t.slotByte c)))
  ∧ (∀ (s : State) (c : CellNo), s.cells[c].role = .feeder → s.cells[c].feeder.present = true →
    fltUse s.cells[c].pinMode = 3 ∨ (s.cells[c].feeder.gateOn = false ∧ s.cell c 0x26 ≠ 0 ∧ s.drainPresent c = false) →
    exec (.unseat c) s = .next (s.startUnseat c))
  ∧ (∀ (s : State) (c : CellNo), s.cells[c].role = .feeder → s.cells[c].feeder.present = false → 50000 ≤ s.cells[c].feeder.unseatUs →
    let t := (s.unseated50 c).modSink (cellSink c) fun k => { k with broken := if k.broken = 0 then 6 else k.broken }
    exec (.unseat50ms c) s = .next (State.errReset s (t.over (pick 32 fun h => t.hosts[h].used && decide (t.hosts[h].ownSink = some (cellSink c)))
      (State.releaseHost 2)).cocoonCheck))
  ∧ (∀ (s : State) (c : CellNo), s.cells[c].role = .feeder → s.cells[c].feeder.st ≠ .disabled → s.countRuns c = true →
    s.cell c 0x24 * 1000 ≤ s.cells[c].feeder.countUs →
    exec (.insertionCountDone c) s = .next (s.modFeeder c fun f =>
      { f with countDone := true, st := if f.st = .inserting then .held else f.st }))
  ∧ (∀ (s : State) (c : CellNo), s.feederGates c = true → s.lanesRun = true → exec (.feederStart c) s = .next (s.startFeeder c))
  ∧ (∀ (s : State) (c : CellNo) (x : ControlSample), s.cells[c].role = .feeder → s.cells[c].st ≠ .testing →
    (s.cells[c].lostSample = true → exec (.feederControlPeriod c x) s = .next (s.modCell c fun y => { y with lostSample := false }))
    ∧ (s.cells[c].lostSample = false →
      let t := (((s.adoptSet ⟨8, c, 0xFF⟩).modCell c fun y =>
        { y.noteCs (s.adoptSet ⟨8, c, 0xFF⟩).clk.timeUs (y.correctCs (meanCs x)) with vs := y.correctVs (meanVs x) }).feederMeasure c).countSample c
      (t.lanesRun = false → exec (.feederControlPeriod c x) s = .next t)
      ∧ (t.lanesRun = true → t.cells[c].lostCommand = false →
        exec (.feederControlPeriod c x) s = .next (State.errReset s (t.feederPeriod c)))
      ∧ (t.lanesRun = true → t.cells[c].lostCommand = true →
        exec (.feederControlPeriod c x) s = .next (State.errReset s ((t.feederPeriod c).modCell c (t.cells[c].keepDrive))))))
  ∧ (∀ (s : State) (c : CellNo), s.cells[c].role = .feeder → s.cells[c].feeder.st = .inrush → s.cell c 0x2C ≠ 0 →
    s.cell c 0x2C * 1000 ≤ s.cells[c].feeder.startUs →
    (s.cells[c].feeder.fetOn = true → exec (.inrushTimeout c) s = .next (s.feederComplete c))
    ∧ (s.cells[c].feeder.fetOn = false → exec (.inrushTimeout c) s = .next (State.errReset s (s.tripFeeder c 5))))
  ∧ (∀ (s : State) (c : CellNo) (cause : PassCause), s.cells[c].role = .feeder → s.passMet c cause = true →
    s.cells[c].feeder.st ≠ .latched ∨ s.cells[c].feeder.tripCause < 0x11 →
    let t := (((s.feederOff c).setFault c 9).modSink (sinkOfCell c) fun k => { k with broken := 4 }).modFeeder c fun f =>
      { f.discard with st := .latched, tripCause := passCode cause }
    exec (.passDeviceFault c cause) s =
      .next (State.errReset s ((t.event t.srcLane 0x4005 c (t.slotByte c ++ byte (passCode cause))).latchEmcy c (passCode cause))))
  ∧ (∀ (s : State) (c : CellNo), s.cells[c].role = .feeder → s.cells[c].feeder.st = .on → s.cell c 0x21 = 0 →
    fltUse s.cells[c].pinMode ≠ 3 → s.cell c 0x27 ≠ 0 → 100000 ≤ s.cells[c].feeder.unloadUs →
    let t := (s.feederOff c).modFeeder c fun f => { f.discard with st := .inserting, countDone := false, countUs := 0, unloadUs := 0 }
    exec (.feederUnloaded c) s = .next (t.event t.srcLane 0x4009 c (t.slotByte c)))
  ∧ (∀ (s t : State) (c : CellNo), s.cells[c].role = .feeder → s.cells[c].feeder.retryTimerUs ≠ 0 → s.cells[c].feeder.retryTimerUs ≤ 1000 →
    t = (s.modFeeder c fun f => { f with retryTimerUs := 0 }).clearFault c 0x000F#16 →
    (t.cells[c].feeder.canTrip = true → t.cells[c].faultLatch.getLsbD 1 = true →
      exec (.feederRetry c) s = .next (State.errReset s (t.tripFeeder c 6)))
    ∧ (t.cells[c].feeder.canTrip = true → t.cells[c].faultLatch.getLsbD 1 = false → t.cells[c].faultLatch &&& 0x000C#16 ≠ 0 →
      exec (.feederRetry c) s = .next (State.errReset s (t.tripFeeder c 7)))
    ∧ (t.cells[c].feeder.canTrip = false ∨ t.cells[c].faultLatch &&& 0x000E#16 = 0 →
      exec (.feederRetry c) s = .next (State.errReset s (if t.feederGates c ∧ t.lanesRun then t.startFeeder c else t))))
  ∧ (∀ (s : State) (c : CellNo), s.cells[c].role = .feeder → s.cells[c].feeder.st = .on → 60000000 ≤ s.cells[c].feeder.onUs →
    exec (.feederRetryReload c) s = .next (s.modFeeder c fun f => { f with retryLeft := s.cell c 0x31 }))

/-- The states of an ORing cell (R47, R176, R177, R178, R179): a control period, a reverse crossing, which opens the device and latches it
at the 16th within its window, and the rearming; a lost sample keeps the last one, and a lost command the last drive (R10). -/
def Obligations.OringCommands : Prop :=
  (∀ (s : State) (c : CellNo) (x : ControlSample), s.cells[c].role = .oring → s.cells[c].st ≠ .testing → s.cells[c].lostSample = true →
    exec (.oringControlPeriod c x) s = .next (s.modCell c fun y => { y with lostSample := false }))
  ∧ (∀ (s : State) (c : CellNo) (x : ControlSample), s.cells[c].role = .oring → s.cells[c].st ≠ .testing → s.cells[c].lostSample = false →
    let a := (s.adoptSet ⟨0xA, c, 0xFF⟩).adoptSet ⟨0xB, c, 0xFF⟩
    let t := (a.modCell c fun y => { y.noteCs a.clk.timeUs (y.correctCs (meanCs x)) with vs := y.correctVs (meanVs x) }).oringMeasure c
    (t.cells[c].held = false → t.lanesRun = true → t.cells[c].st = .inService ∨ t.cells[c].st = .starting →
      exec (.oringControlPeriod c x) s = .next (if t.cells[c].lostCommand then (t.oringStep c).modCell c (t.cells[c].keepDrive)
        else t.oringStep c))
    ∧ (t.cells[c].held = true ∨ t.lanesRun = false ∨ t.cells[c].st ≠ .inService ∧ t.cells[c].st ≠ .starting →
      exec (.oringControlPeriod c x) s = .next t))
  ∧ (∀ (s : State) (c : CellNo) (x : TripSense), s.cells[c].role = .oring → s.cells[c].crosses (s.reverseRatio c) true x = true →
    let t := (s.modCell c Cell.gateOff).setFault c 0
    (s.cells[c].oring.st = .disabled ∨ s.cells[c].oring.st = .latched → exec (.oringReverse c x) s = .next t)
    ∧ (s.cells[c].oring.st ≠ .disabled → s.cells[c].oring.st ≠ .latched →
      let times := recentTrips s.clk.timeUs s.cells[c].oring.revTimes
      let u := (t.modOring c fun o => { o with st := .rearming, revCount := wrap32 (o.revCount + 1), revTimes := times, rearmRun := 0
                                               onRun := 0, fullRun := 0, negRun := 0 }).event (srcCell c) 0x4040 c (byte c ++ leI 4 (senseUv x))
      (times.length < 16 → exec (.oringReverse c x) s = .next u)
      ∧ (16 ≤ times.length →
        let v := (u.setFault c 9).modOring c fun o => { o with st := .latched, revTimes := [] }
        exec (.oringReverse c x) s = .next (State.errReset s (v.event v.srcLane 0x4042 c (byte c))))))
  ∧ (∀ (s : State) (c : CellNo), s.cells[c].role = .oring → s.cells[c].oring.st = .rearming → s.lanesRun = true → s.cells[c].safeCause = 0 →
    max 1 (s.cell c 0x46) ≤ s.cells[c].oring.rearmRun →
    exec (.oringRearm c) s = .next ((s.clearFault c 0x0001#16).modOring c fun o => { o with st := .regulating, fullRun := 0, negRun := 0 }))

/-- The ledger (R18, R183, R191, R192, R193, R194, R195): its tick, which moves TIME to the next boundary, the restoring of a shed sink,
the ends of grants and of notices, a throttle request to a sink above its capacity, and its enforcement. -/
def Obligations.LedgerCommands : Prop :=
  (∀ (s t : State), t = s.modClk (fun k => { k with timeUs := nextBoundary k.timeUs }) →
    (t.phase = .held → exec .ledgerTick s = .next t)
    ∧ (t.phase ≠ .held → t.manageClock.phase = .running → t.manageClock.modes.mode ≠ none → t.manageClock.dormant = false →
      exec .ledgerTick s = .next (State.errReset s t.manageClock.tickBoundary))
    ∧ (t.phase ≠ .held → t.manageClock.phase = .running → t.manageClock.modes.mode ≠ none → t.manageClock.dormant = true →
      exec .ledgerTick s = .next (State.errReset s t.manageClock.chooseRequest.dormantWake))
    ∧ (t.phase ≠ .held → t.manageClock.phase ≠ .running ∨ t.manageClock.modes.mode = none →
      exec .ledgerTick s = .next (State.errReset s t.manageClock)))
  ∧ (∀ (s : State) (x : SinkNo), s.restorable x = true → s.fits x = true → s.modes.safe = false →
    (∀ y : SinkNo, s.sinkClass y < s.sinkClass x ∨ s.sinkClass y = s.sinkClass x ∧ y < x → s.restorable y = false ∨ s.fits y = false) →
    exec (.sinkRestore x) s = .next ((s.modLedger fun l =>
      { l with next := { l.next with headroomMw := l.next.headroomMw - s.ledger.sinks[x].bShedMw } }).restoreSink x))
  ∧ (∀ (s : State) (g : GrantNo), s.ledger.grants[g].standing = true → s.ledger.grants[g].req.durationS ≠ 0 →
    s.ledger.grants[g].remainMs = 0 → s.modes.safe = false → exec (.grantExpiry g) s = .next (s.endGrant g 2))
  ∧ (∀ (s : State) (g : GrantNo), s.modes.safe = false → s.ledger.grants[g].st = .notice → s.ledger.grants[g].noticeMs = 0 →
    s.ledger.grantsNext[g].standing = true →
    let t := s.endGrant g 3
    exec (.noticeExpiry (.grant g)) s = .next (t.over (pick 64 fun k => 0 < s.ledger.grants[g].on k ∧ t.ledger.sinks[k].throttle = 3 ∧
      t.ledger.sinks[k].allowedMs = 0) fun k u => if u.aboveTol k u.ledger.sinks[k].targetW then u.shedSink k 3 else u))
  ∧ (∀ (s : State) (x : SinkNo), s.modes.safe = false → s.ledger.sinks[x].notice ≠ 0 → s.ledger.sinks[x].noticeMs = 0 →
    let t := s.shedSink x s.ledger.sinks[x].notice
    exec (.noticeExpiry (.sink x)) s = .next (if t.inModes [.holdup] then t.lifelineRisk else t))
  ∧ (∀ (s : State) (x : SinkNo), s.ledger.sinks[x].throttle = 0 → (s.sinkCell x).isSome = true →
    max 1 (s.cfgN 0x2200 7) ≤ s.ledger.sinks[x].overRun → s.modes.safe = false →
    exec (.throttleOverCap x) s = .next (s.throttle x 1 (s.capW x) (s.graceOf x)))
  ∧ (∀ (s : State) (x : SinkNo), s.ledger.sinks[x].throttle ≠ 0 → s.ledger.sinks[x].allowedMs = 0 → s.ledger.sinks[x].shed = 0 →
    s.modes.safe = false → s.ledger.sinks[x].throttle ≠ 4 → s.aboveTol x s.ledger.sinks[x].targetW = true →
    (s.ledger.sinks[x].throttle ≠ 2 ∨ s.sinkClass x ≠ 0 →
      exec (.throttleEnforce x) s = .next (s.shedSink x s.ledger.sinks[x].throttle))
    ∧ (s.ledger.sinks[x].throttle = 2 → s.sinkClass x = 0 →
      exec (.throttleEnforce x) s = .next (s.event srcLedger 0x8006 x (byte x ++ le 4 (quantN ((s.measured x : Rat) / 1000))))))

/-- The battery's strings (R209, R210, R211, R212, R213, R214, R216, R217, R220): the estimator's second, the anchors and windows it
takes, and the impedance factor of a known step. -/
def Obligations.EstimatorCommands : Prop :=
  (∀ (s : State) (n : StringNo), s.estimatorRuns = true →
    let t := (s.estimatorAdopt n).modString n fun b => { b with band := (s.estimatorAdopt n).stringBand n }
    (t.strings[n].st ≠ .open → t.strings[n].st ≠ .connected → exec (.estimatorUpdate n) s = .next (t.modString n fun b =>
      { b.secondV with iMa := b.sumI / max 1 b.tickCount, sumI := 0, sumSigma := 0, sumBeta := 0, tickCount := 0 }))
    ∧ (t.strings[n].st = .open ∨ t.strings[n].st = .connected →
      let u := ((t.predict n).report n).updateClocks n
      exec (.estimatorUpdate n) s = .next (
        if u.strings[n].windowOpen then u.windowSecond n else if u.windowOpens n then u.openWindow n else u)))
  ∧ (∀ (s : State) (n : StringNo),
    (s.string n 0x1B * 60 ≤ s.strings[n].windowS → exec (.restWindowEnd n .time) s = .next (s.endWindow n 2))
    ∧ (s.ledger.now.shortfall = true → exec (.restWindowEnd n .shortfall) s = .next (s.endWindow n 3))
    ∧ (s.inModes [.serving] = false → exec (.restWindowEnd n .mode) s = .next (s.endWindow n 4))
    ∧ (s.strings[n].st ≠ .connected ∨ s.strings.toList.any (·.steering) = true → exec (.restWindowEnd n .string) s = .next (s.endWindow n 5)))
  ∧ (∀ (s : State) (n : StringNo), s.strings[n].st = .open ∨ s.strings[n].st = .connected → s.strings[n].restS ≠ 0 →
    s.strings[n].restS % (s.string n 0x1A * 60) = 0 → s.strings[n].anchorAgeS ≠ 0 →
    exec (.restAnchor n) s =
      .next (((s.anchorUpdate n s.strings[n].restMv).anchored n (if s.strings[n].windowOpen then 3 else 1) s.strings[n].bias).endWindow n 1))
  ∧ (∀ (s : State) (n : StringNo), s.strings[n].st = .connected → s.strings[n].stage = .absorb → s.string n 0x1D ≠ 0 →
    60 ≤ s.strings[n].taperS →
    let f : Rat := (s.string n 0x20 : Rat) / 100
    exec (.fullAnchor n) s =
      .next (((s.modString n fun b => { b with soc := 100, p11 := f * f, bias := 0 }).anchored n 2 s.strings[n].bias).endAbsorb n))
  ∧ (∀ (s : State) (n : StringNo), s.strings[n].st = .connected → s.strings[n].stage = .absorb → s.modes.safe = false →
    s.strings[n].stageUs + s.string n 0x1E * 60000000 ≤ s.clk.timeUs → exec (.absorbTimeout n) s = .next (s.endAbsorb n))
  ∧ (∀ (s : State) (n : StringNo) (k : KnownStep) (f : Rat), s.strings[n].step = some k → s.strings[n].stepAged = true →
    let w := fun (j : Nat) => (s.cfgN (0x4310 + n) (48 * j + k.g + 1) : Rat)
    let den := (if w 2 = 0 then 0 else w 1 * (1 - decay 60000 (w 2))) + (if w 4 = 0 then 0 else w 3 * (1 - decay 60000 (w 4)))
    f = ratio (-(meanOf s.strings[n].vTicks - k.vBefore) / k.dI * 1000000 - k.rsM) den →
    let t := s.modString n fun x => { x with step := none }
    (factorOk f = true → exec (.impedanceRcUpdate n) s = .next ((t.modString n fun x =>
      { x with frc := x.frc.set k.g (x.frc[k.g] + (f - x.frc[k.g]) / 8), updates := x.updates.set k.g (min 255 (x.updates[k.g] + 1)) }).factorEvent
        0x6021 n k.g))
    ∧ (factorOk f = false → exec (.impedanceRcUpdate n) s = .next (t.factorEvent 0x6022 n k.g)))

/-- The packs (R202, R203, R204, R207, R208, R218, R219): a poll of the blocks each second
and of the temperature every 10 s, after three failures of which the pack is gone, the authentication of a string, its absence, the low-voltage
disconnect, a block's limit, and the record written back. -/
def Obligations.PackCommands : Prop :=
  (∀ (s u : State) (n : StringNo), s.string n 7 ≠ 0 → s.string n 8 ≠ 0 → s.twDrives 11 = true →
    let ends := if u.strings[n].silent then u.becomeGone n else u
    (∀ ds, s.strings[n].pollUs + 1000000 ≤ s.clk.timeUs →
      u = ((s.twRan 11).modString n fun b => { b with pollUs := s.clk.timeUs }).blockPoll n (if s.string n 7 = 1 then ds.take 1 else ds.take 4) →
      exec (.packPoll n (.blocks ds)) s = .next ends)
    ∧ (∀ a, s.strings[n].tempUs + 10000000 ≤ s.clk.timeUs → s.string n 7 = 1 →
      u = ((s.twRan 11).modString n fun b => { b with tempUs := s.clk.timeUs }).tempPoll n a →
      exec (.packPoll n (.temperature a)) s = .next ends))
  ∧ (∀ (s : State) (n : StringNo) (x : PackAnswer), s.strings[n].st = .authenticating → s.recorderUp = true → s.string n 7 = 1 →
    triesSized 16 x.packId = none →
    (s.string n 9 = 1 → exec (.stringAuthenticate n x) s =
      .next ((s.authEnds n 3 .rejected).event srcLedger 0x6006 n (byte n ++ byte 3)))
    ∧ (s.string n 9 ≠ 0 → s.string n 9 ≠ 1 → exec (.stringAuthenticate n x) s =
      .next (((s.startDefaults n true).authEnds n 4 .open).event srcLedger 0x6006 n (byte n ++ byte 4))))
  ∧ (∀ (s : State) (n : StringNo) (x : PackAnswer) (id : Bytes), s.strings[n].st = .authenticating → s.recorderUp = true →
    (if s.string n 7 = 1 then triesSized 16 x.packId else some (ownIdentity n)) = some id →
    let t := s.modString n fun b => { b with packId := some id }
    let twin := (pick 4 fun m => m ≠ n && t.strings[m].present && t.strings[m].packId = some id) ≠ []
    (twin → exec (.stringAuthenticate n x) s = .next ((t.authEnds n 5 .rejected).event srcLedger 0x6006 n (byte n ++ byte 5)))
    ∧ (¬twin → s.string n 9 = 0 → exec (.stringAuthenticate n x) s = .next ((t.startPack n id (triesSized 12 x.history)).authEnds n 2 .open))
    ∧ (¬twin → s.string n 9 ≠ 0 →
      let challenge := Config.random16 t.freeCount
      let u := ({ t with freeCount := t.freeCount + 1 } : State).modString n fun b => { b with challenge := some challenge }
      let sent := x.challenge.1 = true ∨ x.challenge.2 = true
      let good := sent ∧ answerGood (u.secret (u.string n 0xA)) (packResponse x) (challenge ++ id) = true
      exec (.stringAuthenticate n x) s = .next (
        if good then ((u.event srcLedger 0x6005 n (byte n ++ byte 1)).startPack n id (triesSized 12 x.history)).authEnds n 1 .open
        else if s.string n 9 = 1 then (u.authEnds n 3 .rejected).event srcLedger 0x6006 n (byte n ++ byte 3)
        else ((u.startDefaults n true).authEnds n 4 .open).event srcLedger 0x6006 n (byte n ++ byte 4))))
  ∧ (∀ (s : State) (n : StringNo), s.strings[n].present = false → s.strings[n].st ≠ .disabled → s.strings[n].st ≠ .absent →
    s.strings[n].goneUs + 3000000 ≤ s.clk.timeUs → s.modes.safe = false ∨ s.strings[n].st ≠ .connected →
    let t := (s.disconnect n 5 .absent).modString n fun b => { b with st := .absent, writeDue := true, learnOk := false, steering := false }
    exec (.stringAbsent n) s = .next (t.event srcLedger 0x6003 n (byte n ++ idHead s.strings[n].packId)))
  ∧ (∀ (s : State) (n : StringNo),
    (s.modes.safe = true → s.modes.safeWhy = 2 → s.modes.safeUs + s.string n 0xC * 1000 ≤ s.clk.timeUs →
      exec (.stringLvd n) s = .next (s.disconnect n 7 .open))
    ∧ (∀ since, s.modes.safe = false ∨ s.modes.safeWhy ≠ 2 → s.strings[n].lvdUs = some since →
      since + s.string n 0xC * 1000 ≤ s.clk.timeUs → exec (.stringLvd n) s = .next (s.disconnect n 2 .open)))
  ∧ (∀ (s : State) (n : StringNo), s.strings[n].st = .connected → s.modes.safe = false →
    (∀ since, s.strings[n].lowUs = some since → since + 1000000 ≤ s.clk.timeUs →
      let w := firstBlock (s.blockLow n) s.strings[n].blocks
      exec (.stringBlockLimit n) s = .next ((s.event srcLedger 0x6040 n (byte n ++ byte w.1 ++ le 2 w.2)).disconnect n 3 .open))
    ∧ (∀ since, s.strings[n].lowUs = none → s.strings[n].highUs = some since → since + 1000000 ≤ s.clk.timeUs →
      let w := firstBlock (s.blockHigh n) s.strings[n].blocks
      exec (.stringBlockLimit n) s = .next ((s.event srcLedger 0x6040 n (byte n ++ byte w.1 ++ le 2 w.2)).disconnect n 4 .open)))
  ∧ (∀ (s : State) (n : StringNo) (p : PackSlot), s.strings[n].packId.bind s.slotOf = some p → s.strings[n].writeDue = true →
    s.strings[n].unverified = false → s.strings[n].st ≠ .rejected → s.strings[n].st ≠ .authenticating → s.seq.pfi = false →
    s.seq.gaspPending = none → s.manage = .running →
    let t := if s.strings[n].resetDue then s.resetLearned n else s
    ∀ seq, (∀ r, p.record = some r → seq = wrap32 (recordSeq r + 1)) → (p.record = none → seq = 1) →
    let u := ({ t with packs := t.packs.map fun (q : PackSlot) => if q.packId = p.packId then q.store (t.recordOf n seq) else q } : State).modString n
      fun b => { b with writeDue := false, writebackS := 0, anchoredSince := false }
    exec (.recordWriteback n) s = .next (u.event srcLedger 0x6030 n (byte n ++ le 4 seq)))

/-- The rails (R224, R225, R227, R229, R230, R231): a sample of PG judges every rail; a slot switches its rail; a timeout retries, fails
or aborts by the rail's policy; a retry; and a rail still good when off is recorded. -/
def Obligations.RailCommands : Prop :=
  (∀ (s : State) (pins : BitVec 16),
    let t := s.modPins fun p => { p with pg := pins }
    (t.modes.safe = true → exec (.pgSample pins) s = .next t)
    ∧ (t.modes.safe = false →
      let u := t.each 32 (State.judgeRail pins)
      let done := u.seq.st = .onSequence ∧ (List.finRange 32).all fun r => u.railKind r = 0 || u.seq.rails[r].settled
      let v := u.modSeq fun q => { q with st := .onComplete, onComplete := true }
      exec (.pgSample pins) s =
        .next (if done then v.event srcLedger 0x7011 0xFF (le 4 (v.railMask .good) ++ le 4 (v.railMask .failed)) else u)))
  ∧ (∀ (s : State) (r : RailNo), s.modes.safe = false → s.railKind r ≠ 0 → s.seq.rails[r].slotDue = true →
    s.seq.rails[r].slotUs ≤ s.clk.timeUs →
    (s.seq.st = .offSequence →
      let t := if s.seq.rails[r].st.isOn then (s.railOff .off r).modRail r fun x => { x with offWatch := true } else s
      exec (.railSlot r) s = .next (t.modRail r fun x => { x with slotDue := false }).offCheck)
    ∧ (s.seq.st ≠ .offSequence →
      (s.railShed r = true → exec (.railSlot r) s = .next (s.modRail r fun x => { x with st := .shed, slotDue := false }))
      ∧ (s.railShed r = false → s.railSkips r = true →
        exec (.railSlot r) s = .next (s.modRail r fun x => { x with st := .skipped, slotDue := false }))
      ∧ (s.railShed r = false → s.railSkips r = false → exec (.railSlot r) s = .next (s.railOn r))))
  ∧ (∀ (s : State) (r : RailNo), s.modes.safe = false → s.seq.st ≠ .offSequence → s.railKind r ≠ 0 → s.seq.rails[r].st = .judging →
    s.seq.rails[r].pgLost = false → s.railPg r = false → s.rail r 7 ≠ 0 →
    s.seq.rails[r].markUs + s.rail r 7 * 1000 ≤ s.clk.timeUs →
    let t := s.event srcLedger 0x7012 r (byte r ++ byte (s.rail r 8))
    (s.rail r 8 = 2 → 0 < s.seq.rails[r].retriesLeft → s.seq.rails[r].asContinue = false →
      exec (.railPgTimeout r) s = .next (t.retryRail r))
    ∧ (s.rail r 8 ≠ 2 ∨ s.seq.rails[r].retriesLeft = 0 ∨ s.seq.rails[r].asContinue = true →
      let u := t.modRail r fun x => { x with st := .failed }
      exec (.railPgTimeout r) s = .next (
        if s.rail r 8 ≠ 1 ∧ s.seq.rails[r].asContinue = false ∧ u.inModes [.rising] then u.modSeq fun q => { q with abortAll := true }
        else u)))
  ∧ (∀ (s : State) (r : RailNo), s.seq.rails[r].st = .retryWait → s.seq.rails[r].retryOwn = true → s.seq.st ≠ .offSequence →
    s.modes.safe = false → s.seq.rails[r].markUs + s.rail r 0xA * 1000 ≤ s.clk.timeUs →
    exec (.railRetry r) s = .next ((s.railOn r).followers .retryWait r))
  ∧ (∀ (s : State) (r : RailNo), s.railKind r ≠ 0 → s.seq.rails[r].offWatch = true → s.inModes [.settling] = true →
    s.modes.safe = false → s.rail r 0xF ≠ 0 → s.railPg r = true → s.seq.rails[r].markUs + s.rail r 0xF * 1000 ≤ s.clk.timeUs →
    exec (.railNotOff r) s = .next ((s.modRail r fun x => { x with offWatch := false }).event srcLedger 0x7018 r (byte r)))

/-- PFI, the last gasp and SETTLING (R232, R233, R235, R236, R353): PFI records itself, forms the record to be committed, and enters
SETTLING and record mode; a commit writes its slot; the release of PFI ends record mode. -/
def Obligations.HoldupCommands : Prop :=
  (∀ (s : State) (r : Bytes), s.seq.settlePending = some r → s.seq.gaspPending = none →
    exec .settleCommitted s = .next (((s.commitSlot r).modSeq fun q => { q with settlePending := none }).event
      (srcManage 0) 0x7023 0xFF (le 4 r.length)).committed)
  ∧ (∀ s : State, s.inModes [.settling] = true → s.seq.offDone = true → s.seq.committed = true →
    s.seq.doneUs + s.cfgN 0x2300 3 * 1000 ≤ s.clk.timeUs →
    exec .restartDelayEnd s = .next (s.modSeq fun q => { q with delayElapsed := true }))
  ∧ (∀ s : State,
    let t := s.modSeq fun q => { q with pfi := true, pfiCount := wrap32 (q.pfiCount + 1), pfiUs := s.clk.timeUs }
    (s.modes.mode = none ∨ s.modes.mode = some .dormant → exec .pfiAssert s = .next t)
    ∧ (∀ m : Mode, s.modes.mode = some m → m ≠ .dormant →
      let u := t.event (srcWatch 4) 0x7020 0xFF (byte m.code)
      (s.seq.recordMode = true → exec .pfiAssert s = .next (State.errReset s u))
      ∧ (s.seq.recordMode = false →
        let u := u.closeRecs (fun _ => true) true
        let v := u.modSeq fun q => { q with gaspPending := some (u.gaspRecord (u.gaspFlags false) u.now) }
        exec .pfiAssert s =
          .next (State.errReset s (if v.modes.safe then v else if m = .settling then v.showMode .settling 0xF
            else v.enterMode .settling 0xF).enterRecordMode))))
  ∧ (∀ (s : State) (us : Nat) (r : Bytes), s.seq.gaspPending = some r →
    exec (.lastgaspCommitted us) s = .next (((s.commitSlot r).modSeq fun q =>
      { q with gaspPending := none, commitUs := us, commitBytes := r.length }).event (srcManage 0) 0x7021 0xFF (le 4 us ++ le 2 r.length)).committed)
  ∧ (∀ (s : State) (us : Nat), s.seq.pfi = true → us = s.clk.timeUs - s.seq.pfiUs → s.cfgN 0x2301 4 * 1000 ≤ us →
    let t := s.modSeq fun q => { q with pfi := false }
    (s.seq.recordMode = false → exec .pfiRelease s = .next t)
    ∧ (s.seq.recordMode = true →
      let u := t.modSeq fun q => { q with recordMode := false }
      let u := if u.manage = .running then u.drainQueue else u
      exec .pfiRelease s = .next (State.errReset s
        ((u.event (srcWatch 4) 0x7022 0xFF (le 4 (us / 1000))).armWatchdog.each 2 State.rejoin))))

/-- The thermal inputs (R239, R241, R242, R243, R246, R247, R383): an evaluation takes the mean of a valid input or finds it invalid, an
input that is off acts no more; the rate test; the release of a throttle; and the end of the difference of the dies. -/
def Obligations.ThermalCommands : Prop :=
  (∀ (s : State) (i : InputNo) (die mean : Option Rat), s.thermalRuns = true → s.thermal[i].evalUs + 100000 ≤ s.clk.timeUs →
    mean = (if (i : Nat) < 0x10 then s.thermal[i].mean else die) →
    let t := ((s.adoptSet ⟨0x12, 0, 0xFF⟩).adoptSet ⟨0x11, i, 0xFF⟩).modThermal i fun x =>
      { x with rawSum := 0, rawN := 0, evalUs := s.clk.timeUs }
    ((i : Nat) < 0x10 → t.therm i 1 = 0 → exec (.thermalEvaluation i die) s = .next (State.errReset s
      ((if t.thermal[i].acts then t.releaseCaps i else t).modThermal i fun x =>
        { Thermal.reset with st := .off, band := x.band, seen := x.seen, evalUs := x.evalUs })))
    ∧ (0x10 ≤ (i : Nat) ∨ t.therm i 1 ≠ 0 →
      (∀ m, mean = some m → meanOk i m = true → exec (.thermalEvaluation i die) s = .next (State.errReset s (t.validMean i m)))
      ∧ (∀ m, mean = some m → meanOk i m = false → exec (.thermalEvaluation i die) s = .next (State.errReset s (t.inputInvalid i)))
      ∧ (mean = none → exec (.thermalEvaluation i die) s = .next (State.errReset s (t.inputInvalid i)))))
  ∧ (∀ (s : State) (i : InputNo), s.thermalRuns = true → s.thermal[i].st ≠ .invalid → s.thermal[i].st ≠ .off →
    s.thermal[i].tenths.length = 10 →
    let t := (s.modThermal i fun x => { x with seconds := (meanOf x.tenths :: x.seconds).take 601, tenths := [] }).modThermal i fun x => Thermal.keepClear (old := x) (now := s.clk.timeUs)
      { x with warnRate := x.rateTest (s.therm i 8).toNat (s.therm i 9).toNat
               limRate := x.rateTest (s.therm i 0xA).toNat (s.therm i 0xB).toNat
               rateNow := (x.rate (s.therm i 9).toNat).getD 0 }
    exec (.thermalRateEvaluation i) s = .next (State.errReset s ((if 0x10 ≤ (i : Nat) then t.dieDifference else t).thermalStep i)))
  ∧ (∀ (s : State) (i : InputNo), s.thermalRuns = true → s.thermal[i].acts = true → s.thermal[i].st ≠ .invalid →
    s.thermal[i].throttles = false → s.thermal[i].clearUs + s.cfgN 0x2400 9 * 1000000 ≤ s.clk.timeUs →
    let t := (if s.modes.safe then s else s.releaseCaps i).thermalEvent 0x8004 i
    exec (.thermalRelease i) s = .next (State.errReset s (if s.thermal[i].st = .throttle then t.toWarnOrNormal i else t)))
  ∧ (∀ s : State, s.clk.regionDiff = true → s.clk.dieDiff ≤ 18 → s.clk.diffUs + 10000000 ≤ s.clk.timeUs →
    exec .regionDiffClear s = .next ((s.modClk fun c => { c with regionDiff := false }).event
      (srcWatch 0) 0xD011 0xFF (leI 2 (quant (s.clk.dieDiff * 10)))))

/-- The lanes (R254, R255, R257, R258, R259, R260, R262, R263, R264, R265): a mismatch of a live pair, the decision of the self-tests, a
standby's internal error, a background fault, the standby's window, and the steps of a return. -/
def Obligations.LaneCommands : Prop :=
  (∀ (s : State) (kind inst : Nat) (a b : BitVec 32), s.laneLive = true →
    exec (.mismatch kind inst a b) s = .next (s.laneMismatch kind inst a.toNat b.toNat))
  ∧ (∀ (s : State) (a b : LaneTest) (ns : Nat), s.lanes.pair = .switching → s.modes.safe = false →
    exec (.selftestDecision a b ns) s = .next (State.errReset s (s.decideLanes a b ns)))
  ∧ (∀ (s : State) (l : Lane), s.standby = some l → s.laneLive = true →
    exec .standbyInternalError s = .next (State.errReset s ((s.modLanes fun p => { p with returning := none }).retireLane l 1)))
  ∧ (∀ (s : State) (l : Lane) (unit : Nat), s.laneLive = true →
    let t := (s.modLane l fun x => { x with bgFails := wrap32 (x.bgFails + 1) }).event (srcLoop (Lane.code l)) 0x9008 (Lane.code l) (laneByte l ++ byte unit)
    (s.lanes.active = some l → t.lanes.active = some l → exec (.bgSelftestFail l unit) s = .next (t.laneMismatch 0x12 0 0 0))
    ∧ (s.standby = some l → t.lanes.active ≠ some l → exec (.bgSelftestFail l unit) s =
      .next (State.errReset s ((t.modLanes fun p => { p with returning := none }).retireLane l 2))))
  ∧ (∀ (s : State) (l : Lane) (test : LaneTest) (us : Nat), s.standby = some l → s.lanes.pair = .paired → s.cfgN 0x2500 8 ≠ 0 →
    s.lanes.windowUs + s.cfgN 0x2500 8 * 1000000 ≤ s.clk.timeUs → s.modes.safe = false → s.seq.recordMode = false → s.inModes [.settling] = false →
    let t := (s.modLane l (LaneUnit.tested test test.pass)).modLanes fun p => { p with windowUs := s.clk.timeUs }
    (test.pass = false → exec (.laneWindow test us) s = .next (State.errReset s (t.retireLane l 3)))
    ∧ (test.pass = true →
      let u := (t.modLanes fun p => { p with windowPassUs := some s.clk.timeUs }).event (srcWatch 0) 0x9009 (Lane.code l) (laneByte l)
      (us ≤ 200 → exec (.laneWindow test us) s = .next (u.laneSynced l us))
      ∧ (200 < us → exec (.laneWindow test us) s = .next (State.errReset s (u.copyFails l)))))
  ∧ (∀ (s : State) (l : Lane), (s.lanes.lane l).st = .retired → 0 < (s.lanes.lane l).autoLeft → s.returnBarred = false →
    (s.lanes.lane l).retiredUs + s.cfgN 0x2500 0xB * 1000000 ≤ s.clk.timeUs →
    exec (.autoReturn l) s = .next ((s.modLane l fun x => { x with autoLeft := x.autoLeft - 1 }).beginReturn l))
  ∧ (∀ (s : State) (l : Lane) (test : LaneTest), s.lanes.returning = some l → (s.lanes.lane l).st = .testing → s.modes.safe = false →
    let t := s.modLane l (LaneUnit.tested test test.pass)
    (test.pass = true → exec (.laneReturnSelftestDone test) s =
      .next ((t.modLane l fun x => { x with st := .syncing }).modLanes fun p => { p with pair := .syncing }))
    ∧ (test.pass = false → exec (.laneReturnSelftestDone test) s = .next (State.errReset s
      (((t.modLanes fun p => { p with returning := none, cmdRunning := false
                                      cmdResult := if t.lanes.cmdRunning then 0x10 else p.cmdResult }).event
        (srcWatch 0) 0x9002 (Lane.code l) (laneByte l ++ byte 0 ++ le 8 test.signature.toNat)).retireLane l 6))))
  ∧ (∀ (s : State) (l : Lane) (us : Nat), s.standby = some l → (s.lanes.lane l).st = .syncing → s.lanes.pair = .syncing →
    exec (.laneResyncDone us) s = .next (State.errReset s (s.laneSynced l us)))
  ∧ (∀ (s : State) (l : Lane), s.standby = some l → (s.lanes.lane l).st = .syncing → s.lanes.pair = .syncing →
    exec .laneCopyTimeout s = .next (State.errReset s (s.copyFails l)))

/-- The CAN ports' lines and NMT commands (R268, R270, R271): bus-off and its recovery, error passive, the five NMT commands, and the
three heartbeat rows. -/
def Obligations.CanCommands : Prop :=
  (∀ (s : State) (p : CanNo), s.onBus p = true →
    exec (.canBusOff p) s = .next (State.errReset s ((s.modCan p fun x =>
      { x with port := .busOff, busOffCount := wrap32 (x.busOffCount + 1) }).event (srcManage (8 + p)) 0xA001 p (byte p)))
    ∧ exec (.errorPassive p true) s = .next (State.errReset s (s.modCan p fun x => { x with port := .passive }))
    ∧ exec (.errorPassive p false) s = .next (State.errReset s (s.modCan p fun x => { x with port := .active })))
  ∧ (∀ (s : State) (p : CanNo), s.can[p].port = .busOff → s.manage = .running →
    exec (.busOffRecovery p) s = .next (State.errReset s ((s.modCan p fun x => { x with port := .active }).emcy 0x8140
      (byte (s.can[p].busOffCount % 256)))))
  ∧ (∀ (s : State) (p : CanNo), s.canLive p = true →
    exec (.nmtResetNode p) s = .next (State.errReset s (s.warmReset 1))
    ∧ exec (.nmtResetCommunication p) s = .next (State.errReset s (s.reinitPort p))
    ∧ exec (.nmtStart p) s = .next (s.setNmt p .operational)
    ∧ exec (.nmtStop p) s = .next ((s.setNmt p .stopped).modCan p fun x => { x with emcyQueue := [] })
    ∧ exec (.nmtEnterPreoperational p) s = .next (s.setNmt p .preOperational)
    ∧ (∀ node : Nat, exec (.heartbeatReceived p node) s = .next (State.errReset s ((s.over (pick 32 fun h => s.ofNode p node s.hosts[h])
        State.touch).modCan p fun x =>
          { x with lost := x.lost.filter fun n => decide (n ≠ node)
                   heard := x.heard.filter (fun n => decide (n.1 ≠ node)) ++ [(node, s.clk.timeUs)] })))
    ∧ (∀ node : Nat, s.overdue p node = true →
      exec (.heartbeatLost p node) s = .next (State.errReset s (((s.modCan p fun x =>
        { x with lost := x.lost ++ [node], heard := x.heard.filter fun n => decide (n.1 ≠ node) }).event
        (srcManage (8 + p)) 0xA003 p (byte p ++ byte node)).emcy 0x8130 (byte node))))
    ∧ (s.cfg 0x1017 0 ≠ 0 → s.can[p].nmt ≠ .initialising → s.can[p].beatUs + s.cfgN 0x1017 0 * 1000 ≤ s.clk.timeUs →
      exec (.heartbeatProduce p) s = .next (s.sendBeat p)))

/-- TIME, LSS, PDOs and the EMCY queue (R275, R276, R277, R287): the wall clock's offset, of which the time of day's epoch
is CiA 301's (log 145); the three LSS commands; SYNC, the event check
and timers of TPDOs; an RPDO's entries; and the next EMCY after the inhibit time. -/
def Obligations.CanMessages : Prop :=
  (∀ (s : State) (p : CanNo) (days ms : Nat), s.canLive p = true → exec (.timeReceived p days ms) s = .next
    { s with wallOffsetMs := (timeOfDayBase + days * 86400000 + ms : Nat) - ((s.clk.timeUs / 1000 : Nat) : Int) })
  ∧ (∀ (s : State) (p : CanNo), s.onBus p = true →
    (∀ k : Nat, arbRates.contains k = true → exec (.lssConfigureBitTiming p k) s =
      .next (((s.setWritten (0x2102 + p) 3 k).afterWrite (0x2102 + p) 3).send (.lss p 0)))
    ∧ (∀ k : Nat, arbRates.contains k = false → exec (.lssConfigureBitTiming p k) s = .next (s.send (.lss p 1)))
    ∧ (∀ n : Nat, 1 ≤ n ∧ n ≤ 127 ∨ n = 255 → exec (.lssConfigureNodeId p n) s =
      .next ((s.modCan p fun x => { x with lssNode := some n }).send (.lss p 0)))
    ∧ (∀ n : Nat, n = 0 ∨ 127 < n ∧ n ≠ 255 → exec (.lssConfigureNodeId p n) s = .next (s.send (.lss p 1)))
    ∧ (∀ n : Nat, s.can[p].lssNode = some n → exec (.lssStoreConfiguration p) s =
      .next (((s.setWritten (0x2102 + p) 2 n).modCan p fun x => { x with lssNode := none }).send (.lss p 0)))
    ∧ (s.can[p].lssNode = none → exec (.lssStoreConfiguration p) s = .next (s.send (.lss p 0))))
  ∧ (∀ (s : State) (p : CanNo), s.canLive p = true → exec (.syncReceived p) s = .next (s.each 32 fun n t =>
      if t.tpdoPort n = some p ∧ 1 ≤ t.tpdoType n ∧ t.tpdoType n ≤ 240 then
        if t.tpdoType n ≤ t.tpdoSync[n] + 1 then t.sendTpdo p n else { t with tpdoSync := t.tpdoSync.set n (t.tpdoSync[n] + 1) }
      else t))
  ∧ (∀ s : State, s.recorderUp = true → s.checkUs + s.telemetryMs * 1000 ≤ s.clk.timeUs →
    exec .tpdoEventCheck s = .next (({ s with checkUs := s.clk.timeUs } : State).each 32 fun n t =>
      match t.tpdoPort n with
      | some p => if 254 ≤ t.tpdoType n ∧ t.tpdoBytes n ≠ t.tpdoLast[n] then t.raiseTpdo p n else t
      | none => t))
  ∧ (∀ (s : State) (n : Fin 32) (p : CanNo), s.tpdoPort n = some p → 254 ≤ s.tpdoType n →
    (s.tpdoInhibit[n] = true → s.tpdoTimeUp n (s.cfgN (0x1800 + n) 3 * 100) = true → s.tpdoDue[n] = true →
      exec (.tpdoEventTimer n) s = .next (({ s with tpdoInhibit := s.tpdoInhibit.set n false } : State).sendTpdo p n))
    ∧ (s.tpdoInhibit[n] = true → s.tpdoTimeUp n (s.cfgN (0x1800 + n) 3 * 100) = true → s.tpdoDue[n] = false →
      exec (.tpdoEventTimer n) s = .next { s with tpdoInhibit := s.tpdoInhibit.set n false })
    ∧ (s.tpdoInhibit[n] = false → s.cfgN (0x1800 + n) 5 ≠ 0 → s.tpdoTimeUp n (s.cfgN (0x1800 + n) 5 * 1000) = true →
      exec (.tpdoEventTimer n) s = .next (s.sendTpdo p n)))
  ∧ (∀ (s t : State) (n : Fin 16) (data : Bytes) (p : CanNo) (h : HostNo) (items : List ((Nat × Nat) × Bytes)),
    toFin? 2 (s.cfgN 0x2107 (n + 1)) = some p → s.canLive p = true → s.can[p].nmt = .operational → s.pdoValid (0x1400 + n) = true →
    s.cfgN 0x2108 (n + 1) ≠ 0 → data.length ≤ s.pdoLimit p → rpdoItems (s.mapping (0x1600 + n)) data = some items →
    s.contact { kind := .usdo, port := p, addr := s.cfgN 0x2108 (n + 1) } = (some h, t) →
    exec (.rpdoReceived n data) s = .next (State.errReset s (t.over items (State.rpdoEntry p n h))))
  ∧ (∀ (s : State) (p : CanNo), s.can[p].inhibited = true → s.can[p].emcyUs + s.cfgN 0x1015 0 * 100 ≤ s.clk.timeUs →
    (s.can[p].emcyQueue = [] → exec (.emcyInhibitExpiry p) s = .next (s.modCan p fun x => { x with inhibited := false }))
    ∧ (∀ code b q, s.can[p].emcyQueue = (code, b) :: q →
      exec (.emcyInhibitExpiry p) s = .next ((s.modCan p fun x => { x with emcyQueue := q, inhibited := false }).emcyOn p code b)))

/-- The contexts, the lock's lease, the stored copy and the sets (R282, R284, R295, R299): a silent context is released, a lease that ends
ends the lock, a committed copy is the one in force at the next restart and answers its host, and a set that is due is adopted. -/
def Obligations.HostTimers : Prop :=
  (∀ (s : State) (h : HostNo), s.hosts[h].used = true → s.manage = .running → s.cfgN 0x2100 2 * 1000 ≤ s.hosts[h].silenceMs →
    exec (.lingerExpiry h) s = .next (State.errReset s (s.releaseHost 1 h).cocoonCheck))
  ∧ (∀ (s : State) (h : HostNo), s.lockOwner = some h → s.lockMs = 0 → s.manage = .running →
    exec .lockLeaseExpiry s = .next (State.event (srcManage 0) 0xA00A h (byte h ++ byte 2) { s with lockOwner := none, lockMs := 0 }))
  ∧ (∀ (s : State) (ms scope : Nat) (i : Image) (k : Key), s.manage = .running → s.seq.gaspPending = none → s.seq.settlePending = none →
    s.dict.storing = some (scope, i, k) →
    exec (.storeWritten ms) s = .next (((s.modDict fun d =>
      { d.commitImage i with storing := none, restore := restoreAfter scope d.restore, lastStoreMs := ms }).storeEvent scope i).answerStore k))
  ∧ (∀ (s : State) (set inst band : Nat), inst < setCount set →
    (∀ c : CellNo, set = 6 ∨ set = 7 ∨ set = 9 → (c : Nat) = inst → exec (.agreementAdoption set inst band) s = .next (s.feederAdopt c))
    ∧ (set = 0xE ∨ set = 0xF → band < 6 → exec (.agreementAdoption set inst band) s = .next (s.adoptSet ⟨set, inst, band⟩))
    ∧ (set ∈ [2, 3, 4, 5, 8, 0xA, 0xB, 0xC, 0xD, 0x11, 0x12, 0x14] →
      exec (.agreementAdoption set inst band) s = .next (s.adoptSet ⟨set, inst, 0xFF⟩)))

/-- A DAP port of an application core (R273, R285): the stores made before a GO reach the port's registers, the GO loads the request, and with a right length leaves the port busy; a second GO
while busy does no more than those stores; an abort ends it with 0x08000000; and its end answers through the port's own registers. -/
def Obligations.DapCommands : Prop :=
  (∀ (s t : State) (d : DapNo) (regs : Stores), s.dapServes d = true → t = s.over regs (State.storeDap d) →
    ∀ (r : DapReq) (c : Instr), c = (match r with
        | .read i n o => .dapRead d regs i n o
        | .write i n b => .dapWrite d regs i n b
        | .multi b => .dapMultiWrite d regs b) →
      (t.dap[d].req ≠ none → exec c s = .next t)
      ∧ (∀ (h : HostNo) (u : State), t.dap[d].req = none → (t.modDap d (Dap.load r)).contact (dapKey d) = (some h, u) →
        (r.lengthOk = true → exec c s = .next (State.errReset s ((u.modDap d fun x => { x with req := some r }).dapLevel d)))
        ∧ (r.lengthOk = false → exec c s = .next (State.errReset s (u.endDap d 0x06070010))))
      ∧ (∀ u : State, t.dap[d].req = none → (t.modDap d (Dap.load r)).contact (dapKey d) = (none, u) →
        exec c s = .next (State.errReset s (u.endDap d 0x05040005))))
  ∧ (∀ (s : State) (d : DapNo), s.dapServes d = true → s.dap[d].req ≠ none → s.dapStoring d = false →
    exec (.dapAbort d) s = .next (s.endDap d 0x08000000))
  ∧ (∀ (s : State) (d : DapNo) (h : HostNo), s.recorderUp = true → s.phase = .running → s.dapStoring d = false →
    s.ctxOf (dapKey d) = some h →
    (∀ i n o, s.dap[d].req = some (.read i n o) → exec (.dapRequestEnd d) s = .next (State.errReset s (s.dapReadEnd d h i n o)))
    ∧ (∀ i n b code t, s.dap[d].req = some (.write i n b) → s.write h i n b = (code, t) → code ≠ 0 ∨ i ≠ 0x1010 →
      exec (.dapRequestEnd d) s = .next (State.errReset s (t.endDap d code)))
    ∧ (∀ n b t, s.dap[d].req = some (.write 0x1010 n b) → s.write h 0x1010 n b = (0, t) →
      exec (.dapRequestEnd d) s = .next (State.errReset s t))
    ∧ (∀ b code t, s.dap[d].req = some (.multi b) → s.write h 0x2104 1 b = (code, t) →
      exec (.dapRequestEnd d) s = .next (State.errReset s (t.endDap d code))))

/-- The interrupt unit (R330, R331, R332, R333, R334, R335, R336): an event of a source, shared or private, reaches it, SWSET raises the software
sources, a moderated source is released, CLAIM answers the highest ID and marks it, COMPLETE ends a claim, and the source and priority
words and the threshold are written. -/
def Obligations.IcuCommands : Prop :=
  (∀ (s : State) (n : SharedNo), exec (.icuSourceEvent (.shared n)) s = .next (s.irqEvent n))
  ∧ (∀ (s : State) (c : CoreNo) (p : Fin 32),
    exec (.icuSourceEvent (.priv c p)) s = .next (if s.manage = .running then s.wakeCore c else s))
  ∧ (∀ (s : State) (c : CoreNo) (m : BitVec 8), s.coreUp c = true → (c : Nat) < 2 →
    exec (.swset c m) s = .next (s.each 8 fun i t => if m.getLsbD i then t.irqEvent ⟨52 + i, by omega⟩ else t))
  ∧ (∀ (s : State) (n : SharedNo), s.manage = .running → 0 < s.srcs[n].counted → s.srcs[n].modHold ≠ 0 →
    s.srcs[n].firstUs + s.srcs[n].modHold ≤ s.clk.timeUs →
    exec (.moderationRelease n) s = .next ((s.modSrc n fun x => { x with released := true }).wakeCore s.srcs[n].target))
  ∧ (∀ (s : State) (c : CoreNo), s.coreUp c = true →
    (∀ src, s.topSource c = some src → exec (.claim c) s = .next ((s.claimSource c src).answer 0 (le 4 (irqId src)) 4))
    ∧ (s.topSource c = none → exec (.claim c) s = .next (s.answer 0 (le 4 0) 4))
    ∧ (∀ id : BitVec 8, 1 ≤ id.toNat → id.toNat ≤ 32 → exec (.complete c id) s =
      .next (s.modCore c fun x => { x with privClaimed := x.privClaimed &&& ~~~ BitVec.ofNat 32 (2 ^ (id.toNat - 1)) }))
    ∧ (∀ (id : BitVec 8) (n : SharedNo), id.toNat = 33 + n → s.srcs[n].claimedBy = some c → exec (.complete c id) s =
      .next ((s.modSrc n fun x => { x with claimedBy := none, pending := decide (0 < x.duringClaim), events := x.duringClaim
                                           duringClaim := 0 }).refreshSrc n))
    ∧ (∀ (m : Fin 4) (w : BitVec 32), exec (.prioWrite c (.priv c m) w) s = .next ((s.modCore c fun x =>
        { x with privPrio := Vector.ofFn fun (p : Fin 32) =>
            if (p : Nat) / 8 = m then w.toNat / 16 ^ ((p : Nat) % 8) % 16 else x.privPrio[p] }).wakeCore c))
    ∧ (∀ v : Fin 16, exec (.thresholdWrite c v) s = .next (s.modCore c fun x => { x with threshold := v })))
  ∧ (∀ (s : State) (c : CoreNo) (n : SharedNo) (w : BitVec 32), s.sharedPage c = true →
    exec (.targetWrite c n w) s = .next (s.writeSrcCfg n w) ∧ exec (.prioWrite c (.shared n) w) s = .next (s.writeSrcCfg n w))

/-- The cores (R326, R333, R338, R339, R341, R343, R344): a WFI sleeps and is woken at once by what is pending, the timers compare,
TIME_LO latches its upper word, ECC errors are recorded and raised, the scrubber queues, ends or aborts a range, and an application core's
third fault in ten minutes halts it. -/
def Obligations.CoreCommands : Prop :=
  (∀ (s : State) (c : CoreNo), s.coreUp c = true →
    (let deep := decide ((c : Nat) < 2) && decide (s.openOn 0 + s.openOn 1 = 0) && decide (1 ≤ s.governing fun _ => true)
      let t := s.modCore c fun x => { x with run := if deep then .retention else .wfi }
      exec (.coreWfi c) s = .next ((t.each 160 fun n u => if u.srcs[n].target = c then u.refreshSrc n else u).wakeCore c))
    ∧ (∀ (n : Fin 4) (hi : BitVec 16) (lo : BitVec 32), exec (.timerCompareWrite c n hi lo) s = .next (s.modCore c fun x =>
        { x with cmpLo := x.cmpLo.set n lo.toNat, cmp := x.cmp.set n (hi.toNat * 0x100000000 + lo.toNat) }))
    ∧ exec (.timeLoRead c) s = .next ((s.modCore c fun x => { x with timeHi := s.now / 0x100000000 }).answer 0 (le 4 (s.now % 0x100000000)) 4)
    ∧ (∀ (r : Stores) (m : Bool) (a n : Nat),
      let t := s.over r (State.storeScrub c)
      (t.cores[c].scrubBusy = true ∨ t.cores[c].scrubQueued = true → exec (.scrubGo c r m a n) s = .next t)
      ∧ (t.cores[c].scrubBusy = false → t.cores[c].scrubQueued = false →
        let u := t.modCore c fun x => { x with scrubStart := a % 0x100000000 / 4 * 4, scrubWords := n % 0x400000 }
        (n % 0x400000 = 0 → exec (.scrubGo c r m a n) s = .next ((u.modCore c fun x =>
          { x with corr := 0, uncorr := 0, firstBad := 0xFFFFFFFF#32, scrubDone := true }).scrubLevel c))
        ∧ (n % 0x400000 ≠ 0 → u.scrubOk c m (a % 0x100000000 / 4 * 4) (4 * (n % 0x400000)) = true →
          let v := u.modCore c fun x => { x with corr := 0, uncorr := 0, firstBad := 0xFFFFFFFF#32, scrubQueued := true }
          exec (.scrubGo c r m a n) s = .next (({ v with scrubOrder := v.scrubOrder ++ [c] } : State).nextScrub.scrubLevel c))
        ∧ (n % 0x400000 ≠ 0 → u.scrubOk c m (a % 0x100000000 / 4 * 4) (4 * (n % 0x400000)) = false →
          exec (.scrubGo c r m a n) s = .next ((u.modCore c fun x => { x with scrubErr := true }).scrubLevel c))))
    ∧ (∀ (k l : Nat) (b : BitVec 32),
      (s.cores[c].scrubQueued = true → exec (.scrubAbort c false k l b) s = .next (s.endScrub c true 0 0 0xFFFFFFFF#32))
      ∧ (s.cores[c].scrubQueued = false →
        exec (.scrubAbort c false k l b) s = .next (s.modCore c fun x => { x with scrubAbortDue := x.scrubBusy })))
    ∧ (∀ (x y : BitVec 32), 2 ≤ (c : Nat) →
      let ts := recentFaults s.now s.cores[c].faultTimes ++ [s.now]
      let t := (((s.event (srcManage c) 0xB020 c (byte c ++ le 4 x.toNat ++ le 4 y.toNat)).modFw fun w => { w with settleMs := 0 }).modCore c
        fun x => { x with faultTimes := ts }).resetCoreUnits c
      (ts.length < 3 → exec (.appFault c x y) s = .next t)
      ∧ (3 ≤ ts.length → exec (.appFault c x y) s = .next ((t.modCore c fun x => { x with run := .halted }).event (srcManage c) 0xB021 c (byte c)))))
  ∧ (∀ (s : State) (c : CoreNo) (n : Fin 4), exec (.timerCompareMatch c n) s =
    .next (if s.manage = .running ∧ s.privHigh c ⟨n, by omega⟩ then s.wakeCore c else s))
  ∧ (∀ (s : State) (m : Sys2Proof.Memory) (a : BitVec 32) (r : Fin 12),
    exec (.eccCorrected m a r) s = .next ((s.event (Memory.source m) 0xB001 0xFF (byte (Memory.code m) ++ le 4 a.toNat)).irqEvent 44))
  ∧ (∀ (s t : State) (m : Sys2Proof.Memory) (a : BitVec 32) (r : Sys2Proof.Requester),
    t = (s.event (Memory.source m) 0xB002 0xFF (byte (Memory.code m) ++ le 4 a.toNat ++ byte (Requester.code r))).irqEvent 45 →
    (∀ c k, r = .core c k → exec (.eccUncorrectable m a r) s =
      .next (if t.coreUp c ∧ 2 ≤ (c : Nat) then t.appFault c (CoreAccess.mcause k) a.toNat else t))
    ∧ (∀ k, r = .host k → exec (.eccUncorrectable m a r) s = .next (State.errReset s (t.refuseRead k)))
    ∧ (r = .recorder ∨ r = .scrubber ∨ r = .mramController → exec (.eccUncorrectable m a r) s = .next t))
  ∧ (∀ (s : State) (c : CoreNo) (k l : Nat) (b : BitVec 32), s.manage = .running → s.cores[c].scrubBusy = true →
    exec (.scrubDone c k l b) s = .next (s.endScrub c false k l b)
    ∧ (s.cores[c].scrubAbortDue = true → exec (.scrubAbort c true k l b) s = .next (s.endScrub c true k l b)))

/-- The recorder's own work (R347, R349, R352): the records of a source are closed when its folding window ends, a record is appended to
the Peat log, the oldest leaving when it is full, and a new reserve of numbers lets the waiting records be written. -/
def Obligations.RecorderSteps : Prop :=
  (∀ (s : State) (b : BitVec 8), s.manage = .running → s.cfgN 0x2600 5 ≠ 0 →
    exec (.foldTimeout b) s = .next (s.closeRecs (fun r => decide (r.source = b.toNat) && decide (r.last + s.cfgN 0x2600 5 * 1000 ≤ s.now)) false))
  ∧ (∀ (s : State) (seq : Nat) (r : Rec), s.manage = .running → s.seq.gaspPending = none → s.seq.settlePending = none →
    (s.recorder.appendDue.find? fun r => r.seq = seq) = some r →
    exec (.peatAppend seq) s = .next (s.modRec fun q =>
      { q with log := logTrim (q.log ++ [r]), peatGone := goneAfter q.peatGone (q.log ++ [r]) (logTrim (q.log ++ [r]))
               appendDue := q.appendDue.filter fun x => decide (x.seq ≠ seq) }))
  ∧ (∀ s : State, s.manage = .running → s.recorder.reserveDue = true → s.seq.gaspPending = none → s.seq.settlePending = none →
    exec .numberReserveWrite s = .next ((s.modRec fun q =>
      { q.reserveNext with reserveDue := false, waiting := [] }).over
        s.recorder.waiting State.writeRec))

/-- The read frames of a two-wire port (R307, R308, R309, R310, R311, R312, R313, R316): each answers its block from the caller's own context,
as many bytes of it and of its PEC as are clocked, and what it advances it advances only when every byte was; a frame without a read does
nothing, and one with bytes where none belong is a length error. DICT_READ while a store is under way stretches the clock or is lost by the
port's policy. -/
def Obligations.TwoWireReads : Prop :=
  (∀ (s t : State) (p : TwNo) (src : BitVec 7) (h : HostNo) (c : TwRead → Instr), s.twTakes p src h t →
    c ∈ [Instr.twStatus p src, Instr.dictResult p src, Instr.eventWindow p src, Instr.grantState p src, Instr.alertCause p src,
      Instr.portInfo p src] ∨ (c = Instr.twDictRead p src ∧ s.twBusy p src = false) →
    exec (c .stop) s = .next (State.errReset s t) ∧ exec (c .extra) s = .next (State.errReset s (t.frameFault p h 1)))
  ∧ (∀ (s t : State) (p : TwNo) (src : BitVec 7) (h : HostNo) (n : Nat), s.twTakes p src h t →
    let reply := fun (u : State) (cmd : Nat) (b : Bytes) =>
      u.answer 0 ((b ++ [crc8 (t.frameHead p cmd src ++ byte (2 * t.cfgN (0x2800 + p) 4 + 1) ++ b)]).take n) b.length
    let shows := fun (c : Instr) (u : State) => exec c s = .next (State.errReset s u)
    (let x := t.hosts[h]
      let flags := b2n t.modes.safe + 2 * b2n t.ledger.now.shortfall + 4 * b2n (decide (x.tw.result = 1)) + 8 * b2n x.grantPending
        + 16 * b2n (t.ownThrottled h) + 32 * b2n (decide (t.beyond h ≠ []))
      let u := reply t 1 (byte ((t.modes.mode.map Mode.code).getD 0) ++ byte flags ++ byte x.tw.frameError ++ [0])
      shows (.twStatus p src (.clocked n)) (if 4 ≤ n then u.modCtx h fun c => { c with frameError := 0 } else u))
    ∧ (s.twBusy p src = false →
      let b := t.hosts[h].tw.nextBytes
      let u := reply t 0x11 (withCount b)
      shows (.twDictRead p src (.clocked n)) (if b.length + 1 ≤ n then u.modCtx h fun c => { c with copy := c.copy.drop b.length } else u))
    ∧ (let c := t.hosts[h].tw
      shows (.dictResult p src (.clocked n))
        (reply t 0x13 (byte c.result ++ byte c.op ++ le 2 c.index ++ byte c.sub ++ [0, 0, 0] ++ le 4 c.abort ++ le 4 c.total)))
    ∧ shows (.grantState p src (.clocked n)) (reply t 0x31 (withCount t.hosts[h].grantResult))
    ∧ (t.alertSink p h = none → shows (.alertCause p src (.clocked n)) (reply t 0x3E [0xFF#8, 0, 0, 0]))
    ∧ (∀ x, t.alertSink p h = some x → shows (.alertCause p src (.clocked n))
        (reply t 0x3E (byte x ++ byte t.ledger.sinks[x].throttle ++ le 2 (min 65535 t.ledger.sinks[x].targetW))))
    ∧ (let i := 0x2800 + (p : Nat)
      shows (.portInfo p src (.clocked n)) (reply t 0x3F (byte p ++ byte (t.twPolicy p)
        ++ byte (if t.cfgN i 1 = 1000 then 2 else if t.cfgN i 1 = 400 then 1 else 0) ++ byte (t.cfgN i 5) ++ byte (t.cfgN i 4) ++ byte 1
        ++ byte h ++ byte t.hosts[h].cls.code)))
    ∧ (let u := t.closeWindow h
      ∀ (b : Bytes) (cursor ps k : Nat), u.eventBlockOf h = (b, cursor, ps, k) →
      let v := reply u 0x21 (withCount b)
      shows (.eventWindow p src (.clocked n)) (if b.length + 1 ≤ n then
        v.modHost h fun y => { y with ringCursor := cursor, tw := { y.tw with partSeq := ps, part := k } } else v)))
  ∧ (∀ (s : State) (p : TwNo) (src : BitVec 7) (r : TwRead), s.twBusy p src = true → s.twAwake p = true →
    exec (.twDictRead p src r) s =
      .next (if s.twPolicy p = 0 then s.modTw p fun x => { x with stretch := some (src, r, s.clk.timeUs) } else s))

/-- The write frames of a two-wire port (R307, R308, R309, R311, R312, R313, R314): with the right length and PEC, DICT_SELECT copies an
entry or selects one to be written, DICT_WRITE gathers its bytes and applies the last, EVENT_CURSOR moves the cursor, and GRANT_REQUEST
writes 2220:01; a wrong length or PEC is counted and discards the frame. -/
def Obligations.TwoWireWrites : Prop :=
  ∀ (s t : State) (p : TwNo) (src : BitVec 7) (h : HostNo) (b d : Bytes), s.twTakes p src h t →
    let framed := fun (cmd : Nat) => d = b ++ [crc8 (t.frameHead p cmd src ++ b)] ∨ (d = b ∧ t.cfgN (0x2800 + p) 5 = 0)
    let shows := fun (c : Instr) (u : State) => exec c s = .next (State.errReset s u)
    (b.length = 9 → framed 0x10 →
      (t.hosts[h].tw.result = 1 → shows (.dictSelect p src d) (t.frameFault p h 3))
      ∧ (t.hosts[h].tw.result ≠ 1 → numAt b 0 1 = 1 → numAt b 4 1 = 0 →
        shows (.dictSelect p src d) (t.selectRead h (numAt b 1 2) (numAt b 3 1) (numAt b 5 4)))
      ∧ (t.hosts[h].tw.result ≠ 1 → numAt b 0 1 = 2 → numAt b 4 1 = 0 → numAt b 5 4 = 0 → shows (.dictSelect p src d)
          (t.modCtx h fun c => { c with selWrite := some (numAt b 1 2, numAt b 3 1), buffer := [], bufferOver := false })))
    ∧ (b.length = numAt b 0 1 + 1 → 2 ≤ b.length → framed 0x12 →
      (t.hosts[h].tw.selWrite = none → shows (.twDictWrite p src d) (t.frameFault p h 3))
      ∧ (∀ i n : Nat, t.hosts[h].tw.selWrite = some (i, n) →
        let u := t.modCtx h fun c => if 1024 < c.buffer.length + (b.drop 2).length then { c with bufferOver := true }
          else { c with buffer := c.buffer ++ b.drop 2 }
        (numAt b 1 1 % 2 = 0 → shows (.twDictWrite p src d) u)
        ∧ (numAt b 1 1 % 2 = 1 → t.hosts[h].tw.result ≠ 1 → shows (.twDictWrite p src d) (u.applyLast h i n))
        ∧ (numAt b 1 1 % 2 = 1 → t.hosts[h].tw.result = 1 → shows (.twDictWrite p src d) (t.frameFault p h 3))))
    ∧ (b.length = 5 → framed 0x20 →
      (numAt b 0 1 = 1 → shows (.eventCursor p src d) (writeCursor h 0 t).2)
      ∧ (numAt b 0 1 = 2 → shows (.eventCursor p src d)
        (writeCursor h (if newestOf t.recorder.ring = 0 then 0xFFFFFFFF else newestOf t.recorder.ring) t).2)
      ∧ (∀ (u : State), numAt b 0 1 = 3 → writeCursor h (numAt b 1 4) t = (0, u) → shows (.eventCursor p src d) u))
    ∧ (b.length = numAt b 0 1 + 1 → 21 ≤ b.length → b.length ≤ 49 → framed 0x30 →
      ∀ (code : Nat) (u : State), t.write h 0x2220 1 (b.drop 1) = (code, u) →
      shows (.twGrantRequest p src d) (u.modCtx h (TwCtx.report 3 0x2220 1 code 0)))
    ∧ (d.length ≠ 9 → d.length ≠ 10 → shows (.dictSelect p src d) (t.frameFault p h 1))
    ∧ (d.length ≠ 5 → d.length ≠ 6 → shows (.eventCursor p src d) (t.frameFault p h 1))
    ∧ (∀ x : Byte, d = b ++ [x] →
      (b.length = 9 → x ≠ crc8 (t.frameHead p 0x10 src ++ b) → shows (.dictSelect p src d) (t.frameFault p h 2))
      ∧ (b.length = 5 → x ≠ crc8 (t.frameHead p 0x20 src ++ b) → shows (.eventCursor p src d) (t.frameFault p h 2)))

/-- The two-wire lines (R36, R310, R315, R316, R317, R318, R319, R320, R321): quick commands, alert response, errors, stretching, sleep
and waking, host notify and its retries, lost arbitration, timeouts, bus recovery, the fault of a port and its end, and the poll of a
slot's regulators. -/
def Obligations.TwoWireLines : Prop :=
  (∀ (s : State) (p : TwNo), s.twAwake p = true →
    exec (.quickCommand p) s = .next (s.modTw p fun x => { x with st := .idle, frameUs := s.clk.timeUs })
    ∧ exec (.errCmd p) s = .next (s.modTw p fun x => { x with errCmd := wrap32 (x.errCmd + 1) })
    ∧ (s.tw[p].alertPending = true →
      let b := byte (2 * s.cfgN (0x2800 + p) 4)
      (∀ (rival : Option (BitVec 7)) (pec : Bool), (∀ a, rival = some a → s.cfgN (0x2800 + p) 4 ≤ a.toNat) →
        exec (.alertResponse p rival pec) s =
          .next ((s.answer 0 (if pec then b ++ [crc8 ([0x19#8] ++ b)] else b) 1).modTw p fun x => { x with alertPending := false }))
      ∧ (∀ (a : BitVec 7) (pec : Bool), a.toNat < s.cfgN (0x2800 + p) 4 → exec (.alertResponse p (some a) pec) s = .next s)))
  ∧ (∀ (s : State) (p : TwNo) (c : Bool), (if c then s.twDrives p else s.twTarget p) = true →
    exec (.twTimeout p c) s = .next ((s.modTw p fun x => { x with timeouts := wrap32 (x.timeouts + 1), stretch := none }).event
        (srcManage (10 + p)) 0xA022 p (byte p ++ byte (b2n c))))
  ∧ (∀ (s : State) (p : TwNo), s.twTarget p = true →
    let t := s.modTw p fun x => { x with stretch := none, frameUs := s.clk.timeUs }
    exec (.twBusError p none) s = .next t
      ∧ (∀ a h, t.ctxOf (twKey p a) = some h → exec (.twBusError p (some a)) s = .next (t.frameFault p h 3))
      ∧ (∀ a, t.ctxOf (twKey p a) = none →
        exec (.twBusError p (some a)) s = .next (t.modTw p fun x => { x with errSeq := wrap32 (x.errSeq + 1) })))
  ∧ (∀ (s : State) (p : TwNo), s.recorderUp = true → s.twShown p = .idle → s.tw[p].frameUs + 5000 ≤ s.clk.timeUs →
    s.tw[p].notifies = [] → s.tw[p].alertPending = false → s.twPollDue p = false →
    (if s.twPolicy p = 0 then 1 else 10) ≤ s.portBudget p → exec (.portSleep p) s = .next (s.modTw p fun x => { x with st := .asleep }))
  ∧ (∀ (s : State) (p : TwNo) (src : BitVec 7) (r : TwRead) (since : Nat), s.tw[p].stretch = some (src, r, since) →
    since + 2000 ≤ s.clk.timeUs →
    exec (.stretchLimit p) s = .next (s.modTw p fun x => { x with stretch := none, frameUs := s.clk.timeUs }))
  ∧ (∀ (s : State) (p : TwNo), s.recorderUp = true → s.twServes p = true → s.tw[p].st = .asleep →
    exec (.addressRecognisedAsleep p) s = .next (s.modTw p fun x => { x with st := .idle }))
  ∧ (∀ (s : State) (p : TwNo), s.twDrives p = true →
    (∀ ack : Bool, s.tw[p].nacks = 0 → exec (.hostNotify p ack) s = .next (s.sendNotify p ack))
    ∧ (∀ ack : Bool, s.tw[p].nacks ≠ 0 → s.tw[p].notifyUs + 10000 ≤ s.clk.timeUs → exec (.hostNotifyRetry p ack) s = .next (s.sendNotify p ack))
    ∧ (∀ own : OwnFrame,
      let t := s.modTw p fun x => { x with arbLost := wrap32 (x.arbLost + 1), arbRun := x.arbRun + 1 }
      (t.tw[p].arbRun < 3 → exec (.arbitrationLost p own) s = .next t)
      ∧ (3 ≤ t.tw[p].arbRun →
        let u := t.modTw p fun x => { x with arbRun := 0 }
        (own = .notify → exec (.arbitrationLost p own) s = .next ((u.modTw p fun x => { x with notifyUs := s.clk.timeUs }).notifyNack p))
        ∧ (∀ c a r, own = .poll c a → u.regAt c a = some r → exec (.arbitrationLost p own) s = .next (u.pollFailed r))
        ∧ (∀ c a, own = .poll c a → u.regAt c a = none → exec (.arbitrationLost p own) s = .next u)))
    ∧ (∀ sda : List Bool, s.tw[p].attempts = 0 ∨ s.tw[p].attemptUs + 10000 ≤ s.clk.timeUs →
      ((sda.take 9).any id = true → exec (.busRecovery p sda) s = .next (s.modTw p fun x => { x with attempts := 0 }))
      ∧ ((sda.take 9).any id = false → s.tw[p].attempts < 2 →
        exec (.busRecovery p sda) s = .next (s.modTw p fun x => { x with attempts := x.attempts + 1, attemptUs := s.clk.timeUs }))
      ∧ ((sda.take 9).any id = false → 2 ≤ s.tw[p].attempts → exec (.busRecovery p sda) s = .next ((s.modTw p fun x =>
          { x with attempts := 0, st := .fault, notifies := [], nacks := 0, faultUs := s.clk.timeUs }).event
            (srcManage (10 + p)) 0xA020 p (byte p)))))
  ∧ (∀ (s : State) (p : TwNo), s.recorderUp = true → s.tw[p].st = .fault → s.tw[p].faultUs + 1000000 ≤ s.clk.timeUs →
    exec (.portFaultCheck p false) s = .next (s.modTw p fun x => { x with faultUs := s.clk.timeUs })
    ∧ exec (.portFaultCheck p true) s = .next ((s.modTw p fun x => { x with st := .idle, recoveries := wrap32 (x.recoveries + 1) }).event
      (srcManage (10 + p)) 0xA021 p (byte p)))
  ∧ (∀ (s : State) (c : CellNo) (p : TwNo) (as : List RegAnswer), s.cell c 0x33 = p → s.cells[c].role = .feeder → s.cells[c].feeder.st = .on →
    s.twDrives p = true → s.cell c 0x50 ≠ 0 → s.cell c 0x51 ≠ 0 → s.cells[c].regUs + s.telemetryMs * 1000 ≤ s.clk.timeUs →
    exec (.regulatorPoll c as) s = .next (((s.twRan p).modCell c fun x => { x with regUs := s.clk.timeUs }).over
      ((List.range (s.cell c 0x51)).map (· + s.cell c 0x50)) fun a u => u.pollReg c p as a))

/-- The Fafort session (R361, R362): a frame whose CRC or length is bad is answered 0x02, a repeated one its reply again; IDENTIFY answers the
part's identity, AUTH_BEGIN opens a session with a fresh nonce, a right proof gives it its context, CLOSE and 10 s without a request end it,
and the lockout ends after 60 s. `u` is the state once the request is noted. -/
def Obligations.FafortSession : Prop :=
  (∀ (s u : State) (f : Sys2Proof.Fafort) (c : Sys2Proof.Fafort → Instr) (type : Nat), u = s.requested → s.fafortUp = true →
    (Fafort.whole type f = false → (c, type) ∈ [(Instr.identify, 1), (Instr.authBegin, 2), (Instr.authProve, 3), (Instr.fafortDictRead, 0x10),
        (Instr.fafortDictWrite, 0x11), (Instr.imageBegin, 0x20), (Instr.imageData, 0x21), (Instr.imageEnd, 0x22), (Instr.activate, 0x23),
        (Instr.keyWrite, 0x30), (Instr.close, 0x3F)] →
      exec (c f) s = .next { u with reply := { code := 2, data := [], total := 0 } })
    ∧ (Fafort.whole type f = true → f.payload = [] → s.fw.session.lastSeq = some f.seq →
      (c, type) ∈ [(Instr.identify, 1), (Instr.authBegin, 2), (Instr.imageEnd, 0x22), (Instr.activate, 0x23), (Instr.close, 0x3F)] →
      exec (c f) s = .next { u with reply := s.fw.session.lastReply }))
  ∧ (∀ (s u : State) (f : Sys2Proof.Fafort), u = s.requested →
    (s.fafortTakes 1 f → f.payload = [] → ∀ t : State, (u.fw.session.authed = true → ∀ h, u.ctxOf serviceKey = some h → t = u.touch h) →
      (u.fw.session.authed = false ∨ u.ctxOf serviceKey = none → t = u) →
      exec (.identify f) s = .next (s.framed f 0 (uniqueIdBytes ++ le 2 (dfltOf 0x2000 2).toNat ++ le 4 t.release
        ++ byte (b2n (decide (t.phase = .recovery))) ++ [0]) t))
    ∧ (s.fafortTakes 2 f → f.payload = [] → s.fw.session.open_ = false → s.fw.session.lockout = false →
      let t : State := { u with freeCount := s.freeCount + 1 }
      exec (.authBegin f) s = .next (s.framed f 0 (Config.random16 s.freeCount) (t.modSession fun x =>
        { Session.reset with failures := x.failures, lockout := x.lockout, lockoutUs := x.lockoutUs, requestUs := x.requestUs, open_ := true
                             nonce := Config.random16 s.freeCount, wrapKey := (t.fw.key 0x22).getD [] })))
    ∧ (∀ (h : HostNo) (v : State), s.fafortTakes 3 f → f.payload.length = 16 → s.fw.session.open_ = true → s.fw.session.authed = false →
      f.payload = Config.hmac16 s.fw.session.wrapKey (s.fw.session.nonce ++ uniqueIdBytes) → u.newHost serviceKey = (some h, v) →
      exec (.authProve f) s = .next (s.framed f 0 [] ((v.modSession fun x => { x with authed := true, host := some h, failures := 0 }).event
          (srcManage 22) 0xC001 h (byte h))))
    ∧ (s.fafortTakes 3 f → f.payload.length = 16 → s.fw.session.open_ = true → s.fw.session.authed = false →
      f.payload ≠ Config.hmac16 s.fw.session.wrapKey (s.fw.session.nonce ++ uniqueIdBytes) →
      exec (.authProve f) s = .next (s.framed f 6 [] u.authFailed))
    ∧ (s.fafortTakes 0x3F f → f.payload = [] → s.fw.session.open_ = true →
      exec (.close f) s = .next (s.framed f 0 [] u.endSession.cocoonCheck)))
  ∧ (∀ s : State, s.fw.session.open_ = true → s.manage = .running → s.fw.session.requestUs + 10000000 ≤ s.clk.timeUs →
    exec .sessionTimeout s = .next (State.errReset s s.endSession.cocoonCheck))
  ∧ (∀ s : State, s.fw.session.lockout = true → s.fw.session.lockoutUs + 60000000 ≤ s.clk.timeUs →
    exec .authLockoutEnd s = .next (s.modSession fun x => { x with lockout := false, failures := 0 }))

/-- The frames of an authenticated Fafort session (R273, R358, R359, R360, R361, R363, R369): an entry is read in parts and written, an
image whose header passes is begun, taken chunk by chunk and ended, and a key that unwraps is written; a store answers busy until its
commit (log 101). `t` is the state with the request and the contact noted. -/
def Obligations.FafortFrames : Prop :=
  ∀ (s t : State) (f : Sys2Proof.Fafort) (h : HostNo),
    (s.sessionTakes 0x10 f h t → f.payload.length = 8 →
      let i := numAt f.payload 0 2
      let n := numAt f.payload 2 1
      let o := numAt f.payload 4 4
      let first := t.fw.session.first
      (∀ (b : Bytes) (u : State), o = 0 → t.read h i n = (0, b, u) →
        exec (.fafortDictRead f) s = .next (s.framed f 0 (slice b 0 1024) (u.modSession fun x => { x with readOf := some (i, n), first := b })))
      ∧ (o ≠ 0 → t.fw.session.readOf = some (i, n) → first.length ≤ copyLimit → o ≤ first.length →
        exec (.fafortDictRead f) s =
          .next (s.framed f 0 (slice first o 1024) (t.modSession fun x => { x with readOf := some (i, n), first := first })))
      ∧ (∀ u : State, o ≠ 0 → t.fw.session.readOf = some (i, n) → copyLimit < first.length → t.read h i n = (0, first, u) →
        o ≤ first.length →
        exec (.fafortDictRead f) s =
          .next (s.framed f 0 (slice first o 1024) (u.modSession fun x => { x with readOf := some (i, n), first := first }))))
    ∧ (s.sessionTakes 0x11 f h t → 4 ≤ f.payload.length →
      let i := numAt f.payload 0 2
      let n := numAt f.payload 2 1
      let buf := (if t.fw.session.writeSel = some (i, n) then t.fw.session.writeBuf else []) ++ f.payload.drop 4
      (bit (numAt f.payload 3 1) 0 = false → exec (.fafortDictWrite f) s =
        .next (s.framed f 0 [] (t.modSession fun x => { x with writeSel := some (i, n), writeBuf := buf })))
      ∧ (∀ (code : Nat) (u : State), bit (numAt f.payload 3 1) 0 = true →
        (t.modSession fun x => { x with writeSel := none, writeBuf := [] }).write h i n buf = (code, u) →
        exec (.fafortDictWrite f) s = .next (
          if code ≠ 0 then s.framed f 8 (le 4 code) u else s.framed f (if i = 0x1010 then 1 else 0) [] u)))
    ∧ (s.sessionTakes 0x20 f h t → f.payload.length = 512 → t.fw.trialSlot = none →
      let i := otherSlot t.fw.active
      let u := (t.modSlot i fun x => { x with st := .writing, factory := false, header := f.payload, body := [], trialBegun := false }).modSession
        fun x => { x with transfer := true, nextOffset := 0, lastChunk := none, cipher := [] }
      exec (.imageBegin f) s = .next (
        if t.fw.headerStatus f.payload ≠ 0 then s.framed f (t.fw.headerStatus f.payload) [] t
        else if t.fw.contentKey f.payload = none then s.framed f 7 [] t
        else s.framed f 0 (byte i) (u.event (srcManage 22) 0xC010 i (slotRelease i f.payload))))
    ∧ (s.sessionTakes 0x21 f h t → 5 ≤ f.payload.length → f.payload.length ≤ 1024 → t.fw.session.transfer = true →
      let o := t.fw.session.nextOffset
      let chunk := f.payload.drop 4
      let full := numAt t.fw.slots[otherSlot t.fw.active].header 16 4
      numAt f.payload 0 4 = o → t.fw.session.lastChunk ≠ some (o, chunk.length) → o + chunk.length ≤ full →
      chunk.length % 4 = 0 ∨ o + chunk.length = full →
      exec (.imageData f) s = .next (s.framed f 0 (le 4 (o + chunk.length)) (t.modSession fun x =>
        { x with cipher := x.cipher ++ chunk, nextOffset := o + chunk.length, lastChunk := some (o, chunk.length) })))
    ∧ (s.sessionTakes 0x22 f h t → f.payload = [] →
      let i := otherSlot t.fw.active
      let header := t.fw.slots[i].header
      t.fw.session.transfer = true → numAt header 16 4 ≤ t.fw.session.nextOffset →
      let key := (t.fw.contentKey header).getD []
      let body := Config.gcmDecrypt key (slice header 80 12) (slice header 0 256) t.fw.session.cipher
      let u := t.modSession fun x => { x with transfer := false, cipher := [] }
      exec (.imageEnd f) s = .next (
        if Config.gcmTag key (slice header 80 12) (slice header 0 256) t.fw.session.cipher = slice header 256 16
            ∧ Config.sha256 body = slice header 92 32 then
          s.framed f 0 (slotRelease i header) (((u.modSlot i fun x =>
            { x with st := .valid, body := body }).modFw fun w => { w with lastUpdate := 0 }).event (srcManage 22) 0xC011 i (slotRelease i header))
        else
          s.framed f 6 [] (((u.modSlot i fun x => { x with st := .failed }).modFw fun w =>
            { w with lastUpdate := 6 }).event (srcManage 22) 0xC012 i (slotRelease i header ++ byte 6))))
    ∧ (s.sessionTakes 0x30 f h t → f.payload.length = 44 →
      let slot := numAt f.payload 0 1
      keySlotOk slot = true → (∀ k ∈ t.fw.keys, k.slot = slot → k.locked = false) →
      exec (.keyWrite f) s = .next ((Config.keyUnwrap t.fw.session.wrapKey (f.payload.drop 4)).elim
        (s.framed f 7 [] (t.event (srcManage 24) 0xC031 0xFF (byte slot ++ byte 7)))
        fun key => s.framed f 0 (slice (Config.sha256 key) 0 4) ((t.modFw fun w =>
          { w with keys := w.keys.filter (fun k => decide (k.slot ≠ slot))
            ++ [{ slot := slot, key := key, locked := bit (numAt f.payload 1 1) 0 }] }).event (srcManage 24) 0xC030 0xFF (byte slot))))

/-- Activation, trial and fallback (R364, R365, R366): ACTIVATE places a TENDING request as a VND host would (R29), the activation at a boundary in TENDING marks
the trial and restarts MANAGE, a cancelled one withdraws its request, a confirmed trial raises SEC_VERSION, and a fallback restarts the
old image. -/
def Obligations.ActivationCommands : Prop :=
  (∀ (s t : State) (f : Sys2Proof.Fafort) (h : HostNo), s.sessionTakes 0x23 f h t → f.payload = [] →
    let i := otherSlot t.fw.active
    t.fw.slots[i].st = .valid → t.fw.secVersion ≤ numAt t.fw.slots[i].header 12 4 → t.fw.trialSlot = none →
    let u := t.event (srcManage 22) 0xC020 i (byte i)
    (u.phase ≠ .recovery → exec (.activate f) s = .next (s.framed f 0 (byte i) ((u.placeRequest h 5 3).modFw fun w =>
      { w with activating := some i, activateUs := u.clk.timeUs })))
    ∧ (u.phase = .recovery → exec (.activate f) s = .next (s.framed f 0 (byte i) (u.markTrial i))))
  ∧ (∀ (s : State) (i : FwSlot), s.fw.activating = some i → s.inModes [.tending] = true → s.modes.safe = false →
    s.manage = .running → s.fw.slots[i].st = .valid →
    let t := ((s.markTrial i).modFw fun w => { w with tendingHeld := some s.modes.orderCount }).modModes fun m =>
      { m with orderCount := s.modes.orderCount + 1 }
    exec .activation s = .next (State.errReset s (t.heartbeats.warmReset 2)))
  ∧ (∀ (s : State) (i : FwSlot), s.fw.activating = some i → s.fw.activateUs + 60000000 ≤ s.clk.timeUs → s.manage = .running →
    let t := s.modFw fun w => { w with activating := none }
    (∀ h, t.ctxOf serviceKey = some h → exec .activateCancelled s = .next (((t.modHost h fun x =>
      { x with request := if x.request = 3 then 0 else x.request }).chooseRequest).event (srcManage 0) 0xC024 i (byte i)))
    ∧ (t.ctxOf serviceKey = none → exec .activateCancelled s = .next (t.event (srcManage 0) 0xC024 i (byte i))))
  ∧ (∀ (s : State) (i : FwSlot), s.fw.trial = some i → s.manage = .running → s.confirmable i = true →
    let t := ((s.modSlot i fun x => { x with st := .confirmed }).modSlot (otherSlot i) fun x => { x with st := .valid }).modFw fun w =>
      { w with trial := none, trialLeftMs := 0, secVersion := max w.secVersion (numAt s.fw.slots[i].header 12 4), rollbackDue := false }
    exec .trialConfirm s = .next (t.withdrawTending.event (srcManage 0) 0xC022 i (byte i)))
  ∧ (∀ (s : State) (i : FwSlot), s.fw.trial = some i → s.manage = .running → s.fw.rollbackDue = true ∨ s.fw.trialLeftMs = 0 →
    exec .fallback s = .next (State.errReset s ((s.failTrial (if s.fw.rollbackDue then 2 else 1) i).warmReset 4)))

/-- Every step keeps the invariant: the dictionary's stores stay in canonical form, and the recorder's ring, log, queue and last-gasp slots
within their memories. -/
def Obligations.StepKeepsInv : Prop :=
  ∀ s t : State, s.Inv → step s = .next t → t.Inv

/-- Every command completes in every state, and none touches the queue of commands (log 20: the model's commands neither fault nor refuse). -/
def Obligations.CommandsComplete : Prop :=
  ∀ (c : Instr) (s : State), ∃ t, exec c s = .next t ∧ t.pending = s.pending

/-- No command lowers SEC_VERSION (R365, R366), and none changes or removes a locked key (R369). -/
def Obligations.GuardsKept : Prop :=
  ∀ (c : Instr) (s t : State), exec c s = .next t → s.fw.secVersion ≤ t.fw.secVersion ∧ ∀ k ∈ s.fw.keys, k.locked = true → k ∈ t.fw.keys

/-- Only reset, boot, wake, restart, the tick, PFI, and what can find a start condition in DORMANT change the boot phase or the mode. -/
def Obligations.ModeFrame : Prop :=
  ∀ (c : Instr) (s t : State), ModeMover c = false → exec c s = .next t → t.phase = s.phase ∧ t.modes.mode = s.modes.mode

/-- The rows of the channels, the cores, the interrupt controller, the scrubber and the recorder that are no access to the dictionary leave
the whole controlled plant as it was. -/
def Obligations.PlantFrame : Prop :=
  ∀ (c : Instr) (s t : State), leavesPlant c = true → exec c s = .next t → s.samePlant t

/-- A row about one FEEDER or ORING cell changes that cell alone among the cells, and no loop, group, string, rail, lane or mode. -/
def Obligations.CellFrame : Prop :=
  ∀ (i : Instr) (c : CellNo) (s t : State), cellOnly i = some c → exec i s = .next t → s.onlyCell c t

/-- A host's request on a channel that does not answer is lost: nothing changes and nothing is replied. -/
def Obligations.UnservedLost : Prop :=
  ∀ (c : Instr) (s : State) (who : Key), requester c = some who → s.channelUp who = false → exec c s = .next s

/-- A write that the judgement of R304 refuses is answered with its abort code and has no effect beyond the contact: 0x06020000 for an entry
that does not exist, 0x06010002 for a class below the write class, and for a slot host anything but its own slot's CLEAR and a grant
request (R175), 0x08000021 for one the lock bars, 0x06070010 for a wrong length, the value's own code, and 0x08000022 (log 38) for a role
or pin mode written outside TENDING or to a cell that is not a maintained DRAINED one. -/
def Obligations.WriteRefusals : Prop :=
  ∀ (s t : State) (who : Key) (h : HostNo) (index sub : Nat) (data : Bytes), s.serves who h → t = s.touch h →
    ¬(index = 0x2104 ∧ sub = 1) →
    let refused := fun code : Nat => exec (.dictWrite who index sub data) s = .next (State.errReset s (t.answer code [] 0))
    (entryOf index sub = none → refused 0x06020000)
    ∧ (∀ e, entryOf index sub = some e →
      (e.wr = none → refused 0x06010002)
      ∧ (∀ w, e.wr = some w → t.hosts[h].cls ≠ .slt → t.hosts[h].cls.atLeast w = false → refused 0x06010002)
      ∧ (t.hosts[h].cls = .slt → ¬(index = 0x2220 ∧ sub = 1) →
        (∀ c : CellNo, t.hosts[h].ownSink = some (cellSink c) → ¬(index = 0x3000 + c ∧ sub = 0x38)) → refused 0x06010002)
      ∧ (t.mayWrite h index sub e = true → t.lockBars h e = true → refused 0x08000021)
      ∧ (t.mayWrite h index sub e = true → t.lockBars h e = false → ∀ n, e.ty.size = some n →
        (data.length ≠ n → refused 0x06070010)
        ∧ (data.length = n → checkValue e (e.ty.decode data) ≠ 0 → refused (checkValue e (e.ty.decode data)))
        ∧ (∀ c : CellNo, index = 0x3000 + c → sub = 1 ∨ sub = 2 → data.length = n → checkValue e (e.ty.decode data) = 0 →
          ¬(t.cells[c].maintained = true ∧ t.cells[c].st = .drained ∧ t.inModes [.tending] = true) → refused 0x08000022)))

/-- While the global safe state is in force the arbiter makes no transition; PFI still commits a last-gasp record and does not change the
mode. -/
def Obligations.SafeStateNoTransition : Prop :=
  (∀ s : State, s.modes.safe = true → s.arbitrate.modes.mode = s.modes.mode)
  ∧ (∀ (s : State) (m : Mode), s.modes.safe = true → s.modes.mode = some m → m ≠ .dormant → s.seq.recordMode = false →
    ∃ t : State, exec .pfiAssert s = .next t ∧ t.modes.mode = s.modes.mode ∧ t.seq.gaspPending.isSome = true ∧ t.seq.recordMode = true)

/-- DRAIN_TIMEOUT: a draining cell whose removal of power began that long ago is DRAINED with result 0x10, its outputs low, and event 0x1020
is recorded; every other cell stands as it was. Before that time nothing happens. -/
def Obligations.DrainTimeoutRule : Prop :=
  ∀ (s : State) (c : CellNo), s.cells[c].st = .draining → s.removing c = true → s.cell c 0x10 ≠ 0 →
    (s.clk.timeUs < s.cells[c].removalUs + s.cell c 0x10 * 1000 → exec (.drainTimeout c) s = .next s)
    ∧ (s.cells[c].removalUs + s.cell c 0x10 * 1000 ≤ s.clk.timeUs → ∃ t : State, exec (.drainTimeout c) s = .next (t.event (srcCell c) 0x1020 c [])
      ∧ t.cells[c].st = .drained ∧ t.cells[c].maintResult = 0x10
      ∧ t.cells[c].pwa = .low ∧ t.cells[c].pwb = .low ∧ t.cells[c].onSteps = 0 ∧ t.cells[c].nextSteps = 0
      ∧ (∀ d : CellNo, d ≠ c → t.cells[d] = s.cells[d])
      ∧ t.groups = s.groups ∧ t.strings = s.strings ∧ t.seq = s.seq ∧ t.ledger = s.ledger ∧ t.dict = s.dict ∧ t.modes = s.modes)

/-- The vending voltages of a group form an agreement set, which agrees exactly when DISCH_SAFE_V ≤ SIG_CEIL_V < QUAL_OFF_V < QUAL_ON_V; while
it disagrees it is pending, and its adoption point leaves the state, and with it the last set that agreed, as it is. -/
def Obligations.VendingSet : Prop :=
  ∀ (s : State) (g : GroupNo),
    let i : SetId := ⟨5, g, 0xFF⟩
    let w := fun sub : Nat => s.writ (0x3200 + g) sub
    (s.setAgrees i = true ↔ w 0xF ≤ w 9 ∧ w 9 < w 0xB ∧ w 0xB < w 0xA)
    ∧ (∀ sub ∈ [0xF, 9, 0xB, 0xA], s.setsOf (0x3200 + g) sub = [i])
    ∧ (s.setAgrees i = false → (s.testSet i).isPending i = true ∧ ∀ t : State, t.isPending i = true → t.adoptSet i = t)

/-- A pending source whose PRIO is written 0 stays pending; at PRIO 0, and until PRIO is above the threshold of its target, no core is
offered it and no CLAIM returns it; and its events are still counted. -/
def Obligations.PriorityZero : Prop :=
  (∀ (s : State) (c : CoreNo) (n : SharedNo) (w : BitVec 32), s.sharedPage c = true → s.srcs[n].pending = true → w.toNat % 16 = 0 →
    ∃ t : State, exec (.prioWrite c (.shared n) w) s = .next t ∧ t.srcs[n].pending = true ∧ t.srcs[n].prio = 0 ∧ t.srcs[n].events = s.srcs[n].events)
  ∧ (∀ (s : State) (c : CoreNo) (n : SharedNo), s.srcs[n].prio = 0 ∨ s.srcs[n].prio ≤ s.cores[c].threshold →
    s.sharedReady c n = false ∧ s.topSource c ≠ some (.shared n))
  ∧ (∀ (s : State) (n : SharedNo), s.manage = .running → s.phase ≠ .held → (n : Nat) < 100 → s.srcs[n].claimedBy = none →
    ∃ t : State, exec (.icuSourceEvent (.shared n)) s = .next t ∧ t.srcs[n].events = s.srcs[n].events + 1 ∧ t.srcs[n].pending = true)

/-- The ring: its padded records stay within 262 144 bytes; a new record, where its number may be given, is the newest, and only the oldest
leave; a warm reset keeps its records (one that ends a Fafort session adds that event) and a cold reset leaves none. -/
def Obligations.RecorderRing : Prop :=
  (∀ (s : State) (r : Rec), s.recorder.bounded → totalBy (fun r => padTo 4 r.size) (s.writeRec r).recorder.ring ≤ 262144)
  ∧ (∀ (s : State) (r : Rec), s.recorder.nextSeq ≠ s.recorder.limit →
    ∃ n, (s.writeRec r).recorder.ring.map (fun r => (r.seq, r.code, r.payload)) =
      ((s.recorder.ring.map fun r => (r.seq, r.code, r.payload)) ++ [(s.recorder.nextSeq, r.code, r.payload)]).drop n)
  ∧ (∀ (s : State) (cause : Nat), s.ctxOf serviceKey = none →
      (s.warmReset cause).recorder.ring.map (fun r => (r.seq, r.code, r.payload)) = s.recorder.ring.map fun r => (r.seq, r.code, r.payload))
  ∧ (∀ (s : State) (cause : ColdCause) (f : BitVec 6), ∃ t : State, exec (.coldReset cause f) s = .next t ∧ t.recorder.ring = [])

/-- The dictionary's stores: an entry reads as the value last stored in it, every other entry reads as before, and the canonical form is kept. -/
def Obligations.DictionaryStore : Prop :=
  ∀ (d : Dict) (index sub : Nat) (v : Int), Dict.wf d → sub < 256 →
    Dict.value (Dict.store d index sub v) index sub = v
    ∧ (∀ i n : Nat, n < 256 → (i, n) ≠ (index, sub) → Dict.value (Dict.store d index sub v) i n = Dict.value d i n)
    ∧ Dict.wf (Dict.store d index sub v)
end

