-- ==== Sys2Proof/Laws/State.lean ====
section
/-! SUPPORT. Laws/State.lean: what each named writer of Machine/Ops.lean leaves and makes of every field of the state. -/

namespace Sys2Proof.Machine

/-! modCell. -/
@[simp] theorem State.modCell_pending (s : State) (c : CellNo) (f : Cell → Cell) : (s.modCell c f).pending = s.pending := rfl
@[simp] theorem State.modCell_freeCount (s : State) (c : CellNo) (f : Cell → Cell) : (s.modCell c f).freeCount = s.freeCount := rfl
@[simp] theorem State.modCell_reply (s : State) (c : CellNo) (f : Cell → Cell) : (s.modCell c f).reply = s.reply := rfl
@[simp] theorem State.modCell_sent (s : State) (c : CellNo) (f : Cell → Cell) : (s.modCell c f).sent = s.sent := rfl
@[simp] theorem State.modCell_phase (s : State) (c : CellNo) (f : Cell → Cell) : (s.modCell c f).phase = s.phase := rfl
@[simp] theorem State.modCell_manage (s : State) (c : CellNo) (f : Cell → Cell) : (s.modCell c f).manage = s.manage := rfl
@[simp] theorem State.modCell_clk (s : State) (c : CellNo) (f : Cell → Cell) : (s.modCell c f).clk = s.clk := rfl
@[simp] theorem State.modCell_pins (s : State) (c : CellNo) (f : Cell → Cell) : (s.modCell c f).pins = s.pins := rfl
@[simp] theorem State.modCell_syncPins (s : State) (c : CellNo) (f : Cell → Cell) : (s.modCell c f).syncPins = s.syncPins := rfl
@[simp] theorem State.modCell_modes (s : State) (c : CellNo) (f : Cell → Cell) : (s.modCell c f).modes = s.modes := rfl
@[simp] theorem State.modCell_own (s : State) (c : CellNo) (f : Cell → Cell) : (s.modCell c f).own = s.own := rfl
@[simp] theorem State.modCell_loops (s : State) (c : CellNo) (f : Cell → Cell) : (s.modCell c f).loops = s.loops := rfl
@[simp] theorem State.modCell_traces (s : State) (c : CellNo) (f : Cell → Cell) : (s.modCell c f).traces = s.traces := rfl
@[simp] theorem State.modCell_groups (s : State) (c : CellNo) (f : Cell → Cell) : (s.modCell c f).groups = s.groups := rfl
@[simp] theorem State.modCell_bus (s : State) (c : CellNo) (f : Cell → Cell) : (s.modCell c f).bus = s.bus := rfl
@[simp] theorem State.modCell_alloc (s : State) (c : CellNo) (f : Cell → Cell) : (s.modCell c f).alloc = s.alloc := rfl
@[simp] theorem State.modCell_allocNext (s : State) (c : CellNo) (f : Cell → Cell) : (s.modCell c f).allocNext = s.allocNext := rfl
@[simp] theorem State.modCell_solveCount (s : State) (c : CellNo) (f : Cell → Cell) : (s.modCell c f).solveCount = s.solveCount := rfl
@[simp] theorem State.modCell_idGroup (s : State) (c : CellNo) (f : Cell → Cell) : (s.modCell c f).idGroup = s.idGroup := rfl
@[simp] theorem State.modCell_idAt (s : State) (c : CellNo) (f : Cell → Cell) : (s.modCell c f).idAt = s.idAt := rfl
@[simp] theorem State.modCell_idCycleUs (s : State) (c : CellNo) (f : Cell → Cell) : (s.modCell c f).idCycleUs = s.idCycleUs := rfl
@[simp] theorem State.modCell_refHalf (s : State) (c : CellNo) (f : Cell → Cell) : (s.modCell c f).refHalf = s.refHalf := rfl
@[simp] theorem State.modCell_monitors (s : State) (c : CellNo) (f : Cell → Cell) : (s.modCell c f).monitors = s.monitors := rfl
@[simp] theorem State.modCell_ledger (s : State) (c : CellNo) (f : Cell → Cell) : (s.modCell c f).ledger = s.ledger := rfl
@[simp] theorem State.modCell_strings (s : State) (c : CellNo) (f : Cell → Cell) : (s.modCell c f).strings = s.strings := rfl
@[simp] theorem State.modCell_packs (s : State) (c : CellNo) (f : Cell → Cell) : (s.modCell c f).packs = s.packs := rfl
@[simp] theorem State.modCell_seq (s : State) (c : CellNo) (f : Cell → Cell) : (s.modCell c f).seq = s.seq := rfl
@[simp] theorem State.modCell_thermal (s : State) (c : CellNo) (f : Cell → Cell) : (s.modCell c f).thermal = s.thermal := rfl
@[simp] theorem State.modCell_lanes (s : State) (c : CellNo) (f : Cell → Cell) : (s.modCell c f).lanes = s.lanes := rfl
@[simp] theorem State.modCell_can (s : State) (c : CellNo) (f : Cell → Cell) : (s.modCell c f).can = s.can := rfl
@[simp] theorem State.modCell_hosts (s : State) (c : CellNo) (f : Cell → Cell) : (s.modCell c f).hosts = s.hosts := rfl
@[simp] theorem State.modCell_hostsRefused (s : State) (c : CellNo) (f : Cell → Cell) : (s.modCell c f).hostsRefused = s.hostsRefused := rfl
@[simp] theorem State.modCell_lockOwner (s : State) (c : CellNo) (f : Cell → Cell) : (s.modCell c f).lockOwner = s.lockOwner := rfl
@[simp] theorem State.modCell_lockMs (s : State) (c : CellNo) (f : Cell → Cell) : (s.modCell c f).lockMs = s.lockMs := rfl
@[simp] theorem State.modCell_wallOffsetMs (s : State) (c : CellNo) (f : Cell → Cell) : (s.modCell c f).wallOffsetMs = s.wallOffsetMs := rfl
@[simp] theorem State.modCell_tpdoLast (s : State) (c : CellNo) (f : Cell → Cell) : (s.modCell c f).tpdoLast = s.tpdoLast := rfl
@[simp] theorem State.modCell_tpdoInhibit (s : State) (c : CellNo) (f : Cell → Cell) : (s.modCell c f).tpdoInhibit = s.tpdoInhibit := rfl
@[simp] theorem State.modCell_tpdoDue (s : State) (c : CellNo) (f : Cell → Cell) : (s.modCell c f).tpdoDue = s.tpdoDue := rfl
@[simp] theorem State.modCell_tpdoUs (s : State) (c : CellNo) (f : Cell → Cell) : (s.modCell c f).tpdoUs = s.tpdoUs := rfl
@[simp] theorem State.modCell_checkUs (s : State) (c : CellNo) (f : Cell → Cell) : (s.modCell c f).checkUs = s.checkUs := rfl
@[simp] theorem State.modCell_tpdoSync (s : State) (c : CellNo) (f : Cell → Cell) : (s.modCell c f).tpdoSync = s.tpdoSync := rfl
@[simp] theorem State.modCell_rpdoSecond (s : State) (c : CellNo) (f : Cell → Cell) : (s.modCell c f).rpdoSecond = s.rpdoSecond := rfl
@[simp] theorem State.modCell_dap (s : State) (c : CellNo) (f : Cell → Cell) : (s.modCell c f).dap = s.dap := rfl
@[simp] theorem State.modCell_dict (s : State) (c : CellNo) (f : Cell → Cell) : (s.modCell c f).dict = s.dict := rfl
@[simp] theorem State.modCell_tw (s : State) (c : CellNo) (f : Cell → Cell) : (s.modCell c f).tw = s.tw := rfl
@[simp] theorem State.modCell_regs (s : State) (c : CellNo) (f : Cell → Cell) : (s.modCell c f).regs = s.regs := rfl
@[simp] theorem State.modCell_cores (s : State) (c : CellNo) (f : Cell → Cell) : (s.modCell c f).cores = s.cores := rfl
@[simp] theorem State.modCell_srcs (s : State) (c : CellNo) (f : Cell → Cell) : (s.modCell c f).srcs = s.srcs := rfl
@[simp] theorem State.modCell_scrubOrder (s : State) (c : CellNo) (f : Cell → Cell) : (s.modCell c f).scrubOrder = s.scrubOrder := rfl
@[simp] theorem State.modCell_badBanks (s : State) (c : CellNo) (f : Cell → Cell) : (s.modCell c f).badBanks = s.badBanks := rfl
@[simp] theorem State.modCell_recorder (s : State) (c : CellNo) (f : Cell → Cell) : (s.modCell c f).recorder = s.recorder := rfl
@[simp] theorem State.modCell_fw (s : State) (c : CellNo) (f : Cell → Cell) : (s.modCell c f).fw = s.fw := rfl
@[simp] theorem State.modCell_heldBlocks (s : State) (c : CellNo) (f : Cell → Cell) : (s.modCell c f).heldBlocks = s.heldBlocks := rfl
@[simp] theorem State.modCell_heldOther (s : State) (c : CellNo) (f : Cell → Cell) : (s.modCell c f).heldOther = s.heldOther := rfl
@[simp] theorem State.modCell_self (s : State) (c : CellNo) (f : Cell → Cell) : (s.modCell c f).cells[(c : Nat)] = f s.cells[(c : Nat)] := by simp [State.modCell]
theorem State.modCell_ne (s : State) (c : CellNo) (f : Cell → Cell) {j : CellNo} (hj : j ≠ c) : (s.modCell c f).cells[(j : Nat)] = s.cells[(j : Nat)] := by
  have hj : (c : Nat) ≠ j := fun e => hj (Fin.ext e.symm)
  simp [State.modCell, Vector.getElem_set_ne, hj]

/-! modFeeder. -/
@[simp] theorem State.modFeeder_pending (s : State) (c : CellNo) (f : Feeder → Feeder) : (s.modFeeder c f).pending = s.pending := rfl
@[simp] theorem State.modFeeder_freeCount (s : State) (c : CellNo) (f : Feeder → Feeder) : (s.modFeeder c f).freeCount = s.freeCount := rfl
@[simp] theorem State.modFeeder_reply (s : State) (c : CellNo) (f : Feeder → Feeder) : (s.modFeeder c f).reply = s.reply := rfl
@[simp] theorem State.modFeeder_sent (s : State) (c : CellNo) (f : Feeder → Feeder) : (s.modFeeder c f).sent = s.sent := rfl
@[simp] theorem State.modFeeder_phase (s : State) (c : CellNo) (f : Feeder → Feeder) : (s.modFeeder c f).phase = s.phase := rfl
@[simp] theorem State.modFeeder_manage (s : State) (c : CellNo) (f : Feeder → Feeder) : (s.modFeeder c f).manage = s.manage := rfl
@[simp] theorem State.modFeeder_clk (s : State) (c : CellNo) (f : Feeder → Feeder) : (s.modFeeder c f).clk = s.clk := rfl
@[simp] theorem State.modFeeder_pins (s : State) (c : CellNo) (f : Feeder → Feeder) : (s.modFeeder c f).pins = s.pins := rfl
@[simp] theorem State.modFeeder_syncPins (s : State) (c : CellNo) (f : Feeder → Feeder) : (s.modFeeder c f).syncPins = s.syncPins := rfl
@[simp] theorem State.modFeeder_modes (s : State) (c : CellNo) (f : Feeder → Feeder) : (s.modFeeder c f).modes = s.modes := rfl
@[simp] theorem State.modFeeder_own (s : State) (c : CellNo) (f : Feeder → Feeder) : (s.modFeeder c f).own = s.own := rfl
@[simp] theorem State.modFeeder_loops (s : State) (c : CellNo) (f : Feeder → Feeder) : (s.modFeeder c f).loops = s.loops := rfl
@[simp] theorem State.modFeeder_traces (s : State) (c : CellNo) (f : Feeder → Feeder) : (s.modFeeder c f).traces = s.traces := rfl
@[simp] theorem State.modFeeder_groups (s : State) (c : CellNo) (f : Feeder → Feeder) : (s.modFeeder c f).groups = s.groups := rfl
@[simp] theorem State.modFeeder_bus (s : State) (c : CellNo) (f : Feeder → Feeder) : (s.modFeeder c f).bus = s.bus := rfl
@[simp] theorem State.modFeeder_alloc (s : State) (c : CellNo) (f : Feeder → Feeder) : (s.modFeeder c f).alloc = s.alloc := rfl
@[simp] theorem State.modFeeder_allocNext (s : State) (c : CellNo) (f : Feeder → Feeder) : (s.modFeeder c f).allocNext = s.allocNext := rfl
@[simp] theorem State.modFeeder_solveCount (s : State) (c : CellNo) (f : Feeder → Feeder) : (s.modFeeder c f).solveCount = s.solveCount := rfl
@[simp] theorem State.modFeeder_idGroup (s : State) (c : CellNo) (f : Feeder → Feeder) : (s.modFeeder c f).idGroup = s.idGroup := rfl
@[simp] theorem State.modFeeder_idAt (s : State) (c : CellNo) (f : Feeder → Feeder) : (s.modFeeder c f).idAt = s.idAt := rfl
@[simp] theorem State.modFeeder_idCycleUs (s : State) (c : CellNo) (f : Feeder → Feeder) : (s.modFeeder c f).idCycleUs = s.idCycleUs := rfl
@[simp] theorem State.modFeeder_refHalf (s : State) (c : CellNo) (f : Feeder → Feeder) : (s.modFeeder c f).refHalf = s.refHalf := rfl
@[simp] theorem State.modFeeder_monitors (s : State) (c : CellNo) (f : Feeder → Feeder) : (s.modFeeder c f).monitors = s.monitors := rfl
@[simp] theorem State.modFeeder_ledger (s : State) (c : CellNo) (f : Feeder → Feeder) : (s.modFeeder c f).ledger = s.ledger := rfl
@[simp] theorem State.modFeeder_strings (s : State) (c : CellNo) (f : Feeder → Feeder) : (s.modFeeder c f).strings = s.strings := rfl
@[simp] theorem State.modFeeder_packs (s : State) (c : CellNo) (f : Feeder → Feeder) : (s.modFeeder c f).packs = s.packs := rfl
@[simp] theorem State.modFeeder_seq (s : State) (c : CellNo) (f : Feeder → Feeder) : (s.modFeeder c f).seq = s.seq := rfl
@[simp] theorem State.modFeeder_thermal (s : State) (c : CellNo) (f : Feeder → Feeder) : (s.modFeeder c f).thermal = s.thermal := rfl
@[simp] theorem State.modFeeder_lanes (s : State) (c : CellNo) (f : Feeder → Feeder) : (s.modFeeder c f).lanes = s.lanes := rfl
@[simp] theorem State.modFeeder_can (s : State) (c : CellNo) (f : Feeder → Feeder) : (s.modFeeder c f).can = s.can := rfl
@[simp] theorem State.modFeeder_hosts (s : State) (c : CellNo) (f : Feeder → Feeder) : (s.modFeeder c f).hosts = s.hosts := rfl
@[simp] theorem State.modFeeder_hostsRefused (s : State) (c : CellNo) (f : Feeder → Feeder) : (s.modFeeder c f).hostsRefused = s.hostsRefused := rfl
@[simp] theorem State.modFeeder_lockOwner (s : State) (c : CellNo) (f : Feeder → Feeder) : (s.modFeeder c f).lockOwner = s.lockOwner := rfl
@[simp] theorem State.modFeeder_lockMs (s : State) (c : CellNo) (f : Feeder → Feeder) : (s.modFeeder c f).lockMs = s.lockMs := rfl
@[simp] theorem State.modFeeder_wallOffsetMs (s : State) (c : CellNo) (f : Feeder → Feeder) : (s.modFeeder c f).wallOffsetMs = s.wallOffsetMs := rfl
@[simp] theorem State.modFeeder_tpdoLast (s : State) (c : CellNo) (f : Feeder → Feeder) : (s.modFeeder c f).tpdoLast = s.tpdoLast := rfl
@[simp] theorem State.modFeeder_tpdoInhibit (s : State) (c : CellNo) (f : Feeder → Feeder) : (s.modFeeder c f).tpdoInhibit = s.tpdoInhibit := rfl
@[simp] theorem State.modFeeder_tpdoDue (s : State) (c : CellNo) (f : Feeder → Feeder) : (s.modFeeder c f).tpdoDue = s.tpdoDue := rfl
@[simp] theorem State.modFeeder_tpdoUs (s : State) (c : CellNo) (f : Feeder → Feeder) : (s.modFeeder c f).tpdoUs = s.tpdoUs := rfl
@[simp] theorem State.modFeeder_checkUs (s : State) (c : CellNo) (f : Feeder → Feeder) : (s.modFeeder c f).checkUs = s.checkUs := rfl
@[simp] theorem State.modFeeder_tpdoSync (s : State) (c : CellNo) (f : Feeder → Feeder) : (s.modFeeder c f).tpdoSync = s.tpdoSync := rfl
@[simp] theorem State.modFeeder_rpdoSecond (s : State) (c : CellNo) (f : Feeder → Feeder) : (s.modFeeder c f).rpdoSecond = s.rpdoSecond := rfl
@[simp] theorem State.modFeeder_dap (s : State) (c : CellNo) (f : Feeder → Feeder) : (s.modFeeder c f).dap = s.dap := rfl
@[simp] theorem State.modFeeder_dict (s : State) (c : CellNo) (f : Feeder → Feeder) : (s.modFeeder c f).dict = s.dict := rfl
@[simp] theorem State.modFeeder_tw (s : State) (c : CellNo) (f : Feeder → Feeder) : (s.modFeeder c f).tw = s.tw := rfl
@[simp] theorem State.modFeeder_regs (s : State) (c : CellNo) (f : Feeder → Feeder) : (s.modFeeder c f).regs = s.regs := rfl
@[simp] theorem State.modFeeder_cores (s : State) (c : CellNo) (f : Feeder → Feeder) : (s.modFeeder c f).cores = s.cores := rfl
@[simp] theorem State.modFeeder_srcs (s : State) (c : CellNo) (f : Feeder → Feeder) : (s.modFeeder c f).srcs = s.srcs := rfl
@[simp] theorem State.modFeeder_scrubOrder (s : State) (c : CellNo) (f : Feeder → Feeder) : (s.modFeeder c f).scrubOrder = s.scrubOrder := rfl
@[simp] theorem State.modFeeder_badBanks (s : State) (c : CellNo) (f : Feeder → Feeder) : (s.modFeeder c f).badBanks = s.badBanks := rfl
@[simp] theorem State.modFeeder_recorder (s : State) (c : CellNo) (f : Feeder → Feeder) : (s.modFeeder c f).recorder = s.recorder := rfl
@[simp] theorem State.modFeeder_fw (s : State) (c : CellNo) (f : Feeder → Feeder) : (s.modFeeder c f).fw = s.fw := rfl
@[simp] theorem State.modFeeder_heldBlocks (s : State) (c : CellNo) (f : Feeder → Feeder) : (s.modFeeder c f).heldBlocks = s.heldBlocks := rfl
@[simp] theorem State.modFeeder_heldOther (s : State) (c : CellNo) (f : Feeder → Feeder) : (s.modFeeder c f).heldOther = s.heldOther := rfl

/-! modOring. -/
@[simp] theorem State.modOring_pending (s : State) (c : CellNo) (f : Oring → Oring) : (s.modOring c f).pending = s.pending := rfl
@[simp] theorem State.modOring_freeCount (s : State) (c : CellNo) (f : Oring → Oring) : (s.modOring c f).freeCount = s.freeCount := rfl
@[simp] theorem State.modOring_reply (s : State) (c : CellNo) (f : Oring → Oring) : (s.modOring c f).reply = s.reply := rfl
@[simp] theorem State.modOring_sent (s : State) (c : CellNo) (f : Oring → Oring) : (s.modOring c f).sent = s.sent := rfl
@[simp] theorem State.modOring_phase (s : State) (c : CellNo) (f : Oring → Oring) : (s.modOring c f).phase = s.phase := rfl
@[simp] theorem State.modOring_manage (s : State) (c : CellNo) (f : Oring → Oring) : (s.modOring c f).manage = s.manage := rfl
@[simp] theorem State.modOring_clk (s : State) (c : CellNo) (f : Oring → Oring) : (s.modOring c f).clk = s.clk := rfl
@[simp] theorem State.modOring_pins (s : State) (c : CellNo) (f : Oring → Oring) : (s.modOring c f).pins = s.pins := rfl
@[simp] theorem State.modOring_syncPins (s : State) (c : CellNo) (f : Oring → Oring) : (s.modOring c f).syncPins = s.syncPins := rfl
@[simp] theorem State.modOring_modes (s : State) (c : CellNo) (f : Oring → Oring) : (s.modOring c f).modes = s.modes := rfl
@[simp] theorem State.modOring_own (s : State) (c : CellNo) (f : Oring → Oring) : (s.modOring c f).own = s.own := rfl
@[simp] theorem State.modOring_loops (s : State) (c : CellNo) (f : Oring → Oring) : (s.modOring c f).loops = s.loops := rfl
@[simp] theorem State.modOring_traces (s : State) (c : CellNo) (f : Oring → Oring) : (s.modOring c f).traces = s.traces := rfl
@[simp] theorem State.modOring_groups (s : State) (c : CellNo) (f : Oring → Oring) : (s.modOring c f).groups = s.groups := rfl
@[simp] theorem State.modOring_bus (s : State) (c : CellNo) (f : Oring → Oring) : (s.modOring c f).bus = s.bus := rfl
@[simp] theorem State.modOring_alloc (s : State) (c : CellNo) (f : Oring → Oring) : (s.modOring c f).alloc = s.alloc := rfl
@[simp] theorem State.modOring_allocNext (s : State) (c : CellNo) (f : Oring → Oring) : (s.modOring c f).allocNext = s.allocNext := rfl
@[simp] theorem State.modOring_solveCount (s : State) (c : CellNo) (f : Oring → Oring) : (s.modOring c f).solveCount = s.solveCount := rfl
@[simp] theorem State.modOring_idGroup (s : State) (c : CellNo) (f : Oring → Oring) : (s.modOring c f).idGroup = s.idGroup := rfl
@[simp] theorem State.modOring_idAt (s : State) (c : CellNo) (f : Oring → Oring) : (s.modOring c f).idAt = s.idAt := rfl
@[simp] theorem State.modOring_idCycleUs (s : State) (c : CellNo) (f : Oring → Oring) : (s.modOring c f).idCycleUs = s.idCycleUs := rfl
@[simp] theorem State.modOring_refHalf (s : State) (c : CellNo) (f : Oring → Oring) : (s.modOring c f).refHalf = s.refHalf := rfl
@[simp] theorem State.modOring_monitors (s : State) (c : CellNo) (f : Oring → Oring) : (s.modOring c f).monitors = s.monitors := rfl
@[simp] theorem State.modOring_ledger (s : State) (c : CellNo) (f : Oring → Oring) : (s.modOring c f).ledger = s.ledger := rfl
@[simp] theorem State.modOring_strings (s : State) (c : CellNo) (f : Oring → Oring) : (s.modOring c f).strings = s.strings := rfl
@[simp] theorem State.modOring_packs (s : State) (c : CellNo) (f : Oring → Oring) : (s.modOring c f).packs = s.packs := rfl
@[simp] theorem State.modOring_seq (s : State) (c : CellNo) (f : Oring → Oring) : (s.modOring c f).seq = s.seq := rfl
@[simp] theorem State.modOring_thermal (s : State) (c : CellNo) (f : Oring → Oring) : (s.modOring c f).thermal = s.thermal := rfl
@[simp] theorem State.modOring_lanes (s : State) (c : CellNo) (f : Oring → Oring) : (s.modOring c f).lanes = s.lanes := rfl
@[simp] theorem State.modOring_can (s : State) (c : CellNo) (f : Oring → Oring) : (s.modOring c f).can = s.can := rfl
@[simp] theorem State.modOring_hosts (s : State) (c : CellNo) (f : Oring → Oring) : (s.modOring c f).hosts = s.hosts := rfl
@[simp] theorem State.modOring_hostsRefused (s : State) (c : CellNo) (f : Oring → Oring) : (s.modOring c f).hostsRefused = s.hostsRefused := rfl
@[simp] theorem State.modOring_lockOwner (s : State) (c : CellNo) (f : Oring → Oring) : (s.modOring c f).lockOwner = s.lockOwner := rfl
@[simp] theorem State.modOring_lockMs (s : State) (c : CellNo) (f : Oring → Oring) : (s.modOring c f).lockMs = s.lockMs := rfl
@[simp] theorem State.modOring_wallOffsetMs (s : State) (c : CellNo) (f : Oring → Oring) : (s.modOring c f).wallOffsetMs = s.wallOffsetMs := rfl
@[simp] theorem State.modOring_tpdoLast (s : State) (c : CellNo) (f : Oring → Oring) : (s.modOring c f).tpdoLast = s.tpdoLast := rfl
@[simp] theorem State.modOring_tpdoInhibit (s : State) (c : CellNo) (f : Oring → Oring) : (s.modOring c f).tpdoInhibit = s.tpdoInhibit := rfl
@[simp] theorem State.modOring_tpdoDue (s : State) (c : CellNo) (f : Oring → Oring) : (s.modOring c f).tpdoDue = s.tpdoDue := rfl
@[simp] theorem State.modOring_tpdoUs (s : State) (c : CellNo) (f : Oring → Oring) : (s.modOring c f).tpdoUs = s.tpdoUs := rfl
@[simp] theorem State.modOring_checkUs (s : State) (c : CellNo) (f : Oring → Oring) : (s.modOring c f).checkUs = s.checkUs := rfl
@[simp] theorem State.modOring_tpdoSync (s : State) (c : CellNo) (f : Oring → Oring) : (s.modOring c f).tpdoSync = s.tpdoSync := rfl
@[simp] theorem State.modOring_rpdoSecond (s : State) (c : CellNo) (f : Oring → Oring) : (s.modOring c f).rpdoSecond = s.rpdoSecond := rfl
@[simp] theorem State.modOring_dap (s : State) (c : CellNo) (f : Oring → Oring) : (s.modOring c f).dap = s.dap := rfl
@[simp] theorem State.modOring_dict (s : State) (c : CellNo) (f : Oring → Oring) : (s.modOring c f).dict = s.dict := rfl
@[simp] theorem State.modOring_tw (s : State) (c : CellNo) (f : Oring → Oring) : (s.modOring c f).tw = s.tw := rfl
@[simp] theorem State.modOring_regs (s : State) (c : CellNo) (f : Oring → Oring) : (s.modOring c f).regs = s.regs := rfl
@[simp] theorem State.modOring_cores (s : State) (c : CellNo) (f : Oring → Oring) : (s.modOring c f).cores = s.cores := rfl
@[simp] theorem State.modOring_srcs (s : State) (c : CellNo) (f : Oring → Oring) : (s.modOring c f).srcs = s.srcs := rfl
@[simp] theorem State.modOring_scrubOrder (s : State) (c : CellNo) (f : Oring → Oring) : (s.modOring c f).scrubOrder = s.scrubOrder := rfl
@[simp] theorem State.modOring_badBanks (s : State) (c : CellNo) (f : Oring → Oring) : (s.modOring c f).badBanks = s.badBanks := rfl
@[simp] theorem State.modOring_recorder (s : State) (c : CellNo) (f : Oring → Oring) : (s.modOring c f).recorder = s.recorder := rfl
@[simp] theorem State.modOring_fw (s : State) (c : CellNo) (f : Oring → Oring) : (s.modOring c f).fw = s.fw := rfl
@[simp] theorem State.modOring_heldBlocks (s : State) (c : CellNo) (f : Oring → Oring) : (s.modOring c f).heldBlocks = s.heldBlocks := rfl
@[simp] theorem State.modOring_heldOther (s : State) (c : CellNo) (f : Oring → Oring) : (s.modOring c f).heldOther = s.heldOther := rfl

/-! modLoop. -/
@[simp] theorem State.modLoop_pending (s : State) (k : LoopNo) (f : Loop → Loop) : (s.modLoop k f).pending = s.pending := rfl
@[simp] theorem State.modLoop_freeCount (s : State) (k : LoopNo) (f : Loop → Loop) : (s.modLoop k f).freeCount = s.freeCount := rfl
@[simp] theorem State.modLoop_reply (s : State) (k : LoopNo) (f : Loop → Loop) : (s.modLoop k f).reply = s.reply := rfl
@[simp] theorem State.modLoop_sent (s : State) (k : LoopNo) (f : Loop → Loop) : (s.modLoop k f).sent = s.sent := rfl
@[simp] theorem State.modLoop_phase (s : State) (k : LoopNo) (f : Loop → Loop) : (s.modLoop k f).phase = s.phase := rfl
@[simp] theorem State.modLoop_manage (s : State) (k : LoopNo) (f : Loop → Loop) : (s.modLoop k f).manage = s.manage := rfl
@[simp] theorem State.modLoop_clk (s : State) (k : LoopNo) (f : Loop → Loop) : (s.modLoop k f).clk = s.clk := rfl
@[simp] theorem State.modLoop_pins (s : State) (k : LoopNo) (f : Loop → Loop) : (s.modLoop k f).pins = s.pins := rfl
@[simp] theorem State.modLoop_syncPins (s : State) (k : LoopNo) (f : Loop → Loop) : (s.modLoop k f).syncPins = s.syncPins := rfl
@[simp] theorem State.modLoop_modes (s : State) (k : LoopNo) (f : Loop → Loop) : (s.modLoop k f).modes = s.modes := rfl
@[simp] theorem State.modLoop_own (s : State) (k : LoopNo) (f : Loop → Loop) : (s.modLoop k f).own = s.own := rfl
@[simp] theorem State.modLoop_cells (s : State) (k : LoopNo) (f : Loop → Loop) : (s.modLoop k f).cells = s.cells := rfl
@[simp] theorem State.modLoop_traces (s : State) (k : LoopNo) (f : Loop → Loop) : (s.modLoop k f).traces = s.traces := rfl
@[simp] theorem State.modLoop_groups (s : State) (k : LoopNo) (f : Loop → Loop) : (s.modLoop k f).groups = s.groups := rfl
@[simp] theorem State.modLoop_bus (s : State) (k : LoopNo) (f : Loop → Loop) : (s.modLoop k f).bus = s.bus := rfl
@[simp] theorem State.modLoop_alloc (s : State) (k : LoopNo) (f : Loop → Loop) : (s.modLoop k f).alloc = s.alloc := rfl
@[simp] theorem State.modLoop_allocNext (s : State) (k : LoopNo) (f : Loop → Loop) : (s.modLoop k f).allocNext = s.allocNext := rfl
@[simp] theorem State.modLoop_solveCount (s : State) (k : LoopNo) (f : Loop → Loop) : (s.modLoop k f).solveCount = s.solveCount := rfl
@[simp] theorem State.modLoop_idGroup (s : State) (k : LoopNo) (f : Loop → Loop) : (s.modLoop k f).idGroup = s.idGroup := rfl
@[simp] theorem State.modLoop_idAt (s : State) (k : LoopNo) (f : Loop → Loop) : (s.modLoop k f).idAt = s.idAt := rfl
@[simp] theorem State.modLoop_idCycleUs (s : State) (k : LoopNo) (f : Loop → Loop) : (s.modLoop k f).idCycleUs = s.idCycleUs := rfl
@[simp] theorem State.modLoop_refHalf (s : State) (k : LoopNo) (f : Loop → Loop) : (s.modLoop k f).refHalf = s.refHalf := rfl
@[simp] theorem State.modLoop_monitors (s : State) (k : LoopNo) (f : Loop → Loop) : (s.modLoop k f).monitors = s.monitors := rfl
@[simp] theorem State.modLoop_ledger (s : State) (k : LoopNo) (f : Loop → Loop) : (s.modLoop k f).ledger = s.ledger := rfl
@[simp] theorem State.modLoop_strings (s : State) (k : LoopNo) (f : Loop → Loop) : (s.modLoop k f).strings = s.strings := rfl
@[simp] theorem State.modLoop_packs (s : State) (k : LoopNo) (f : Loop → Loop) : (s.modLoop k f).packs = s.packs := rfl
@[simp] theorem State.modLoop_seq (s : State) (k : LoopNo) (f : Loop → Loop) : (s.modLoop k f).seq = s.seq := rfl
@[simp] theorem State.modLoop_thermal (s : State) (k : LoopNo) (f : Loop → Loop) : (s.modLoop k f).thermal = s.thermal := rfl
@[simp] theorem State.modLoop_lanes (s : State) (k : LoopNo) (f : Loop → Loop) : (s.modLoop k f).lanes = s.lanes := rfl
@[simp] theorem State.modLoop_can (s : State) (k : LoopNo) (f : Loop → Loop) : (s.modLoop k f).can = s.can := rfl
@[simp] theorem State.modLoop_hosts (s : State) (k : LoopNo) (f : Loop → Loop) : (s.modLoop k f).hosts = s.hosts := rfl
@[simp] theorem State.modLoop_hostsRefused (s : State) (k : LoopNo) (f : Loop → Loop) : (s.modLoop k f).hostsRefused = s.hostsRefused := rfl
@[simp] theorem State.modLoop_lockOwner (s : State) (k : LoopNo) (f : Loop → Loop) : (s.modLoop k f).lockOwner = s.lockOwner := rfl
@[simp] theorem State.modLoop_lockMs (s : State) (k : LoopNo) (f : Loop → Loop) : (s.modLoop k f).lockMs = s.lockMs := rfl
@[simp] theorem State.modLoop_wallOffsetMs (s : State) (k : LoopNo) (f : Loop → Loop) : (s.modLoop k f).wallOffsetMs = s.wallOffsetMs := rfl
@[simp] theorem State.modLoop_tpdoLast (s : State) (k : LoopNo) (f : Loop → Loop) : (s.modLoop k f).tpdoLast = s.tpdoLast := rfl
@[simp] theorem State.modLoop_tpdoInhibit (s : State) (k : LoopNo) (f : Loop → Loop) : (s.modLoop k f).tpdoInhibit = s.tpdoInhibit := rfl
@[simp] theorem State.modLoop_tpdoDue (s : State) (k : LoopNo) (f : Loop → Loop) : (s.modLoop k f).tpdoDue = s.tpdoDue := rfl
@[simp] theorem State.modLoop_tpdoUs (s : State) (k : LoopNo) (f : Loop → Loop) : (s.modLoop k f).tpdoUs = s.tpdoUs := rfl
@[simp] theorem State.modLoop_checkUs (s : State) (k : LoopNo) (f : Loop → Loop) : (s.modLoop k f).checkUs = s.checkUs := rfl
@[simp] theorem State.modLoop_tpdoSync (s : State) (k : LoopNo) (f : Loop → Loop) : (s.modLoop k f).tpdoSync = s.tpdoSync := rfl
@[simp] theorem State.modLoop_rpdoSecond (s : State) (k : LoopNo) (f : Loop → Loop) : (s.modLoop k f).rpdoSecond = s.rpdoSecond := rfl
@[simp] theorem State.modLoop_dap (s : State) (k : LoopNo) (f : Loop → Loop) : (s.modLoop k f).dap = s.dap := rfl
@[simp] theorem State.modLoop_dict (s : State) (k : LoopNo) (f : Loop → Loop) : (s.modLoop k f).dict = s.dict := rfl
@[simp] theorem State.modLoop_tw (s : State) (k : LoopNo) (f : Loop → Loop) : (s.modLoop k f).tw = s.tw := rfl
@[simp] theorem State.modLoop_regs (s : State) (k : LoopNo) (f : Loop → Loop) : (s.modLoop k f).regs = s.regs := rfl
@[simp] theorem State.modLoop_cores (s : State) (k : LoopNo) (f : Loop → Loop) : (s.modLoop k f).cores = s.cores := rfl
@[simp] theorem State.modLoop_srcs (s : State) (k : LoopNo) (f : Loop → Loop) : (s.modLoop k f).srcs = s.srcs := rfl
@[simp] theorem State.modLoop_scrubOrder (s : State) (k : LoopNo) (f : Loop → Loop) : (s.modLoop k f).scrubOrder = s.scrubOrder := rfl
@[simp] theorem State.modLoop_badBanks (s : State) (k : LoopNo) (f : Loop → Loop) : (s.modLoop k f).badBanks = s.badBanks := rfl
@[simp] theorem State.modLoop_recorder (s : State) (k : LoopNo) (f : Loop → Loop) : (s.modLoop k f).recorder = s.recorder := rfl
@[simp] theorem State.modLoop_fw (s : State) (k : LoopNo) (f : Loop → Loop) : (s.modLoop k f).fw = s.fw := rfl
@[simp] theorem State.modLoop_heldBlocks (s : State) (k : LoopNo) (f : Loop → Loop) : (s.modLoop k f).heldBlocks = s.heldBlocks := rfl
@[simp] theorem State.modLoop_heldOther (s : State) (k : LoopNo) (f : Loop → Loop) : (s.modLoop k f).heldOther = s.heldOther := rfl
@[simp] theorem State.modLoop_self (s : State) (k : LoopNo) (f : Loop → Loop) : (s.modLoop k f).loops[(k : Nat)] = f s.loops[(k : Nat)] := by simp [State.modLoop]
theorem State.modLoop_ne (s : State) (k : LoopNo) (f : Loop → Loop) {j : LoopNo} (hj : j ≠ k) : (s.modLoop k f).loops[(j : Nat)] = s.loops[(j : Nat)] := by
  have hj : (k : Nat) ≠ j := fun e => hj (Fin.ext e.symm)
  simp [State.modLoop, Vector.getElem_set_ne, hj]

/-! modTrace. -/
@[simp] theorem State.modTrace_pending (s : State) (u : TraceNo) (f : Trace → Trace) : (s.modTrace u f).pending = s.pending := rfl
@[simp] theorem State.modTrace_freeCount (s : State) (u : TraceNo) (f : Trace → Trace) : (s.modTrace u f).freeCount = s.freeCount := rfl
@[simp] theorem State.modTrace_reply (s : State) (u : TraceNo) (f : Trace → Trace) : (s.modTrace u f).reply = s.reply := rfl
@[simp] theorem State.modTrace_sent (s : State) (u : TraceNo) (f : Trace → Trace) : (s.modTrace u f).sent = s.sent := rfl
@[simp] theorem State.modTrace_phase (s : State) (u : TraceNo) (f : Trace → Trace) : (s.modTrace u f).phase = s.phase := rfl
@[simp] theorem State.modTrace_manage (s : State) (u : TraceNo) (f : Trace → Trace) : (s.modTrace u f).manage = s.manage := rfl
@[simp] theorem State.modTrace_clk (s : State) (u : TraceNo) (f : Trace → Trace) : (s.modTrace u f).clk = s.clk := rfl
@[simp] theorem State.modTrace_pins (s : State) (u : TraceNo) (f : Trace → Trace) : (s.modTrace u f).pins = s.pins := rfl
@[simp] theorem State.modTrace_syncPins (s : State) (u : TraceNo) (f : Trace → Trace) : (s.modTrace u f).syncPins = s.syncPins := rfl
@[simp] theorem State.modTrace_modes (s : State) (u : TraceNo) (f : Trace → Trace) : (s.modTrace u f).modes = s.modes := rfl
@[simp] theorem State.modTrace_own (s : State) (u : TraceNo) (f : Trace → Trace) : (s.modTrace u f).own = s.own := rfl
@[simp] theorem State.modTrace_cells (s : State) (u : TraceNo) (f : Trace → Trace) : (s.modTrace u f).cells = s.cells := rfl
@[simp] theorem State.modTrace_loops (s : State) (u : TraceNo) (f : Trace → Trace) : (s.modTrace u f).loops = s.loops := rfl
@[simp] theorem State.modTrace_groups (s : State) (u : TraceNo) (f : Trace → Trace) : (s.modTrace u f).groups = s.groups := rfl
@[simp] theorem State.modTrace_bus (s : State) (u : TraceNo) (f : Trace → Trace) : (s.modTrace u f).bus = s.bus := rfl
@[simp] theorem State.modTrace_alloc (s : State) (u : TraceNo) (f : Trace → Trace) : (s.modTrace u f).alloc = s.alloc := rfl
@[simp] theorem State.modTrace_allocNext (s : State) (u : TraceNo) (f : Trace → Trace) : (s.modTrace u f).allocNext = s.allocNext := rfl
@[simp] theorem State.modTrace_solveCount (s : State) (u : TraceNo) (f : Trace → Trace) : (s.modTrace u f).solveCount = s.solveCount := rfl
@[simp] theorem State.modTrace_idGroup (s : State) (u : TraceNo) (f : Trace → Trace) : (s.modTrace u f).idGroup = s.idGroup := rfl
@[simp] theorem State.modTrace_idAt (s : State) (u : TraceNo) (f : Trace → Trace) : (s.modTrace u f).idAt = s.idAt := rfl
@[simp] theorem State.modTrace_idCycleUs (s : State) (u : TraceNo) (f : Trace → Trace) : (s.modTrace u f).idCycleUs = s.idCycleUs := rfl
@[simp] theorem State.modTrace_refHalf (s : State) (u : TraceNo) (f : Trace → Trace) : (s.modTrace u f).refHalf = s.refHalf := rfl
@[simp] theorem State.modTrace_monitors (s : State) (u : TraceNo) (f : Trace → Trace) : (s.modTrace u f).monitors = s.monitors := rfl
@[simp] theorem State.modTrace_ledger (s : State) (u : TraceNo) (f : Trace → Trace) : (s.modTrace u f).ledger = s.ledger := rfl
@[simp] theorem State.modTrace_strings (s : State) (u : TraceNo) (f : Trace → Trace) : (s.modTrace u f).strings = s.strings := rfl
@[simp] theorem State.modTrace_packs (s : State) (u : TraceNo) (f : Trace → Trace) : (s.modTrace u f).packs = s.packs := rfl
@[simp] theorem State.modTrace_seq (s : State) (u : TraceNo) (f : Trace → Trace) : (s.modTrace u f).seq = s.seq := rfl
@[simp] theorem State.modTrace_thermal (s : State) (u : TraceNo) (f : Trace → Trace) : (s.modTrace u f).thermal = s.thermal := rfl
@[simp] theorem State.modTrace_lanes (s : State) (u : TraceNo) (f : Trace → Trace) : (s.modTrace u f).lanes = s.lanes := rfl
@[simp] theorem State.modTrace_can (s : State) (u : TraceNo) (f : Trace → Trace) : (s.modTrace u f).can = s.can := rfl
@[simp] theorem State.modTrace_hosts (s : State) (u : TraceNo) (f : Trace → Trace) : (s.modTrace u f).hosts = s.hosts := rfl
@[simp] theorem State.modTrace_hostsRefused (s : State) (u : TraceNo) (f : Trace → Trace) : (s.modTrace u f).hostsRefused = s.hostsRefused := rfl
@[simp] theorem State.modTrace_lockOwner (s : State) (u : TraceNo) (f : Trace → Trace) : (s.modTrace u f).lockOwner = s.lockOwner := rfl
@[simp] theorem State.modTrace_lockMs (s : State) (u : TraceNo) (f : Trace → Trace) : (s.modTrace u f).lockMs = s.lockMs := rfl
@[simp] theorem State.modTrace_wallOffsetMs (s : State) (u : TraceNo) (f : Trace → Trace) : (s.modTrace u f).wallOffsetMs = s.wallOffsetMs := rfl
@[simp] theorem State.modTrace_tpdoLast (s : State) (u : TraceNo) (f : Trace → Trace) : (s.modTrace u f).tpdoLast = s.tpdoLast := rfl
@[simp] theorem State.modTrace_tpdoInhibit (s : State) (u : TraceNo) (f : Trace → Trace) : (s.modTrace u f).tpdoInhibit = s.tpdoInhibit := rfl
@[simp] theorem State.modTrace_tpdoDue (s : State) (u : TraceNo) (f : Trace → Trace) : (s.modTrace u f).tpdoDue = s.tpdoDue := rfl
@[simp] theorem State.modTrace_tpdoUs (s : State) (u : TraceNo) (f : Trace → Trace) : (s.modTrace u f).tpdoUs = s.tpdoUs := rfl
@[simp] theorem State.modTrace_checkUs (s : State) (u : TraceNo) (f : Trace → Trace) : (s.modTrace u f).checkUs = s.checkUs := rfl
@[simp] theorem State.modTrace_tpdoSync (s : State) (u : TraceNo) (f : Trace → Trace) : (s.modTrace u f).tpdoSync = s.tpdoSync := rfl
@[simp] theorem State.modTrace_rpdoSecond (s : State) (u : TraceNo) (f : Trace → Trace) : (s.modTrace u f).rpdoSecond = s.rpdoSecond := rfl
@[simp] theorem State.modTrace_dap (s : State) (u : TraceNo) (f : Trace → Trace) : (s.modTrace u f).dap = s.dap := rfl
@[simp] theorem State.modTrace_dict (s : State) (u : TraceNo) (f : Trace → Trace) : (s.modTrace u f).dict = s.dict := rfl
@[simp] theorem State.modTrace_tw (s : State) (u : TraceNo) (f : Trace → Trace) : (s.modTrace u f).tw = s.tw := rfl
@[simp] theorem State.modTrace_regs (s : State) (u : TraceNo) (f : Trace → Trace) : (s.modTrace u f).regs = s.regs := rfl
@[simp] theorem State.modTrace_cores (s : State) (u : TraceNo) (f : Trace → Trace) : (s.modTrace u f).cores = s.cores := rfl
@[simp] theorem State.modTrace_srcs (s : State) (u : TraceNo) (f : Trace → Trace) : (s.modTrace u f).srcs = s.srcs := rfl
@[simp] theorem State.modTrace_scrubOrder (s : State) (u : TraceNo) (f : Trace → Trace) : (s.modTrace u f).scrubOrder = s.scrubOrder := rfl
@[simp] theorem State.modTrace_badBanks (s : State) (u : TraceNo) (f : Trace → Trace) : (s.modTrace u f).badBanks = s.badBanks := rfl
@[simp] theorem State.modTrace_recorder (s : State) (u : TraceNo) (f : Trace → Trace) : (s.modTrace u f).recorder = s.recorder := rfl
@[simp] theorem State.modTrace_fw (s : State) (u : TraceNo) (f : Trace → Trace) : (s.modTrace u f).fw = s.fw := rfl
@[simp] theorem State.modTrace_heldBlocks (s : State) (u : TraceNo) (f : Trace → Trace) : (s.modTrace u f).heldBlocks = s.heldBlocks := rfl
@[simp] theorem State.modTrace_heldOther (s : State) (u : TraceNo) (f : Trace → Trace) : (s.modTrace u f).heldOther = s.heldOther := rfl
@[simp] theorem State.modTrace_self (s : State) (u : TraceNo) (f : Trace → Trace) : (s.modTrace u f).traces[(u : Nat)] = f s.traces[(u : Nat)] := by simp [State.modTrace]
theorem State.modTrace_ne (s : State) (u : TraceNo) (f : Trace → Trace) {j : TraceNo} (hj : j ≠ u) : (s.modTrace u f).traces[(j : Nat)] = s.traces[(j : Nat)] := by
  have hj : (u : Nat) ≠ j := fun e => hj (Fin.ext e.symm)
  simp [State.modTrace, Vector.getElem_set_ne, hj]

/-! modGroup. -/
@[simp] theorem State.modGroup_pending (s : State) (g : GroupNo) (f : Group → Group) : (s.modGroup g f).pending = s.pending := rfl
@[simp] theorem State.modGroup_freeCount (s : State) (g : GroupNo) (f : Group → Group) : (s.modGroup g f).freeCount = s.freeCount := rfl
@[simp] theorem State.modGroup_reply (s : State) (g : GroupNo) (f : Group → Group) : (s.modGroup g f).reply = s.reply := rfl
@[simp] theorem State.modGroup_sent (s : State) (g : GroupNo) (f : Group → Group) : (s.modGroup g f).sent = s.sent := rfl
@[simp] theorem State.modGroup_phase (s : State) (g : GroupNo) (f : Group → Group) : (s.modGroup g f).phase = s.phase := rfl
@[simp] theorem State.modGroup_manage (s : State) (g : GroupNo) (f : Group → Group) : (s.modGroup g f).manage = s.manage := rfl
@[simp] theorem State.modGroup_clk (s : State) (g : GroupNo) (f : Group → Group) : (s.modGroup g f).clk = s.clk := rfl
@[simp] theorem State.modGroup_pins (s : State) (g : GroupNo) (f : Group → Group) : (s.modGroup g f).pins = s.pins := rfl
@[simp] theorem State.modGroup_syncPins (s : State) (g : GroupNo) (f : Group → Group) : (s.modGroup g f).syncPins = s.syncPins := rfl
@[simp] theorem State.modGroup_modes (s : State) (g : GroupNo) (f : Group → Group) : (s.modGroup g f).modes = s.modes := rfl
@[simp] theorem State.modGroup_own (s : State) (g : GroupNo) (f : Group → Group) : (s.modGroup g f).own = s.own := rfl
@[simp] theorem State.modGroup_cells (s : State) (g : GroupNo) (f : Group → Group) : (s.modGroup g f).cells = s.cells := rfl
@[simp] theorem State.modGroup_loops (s : State) (g : GroupNo) (f : Group → Group) : (s.modGroup g f).loops = s.loops := rfl
@[simp] theorem State.modGroup_traces (s : State) (g : GroupNo) (f : Group → Group) : (s.modGroup g f).traces = s.traces := rfl
@[simp] theorem State.modGroup_bus (s : State) (g : GroupNo) (f : Group → Group) : (s.modGroup g f).bus = s.bus := rfl
@[simp] theorem State.modGroup_alloc (s : State) (g : GroupNo) (f : Group → Group) : (s.modGroup g f).alloc = s.alloc := rfl
@[simp] theorem State.modGroup_allocNext (s : State) (g : GroupNo) (f : Group → Group) : (s.modGroup g f).allocNext = s.allocNext := rfl
@[simp] theorem State.modGroup_solveCount (s : State) (g : GroupNo) (f : Group → Group) : (s.modGroup g f).solveCount = s.solveCount := rfl
@[simp] theorem State.modGroup_idGroup (s : State) (g : GroupNo) (f : Group → Group) : (s.modGroup g f).idGroup = s.idGroup := rfl
@[simp] theorem State.modGroup_idAt (s : State) (g : GroupNo) (f : Group → Group) : (s.modGroup g f).idAt = s.idAt := rfl
@[simp] theorem State.modGroup_idCycleUs (s : State) (g : GroupNo) (f : Group → Group) : (s.modGroup g f).idCycleUs = s.idCycleUs := rfl
@[simp] theorem State.modGroup_refHalf (s : State) (g : GroupNo) (f : Group → Group) : (s.modGroup g f).refHalf = s.refHalf := rfl
@[simp] theorem State.modGroup_monitors (s : State) (g : GroupNo) (f : Group → Group) : (s.modGroup g f).monitors = s.monitors := rfl
@[simp] theorem State.modGroup_ledger (s : State) (g : GroupNo) (f : Group → Group) : (s.modGroup g f).ledger = s.ledger := rfl
@[simp] theorem State.modGroup_strings (s : State) (g : GroupNo) (f : Group → Group) : (s.modGroup g f).strings = s.strings := rfl
@[simp] theorem State.modGroup_packs (s : State) (g : GroupNo) (f : Group → Group) : (s.modGroup g f).packs = s.packs := rfl
@[simp] theorem State.modGroup_seq (s : State) (g : GroupNo) (f : Group → Group) : (s.modGroup g f).seq = s.seq := rfl
@[simp] theorem State.modGroup_thermal (s : State) (g : GroupNo) (f : Group → Group) : (s.modGroup g f).thermal = s.thermal := rfl
@[simp] theorem State.modGroup_lanes (s : State) (g : GroupNo) (f : Group → Group) : (s.modGroup g f).lanes = s.lanes := rfl
@[simp] theorem State.modGroup_can (s : State) (g : GroupNo) (f : Group → Group) : (s.modGroup g f).can = s.can := rfl
@[simp] theorem State.modGroup_hosts (s : State) (g : GroupNo) (f : Group → Group) : (s.modGroup g f).hosts = s.hosts := rfl
@[simp] theorem State.modGroup_hostsRefused (s : State) (g : GroupNo) (f : Group → Group) : (s.modGroup g f).hostsRefused = s.hostsRefused := rfl
@[simp] theorem State.modGroup_lockOwner (s : State) (g : GroupNo) (f : Group → Group) : (s.modGroup g f).lockOwner = s.lockOwner := rfl
@[simp] theorem State.modGroup_lockMs (s : State) (g : GroupNo) (f : Group → Group) : (s.modGroup g f).lockMs = s.lockMs := rfl
@[simp] theorem State.modGroup_wallOffsetMs (s : State) (g : GroupNo) (f : Group → Group) : (s.modGroup g f).wallOffsetMs = s.wallOffsetMs := rfl
@[simp] theorem State.modGroup_tpdoLast (s : State) (g : GroupNo) (f : Group → Group) : (s.modGroup g f).tpdoLast = s.tpdoLast := rfl
@[simp] theorem State.modGroup_tpdoInhibit (s : State) (g : GroupNo) (f : Group → Group) : (s.modGroup g f).tpdoInhibit = s.tpdoInhibit := rfl
@[simp] theorem State.modGroup_tpdoDue (s : State) (g : GroupNo) (f : Group → Group) : (s.modGroup g f).tpdoDue = s.tpdoDue := rfl
@[simp] theorem State.modGroup_tpdoUs (s : State) (g : GroupNo) (f : Group → Group) : (s.modGroup g f).tpdoUs = s.tpdoUs := rfl
@[simp] theorem State.modGroup_checkUs (s : State) (g : GroupNo) (f : Group → Group) : (s.modGroup g f).checkUs = s.checkUs := rfl
@[simp] theorem State.modGroup_tpdoSync (s : State) (g : GroupNo) (f : Group → Group) : (s.modGroup g f).tpdoSync = s.tpdoSync := rfl
@[simp] theorem State.modGroup_rpdoSecond (s : State) (g : GroupNo) (f : Group → Group) : (s.modGroup g f).rpdoSecond = s.rpdoSecond := rfl
@[simp] theorem State.modGroup_dap (s : State) (g : GroupNo) (f : Group → Group) : (s.modGroup g f).dap = s.dap := rfl
@[simp] theorem State.modGroup_dict (s : State) (g : GroupNo) (f : Group → Group) : (s.modGroup g f).dict = s.dict := rfl
@[simp] theorem State.modGroup_tw (s : State) (g : GroupNo) (f : Group → Group) : (s.modGroup g f).tw = s.tw := rfl
@[simp] theorem State.modGroup_regs (s : State) (g : GroupNo) (f : Group → Group) : (s.modGroup g f).regs = s.regs := rfl
@[simp] theorem State.modGroup_cores (s : State) (g : GroupNo) (f : Group → Group) : (s.modGroup g f).cores = s.cores := rfl
@[simp] theorem State.modGroup_srcs (s : State) (g : GroupNo) (f : Group → Group) : (s.modGroup g f).srcs = s.srcs := rfl
@[simp] theorem State.modGroup_scrubOrder (s : State) (g : GroupNo) (f : Group → Group) : (s.modGroup g f).scrubOrder = s.scrubOrder := rfl
@[simp] theorem State.modGroup_badBanks (s : State) (g : GroupNo) (f : Group → Group) : (s.modGroup g f).badBanks = s.badBanks := rfl
@[simp] theorem State.modGroup_recorder (s : State) (g : GroupNo) (f : Group → Group) : (s.modGroup g f).recorder = s.recorder := rfl
@[simp] theorem State.modGroup_fw (s : State) (g : GroupNo) (f : Group → Group) : (s.modGroup g f).fw = s.fw := rfl
@[simp] theorem State.modGroup_heldBlocks (s : State) (g : GroupNo) (f : Group → Group) : (s.modGroup g f).heldBlocks = s.heldBlocks := rfl
@[simp] theorem State.modGroup_heldOther (s : State) (g : GroupNo) (f : Group → Group) : (s.modGroup g f).heldOther = s.heldOther := rfl
@[simp] theorem State.modGroup_self (s : State) (g : GroupNo) (f : Group → Group) : (s.modGroup g f).groups[(g : Nat)] = f s.groups[(g : Nat)] := by simp [State.modGroup]
theorem State.modGroup_ne (s : State) (g : GroupNo) (f : Group → Group) {j : GroupNo} (hj : j ≠ g) : (s.modGroup g f).groups[(j : Nat)] = s.groups[(j : Nat)] := by
  have hj : (g : Nat) ≠ j := fun e => hj (Fin.ext e.symm)
  simp [State.modGroup, Vector.getElem_set_ne, hj]

/-! modString. -/
@[simp] theorem State.modString_pending (s : State) (n : StringNo) (f : Batt → Batt) : (s.modString n f).pending = s.pending := rfl
@[simp] theorem State.modString_freeCount (s : State) (n : StringNo) (f : Batt → Batt) : (s.modString n f).freeCount = s.freeCount := rfl
@[simp] theorem State.modString_reply (s : State) (n : StringNo) (f : Batt → Batt) : (s.modString n f).reply = s.reply := rfl
@[simp] theorem State.modString_sent (s : State) (n : StringNo) (f : Batt → Batt) : (s.modString n f).sent = s.sent := rfl
@[simp] theorem State.modString_phase (s : State) (n : StringNo) (f : Batt → Batt) : (s.modString n f).phase = s.phase := rfl
@[simp] theorem State.modString_manage (s : State) (n : StringNo) (f : Batt → Batt) : (s.modString n f).manage = s.manage := rfl
@[simp] theorem State.modString_clk (s : State) (n : StringNo) (f : Batt → Batt) : (s.modString n f).clk = s.clk := rfl
@[simp] theorem State.modString_pins (s : State) (n : StringNo) (f : Batt → Batt) : (s.modString n f).pins = s.pins := rfl
@[simp] theorem State.modString_syncPins (s : State) (n : StringNo) (f : Batt → Batt) : (s.modString n f).syncPins = s.syncPins := rfl
@[simp] theorem State.modString_modes (s : State) (n : StringNo) (f : Batt → Batt) : (s.modString n f).modes = s.modes := rfl
@[simp] theorem State.modString_own (s : State) (n : StringNo) (f : Batt → Batt) : (s.modString n f).own = s.own := rfl
@[simp] theorem State.modString_cells (s : State) (n : StringNo) (f : Batt → Batt) : (s.modString n f).cells = s.cells := rfl
@[simp] theorem State.modString_loops (s : State) (n : StringNo) (f : Batt → Batt) : (s.modString n f).loops = s.loops := rfl
@[simp] theorem State.modString_traces (s : State) (n : StringNo) (f : Batt → Batt) : (s.modString n f).traces = s.traces := rfl
@[simp] theorem State.modString_groups (s : State) (n : StringNo) (f : Batt → Batt) : (s.modString n f).groups = s.groups := rfl
@[simp] theorem State.modString_bus (s : State) (n : StringNo) (f : Batt → Batt) : (s.modString n f).bus = s.bus := rfl
@[simp] theorem State.modString_alloc (s : State) (n : StringNo) (f : Batt → Batt) : (s.modString n f).alloc = s.alloc := rfl
@[simp] theorem State.modString_allocNext (s : State) (n : StringNo) (f : Batt → Batt) : (s.modString n f).allocNext = s.allocNext := rfl
@[simp] theorem State.modString_solveCount (s : State) (n : StringNo) (f : Batt → Batt) : (s.modString n f).solveCount = s.solveCount := rfl
@[simp] theorem State.modString_idGroup (s : State) (n : StringNo) (f : Batt → Batt) : (s.modString n f).idGroup = s.idGroup := rfl
@[simp] theorem State.modString_idAt (s : State) (n : StringNo) (f : Batt → Batt) : (s.modString n f).idAt = s.idAt := rfl
@[simp] theorem State.modString_idCycleUs (s : State) (n : StringNo) (f : Batt → Batt) : (s.modString n f).idCycleUs = s.idCycleUs := rfl
@[simp] theorem State.modString_refHalf (s : State) (n : StringNo) (f : Batt → Batt) : (s.modString n f).refHalf = s.refHalf := rfl
@[simp] theorem State.modString_monitors (s : State) (n : StringNo) (f : Batt → Batt) : (s.modString n f).monitors = s.monitors := rfl
@[simp] theorem State.modString_ledger (s : State) (n : StringNo) (f : Batt → Batt) : (s.modString n f).ledger = s.ledger := rfl
@[simp] theorem State.modString_packs (s : State) (n : StringNo) (f : Batt → Batt) : (s.modString n f).packs = s.packs := rfl
@[simp] theorem State.modString_seq (s : State) (n : StringNo) (f : Batt → Batt) : (s.modString n f).seq = s.seq := rfl
@[simp] theorem State.modString_thermal (s : State) (n : StringNo) (f : Batt → Batt) : (s.modString n f).thermal = s.thermal := rfl
@[simp] theorem State.modString_lanes (s : State) (n : StringNo) (f : Batt → Batt) : (s.modString n f).lanes = s.lanes := rfl
@[simp] theorem State.modString_can (s : State) (n : StringNo) (f : Batt → Batt) : (s.modString n f).can = s.can := rfl
@[simp] theorem State.modString_hosts (s : State) (n : StringNo) (f : Batt → Batt) : (s.modString n f).hosts = s.hosts := rfl
@[simp] theorem State.modString_hostsRefused (s : State) (n : StringNo) (f : Batt → Batt) : (s.modString n f).hostsRefused = s.hostsRefused := rfl
@[simp] theorem State.modString_lockOwner (s : State) (n : StringNo) (f : Batt → Batt) : (s.modString n f).lockOwner = s.lockOwner := rfl
@[simp] theorem State.modString_lockMs (s : State) (n : StringNo) (f : Batt → Batt) : (s.modString n f).lockMs = s.lockMs := rfl
@[simp] theorem State.modString_wallOffsetMs (s : State) (n : StringNo) (f : Batt → Batt) : (s.modString n f).wallOffsetMs = s.wallOffsetMs := rfl
@[simp] theorem State.modString_tpdoLast (s : State) (n : StringNo) (f : Batt → Batt) : (s.modString n f).tpdoLast = s.tpdoLast := rfl
@[simp] theorem State.modString_tpdoInhibit (s : State) (n : StringNo) (f : Batt → Batt) : (s.modString n f).tpdoInhibit = s.tpdoInhibit := rfl
@[simp] theorem State.modString_tpdoDue (s : State) (n : StringNo) (f : Batt → Batt) : (s.modString n f).tpdoDue = s.tpdoDue := rfl
@[simp] theorem State.modString_tpdoUs (s : State) (n : StringNo) (f : Batt → Batt) : (s.modString n f).tpdoUs = s.tpdoUs := rfl
@[simp] theorem State.modString_checkUs (s : State) (n : StringNo) (f : Batt → Batt) : (s.modString n f).checkUs = s.checkUs := rfl
@[simp] theorem State.modString_tpdoSync (s : State) (n : StringNo) (f : Batt → Batt) : (s.modString n f).tpdoSync = s.tpdoSync := rfl
@[simp] theorem State.modString_rpdoSecond (s : State) (n : StringNo) (f : Batt → Batt) : (s.modString n f).rpdoSecond = s.rpdoSecond := rfl
@[simp] theorem State.modString_dap (s : State) (n : StringNo) (f : Batt → Batt) : (s.modString n f).dap = s.dap := rfl
@[simp] theorem State.modString_dict (s : State) (n : StringNo) (f : Batt → Batt) : (s.modString n f).dict = s.dict := rfl
@[simp] theorem State.modString_tw (s : State) (n : StringNo) (f : Batt → Batt) : (s.modString n f).tw = s.tw := rfl
@[simp] theorem State.modString_regs (s : State) (n : StringNo) (f : Batt → Batt) : (s.modString n f).regs = s.regs := rfl
@[simp] theorem State.modString_cores (s : State) (n : StringNo) (f : Batt → Batt) : (s.modString n f).cores = s.cores := rfl
@[simp] theorem State.modString_srcs (s : State) (n : StringNo) (f : Batt → Batt) : (s.modString n f).srcs = s.srcs := rfl
@[simp] theorem State.modString_scrubOrder (s : State) (n : StringNo) (f : Batt → Batt) : (s.modString n f).scrubOrder = s.scrubOrder := rfl
@[simp] theorem State.modString_badBanks (s : State) (n : StringNo) (f : Batt → Batt) : (s.modString n f).badBanks = s.badBanks := rfl
@[simp] theorem State.modString_recorder (s : State) (n : StringNo) (f : Batt → Batt) : (s.modString n f).recorder = s.recorder := rfl
@[simp] theorem State.modString_fw (s : State) (n : StringNo) (f : Batt → Batt) : (s.modString n f).fw = s.fw := rfl
@[simp] theorem State.modString_heldBlocks (s : State) (n : StringNo) (f : Batt → Batt) : (s.modString n f).heldBlocks = s.heldBlocks := rfl
@[simp] theorem State.modString_heldOther (s : State) (n : StringNo) (f : Batt → Batt) : (s.modString n f).heldOther = s.heldOther := rfl
@[simp] theorem State.modString_self (s : State) (n : StringNo) (f : Batt → Batt) : (s.modString n f).strings[(n : Nat)] = f s.strings[(n : Nat)] := by simp [State.modString]
theorem State.modString_ne (s : State) (n : StringNo) (f : Batt → Batt) {j : StringNo} (hj : j ≠ n) : (s.modString n f).strings[(j : Nat)] = s.strings[(j : Nat)] := by
  have hj : (n : Nat) ≠ j := fun e => hj (Fin.ext e.symm)
  simp [State.modString, Vector.getElem_set_ne, hj]

/-! modLedger. -/
@[simp] theorem State.modLedger_pending (s : State) (f : Ledger → Ledger) : (s.modLedger f).pending = s.pending := rfl
@[simp] theorem State.modLedger_freeCount (s : State) (f : Ledger → Ledger) : (s.modLedger f).freeCount = s.freeCount := rfl
@[simp] theorem State.modLedger_reply (s : State) (f : Ledger → Ledger) : (s.modLedger f).reply = s.reply := rfl
@[simp] theorem State.modLedger_sent (s : State) (f : Ledger → Ledger) : (s.modLedger f).sent = s.sent := rfl
@[simp] theorem State.modLedger_phase (s : State) (f : Ledger → Ledger) : (s.modLedger f).phase = s.phase := rfl
@[simp] theorem State.modLedger_manage (s : State) (f : Ledger → Ledger) : (s.modLedger f).manage = s.manage := rfl
@[simp] theorem State.modLedger_clk (s : State) (f : Ledger → Ledger) : (s.modLedger f).clk = s.clk := rfl
@[simp] theorem State.modLedger_pins (s : State) (f : Ledger → Ledger) : (s.modLedger f).pins = s.pins := rfl
@[simp] theorem State.modLedger_syncPins (s : State) (f : Ledger → Ledger) : (s.modLedger f).syncPins = s.syncPins := rfl
@[simp] theorem State.modLedger_modes (s : State) (f : Ledger → Ledger) : (s.modLedger f).modes = s.modes := rfl
@[simp] theorem State.modLedger_own (s : State) (f : Ledger → Ledger) : (s.modLedger f).own = s.own := rfl
@[simp] theorem State.modLedger_cells (s : State) (f : Ledger → Ledger) : (s.modLedger f).cells = s.cells := rfl
@[simp] theorem State.modLedger_loops (s : State) (f : Ledger → Ledger) : (s.modLedger f).loops = s.loops := rfl
@[simp] theorem State.modLedger_traces (s : State) (f : Ledger → Ledger) : (s.modLedger f).traces = s.traces := rfl
@[simp] theorem State.modLedger_groups (s : State) (f : Ledger → Ledger) : (s.modLedger f).groups = s.groups := rfl
@[simp] theorem State.modLedger_bus (s : State) (f : Ledger → Ledger) : (s.modLedger f).bus = s.bus := rfl
@[simp] theorem State.modLedger_alloc (s : State) (f : Ledger → Ledger) : (s.modLedger f).alloc = s.alloc := rfl
@[simp] theorem State.modLedger_allocNext (s : State) (f : Ledger → Ledger) : (s.modLedger f).allocNext = s.allocNext := rfl
@[simp] theorem State.modLedger_solveCount (s : State) (f : Ledger → Ledger) : (s.modLedger f).solveCount = s.solveCount := rfl
@[simp] theorem State.modLedger_idGroup (s : State) (f : Ledger → Ledger) : (s.modLedger f).idGroup = s.idGroup := rfl
@[simp] theorem State.modLedger_idAt (s : State) (f : Ledger → Ledger) : (s.modLedger f).idAt = s.idAt := rfl
@[simp] theorem State.modLedger_idCycleUs (s : State) (f : Ledger → Ledger) : (s.modLedger f).idCycleUs = s.idCycleUs := rfl
@[simp] theorem State.modLedger_refHalf (s : State) (f : Ledger → Ledger) : (s.modLedger f).refHalf = s.refHalf := rfl
@[simp] theorem State.modLedger_monitors (s : State) (f : Ledger → Ledger) : (s.modLedger f).monitors = s.monitors := rfl
@[simp] theorem State.modLedger_strings (s : State) (f : Ledger → Ledger) : (s.modLedger f).strings = s.strings := rfl
@[simp] theorem State.modLedger_packs (s : State) (f : Ledger → Ledger) : (s.modLedger f).packs = s.packs := rfl
@[simp] theorem State.modLedger_seq (s : State) (f : Ledger → Ledger) : (s.modLedger f).seq = s.seq := rfl
@[simp] theorem State.modLedger_thermal (s : State) (f : Ledger → Ledger) : (s.modLedger f).thermal = s.thermal := rfl
@[simp] theorem State.modLedger_lanes (s : State) (f : Ledger → Ledger) : (s.modLedger f).lanes = s.lanes := rfl
@[simp] theorem State.modLedger_can (s : State) (f : Ledger → Ledger) : (s.modLedger f).can = s.can := rfl
@[simp] theorem State.modLedger_hosts (s : State) (f : Ledger → Ledger) : (s.modLedger f).hosts = s.hosts := rfl
@[simp] theorem State.modLedger_hostsRefused (s : State) (f : Ledger → Ledger) : (s.modLedger f).hostsRefused = s.hostsRefused := rfl
@[simp] theorem State.modLedger_lockOwner (s : State) (f : Ledger → Ledger) : (s.modLedger f).lockOwner = s.lockOwner := rfl
@[simp] theorem State.modLedger_lockMs (s : State) (f : Ledger → Ledger) : (s.modLedger f).lockMs = s.lockMs := rfl
@[simp] theorem State.modLedger_wallOffsetMs (s : State) (f : Ledger → Ledger) : (s.modLedger f).wallOffsetMs = s.wallOffsetMs := rfl
@[simp] theorem State.modLedger_tpdoLast (s : State) (f : Ledger → Ledger) : (s.modLedger f).tpdoLast = s.tpdoLast := rfl
@[simp] theorem State.modLedger_tpdoInhibit (s : State) (f : Ledger → Ledger) : (s.modLedger f).tpdoInhibit = s.tpdoInhibit := rfl
@[simp] theorem State.modLedger_tpdoDue (s : State) (f : Ledger → Ledger) : (s.modLedger f).tpdoDue = s.tpdoDue := rfl
@[simp] theorem State.modLedger_tpdoUs (s : State) (f : Ledger → Ledger) : (s.modLedger f).tpdoUs = s.tpdoUs := rfl
@[simp] theorem State.modLedger_checkUs (s : State) (f : Ledger → Ledger) : (s.modLedger f).checkUs = s.checkUs := rfl
@[simp] theorem State.modLedger_tpdoSync (s : State) (f : Ledger → Ledger) : (s.modLedger f).tpdoSync = s.tpdoSync := rfl
@[simp] theorem State.modLedger_rpdoSecond (s : State) (f : Ledger → Ledger) : (s.modLedger f).rpdoSecond = s.rpdoSecond := rfl
@[simp] theorem State.modLedger_dap (s : State) (f : Ledger → Ledger) : (s.modLedger f).dap = s.dap := rfl
@[simp] theorem State.modLedger_dict (s : State) (f : Ledger → Ledger) : (s.modLedger f).dict = s.dict := rfl
@[simp] theorem State.modLedger_tw (s : State) (f : Ledger → Ledger) : (s.modLedger f).tw = s.tw := rfl
@[simp] theorem State.modLedger_regs (s : State) (f : Ledger → Ledger) : (s.modLedger f).regs = s.regs := rfl
@[simp] theorem State.modLedger_cores (s : State) (f : Ledger → Ledger) : (s.modLedger f).cores = s.cores := rfl
@[simp] theorem State.modLedger_srcs (s : State) (f : Ledger → Ledger) : (s.modLedger f).srcs = s.srcs := rfl
@[simp] theorem State.modLedger_scrubOrder (s : State) (f : Ledger → Ledger) : (s.modLedger f).scrubOrder = s.scrubOrder := rfl
@[simp] theorem State.modLedger_badBanks (s : State) (f : Ledger → Ledger) : (s.modLedger f).badBanks = s.badBanks := rfl
@[simp] theorem State.modLedger_recorder (s : State) (f : Ledger → Ledger) : (s.modLedger f).recorder = s.recorder := rfl
@[simp] theorem State.modLedger_fw (s : State) (f : Ledger → Ledger) : (s.modLedger f).fw = s.fw := rfl
@[simp] theorem State.modLedger_heldBlocks (s : State) (f : Ledger → Ledger) : (s.modLedger f).heldBlocks = s.heldBlocks := rfl
@[simp] theorem State.modLedger_heldOther (s : State) (f : Ledger → Ledger) : (s.modLedger f).heldOther = s.heldOther := rfl
@[simp] theorem State.modLedger_ledger (s : State) (f : Ledger → Ledger) : (s.modLedger f).ledger = f s.ledger := rfl

/-! modSink. -/
@[simp] theorem State.modSink_pending (s : State) (x : SinkNo) (f : Sink → Sink) : (s.modSink x f).pending = s.pending := rfl
@[simp] theorem State.modSink_freeCount (s : State) (x : SinkNo) (f : Sink → Sink) : (s.modSink x f).freeCount = s.freeCount := rfl
@[simp] theorem State.modSink_reply (s : State) (x : SinkNo) (f : Sink → Sink) : (s.modSink x f).reply = s.reply := rfl
@[simp] theorem State.modSink_sent (s : State) (x : SinkNo) (f : Sink → Sink) : (s.modSink x f).sent = s.sent := rfl
@[simp] theorem State.modSink_phase (s : State) (x : SinkNo) (f : Sink → Sink) : (s.modSink x f).phase = s.phase := rfl
@[simp] theorem State.modSink_manage (s : State) (x : SinkNo) (f : Sink → Sink) : (s.modSink x f).manage = s.manage := rfl
@[simp] theorem State.modSink_clk (s : State) (x : SinkNo) (f : Sink → Sink) : (s.modSink x f).clk = s.clk := rfl
@[simp] theorem State.modSink_pins (s : State) (x : SinkNo) (f : Sink → Sink) : (s.modSink x f).pins = s.pins := rfl
@[simp] theorem State.modSink_syncPins (s : State) (x : SinkNo) (f : Sink → Sink) : (s.modSink x f).syncPins = s.syncPins := rfl
@[simp] theorem State.modSink_modes (s : State) (x : SinkNo) (f : Sink → Sink) : (s.modSink x f).modes = s.modes := rfl
@[simp] theorem State.modSink_own (s : State) (x : SinkNo) (f : Sink → Sink) : (s.modSink x f).own = s.own := rfl
@[simp] theorem State.modSink_cells (s : State) (x : SinkNo) (f : Sink → Sink) : (s.modSink x f).cells = s.cells := rfl
@[simp] theorem State.modSink_loops (s : State) (x : SinkNo) (f : Sink → Sink) : (s.modSink x f).loops = s.loops := rfl
@[simp] theorem State.modSink_traces (s : State) (x : SinkNo) (f : Sink → Sink) : (s.modSink x f).traces = s.traces := rfl
@[simp] theorem State.modSink_groups (s : State) (x : SinkNo) (f : Sink → Sink) : (s.modSink x f).groups = s.groups := rfl
@[simp] theorem State.modSink_bus (s : State) (x : SinkNo) (f : Sink → Sink) : (s.modSink x f).bus = s.bus := rfl
@[simp] theorem State.modSink_alloc (s : State) (x : SinkNo) (f : Sink → Sink) : (s.modSink x f).alloc = s.alloc := rfl
@[simp] theorem State.modSink_allocNext (s : State) (x : SinkNo) (f : Sink → Sink) : (s.modSink x f).allocNext = s.allocNext := rfl
@[simp] theorem State.modSink_solveCount (s : State) (x : SinkNo) (f : Sink → Sink) : (s.modSink x f).solveCount = s.solveCount := rfl
@[simp] theorem State.modSink_idGroup (s : State) (x : SinkNo) (f : Sink → Sink) : (s.modSink x f).idGroup = s.idGroup := rfl
@[simp] theorem State.modSink_idAt (s : State) (x : SinkNo) (f : Sink → Sink) : (s.modSink x f).idAt = s.idAt := rfl
@[simp] theorem State.modSink_idCycleUs (s : State) (x : SinkNo) (f : Sink → Sink) : (s.modSink x f).idCycleUs = s.idCycleUs := rfl
@[simp] theorem State.modSink_refHalf (s : State) (x : SinkNo) (f : Sink → Sink) : (s.modSink x f).refHalf = s.refHalf := rfl
@[simp] theorem State.modSink_monitors (s : State) (x : SinkNo) (f : Sink → Sink) : (s.modSink x f).monitors = s.monitors := rfl
@[simp] theorem State.modSink_strings (s : State) (x : SinkNo) (f : Sink → Sink) : (s.modSink x f).strings = s.strings := rfl
@[simp] theorem State.modSink_packs (s : State) (x : SinkNo) (f : Sink → Sink) : (s.modSink x f).packs = s.packs := rfl
@[simp] theorem State.modSink_seq (s : State) (x : SinkNo) (f : Sink → Sink) : (s.modSink x f).seq = s.seq := rfl
@[simp] theorem State.modSink_thermal (s : State) (x : SinkNo) (f : Sink → Sink) : (s.modSink x f).thermal = s.thermal := rfl
@[simp] theorem State.modSink_lanes (s : State) (x : SinkNo) (f : Sink → Sink) : (s.modSink x f).lanes = s.lanes := rfl
@[simp] theorem State.modSink_can (s : State) (x : SinkNo) (f : Sink → Sink) : (s.modSink x f).can = s.can := rfl
@[simp] theorem State.modSink_hosts (s : State) (x : SinkNo) (f : Sink → Sink) : (s.modSink x f).hosts = s.hosts := rfl
@[simp] theorem State.modSink_hostsRefused (s : State) (x : SinkNo) (f : Sink → Sink) : (s.modSink x f).hostsRefused = s.hostsRefused := rfl
@[simp] theorem State.modSink_lockOwner (s : State) (x : SinkNo) (f : Sink → Sink) : (s.modSink x f).lockOwner = s.lockOwner := rfl
@[simp] theorem State.modSink_lockMs (s : State) (x : SinkNo) (f : Sink → Sink) : (s.modSink x f).lockMs = s.lockMs := rfl
@[simp] theorem State.modSink_wallOffsetMs (s : State) (x : SinkNo) (f : Sink → Sink) : (s.modSink x f).wallOffsetMs = s.wallOffsetMs := rfl
@[simp] theorem State.modSink_tpdoLast (s : State) (x : SinkNo) (f : Sink → Sink) : (s.modSink x f).tpdoLast = s.tpdoLast := rfl
@[simp] theorem State.modSink_tpdoInhibit (s : State) (x : SinkNo) (f : Sink → Sink) : (s.modSink x f).tpdoInhibit = s.tpdoInhibit := rfl
@[simp] theorem State.modSink_tpdoDue (s : State) (x : SinkNo) (f : Sink → Sink) : (s.modSink x f).tpdoDue = s.tpdoDue := rfl
@[simp] theorem State.modSink_tpdoUs (s : State) (x : SinkNo) (f : Sink → Sink) : (s.modSink x f).tpdoUs = s.tpdoUs := rfl
@[simp] theorem State.modSink_checkUs (s : State) (x : SinkNo) (f : Sink → Sink) : (s.modSink x f).checkUs = s.checkUs := rfl
@[simp] theorem State.modSink_tpdoSync (s : State) (x : SinkNo) (f : Sink → Sink) : (s.modSink x f).tpdoSync = s.tpdoSync := rfl
@[simp] theorem State.modSink_rpdoSecond (s : State) (x : SinkNo) (f : Sink → Sink) : (s.modSink x f).rpdoSecond = s.rpdoSecond := rfl
@[simp] theorem State.modSink_dap (s : State) (x : SinkNo) (f : Sink → Sink) : (s.modSink x f).dap = s.dap := rfl
@[simp] theorem State.modSink_dict (s : State) (x : SinkNo) (f : Sink → Sink) : (s.modSink x f).dict = s.dict := rfl
@[simp] theorem State.modSink_tw (s : State) (x : SinkNo) (f : Sink → Sink) : (s.modSink x f).tw = s.tw := rfl
@[simp] theorem State.modSink_regs (s : State) (x : SinkNo) (f : Sink → Sink) : (s.modSink x f).regs = s.regs := rfl
@[simp] theorem State.modSink_cores (s : State) (x : SinkNo) (f : Sink → Sink) : (s.modSink x f).cores = s.cores := rfl
@[simp] theorem State.modSink_srcs (s : State) (x : SinkNo) (f : Sink → Sink) : (s.modSink x f).srcs = s.srcs := rfl
@[simp] theorem State.modSink_scrubOrder (s : State) (x : SinkNo) (f : Sink → Sink) : (s.modSink x f).scrubOrder = s.scrubOrder := rfl
@[simp] theorem State.modSink_badBanks (s : State) (x : SinkNo) (f : Sink → Sink) : (s.modSink x f).badBanks = s.badBanks := rfl
@[simp] theorem State.modSink_recorder (s : State) (x : SinkNo) (f : Sink → Sink) : (s.modSink x f).recorder = s.recorder := rfl
@[simp] theorem State.modSink_fw (s : State) (x : SinkNo) (f : Sink → Sink) : (s.modSink x f).fw = s.fw := rfl
@[simp] theorem State.modSink_heldBlocks (s : State) (x : SinkNo) (f : Sink → Sink) : (s.modSink x f).heldBlocks = s.heldBlocks := rfl
@[simp] theorem State.modSink_heldOther (s : State) (x : SinkNo) (f : Sink → Sink) : (s.modSink x f).heldOther = s.heldOther := rfl

/-! modGrant. -/
@[simp] theorem State.modGrant_pending (s : State) (g : GrantNo) (f : Grant → Grant) : (s.modGrant g f).pending = s.pending := rfl
@[simp] theorem State.modGrant_freeCount (s : State) (g : GrantNo) (f : Grant → Grant) : (s.modGrant g f).freeCount = s.freeCount := rfl
@[simp] theorem State.modGrant_reply (s : State) (g : GrantNo) (f : Grant → Grant) : (s.modGrant g f).reply = s.reply := rfl
@[simp] theorem State.modGrant_sent (s : State) (g : GrantNo) (f : Grant → Grant) : (s.modGrant g f).sent = s.sent := rfl
@[simp] theorem State.modGrant_phase (s : State) (g : GrantNo) (f : Grant → Grant) : (s.modGrant g f).phase = s.phase := rfl
@[simp] theorem State.modGrant_manage (s : State) (g : GrantNo) (f : Grant → Grant) : (s.modGrant g f).manage = s.manage := rfl
@[simp] theorem State.modGrant_clk (s : State) (g : GrantNo) (f : Grant → Grant) : (s.modGrant g f).clk = s.clk := rfl
@[simp] theorem State.modGrant_pins (s : State) (g : GrantNo) (f : Grant → Grant) : (s.modGrant g f).pins = s.pins := rfl
@[simp] theorem State.modGrant_syncPins (s : State) (g : GrantNo) (f : Grant → Grant) : (s.modGrant g f).syncPins = s.syncPins := rfl
@[simp] theorem State.modGrant_modes (s : State) (g : GrantNo) (f : Grant → Grant) : (s.modGrant g f).modes = s.modes := rfl
@[simp] theorem State.modGrant_own (s : State) (g : GrantNo) (f : Grant → Grant) : (s.modGrant g f).own = s.own := rfl
@[simp] theorem State.modGrant_cells (s : State) (g : GrantNo) (f : Grant → Grant) : (s.modGrant g f).cells = s.cells := rfl
@[simp] theorem State.modGrant_loops (s : State) (g : GrantNo) (f : Grant → Grant) : (s.modGrant g f).loops = s.loops := rfl
@[simp] theorem State.modGrant_traces (s : State) (g : GrantNo) (f : Grant → Grant) : (s.modGrant g f).traces = s.traces := rfl
@[simp] theorem State.modGrant_groups (s : State) (g : GrantNo) (f : Grant → Grant) : (s.modGrant g f).groups = s.groups := rfl
@[simp] theorem State.modGrant_bus (s : State) (g : GrantNo) (f : Grant → Grant) : (s.modGrant g f).bus = s.bus := rfl
@[simp] theorem State.modGrant_alloc (s : State) (g : GrantNo) (f : Grant → Grant) : (s.modGrant g f).alloc = s.alloc := rfl
@[simp] theorem State.modGrant_allocNext (s : State) (g : GrantNo) (f : Grant → Grant) : (s.modGrant g f).allocNext = s.allocNext := rfl
@[simp] theorem State.modGrant_solveCount (s : State) (g : GrantNo) (f : Grant → Grant) : (s.modGrant g f).solveCount = s.solveCount := rfl
@[simp] theorem State.modGrant_idGroup (s : State) (g : GrantNo) (f : Grant → Grant) : (s.modGrant g f).idGroup = s.idGroup := rfl
@[simp] theorem State.modGrant_idAt (s : State) (g : GrantNo) (f : Grant → Grant) : (s.modGrant g f).idAt = s.idAt := rfl
@[simp] theorem State.modGrant_idCycleUs (s : State) (g : GrantNo) (f : Grant → Grant) : (s.modGrant g f).idCycleUs = s.idCycleUs := rfl
@[simp] theorem State.modGrant_refHalf (s : State) (g : GrantNo) (f : Grant → Grant) : (s.modGrant g f).refHalf = s.refHalf := rfl
@[simp] theorem State.modGrant_monitors (s : State) (g : GrantNo) (f : Grant → Grant) : (s.modGrant g f).monitors = s.monitors := rfl
@[simp] theorem State.modGrant_strings (s : State) (g : GrantNo) (f : Grant → Grant) : (s.modGrant g f).strings = s.strings := rfl
@[simp] theorem State.modGrant_packs (s : State) (g : GrantNo) (f : Grant → Grant) : (s.modGrant g f).packs = s.packs := rfl
@[simp] theorem State.modGrant_seq (s : State) (g : GrantNo) (f : Grant → Grant) : (s.modGrant g f).seq = s.seq := rfl
@[simp] theorem State.modGrant_thermal (s : State) (g : GrantNo) (f : Grant → Grant) : (s.modGrant g f).thermal = s.thermal := rfl
@[simp] theorem State.modGrant_lanes (s : State) (g : GrantNo) (f : Grant → Grant) : (s.modGrant g f).lanes = s.lanes := rfl
@[simp] theorem State.modGrant_can (s : State) (g : GrantNo) (f : Grant → Grant) : (s.modGrant g f).can = s.can := rfl
@[simp] theorem State.modGrant_hosts (s : State) (g : GrantNo) (f : Grant → Grant) : (s.modGrant g f).hosts = s.hosts := rfl
@[simp] theorem State.modGrant_hostsRefused (s : State) (g : GrantNo) (f : Grant → Grant) : (s.modGrant g f).hostsRefused = s.hostsRefused := rfl
@[simp] theorem State.modGrant_lockOwner (s : State) (g : GrantNo) (f : Grant → Grant) : (s.modGrant g f).lockOwner = s.lockOwner := rfl
@[simp] theorem State.modGrant_lockMs (s : State) (g : GrantNo) (f : Grant → Grant) : (s.modGrant g f).lockMs = s.lockMs := rfl
@[simp] theorem State.modGrant_wallOffsetMs (s : State) (g : GrantNo) (f : Grant → Grant) : (s.modGrant g f).wallOffsetMs = s.wallOffsetMs := rfl
@[simp] theorem State.modGrant_tpdoLast (s : State) (g : GrantNo) (f : Grant → Grant) : (s.modGrant g f).tpdoLast = s.tpdoLast := rfl
@[simp] theorem State.modGrant_tpdoInhibit (s : State) (g : GrantNo) (f : Grant → Grant) : (s.modGrant g f).tpdoInhibit = s.tpdoInhibit := rfl
@[simp] theorem State.modGrant_tpdoDue (s : State) (g : GrantNo) (f : Grant → Grant) : (s.modGrant g f).tpdoDue = s.tpdoDue := rfl
@[simp] theorem State.modGrant_tpdoUs (s : State) (g : GrantNo) (f : Grant → Grant) : (s.modGrant g f).tpdoUs = s.tpdoUs := rfl
@[simp] theorem State.modGrant_checkUs (s : State) (g : GrantNo) (f : Grant → Grant) : (s.modGrant g f).checkUs = s.checkUs := rfl
@[simp] theorem State.modGrant_tpdoSync (s : State) (g : GrantNo) (f : Grant → Grant) : (s.modGrant g f).tpdoSync = s.tpdoSync := rfl
@[simp] theorem State.modGrant_rpdoSecond (s : State) (g : GrantNo) (f : Grant → Grant) : (s.modGrant g f).rpdoSecond = s.rpdoSecond := rfl
@[simp] theorem State.modGrant_dap (s : State) (g : GrantNo) (f : Grant → Grant) : (s.modGrant g f).dap = s.dap := rfl
@[simp] theorem State.modGrant_dict (s : State) (g : GrantNo) (f : Grant → Grant) : (s.modGrant g f).dict = s.dict := rfl
@[simp] theorem State.modGrant_tw (s : State) (g : GrantNo) (f : Grant → Grant) : (s.modGrant g f).tw = s.tw := rfl
@[simp] theorem State.modGrant_regs (s : State) (g : GrantNo) (f : Grant → Grant) : (s.modGrant g f).regs = s.regs := rfl
@[simp] theorem State.modGrant_cores (s : State) (g : GrantNo) (f : Grant → Grant) : (s.modGrant g f).cores = s.cores := rfl
@[simp] theorem State.modGrant_srcs (s : State) (g : GrantNo) (f : Grant → Grant) : (s.modGrant g f).srcs = s.srcs := rfl
@[simp] theorem State.modGrant_scrubOrder (s : State) (g : GrantNo) (f : Grant → Grant) : (s.modGrant g f).scrubOrder = s.scrubOrder := rfl
@[simp] theorem State.modGrant_badBanks (s : State) (g : GrantNo) (f : Grant → Grant) : (s.modGrant g f).badBanks = s.badBanks := rfl
@[simp] theorem State.modGrant_recorder (s : State) (g : GrantNo) (f : Grant → Grant) : (s.modGrant g f).recorder = s.recorder := rfl
@[simp] theorem State.modGrant_fw (s : State) (g : GrantNo) (f : Grant → Grant) : (s.modGrant g f).fw = s.fw := rfl
@[simp] theorem State.modGrant_heldBlocks (s : State) (g : GrantNo) (f : Grant → Grant) : (s.modGrant g f).heldBlocks = s.heldBlocks := rfl
@[simp] theorem State.modGrant_heldOther (s : State) (g : GrantNo) (f : Grant → Grant) : (s.modGrant g f).heldOther = s.heldOther := rfl

/-! modSeq. -/
@[simp] theorem State.modSeq_pending (s : State) (f : Seq → Seq) : (s.modSeq f).pending = s.pending := rfl
@[simp] theorem State.modSeq_freeCount (s : State) (f : Seq → Seq) : (s.modSeq f).freeCount = s.freeCount := rfl
@[simp] theorem State.modSeq_reply (s : State) (f : Seq → Seq) : (s.modSeq f).reply = s.reply := rfl
@[simp] theorem State.modSeq_sent (s : State) (f : Seq → Seq) : (s.modSeq f).sent = s.sent := rfl
@[simp] theorem State.modSeq_phase (s : State) (f : Seq → Seq) : (s.modSeq f).phase = s.phase := rfl
@[simp] theorem State.modSeq_manage (s : State) (f : Seq → Seq) : (s.modSeq f).manage = s.manage := rfl
@[simp] theorem State.modSeq_clk (s : State) (f : Seq → Seq) : (s.modSeq f).clk = s.clk := rfl
@[simp] theorem State.modSeq_pins (s : State) (f : Seq → Seq) : (s.modSeq f).pins = s.pins := rfl
@[simp] theorem State.modSeq_syncPins (s : State) (f : Seq → Seq) : (s.modSeq f).syncPins = s.syncPins := rfl
@[simp] theorem State.modSeq_modes (s : State) (f : Seq → Seq) : (s.modSeq f).modes = s.modes := rfl
@[simp] theorem State.modSeq_own (s : State) (f : Seq → Seq) : (s.modSeq f).own = s.own := rfl
@[simp] theorem State.modSeq_cells (s : State) (f : Seq → Seq) : (s.modSeq f).cells = s.cells := rfl
@[simp] theorem State.modSeq_loops (s : State) (f : Seq → Seq) : (s.modSeq f).loops = s.loops := rfl
@[simp] theorem State.modSeq_traces (s : State) (f : Seq → Seq) : (s.modSeq f).traces = s.traces := rfl
@[simp] theorem State.modSeq_groups (s : State) (f : Seq → Seq) : (s.modSeq f).groups = s.groups := rfl
@[simp] theorem State.modSeq_bus (s : State) (f : Seq → Seq) : (s.modSeq f).bus = s.bus := rfl
@[simp] theorem State.modSeq_alloc (s : State) (f : Seq → Seq) : (s.modSeq f).alloc = s.alloc := rfl
@[simp] theorem State.modSeq_allocNext (s : State) (f : Seq → Seq) : (s.modSeq f).allocNext = s.allocNext := rfl
@[simp] theorem State.modSeq_solveCount (s : State) (f : Seq → Seq) : (s.modSeq f).solveCount = s.solveCount := rfl
@[simp] theorem State.modSeq_idGroup (s : State) (f : Seq → Seq) : (s.modSeq f).idGroup = s.idGroup := rfl
@[simp] theorem State.modSeq_idAt (s : State) (f : Seq → Seq) : (s.modSeq f).idAt = s.idAt := rfl
@[simp] theorem State.modSeq_idCycleUs (s : State) (f : Seq → Seq) : (s.modSeq f).idCycleUs = s.idCycleUs := rfl
@[simp] theorem State.modSeq_refHalf (s : State) (f : Seq → Seq) : (s.modSeq f).refHalf = s.refHalf := rfl
@[simp] theorem State.modSeq_monitors (s : State) (f : Seq → Seq) : (s.modSeq f).monitors = s.monitors := rfl
@[simp] theorem State.modSeq_ledger (s : State) (f : Seq → Seq) : (s.modSeq f).ledger = s.ledger := rfl
@[simp] theorem State.modSeq_strings (s : State) (f : Seq → Seq) : (s.modSeq f).strings = s.strings := rfl
@[simp] theorem State.modSeq_packs (s : State) (f : Seq → Seq) : (s.modSeq f).packs = s.packs := rfl
@[simp] theorem State.modSeq_thermal (s : State) (f : Seq → Seq) : (s.modSeq f).thermal = s.thermal := rfl
@[simp] theorem State.modSeq_lanes (s : State) (f : Seq → Seq) : (s.modSeq f).lanes = s.lanes := rfl
@[simp] theorem State.modSeq_can (s : State) (f : Seq → Seq) : (s.modSeq f).can = s.can := rfl
@[simp] theorem State.modSeq_hosts (s : State) (f : Seq → Seq) : (s.modSeq f).hosts = s.hosts := rfl
@[simp] theorem State.modSeq_hostsRefused (s : State) (f : Seq → Seq) : (s.modSeq f).hostsRefused = s.hostsRefused := rfl
@[simp] theorem State.modSeq_lockOwner (s : State) (f : Seq → Seq) : (s.modSeq f).lockOwner = s.lockOwner := rfl
@[simp] theorem State.modSeq_lockMs (s : State) (f : Seq → Seq) : (s.modSeq f).lockMs = s.lockMs := rfl
@[simp] theorem State.modSeq_wallOffsetMs (s : State) (f : Seq → Seq) : (s.modSeq f).wallOffsetMs = s.wallOffsetMs := rfl
@[simp] theorem State.modSeq_tpdoLast (s : State) (f : Seq → Seq) : (s.modSeq f).tpdoLast = s.tpdoLast := rfl
@[simp] theorem State.modSeq_tpdoInhibit (s : State) (f : Seq → Seq) : (s.modSeq f).tpdoInhibit = s.tpdoInhibit := rfl
@[simp] theorem State.modSeq_tpdoDue (s : State) (f : Seq → Seq) : (s.modSeq f).tpdoDue = s.tpdoDue := rfl
@[simp] theorem State.modSeq_tpdoUs (s : State) (f : Seq → Seq) : (s.modSeq f).tpdoUs = s.tpdoUs := rfl
@[simp] theorem State.modSeq_checkUs (s : State) (f : Seq → Seq) : (s.modSeq f).checkUs = s.checkUs := rfl
@[simp] theorem State.modSeq_tpdoSync (s : State) (f : Seq → Seq) : (s.modSeq f).tpdoSync = s.tpdoSync := rfl
@[simp] theorem State.modSeq_rpdoSecond (s : State) (f : Seq → Seq) : (s.modSeq f).rpdoSecond = s.rpdoSecond := rfl
@[simp] theorem State.modSeq_dap (s : State) (f : Seq → Seq) : (s.modSeq f).dap = s.dap := rfl
@[simp] theorem State.modSeq_dict (s : State) (f : Seq → Seq) : (s.modSeq f).dict = s.dict := rfl
@[simp] theorem State.modSeq_tw (s : State) (f : Seq → Seq) : (s.modSeq f).tw = s.tw := rfl
@[simp] theorem State.modSeq_regs (s : State) (f : Seq → Seq) : (s.modSeq f).regs = s.regs := rfl
@[simp] theorem State.modSeq_cores (s : State) (f : Seq → Seq) : (s.modSeq f).cores = s.cores := rfl
@[simp] theorem State.modSeq_srcs (s : State) (f : Seq → Seq) : (s.modSeq f).srcs = s.srcs := rfl
@[simp] theorem State.modSeq_scrubOrder (s : State) (f : Seq → Seq) : (s.modSeq f).scrubOrder = s.scrubOrder := rfl
@[simp] theorem State.modSeq_badBanks (s : State) (f : Seq → Seq) : (s.modSeq f).badBanks = s.badBanks := rfl
@[simp] theorem State.modSeq_recorder (s : State) (f : Seq → Seq) : (s.modSeq f).recorder = s.recorder := rfl
@[simp] theorem State.modSeq_fw (s : State) (f : Seq → Seq) : (s.modSeq f).fw = s.fw := rfl
@[simp] theorem State.modSeq_heldBlocks (s : State) (f : Seq → Seq) : (s.modSeq f).heldBlocks = s.heldBlocks := rfl
@[simp] theorem State.modSeq_heldOther (s : State) (f : Seq → Seq) : (s.modSeq f).heldOther = s.heldOther := rfl
@[simp] theorem State.modSeq_seq (s : State) (f : Seq → Seq) : (s.modSeq f).seq = f s.seq := rfl

/-! modRail. -/
@[simp] theorem State.modRail_pending (s : State) (r : RailNo) (f : Rail → Rail) : (s.modRail r f).pending = s.pending := rfl
@[simp] theorem State.modRail_freeCount (s : State) (r : RailNo) (f : Rail → Rail) : (s.modRail r f).freeCount = s.freeCount := rfl
@[simp] theorem State.modRail_reply (s : State) (r : RailNo) (f : Rail → Rail) : (s.modRail r f).reply = s.reply := rfl
@[simp] theorem State.modRail_sent (s : State) (r : RailNo) (f : Rail → Rail) : (s.modRail r f).sent = s.sent := rfl
@[simp] theorem State.modRail_phase (s : State) (r : RailNo) (f : Rail → Rail) : (s.modRail r f).phase = s.phase := rfl
@[simp] theorem State.modRail_manage (s : State) (r : RailNo) (f : Rail → Rail) : (s.modRail r f).manage = s.manage := rfl
@[simp] theorem State.modRail_clk (s : State) (r : RailNo) (f : Rail → Rail) : (s.modRail r f).clk = s.clk := rfl
@[simp] theorem State.modRail_pins (s : State) (r : RailNo) (f : Rail → Rail) : (s.modRail r f).pins = s.pins := rfl
@[simp] theorem State.modRail_syncPins (s : State) (r : RailNo) (f : Rail → Rail) : (s.modRail r f).syncPins = s.syncPins := rfl
@[simp] theorem State.modRail_modes (s : State) (r : RailNo) (f : Rail → Rail) : (s.modRail r f).modes = s.modes := rfl
@[simp] theorem State.modRail_own (s : State) (r : RailNo) (f : Rail → Rail) : (s.modRail r f).own = s.own := rfl
@[simp] theorem State.modRail_cells (s : State) (r : RailNo) (f : Rail → Rail) : (s.modRail r f).cells = s.cells := rfl
@[simp] theorem State.modRail_loops (s : State) (r : RailNo) (f : Rail → Rail) : (s.modRail r f).loops = s.loops := rfl
@[simp] theorem State.modRail_traces (s : State) (r : RailNo) (f : Rail → Rail) : (s.modRail r f).traces = s.traces := rfl
@[simp] theorem State.modRail_groups (s : State) (r : RailNo) (f : Rail → Rail) : (s.modRail r f).groups = s.groups := rfl
@[simp] theorem State.modRail_bus (s : State) (r : RailNo) (f : Rail → Rail) : (s.modRail r f).bus = s.bus := rfl
@[simp] theorem State.modRail_alloc (s : State) (r : RailNo) (f : Rail → Rail) : (s.modRail r f).alloc = s.alloc := rfl
@[simp] theorem State.modRail_allocNext (s : State) (r : RailNo) (f : Rail → Rail) : (s.modRail r f).allocNext = s.allocNext := rfl
@[simp] theorem State.modRail_solveCount (s : State) (r : RailNo) (f : Rail → Rail) : (s.modRail r f).solveCount = s.solveCount := rfl
@[simp] theorem State.modRail_idGroup (s : State) (r : RailNo) (f : Rail → Rail) : (s.modRail r f).idGroup = s.idGroup := rfl
@[simp] theorem State.modRail_idAt (s : State) (r : RailNo) (f : Rail → Rail) : (s.modRail r f).idAt = s.idAt := rfl
@[simp] theorem State.modRail_idCycleUs (s : State) (r : RailNo) (f : Rail → Rail) : (s.modRail r f).idCycleUs = s.idCycleUs := rfl
@[simp] theorem State.modRail_refHalf (s : State) (r : RailNo) (f : Rail → Rail) : (s.modRail r f).refHalf = s.refHalf := rfl
@[simp] theorem State.modRail_monitors (s : State) (r : RailNo) (f : Rail → Rail) : (s.modRail r f).monitors = s.monitors := rfl
@[simp] theorem State.modRail_ledger (s : State) (r : RailNo) (f : Rail → Rail) : (s.modRail r f).ledger = s.ledger := rfl
@[simp] theorem State.modRail_strings (s : State) (r : RailNo) (f : Rail → Rail) : (s.modRail r f).strings = s.strings := rfl
@[simp] theorem State.modRail_packs (s : State) (r : RailNo) (f : Rail → Rail) : (s.modRail r f).packs = s.packs := rfl
@[simp] theorem State.modRail_thermal (s : State) (r : RailNo) (f : Rail → Rail) : (s.modRail r f).thermal = s.thermal := rfl
@[simp] theorem State.modRail_lanes (s : State) (r : RailNo) (f : Rail → Rail) : (s.modRail r f).lanes = s.lanes := rfl
@[simp] theorem State.modRail_can (s : State) (r : RailNo) (f : Rail → Rail) : (s.modRail r f).can = s.can := rfl
@[simp] theorem State.modRail_hosts (s : State) (r : RailNo) (f : Rail → Rail) : (s.modRail r f).hosts = s.hosts := rfl
@[simp] theorem State.modRail_hostsRefused (s : State) (r : RailNo) (f : Rail → Rail) : (s.modRail r f).hostsRefused = s.hostsRefused := rfl
@[simp] theorem State.modRail_lockOwner (s : State) (r : RailNo) (f : Rail → Rail) : (s.modRail r f).lockOwner = s.lockOwner := rfl
@[simp] theorem State.modRail_lockMs (s : State) (r : RailNo) (f : Rail → Rail) : (s.modRail r f).lockMs = s.lockMs := rfl
@[simp] theorem State.modRail_wallOffsetMs (s : State) (r : RailNo) (f : Rail → Rail) : (s.modRail r f).wallOffsetMs = s.wallOffsetMs := rfl
@[simp] theorem State.modRail_tpdoLast (s : State) (r : RailNo) (f : Rail → Rail) : (s.modRail r f).tpdoLast = s.tpdoLast := rfl
@[simp] theorem State.modRail_tpdoInhibit (s : State) (r : RailNo) (f : Rail → Rail) : (s.modRail r f).tpdoInhibit = s.tpdoInhibit := rfl
@[simp] theorem State.modRail_tpdoDue (s : State) (r : RailNo) (f : Rail → Rail) : (s.modRail r f).tpdoDue = s.tpdoDue := rfl
@[simp] theorem State.modRail_tpdoUs (s : State) (r : RailNo) (f : Rail → Rail) : (s.modRail r f).tpdoUs = s.tpdoUs := rfl
@[simp] theorem State.modRail_checkUs (s : State) (r : RailNo) (f : Rail → Rail) : (s.modRail r f).checkUs = s.checkUs := rfl
@[simp] theorem State.modRail_tpdoSync (s : State) (r : RailNo) (f : Rail → Rail) : (s.modRail r f).tpdoSync = s.tpdoSync := rfl
@[simp] theorem State.modRail_rpdoSecond (s : State) (r : RailNo) (f : Rail → Rail) : (s.modRail r f).rpdoSecond = s.rpdoSecond := rfl
@[simp] theorem State.modRail_dap (s : State) (r : RailNo) (f : Rail → Rail) : (s.modRail r f).dap = s.dap := rfl
@[simp] theorem State.modRail_dict (s : State) (r : RailNo) (f : Rail → Rail) : (s.modRail r f).dict = s.dict := rfl
@[simp] theorem State.modRail_tw (s : State) (r : RailNo) (f : Rail → Rail) : (s.modRail r f).tw = s.tw := rfl
@[simp] theorem State.modRail_regs (s : State) (r : RailNo) (f : Rail → Rail) : (s.modRail r f).regs = s.regs := rfl
@[simp] theorem State.modRail_cores (s : State) (r : RailNo) (f : Rail → Rail) : (s.modRail r f).cores = s.cores := rfl
@[simp] theorem State.modRail_srcs (s : State) (r : RailNo) (f : Rail → Rail) : (s.modRail r f).srcs = s.srcs := rfl
@[simp] theorem State.modRail_scrubOrder (s : State) (r : RailNo) (f : Rail → Rail) : (s.modRail r f).scrubOrder = s.scrubOrder := rfl
@[simp] theorem State.modRail_badBanks (s : State) (r : RailNo) (f : Rail → Rail) : (s.modRail r f).badBanks = s.badBanks := rfl
@[simp] theorem State.modRail_recorder (s : State) (r : RailNo) (f : Rail → Rail) : (s.modRail r f).recorder = s.recorder := rfl
@[simp] theorem State.modRail_fw (s : State) (r : RailNo) (f : Rail → Rail) : (s.modRail r f).fw = s.fw := rfl
@[simp] theorem State.modRail_heldBlocks (s : State) (r : RailNo) (f : Rail → Rail) : (s.modRail r f).heldBlocks = s.heldBlocks := rfl
@[simp] theorem State.modRail_heldOther (s : State) (r : RailNo) (f : Rail → Rail) : (s.modRail r f).heldOther = s.heldOther := rfl

/-! modThermal. -/
@[simp] theorem State.modThermal_pending (s : State) (i : InputNo) (f : Thermal → Thermal) : (s.modThermal i f).pending = s.pending := rfl
@[simp] theorem State.modThermal_freeCount (s : State) (i : InputNo) (f : Thermal → Thermal) : (s.modThermal i f).freeCount = s.freeCount := rfl
@[simp] theorem State.modThermal_reply (s : State) (i : InputNo) (f : Thermal → Thermal) : (s.modThermal i f).reply = s.reply := rfl
@[simp] theorem State.modThermal_sent (s : State) (i : InputNo) (f : Thermal → Thermal) : (s.modThermal i f).sent = s.sent := rfl
@[simp] theorem State.modThermal_phase (s : State) (i : InputNo) (f : Thermal → Thermal) : (s.modThermal i f).phase = s.phase := rfl
@[simp] theorem State.modThermal_manage (s : State) (i : InputNo) (f : Thermal → Thermal) : (s.modThermal i f).manage = s.manage := rfl
@[simp] theorem State.modThermal_clk (s : State) (i : InputNo) (f : Thermal → Thermal) : (s.modThermal i f).clk = s.clk := rfl
@[simp] theorem State.modThermal_pins (s : State) (i : InputNo) (f : Thermal → Thermal) : (s.modThermal i f).pins = s.pins := rfl
@[simp] theorem State.modThermal_syncPins (s : State) (i : InputNo) (f : Thermal → Thermal) : (s.modThermal i f).syncPins = s.syncPins := rfl
@[simp] theorem State.modThermal_modes (s : State) (i : InputNo) (f : Thermal → Thermal) : (s.modThermal i f).modes = s.modes := rfl
@[simp] theorem State.modThermal_own (s : State) (i : InputNo) (f : Thermal → Thermal) : (s.modThermal i f).own = s.own := rfl
@[simp] theorem State.modThermal_cells (s : State) (i : InputNo) (f : Thermal → Thermal) : (s.modThermal i f).cells = s.cells := rfl
@[simp] theorem State.modThermal_loops (s : State) (i : InputNo) (f : Thermal → Thermal) : (s.modThermal i f).loops = s.loops := rfl
@[simp] theorem State.modThermal_traces (s : State) (i : InputNo) (f : Thermal → Thermal) : (s.modThermal i f).traces = s.traces := rfl
@[simp] theorem State.modThermal_groups (s : State) (i : InputNo) (f : Thermal → Thermal) : (s.modThermal i f).groups = s.groups := rfl
@[simp] theorem State.modThermal_bus (s : State) (i : InputNo) (f : Thermal → Thermal) : (s.modThermal i f).bus = s.bus := rfl
@[simp] theorem State.modThermal_alloc (s : State) (i : InputNo) (f : Thermal → Thermal) : (s.modThermal i f).alloc = s.alloc := rfl
@[simp] theorem State.modThermal_allocNext (s : State) (i : InputNo) (f : Thermal → Thermal) : (s.modThermal i f).allocNext = s.allocNext := rfl
@[simp] theorem State.modThermal_solveCount (s : State) (i : InputNo) (f : Thermal → Thermal) : (s.modThermal i f).solveCount = s.solveCount := rfl
@[simp] theorem State.modThermal_idGroup (s : State) (i : InputNo) (f : Thermal → Thermal) : (s.modThermal i f).idGroup = s.idGroup := rfl
@[simp] theorem State.modThermal_idAt (s : State) (i : InputNo) (f : Thermal → Thermal) : (s.modThermal i f).idAt = s.idAt := rfl
@[simp] theorem State.modThermal_idCycleUs (s : State) (i : InputNo) (f : Thermal → Thermal) : (s.modThermal i f).idCycleUs = s.idCycleUs := rfl
@[simp] theorem State.modThermal_refHalf (s : State) (i : InputNo) (f : Thermal → Thermal) : (s.modThermal i f).refHalf = s.refHalf := rfl
@[simp] theorem State.modThermal_monitors (s : State) (i : InputNo) (f : Thermal → Thermal) : (s.modThermal i f).monitors = s.monitors := rfl
@[simp] theorem State.modThermal_ledger (s : State) (i : InputNo) (f : Thermal → Thermal) : (s.modThermal i f).ledger = s.ledger := rfl
@[simp] theorem State.modThermal_strings (s : State) (i : InputNo) (f : Thermal → Thermal) : (s.modThermal i f).strings = s.strings := rfl
@[simp] theorem State.modThermal_packs (s : State) (i : InputNo) (f : Thermal → Thermal) : (s.modThermal i f).packs = s.packs := rfl
@[simp] theorem State.modThermal_seq (s : State) (i : InputNo) (f : Thermal → Thermal) : (s.modThermal i f).seq = s.seq := rfl
@[simp] theorem State.modThermal_lanes (s : State) (i : InputNo) (f : Thermal → Thermal) : (s.modThermal i f).lanes = s.lanes := rfl
@[simp] theorem State.modThermal_can (s : State) (i : InputNo) (f : Thermal → Thermal) : (s.modThermal i f).can = s.can := rfl
@[simp] theorem State.modThermal_hosts (s : State) (i : InputNo) (f : Thermal → Thermal) : (s.modThermal i f).hosts = s.hosts := rfl
@[simp] theorem State.modThermal_hostsRefused (s : State) (i : InputNo) (f : Thermal → Thermal) : (s.modThermal i f).hostsRefused = s.hostsRefused := rfl
@[simp] theorem State.modThermal_lockOwner (s : State) (i : InputNo) (f : Thermal → Thermal) : (s.modThermal i f).lockOwner = s.lockOwner := rfl
@[simp] theorem State.modThermal_lockMs (s : State) (i : InputNo) (f : Thermal → Thermal) : (s.modThermal i f).lockMs = s.lockMs := rfl
@[simp] theorem State.modThermal_wallOffsetMs (s : State) (i : InputNo) (f : Thermal → Thermal) : (s.modThermal i f).wallOffsetMs = s.wallOffsetMs := rfl
@[simp] theorem State.modThermal_tpdoLast (s : State) (i : InputNo) (f : Thermal → Thermal) : (s.modThermal i f).tpdoLast = s.tpdoLast := rfl
@[simp] theorem State.modThermal_tpdoInhibit (s : State) (i : InputNo) (f : Thermal → Thermal) : (s.modThermal i f).tpdoInhibit = s.tpdoInhibit := rfl
@[simp] theorem State.modThermal_tpdoDue (s : State) (i : InputNo) (f : Thermal → Thermal) : (s.modThermal i f).tpdoDue = s.tpdoDue := rfl
@[simp] theorem State.modThermal_tpdoUs (s : State) (i : InputNo) (f : Thermal → Thermal) : (s.modThermal i f).tpdoUs = s.tpdoUs := rfl
@[simp] theorem State.modThermal_checkUs (s : State) (i : InputNo) (f : Thermal → Thermal) : (s.modThermal i f).checkUs = s.checkUs := rfl
@[simp] theorem State.modThermal_tpdoSync (s : State) (i : InputNo) (f : Thermal → Thermal) : (s.modThermal i f).tpdoSync = s.tpdoSync := rfl
@[simp] theorem State.modThermal_rpdoSecond (s : State) (i : InputNo) (f : Thermal → Thermal) : (s.modThermal i f).rpdoSecond = s.rpdoSecond := rfl
@[simp] theorem State.modThermal_dap (s : State) (i : InputNo) (f : Thermal → Thermal) : (s.modThermal i f).dap = s.dap := rfl
@[simp] theorem State.modThermal_dict (s : State) (i : InputNo) (f : Thermal → Thermal) : (s.modThermal i f).dict = s.dict := rfl
@[simp] theorem State.modThermal_tw (s : State) (i : InputNo) (f : Thermal → Thermal) : (s.modThermal i f).tw = s.tw := rfl
@[simp] theorem State.modThermal_regs (s : State) (i : InputNo) (f : Thermal → Thermal) : (s.modThermal i f).regs = s.regs := rfl
@[simp] theorem State.modThermal_cores (s : State) (i : InputNo) (f : Thermal → Thermal) : (s.modThermal i f).cores = s.cores := rfl
@[simp] theorem State.modThermal_srcs (s : State) (i : InputNo) (f : Thermal → Thermal) : (s.modThermal i f).srcs = s.srcs := rfl
@[simp] theorem State.modThermal_scrubOrder (s : State) (i : InputNo) (f : Thermal → Thermal) : (s.modThermal i f).scrubOrder = s.scrubOrder := rfl
@[simp] theorem State.modThermal_badBanks (s : State) (i : InputNo) (f : Thermal → Thermal) : (s.modThermal i f).badBanks = s.badBanks := rfl
@[simp] theorem State.modThermal_recorder (s : State) (i : InputNo) (f : Thermal → Thermal) : (s.modThermal i f).recorder = s.recorder := rfl
@[simp] theorem State.modThermal_fw (s : State) (i : InputNo) (f : Thermal → Thermal) : (s.modThermal i f).fw = s.fw := rfl
@[simp] theorem State.modThermal_heldBlocks (s : State) (i : InputNo) (f : Thermal → Thermal) : (s.modThermal i f).heldBlocks = s.heldBlocks := rfl
@[simp] theorem State.modThermal_heldOther (s : State) (i : InputNo) (f : Thermal → Thermal) : (s.modThermal i f).heldOther = s.heldOther := rfl
@[simp] theorem State.modThermal_self (s : State) (i : InputNo) (f : Thermal → Thermal) : (s.modThermal i f).thermal[(i : Nat)] = f s.thermal[(i : Nat)] := by simp [State.modThermal]
theorem State.modThermal_ne (s : State) (i : InputNo) (f : Thermal → Thermal) {j : InputNo} (hj : j ≠ i) : (s.modThermal i f).thermal[(j : Nat)] = s.thermal[(j : Nat)] := by
  have hj : (i : Nat) ≠ j := fun e => hj (Fin.ext e.symm)
  simp [State.modThermal, Vector.getElem_set_ne, hj]

/-! modLanes. -/
@[simp] theorem State.modLanes_pending (s : State) (f : Lanes → Lanes) : (s.modLanes f).pending = s.pending := rfl
@[simp] theorem State.modLanes_freeCount (s : State) (f : Lanes → Lanes) : (s.modLanes f).freeCount = s.freeCount := rfl
@[simp] theorem State.modLanes_reply (s : State) (f : Lanes → Lanes) : (s.modLanes f).reply = s.reply := rfl
@[simp] theorem State.modLanes_sent (s : State) (f : Lanes → Lanes) : (s.modLanes f).sent = s.sent := rfl
@[simp] theorem State.modLanes_phase (s : State) (f : Lanes → Lanes) : (s.modLanes f).phase = s.phase := rfl
@[simp] theorem State.modLanes_manage (s : State) (f : Lanes → Lanes) : (s.modLanes f).manage = s.manage := rfl
@[simp] theorem State.modLanes_clk (s : State) (f : Lanes → Lanes) : (s.modLanes f).clk = s.clk := rfl
@[simp] theorem State.modLanes_pins (s : State) (f : Lanes → Lanes) : (s.modLanes f).pins = s.pins := rfl
@[simp] theorem State.modLanes_syncPins (s : State) (f : Lanes → Lanes) : (s.modLanes f).syncPins = s.syncPins := rfl
@[simp] theorem State.modLanes_modes (s : State) (f : Lanes → Lanes) : (s.modLanes f).modes = s.modes := rfl
@[simp] theorem State.modLanes_own (s : State) (f : Lanes → Lanes) : (s.modLanes f).own = s.own := rfl
@[simp] theorem State.modLanes_cells (s : State) (f : Lanes → Lanes) : (s.modLanes f).cells = s.cells := rfl
@[simp] theorem State.modLanes_loops (s : State) (f : Lanes → Lanes) : (s.modLanes f).loops = s.loops := rfl
@[simp] theorem State.modLanes_traces (s : State) (f : Lanes → Lanes) : (s.modLanes f).traces = s.traces := rfl
@[simp] theorem State.modLanes_groups (s : State) (f : Lanes → Lanes) : (s.modLanes f).groups = s.groups := rfl
@[simp] theorem State.modLanes_bus (s : State) (f : Lanes → Lanes) : (s.modLanes f).bus = s.bus := rfl
@[simp] theorem State.modLanes_alloc (s : State) (f : Lanes → Lanes) : (s.modLanes f).alloc = s.alloc := rfl
@[simp] theorem State.modLanes_allocNext (s : State) (f : Lanes → Lanes) : (s.modLanes f).allocNext = s.allocNext := rfl
@[simp] theorem State.modLanes_solveCount (s : State) (f : Lanes → Lanes) : (s.modLanes f).solveCount = s.solveCount := rfl
@[simp] theorem State.modLanes_idGroup (s : State) (f : Lanes → Lanes) : (s.modLanes f).idGroup = s.idGroup := rfl
@[simp] theorem State.modLanes_idAt (s : State) (f : Lanes → Lanes) : (s.modLanes f).idAt = s.idAt := rfl
@[simp] theorem State.modLanes_idCycleUs (s : State) (f : Lanes → Lanes) : (s.modLanes f).idCycleUs = s.idCycleUs := rfl
@[simp] theorem State.modLanes_refHalf (s : State) (f : Lanes → Lanes) : (s.modLanes f).refHalf = s.refHalf := rfl
@[simp] theorem State.modLanes_monitors (s : State) (f : Lanes → Lanes) : (s.modLanes f).monitors = s.monitors := rfl
@[simp] theorem State.modLanes_ledger (s : State) (f : Lanes → Lanes) : (s.modLanes f).ledger = s.ledger := rfl
@[simp] theorem State.modLanes_strings (s : State) (f : Lanes → Lanes) : (s.modLanes f).strings = s.strings := rfl
@[simp] theorem State.modLanes_packs (s : State) (f : Lanes → Lanes) : (s.modLanes f).packs = s.packs := rfl
@[simp] theorem State.modLanes_seq (s : State) (f : Lanes → Lanes) : (s.modLanes f).seq = s.seq := rfl
@[simp] theorem State.modLanes_thermal (s : State) (f : Lanes → Lanes) : (s.modLanes f).thermal = s.thermal := rfl
@[simp] theorem State.modLanes_can (s : State) (f : Lanes → Lanes) : (s.modLanes f).can = s.can := rfl
@[simp] theorem State.modLanes_hosts (s : State) (f : Lanes → Lanes) : (s.modLanes f).hosts = s.hosts := rfl
@[simp] theorem State.modLanes_hostsRefused (s : State) (f : Lanes → Lanes) : (s.modLanes f).hostsRefused = s.hostsRefused := rfl
@[simp] theorem State.modLanes_lockOwner (s : State) (f : Lanes → Lanes) : (s.modLanes f).lockOwner = s.lockOwner := rfl
@[simp] theorem State.modLanes_lockMs (s : State) (f : Lanes → Lanes) : (s.modLanes f).lockMs = s.lockMs := rfl
@[simp] theorem State.modLanes_wallOffsetMs (s : State) (f : Lanes → Lanes) : (s.modLanes f).wallOffsetMs = s.wallOffsetMs := rfl
@[simp] theorem State.modLanes_tpdoLast (s : State) (f : Lanes → Lanes) : (s.modLanes f).tpdoLast = s.tpdoLast := rfl
@[simp] theorem State.modLanes_tpdoInhibit (s : State) (f : Lanes → Lanes) : (s.modLanes f).tpdoInhibit = s.tpdoInhibit := rfl
@[simp] theorem State.modLanes_tpdoDue (s : State) (f : Lanes → Lanes) : (s.modLanes f).tpdoDue = s.tpdoDue := rfl
@[simp] theorem State.modLanes_tpdoUs (s : State) (f : Lanes → Lanes) : (s.modLanes f).tpdoUs = s.tpdoUs := rfl
@[simp] theorem State.modLanes_checkUs (s : State) (f : Lanes → Lanes) : (s.modLanes f).checkUs = s.checkUs := rfl
@[simp] theorem State.modLanes_tpdoSync (s : State) (f : Lanes → Lanes) : (s.modLanes f).tpdoSync = s.tpdoSync := rfl
@[simp] theorem State.modLanes_rpdoSecond (s : State) (f : Lanes → Lanes) : (s.modLanes f).rpdoSecond = s.rpdoSecond := rfl
@[simp] theorem State.modLanes_dap (s : State) (f : Lanes → Lanes) : (s.modLanes f).dap = s.dap := rfl
@[simp] theorem State.modLanes_dict (s : State) (f : Lanes → Lanes) : (s.modLanes f).dict = s.dict := rfl
@[simp] theorem State.modLanes_tw (s : State) (f : Lanes → Lanes) : (s.modLanes f).tw = s.tw := rfl
@[simp] theorem State.modLanes_regs (s : State) (f : Lanes → Lanes) : (s.modLanes f).regs = s.regs := rfl
@[simp] theorem State.modLanes_cores (s : State) (f : Lanes → Lanes) : (s.modLanes f).cores = s.cores := rfl
@[simp] theorem State.modLanes_srcs (s : State) (f : Lanes → Lanes) : (s.modLanes f).srcs = s.srcs := rfl
@[simp] theorem State.modLanes_scrubOrder (s : State) (f : Lanes → Lanes) : (s.modLanes f).scrubOrder = s.scrubOrder := rfl
@[simp] theorem State.modLanes_badBanks (s : State) (f : Lanes → Lanes) : (s.modLanes f).badBanks = s.badBanks := rfl
@[simp] theorem State.modLanes_recorder (s : State) (f : Lanes → Lanes) : (s.modLanes f).recorder = s.recorder := rfl
@[simp] theorem State.modLanes_fw (s : State) (f : Lanes → Lanes) : (s.modLanes f).fw = s.fw := rfl
@[simp] theorem State.modLanes_heldBlocks (s : State) (f : Lanes → Lanes) : (s.modLanes f).heldBlocks = s.heldBlocks := rfl
@[simp] theorem State.modLanes_heldOther (s : State) (f : Lanes → Lanes) : (s.modLanes f).heldOther = s.heldOther := rfl
@[simp] theorem State.modLanes_lanes (s : State) (f : Lanes → Lanes) : (s.modLanes f).lanes = f s.lanes := rfl

/-! modCan. -/
@[simp] theorem State.modCan_pending (s : State) (p : CanNo) (f : Can → Can) : (s.modCan p f).pending = s.pending := rfl
@[simp] theorem State.modCan_freeCount (s : State) (p : CanNo) (f : Can → Can) : (s.modCan p f).freeCount = s.freeCount := rfl
@[simp] theorem State.modCan_reply (s : State) (p : CanNo) (f : Can → Can) : (s.modCan p f).reply = s.reply := rfl
@[simp] theorem State.modCan_sent (s : State) (p : CanNo) (f : Can → Can) : (s.modCan p f).sent = s.sent := rfl
@[simp] theorem State.modCan_phase (s : State) (p : CanNo) (f : Can → Can) : (s.modCan p f).phase = s.phase := rfl
@[simp] theorem State.modCan_manage (s : State) (p : CanNo) (f : Can → Can) : (s.modCan p f).manage = s.manage := rfl
@[simp] theorem State.modCan_clk (s : State) (p : CanNo) (f : Can → Can) : (s.modCan p f).clk = s.clk := rfl
@[simp] theorem State.modCan_pins (s : State) (p : CanNo) (f : Can → Can) : (s.modCan p f).pins = s.pins := rfl
@[simp] theorem State.modCan_syncPins (s : State) (p : CanNo) (f : Can → Can) : (s.modCan p f).syncPins = s.syncPins := rfl
@[simp] theorem State.modCan_modes (s : State) (p : CanNo) (f : Can → Can) : (s.modCan p f).modes = s.modes := rfl
@[simp] theorem State.modCan_own (s : State) (p : CanNo) (f : Can → Can) : (s.modCan p f).own = s.own := rfl
@[simp] theorem State.modCan_cells (s : State) (p : CanNo) (f : Can → Can) : (s.modCan p f).cells = s.cells := rfl
@[simp] theorem State.modCan_loops (s : State) (p : CanNo) (f : Can → Can) : (s.modCan p f).loops = s.loops := rfl
@[simp] theorem State.modCan_traces (s : State) (p : CanNo) (f : Can → Can) : (s.modCan p f).traces = s.traces := rfl
@[simp] theorem State.modCan_groups (s : State) (p : CanNo) (f : Can → Can) : (s.modCan p f).groups = s.groups := rfl
@[simp] theorem State.modCan_bus (s : State) (p : CanNo) (f : Can → Can) : (s.modCan p f).bus = s.bus := rfl
@[simp] theorem State.modCan_alloc (s : State) (p : CanNo) (f : Can → Can) : (s.modCan p f).alloc = s.alloc := rfl
@[simp] theorem State.modCan_allocNext (s : State) (p : CanNo) (f : Can → Can) : (s.modCan p f).allocNext = s.allocNext := rfl
@[simp] theorem State.modCan_solveCount (s : State) (p : CanNo) (f : Can → Can) : (s.modCan p f).solveCount = s.solveCount := rfl
@[simp] theorem State.modCan_idGroup (s : State) (p : CanNo) (f : Can → Can) : (s.modCan p f).idGroup = s.idGroup := rfl
@[simp] theorem State.modCan_idAt (s : State) (p : CanNo) (f : Can → Can) : (s.modCan p f).idAt = s.idAt := rfl
@[simp] theorem State.modCan_idCycleUs (s : State) (p : CanNo) (f : Can → Can) : (s.modCan p f).idCycleUs = s.idCycleUs := rfl
@[simp] theorem State.modCan_refHalf (s : State) (p : CanNo) (f : Can → Can) : (s.modCan p f).refHalf = s.refHalf := rfl
@[simp] theorem State.modCan_monitors (s : State) (p : CanNo) (f : Can → Can) : (s.modCan p f).monitors = s.monitors := rfl
@[simp] theorem State.modCan_ledger (s : State) (p : CanNo) (f : Can → Can) : (s.modCan p f).ledger = s.ledger := rfl
@[simp] theorem State.modCan_strings (s : State) (p : CanNo) (f : Can → Can) : (s.modCan p f).strings = s.strings := rfl
@[simp] theorem State.modCan_packs (s : State) (p : CanNo) (f : Can → Can) : (s.modCan p f).packs = s.packs := rfl
@[simp] theorem State.modCan_seq (s : State) (p : CanNo) (f : Can → Can) : (s.modCan p f).seq = s.seq := rfl
@[simp] theorem State.modCan_thermal (s : State) (p : CanNo) (f : Can → Can) : (s.modCan p f).thermal = s.thermal := rfl
@[simp] theorem State.modCan_lanes (s : State) (p : CanNo) (f : Can → Can) : (s.modCan p f).lanes = s.lanes := rfl
@[simp] theorem State.modCan_hosts (s : State) (p : CanNo) (f : Can → Can) : (s.modCan p f).hosts = s.hosts := rfl
@[simp] theorem State.modCan_hostsRefused (s : State) (p : CanNo) (f : Can → Can) : (s.modCan p f).hostsRefused = s.hostsRefused := rfl
@[simp] theorem State.modCan_lockOwner (s : State) (p : CanNo) (f : Can → Can) : (s.modCan p f).lockOwner = s.lockOwner := rfl
@[simp] theorem State.modCan_lockMs (s : State) (p : CanNo) (f : Can → Can) : (s.modCan p f).lockMs = s.lockMs := rfl
@[simp] theorem State.modCan_wallOffsetMs (s : State) (p : CanNo) (f : Can → Can) : (s.modCan p f).wallOffsetMs = s.wallOffsetMs := rfl
@[simp] theorem State.modCan_tpdoLast (s : State) (p : CanNo) (f : Can → Can) : (s.modCan p f).tpdoLast = s.tpdoLast := rfl
@[simp] theorem State.modCan_tpdoInhibit (s : State) (p : CanNo) (f : Can → Can) : (s.modCan p f).tpdoInhibit = s.tpdoInhibit := rfl
@[simp] theorem State.modCan_tpdoDue (s : State) (p : CanNo) (f : Can → Can) : (s.modCan p f).tpdoDue = s.tpdoDue := rfl
@[simp] theorem State.modCan_tpdoUs (s : State) (p : CanNo) (f : Can → Can) : (s.modCan p f).tpdoUs = s.tpdoUs := rfl
@[simp] theorem State.modCan_checkUs (s : State) (p : CanNo) (f : Can → Can) : (s.modCan p f).checkUs = s.checkUs := rfl
@[simp] theorem State.modCan_tpdoSync (s : State) (p : CanNo) (f : Can → Can) : (s.modCan p f).tpdoSync = s.tpdoSync := rfl
@[simp] theorem State.modCan_rpdoSecond (s : State) (p : CanNo) (f : Can → Can) : (s.modCan p f).rpdoSecond = s.rpdoSecond := rfl
@[simp] theorem State.modCan_dap (s : State) (p : CanNo) (f : Can → Can) : (s.modCan p f).dap = s.dap := rfl
@[simp] theorem State.modCan_dict (s : State) (p : CanNo) (f : Can → Can) : (s.modCan p f).dict = s.dict := rfl
@[simp] theorem State.modCan_tw (s : State) (p : CanNo) (f : Can → Can) : (s.modCan p f).tw = s.tw := rfl
@[simp] theorem State.modCan_regs (s : State) (p : CanNo) (f : Can → Can) : (s.modCan p f).regs = s.regs := rfl
@[simp] theorem State.modCan_cores (s : State) (p : CanNo) (f : Can → Can) : (s.modCan p f).cores = s.cores := rfl
@[simp] theorem State.modCan_srcs (s : State) (p : CanNo) (f : Can → Can) : (s.modCan p f).srcs = s.srcs := rfl
@[simp] theorem State.modCan_scrubOrder (s : State) (p : CanNo) (f : Can → Can) : (s.modCan p f).scrubOrder = s.scrubOrder := rfl
@[simp] theorem State.modCan_badBanks (s : State) (p : CanNo) (f : Can → Can) : (s.modCan p f).badBanks = s.badBanks := rfl
@[simp] theorem State.modCan_recorder (s : State) (p : CanNo) (f : Can → Can) : (s.modCan p f).recorder = s.recorder := rfl
@[simp] theorem State.modCan_fw (s : State) (p : CanNo) (f : Can → Can) : (s.modCan p f).fw = s.fw := rfl
@[simp] theorem State.modCan_heldBlocks (s : State) (p : CanNo) (f : Can → Can) : (s.modCan p f).heldBlocks = s.heldBlocks := rfl
@[simp] theorem State.modCan_heldOther (s : State) (p : CanNo) (f : Can → Can) : (s.modCan p f).heldOther = s.heldOther := rfl
@[simp] theorem State.modCan_self (s : State) (p : CanNo) (f : Can → Can) : (s.modCan p f).can[(p : Nat)] = f s.can[(p : Nat)] := by simp [State.modCan]
theorem State.modCan_ne (s : State) (p : CanNo) (f : Can → Can) {j : CanNo} (hj : j ≠ p) : (s.modCan p f).can[(j : Nat)] = s.can[(j : Nat)] := by
  have hj : (p : Nat) ≠ j := fun e => hj (Fin.ext e.symm)
  simp [State.modCan, Vector.getElem_set_ne, hj]

/-! modHost. -/
@[simp] theorem State.modHost_pending (s : State) (h : HostNo) (f : HostCtx → HostCtx) : (s.modHost h f).pending = s.pending := rfl
@[simp] theorem State.modHost_freeCount (s : State) (h : HostNo) (f : HostCtx → HostCtx) : (s.modHost h f).freeCount = s.freeCount := rfl
@[simp] theorem State.modHost_reply (s : State) (h : HostNo) (f : HostCtx → HostCtx) : (s.modHost h f).reply = s.reply := rfl
@[simp] theorem State.modHost_sent (s : State) (h : HostNo) (f : HostCtx → HostCtx) : (s.modHost h f).sent = s.sent := rfl
@[simp] theorem State.modHost_phase (s : State) (h : HostNo) (f : HostCtx → HostCtx) : (s.modHost h f).phase = s.phase := rfl
@[simp] theorem State.modHost_manage (s : State) (h : HostNo) (f : HostCtx → HostCtx) : (s.modHost h f).manage = s.manage := rfl
@[simp] theorem State.modHost_clk (s : State) (h : HostNo) (f : HostCtx → HostCtx) : (s.modHost h f).clk = s.clk := rfl
@[simp] theorem State.modHost_pins (s : State) (h : HostNo) (f : HostCtx → HostCtx) : (s.modHost h f).pins = s.pins := rfl
@[simp] theorem State.modHost_syncPins (s : State) (h : HostNo) (f : HostCtx → HostCtx) : (s.modHost h f).syncPins = s.syncPins := rfl
@[simp] theorem State.modHost_modes (s : State) (h : HostNo) (f : HostCtx → HostCtx) : (s.modHost h f).modes = s.modes := rfl
@[simp] theorem State.modHost_own (s : State) (h : HostNo) (f : HostCtx → HostCtx) : (s.modHost h f).own = s.own := rfl
@[simp] theorem State.modHost_cells (s : State) (h : HostNo) (f : HostCtx → HostCtx) : (s.modHost h f).cells = s.cells := rfl
@[simp] theorem State.modHost_loops (s : State) (h : HostNo) (f : HostCtx → HostCtx) : (s.modHost h f).loops = s.loops := rfl
@[simp] theorem State.modHost_traces (s : State) (h : HostNo) (f : HostCtx → HostCtx) : (s.modHost h f).traces = s.traces := rfl
@[simp] theorem State.modHost_groups (s : State) (h : HostNo) (f : HostCtx → HostCtx) : (s.modHost h f).groups = s.groups := rfl
@[simp] theorem State.modHost_bus (s : State) (h : HostNo) (f : HostCtx → HostCtx) : (s.modHost h f).bus = s.bus := rfl
@[simp] theorem State.modHost_alloc (s : State) (h : HostNo) (f : HostCtx → HostCtx) : (s.modHost h f).alloc = s.alloc := rfl
@[simp] theorem State.modHost_allocNext (s : State) (h : HostNo) (f : HostCtx → HostCtx) : (s.modHost h f).allocNext = s.allocNext := rfl
@[simp] theorem State.modHost_solveCount (s : State) (h : HostNo) (f : HostCtx → HostCtx) : (s.modHost h f).solveCount = s.solveCount := rfl
@[simp] theorem State.modHost_idGroup (s : State) (h : HostNo) (f : HostCtx → HostCtx) : (s.modHost h f).idGroup = s.idGroup := rfl
@[simp] theorem State.modHost_idAt (s : State) (h : HostNo) (f : HostCtx → HostCtx) : (s.modHost h f).idAt = s.idAt := rfl
@[simp] theorem State.modHost_idCycleUs (s : State) (h : HostNo) (f : HostCtx → HostCtx) : (s.modHost h f).idCycleUs = s.idCycleUs := rfl
@[simp] theorem State.modHost_refHalf (s : State) (h : HostNo) (f : HostCtx → HostCtx) : (s.modHost h f).refHalf = s.refHalf := rfl
@[simp] theorem State.modHost_monitors (s : State) (h : HostNo) (f : HostCtx → HostCtx) : (s.modHost h f).monitors = s.monitors := rfl
@[simp] theorem State.modHost_ledger (s : State) (h : HostNo) (f : HostCtx → HostCtx) : (s.modHost h f).ledger = s.ledger := rfl
@[simp] theorem State.modHost_strings (s : State) (h : HostNo) (f : HostCtx → HostCtx) : (s.modHost h f).strings = s.strings := rfl
@[simp] theorem State.modHost_packs (s : State) (h : HostNo) (f : HostCtx → HostCtx) : (s.modHost h f).packs = s.packs := rfl
@[simp] theorem State.modHost_seq (s : State) (h : HostNo) (f : HostCtx → HostCtx) : (s.modHost h f).seq = s.seq := rfl
@[simp] theorem State.modHost_thermal (s : State) (h : HostNo) (f : HostCtx → HostCtx) : (s.modHost h f).thermal = s.thermal := rfl
@[simp] theorem State.modHost_lanes (s : State) (h : HostNo) (f : HostCtx → HostCtx) : (s.modHost h f).lanes = s.lanes := rfl
@[simp] theorem State.modHost_can (s : State) (h : HostNo) (f : HostCtx → HostCtx) : (s.modHost h f).can = s.can := rfl
@[simp] theorem State.modHost_hostsRefused (s : State) (h : HostNo) (f : HostCtx → HostCtx) : (s.modHost h f).hostsRefused = s.hostsRefused := rfl
@[simp] theorem State.modHost_lockOwner (s : State) (h : HostNo) (f : HostCtx → HostCtx) : (s.modHost h f).lockOwner = s.lockOwner := rfl
@[simp] theorem State.modHost_lockMs (s : State) (h : HostNo) (f : HostCtx → HostCtx) : (s.modHost h f).lockMs = s.lockMs := rfl
@[simp] theorem State.modHost_wallOffsetMs (s : State) (h : HostNo) (f : HostCtx → HostCtx) : (s.modHost h f).wallOffsetMs = s.wallOffsetMs := rfl
@[simp] theorem State.modHost_tpdoLast (s : State) (h : HostNo) (f : HostCtx → HostCtx) : (s.modHost h f).tpdoLast = s.tpdoLast := rfl
@[simp] theorem State.modHost_tpdoInhibit (s : State) (h : HostNo) (f : HostCtx → HostCtx) : (s.modHost h f).tpdoInhibit = s.tpdoInhibit := rfl
@[simp] theorem State.modHost_tpdoDue (s : State) (h : HostNo) (f : HostCtx → HostCtx) : (s.modHost h f).tpdoDue = s.tpdoDue := rfl
@[simp] theorem State.modHost_tpdoUs (s : State) (h : HostNo) (f : HostCtx → HostCtx) : (s.modHost h f).tpdoUs = s.tpdoUs := rfl
@[simp] theorem State.modHost_checkUs (s : State) (h : HostNo) (f : HostCtx → HostCtx) : (s.modHost h f).checkUs = s.checkUs := rfl
@[simp] theorem State.modHost_tpdoSync (s : State) (h : HostNo) (f : HostCtx → HostCtx) : (s.modHost h f).tpdoSync = s.tpdoSync := rfl
@[simp] theorem State.modHost_rpdoSecond (s : State) (h : HostNo) (f : HostCtx → HostCtx) : (s.modHost h f).rpdoSecond = s.rpdoSecond := rfl
@[simp] theorem State.modHost_dap (s : State) (h : HostNo) (f : HostCtx → HostCtx) : (s.modHost h f).dap = s.dap := rfl
@[simp] theorem State.modHost_dict (s : State) (h : HostNo) (f : HostCtx → HostCtx) : (s.modHost h f).dict = s.dict := rfl
@[simp] theorem State.modHost_tw (s : State) (h : HostNo) (f : HostCtx → HostCtx) : (s.modHost h f).tw = s.tw := rfl
@[simp] theorem State.modHost_regs (s : State) (h : HostNo) (f : HostCtx → HostCtx) : (s.modHost h f).regs = s.regs := rfl
@[simp] theorem State.modHost_cores (s : State) (h : HostNo) (f : HostCtx → HostCtx) : (s.modHost h f).cores = s.cores := rfl
@[simp] theorem State.modHost_srcs (s : State) (h : HostNo) (f : HostCtx → HostCtx) : (s.modHost h f).srcs = s.srcs := rfl
@[simp] theorem State.modHost_scrubOrder (s : State) (h : HostNo) (f : HostCtx → HostCtx) : (s.modHost h f).scrubOrder = s.scrubOrder := rfl
@[simp] theorem State.modHost_badBanks (s : State) (h : HostNo) (f : HostCtx → HostCtx) : (s.modHost h f).badBanks = s.badBanks := rfl
@[simp] theorem State.modHost_recorder (s : State) (h : HostNo) (f : HostCtx → HostCtx) : (s.modHost h f).recorder = s.recorder := rfl
@[simp] theorem State.modHost_fw (s : State) (h : HostNo) (f : HostCtx → HostCtx) : (s.modHost h f).fw = s.fw := rfl
@[simp] theorem State.modHost_heldBlocks (s : State) (h : HostNo) (f : HostCtx → HostCtx) : (s.modHost h f).heldBlocks = s.heldBlocks := rfl
@[simp] theorem State.modHost_heldOther (s : State) (h : HostNo) (f : HostCtx → HostCtx) : (s.modHost h f).heldOther = s.heldOther := rfl
@[simp] theorem State.modHost_self (s : State) (h : HostNo) (f : HostCtx → HostCtx) : (s.modHost h f).hosts[(h : Nat)] = f s.hosts[(h : Nat)] := by simp [State.modHost]
theorem State.modHost_ne (s : State) (h : HostNo) (f : HostCtx → HostCtx) {j : HostNo} (hj : j ≠ h) : (s.modHost h f).hosts[(j : Nat)] = s.hosts[(j : Nat)] := by
  have hj : (h : Nat) ≠ j := fun e => hj (Fin.ext e.symm)
  simp [State.modHost, Vector.getElem_set_ne, hj]

/-! modDap. -/
@[simp] theorem State.modDap_pending (s : State) (d : DapNo) (f : Dap → Dap) : (s.modDap d f).pending = s.pending := rfl
@[simp] theorem State.modDap_freeCount (s : State) (d : DapNo) (f : Dap → Dap) : (s.modDap d f).freeCount = s.freeCount := rfl
@[simp] theorem State.modDap_reply (s : State) (d : DapNo) (f : Dap → Dap) : (s.modDap d f).reply = s.reply := rfl
@[simp] theorem State.modDap_sent (s : State) (d : DapNo) (f : Dap → Dap) : (s.modDap d f).sent = s.sent := rfl
@[simp] theorem State.modDap_phase (s : State) (d : DapNo) (f : Dap → Dap) : (s.modDap d f).phase = s.phase := rfl
@[simp] theorem State.modDap_manage (s : State) (d : DapNo) (f : Dap → Dap) : (s.modDap d f).manage = s.manage := rfl
@[simp] theorem State.modDap_clk (s : State) (d : DapNo) (f : Dap → Dap) : (s.modDap d f).clk = s.clk := rfl
@[simp] theorem State.modDap_pins (s : State) (d : DapNo) (f : Dap → Dap) : (s.modDap d f).pins = s.pins := rfl
@[simp] theorem State.modDap_syncPins (s : State) (d : DapNo) (f : Dap → Dap) : (s.modDap d f).syncPins = s.syncPins := rfl
@[simp] theorem State.modDap_modes (s : State) (d : DapNo) (f : Dap → Dap) : (s.modDap d f).modes = s.modes := rfl
@[simp] theorem State.modDap_own (s : State) (d : DapNo) (f : Dap → Dap) : (s.modDap d f).own = s.own := rfl
@[simp] theorem State.modDap_cells (s : State) (d : DapNo) (f : Dap → Dap) : (s.modDap d f).cells = s.cells := rfl
@[simp] theorem State.modDap_loops (s : State) (d : DapNo) (f : Dap → Dap) : (s.modDap d f).loops = s.loops := rfl
@[simp] theorem State.modDap_traces (s : State) (d : DapNo) (f : Dap → Dap) : (s.modDap d f).traces = s.traces := rfl
@[simp] theorem State.modDap_groups (s : State) (d : DapNo) (f : Dap → Dap) : (s.modDap d f).groups = s.groups := rfl
@[simp] theorem State.modDap_bus (s : State) (d : DapNo) (f : Dap → Dap) : (s.modDap d f).bus = s.bus := rfl
@[simp] theorem State.modDap_alloc (s : State) (d : DapNo) (f : Dap → Dap) : (s.modDap d f).alloc = s.alloc := rfl
@[simp] theorem State.modDap_allocNext (s : State) (d : DapNo) (f : Dap → Dap) : (s.modDap d f).allocNext = s.allocNext := rfl
@[simp] theorem State.modDap_solveCount (s : State) (d : DapNo) (f : Dap → Dap) : (s.modDap d f).solveCount = s.solveCount := rfl
@[simp] theorem State.modDap_idGroup (s : State) (d : DapNo) (f : Dap → Dap) : (s.modDap d f).idGroup = s.idGroup := rfl
@[simp] theorem State.modDap_idAt (s : State) (d : DapNo) (f : Dap → Dap) : (s.modDap d f).idAt = s.idAt := rfl
@[simp] theorem State.modDap_idCycleUs (s : State) (d : DapNo) (f : Dap → Dap) : (s.modDap d f).idCycleUs = s.idCycleUs := rfl
@[simp] theorem State.modDap_refHalf (s : State) (d : DapNo) (f : Dap → Dap) : (s.modDap d f).refHalf = s.refHalf := rfl
@[simp] theorem State.modDap_monitors (s : State) (d : DapNo) (f : Dap → Dap) : (s.modDap d f).monitors = s.monitors := rfl
@[simp] theorem State.modDap_ledger (s : State) (d : DapNo) (f : Dap → Dap) : (s.modDap d f).ledger = s.ledger := rfl
@[simp] theorem State.modDap_strings (s : State) (d : DapNo) (f : Dap → Dap) : (s.modDap d f).strings = s.strings := rfl
@[simp] theorem State.modDap_packs (s : State) (d : DapNo) (f : Dap → Dap) : (s.modDap d f).packs = s.packs := rfl
@[simp] theorem State.modDap_seq (s : State) (d : DapNo) (f : Dap → Dap) : (s.modDap d f).seq = s.seq := rfl
@[simp] theorem State.modDap_thermal (s : State) (d : DapNo) (f : Dap → Dap) : (s.modDap d f).thermal = s.thermal := rfl
@[simp] theorem State.modDap_lanes (s : State) (d : DapNo) (f : Dap → Dap) : (s.modDap d f).lanes = s.lanes := rfl
@[simp] theorem State.modDap_can (s : State) (d : DapNo) (f : Dap → Dap) : (s.modDap d f).can = s.can := rfl
@[simp] theorem State.modDap_hosts (s : State) (d : DapNo) (f : Dap → Dap) : (s.modDap d f).hosts = s.hosts := rfl
@[simp] theorem State.modDap_hostsRefused (s : State) (d : DapNo) (f : Dap → Dap) : (s.modDap d f).hostsRefused = s.hostsRefused := rfl
@[simp] theorem State.modDap_lockOwner (s : State) (d : DapNo) (f : Dap → Dap) : (s.modDap d f).lockOwner = s.lockOwner := rfl
@[simp] theorem State.modDap_lockMs (s : State) (d : DapNo) (f : Dap → Dap) : (s.modDap d f).lockMs = s.lockMs := rfl
@[simp] theorem State.modDap_wallOffsetMs (s : State) (d : DapNo) (f : Dap → Dap) : (s.modDap d f).wallOffsetMs = s.wallOffsetMs := rfl
@[simp] theorem State.modDap_tpdoLast (s : State) (d : DapNo) (f : Dap → Dap) : (s.modDap d f).tpdoLast = s.tpdoLast := rfl
@[simp] theorem State.modDap_tpdoInhibit (s : State) (d : DapNo) (f : Dap → Dap) : (s.modDap d f).tpdoInhibit = s.tpdoInhibit := rfl
@[simp] theorem State.modDap_tpdoDue (s : State) (d : DapNo) (f : Dap → Dap) : (s.modDap d f).tpdoDue = s.tpdoDue := rfl
@[simp] theorem State.modDap_tpdoUs (s : State) (d : DapNo) (f : Dap → Dap) : (s.modDap d f).tpdoUs = s.tpdoUs := rfl
@[simp] theorem State.modDap_checkUs (s : State) (d : DapNo) (f : Dap → Dap) : (s.modDap d f).checkUs = s.checkUs := rfl
@[simp] theorem State.modDap_tpdoSync (s : State) (d : DapNo) (f : Dap → Dap) : (s.modDap d f).tpdoSync = s.tpdoSync := rfl
@[simp] theorem State.modDap_rpdoSecond (s : State) (d : DapNo) (f : Dap → Dap) : (s.modDap d f).rpdoSecond = s.rpdoSecond := rfl
@[simp] theorem State.modDap_dict (s : State) (d : DapNo) (f : Dap → Dap) : (s.modDap d f).dict = s.dict := rfl
@[simp] theorem State.modDap_tw (s : State) (d : DapNo) (f : Dap → Dap) : (s.modDap d f).tw = s.tw := rfl
@[simp] theorem State.modDap_regs (s : State) (d : DapNo) (f : Dap → Dap) : (s.modDap d f).regs = s.regs := rfl
@[simp] theorem State.modDap_cores (s : State) (d : DapNo) (f : Dap → Dap) : (s.modDap d f).cores = s.cores := rfl
@[simp] theorem State.modDap_srcs (s : State) (d : DapNo) (f : Dap → Dap) : (s.modDap d f).srcs = s.srcs := rfl
@[simp] theorem State.modDap_scrubOrder (s : State) (d : DapNo) (f : Dap → Dap) : (s.modDap d f).scrubOrder = s.scrubOrder := rfl
@[simp] theorem State.modDap_badBanks (s : State) (d : DapNo) (f : Dap → Dap) : (s.modDap d f).badBanks = s.badBanks := rfl
@[simp] theorem State.modDap_recorder (s : State) (d : DapNo) (f : Dap → Dap) : (s.modDap d f).recorder = s.recorder := rfl
@[simp] theorem State.modDap_fw (s : State) (d : DapNo) (f : Dap → Dap) : (s.modDap d f).fw = s.fw := rfl
@[simp] theorem State.modDap_heldBlocks (s : State) (d : DapNo) (f : Dap → Dap) : (s.modDap d f).heldBlocks = s.heldBlocks := rfl
@[simp] theorem State.modDap_heldOther (s : State) (d : DapNo) (f : Dap → Dap) : (s.modDap d f).heldOther = s.heldOther := rfl
@[simp] theorem State.modDap_self (s : State) (d : DapNo) (f : Dap → Dap) : (s.modDap d f).dap[(d : Nat)] = f s.dap[(d : Nat)] := by simp [State.modDap]
theorem State.modDap_ne (s : State) (d : DapNo) (f : Dap → Dap) {j : DapNo} (hj : j ≠ d) : (s.modDap d f).dap[(j : Nat)] = s.dap[(j : Nat)] := by
  have hj : (d : Nat) ≠ j := fun e => hj (Fin.ext e.symm)
  simp [State.modDap, Vector.getElem_set_ne, hj]

/-! modTw. -/
@[simp] theorem State.modTw_pending (s : State) (p : TwNo) (f : Tw → Tw) : (s.modTw p f).pending = s.pending := rfl
@[simp] theorem State.modTw_freeCount (s : State) (p : TwNo) (f : Tw → Tw) : (s.modTw p f).freeCount = s.freeCount := rfl
@[simp] theorem State.modTw_reply (s : State) (p : TwNo) (f : Tw → Tw) : (s.modTw p f).reply = s.reply := rfl
@[simp] theorem State.modTw_sent (s : State) (p : TwNo) (f : Tw → Tw) : (s.modTw p f).sent = s.sent := rfl
@[simp] theorem State.modTw_phase (s : State) (p : TwNo) (f : Tw → Tw) : (s.modTw p f).phase = s.phase := rfl
@[simp] theorem State.modTw_manage (s : State) (p : TwNo) (f : Tw → Tw) : (s.modTw p f).manage = s.manage := rfl
@[simp] theorem State.modTw_clk (s : State) (p : TwNo) (f : Tw → Tw) : (s.modTw p f).clk = s.clk := rfl
@[simp] theorem State.modTw_pins (s : State) (p : TwNo) (f : Tw → Tw) : (s.modTw p f).pins = s.pins := rfl
@[simp] theorem State.modTw_syncPins (s : State) (p : TwNo) (f : Tw → Tw) : (s.modTw p f).syncPins = s.syncPins := rfl
@[simp] theorem State.modTw_modes (s : State) (p : TwNo) (f : Tw → Tw) : (s.modTw p f).modes = s.modes := rfl
@[simp] theorem State.modTw_own (s : State) (p : TwNo) (f : Tw → Tw) : (s.modTw p f).own = s.own := rfl
@[simp] theorem State.modTw_cells (s : State) (p : TwNo) (f : Tw → Tw) : (s.modTw p f).cells = s.cells := rfl
@[simp] theorem State.modTw_loops (s : State) (p : TwNo) (f : Tw → Tw) : (s.modTw p f).loops = s.loops := rfl
@[simp] theorem State.modTw_traces (s : State) (p : TwNo) (f : Tw → Tw) : (s.modTw p f).traces = s.traces := rfl
@[simp] theorem State.modTw_groups (s : State) (p : TwNo) (f : Tw → Tw) : (s.modTw p f).groups = s.groups := rfl
@[simp] theorem State.modTw_bus (s : State) (p : TwNo) (f : Tw → Tw) : (s.modTw p f).bus = s.bus := rfl
@[simp] theorem State.modTw_alloc (s : State) (p : TwNo) (f : Tw → Tw) : (s.modTw p f).alloc = s.alloc := rfl
@[simp] theorem State.modTw_allocNext (s : State) (p : TwNo) (f : Tw → Tw) : (s.modTw p f).allocNext = s.allocNext := rfl
@[simp] theorem State.modTw_solveCount (s : State) (p : TwNo) (f : Tw → Tw) : (s.modTw p f).solveCount = s.solveCount := rfl
@[simp] theorem State.modTw_idGroup (s : State) (p : TwNo) (f : Tw → Tw) : (s.modTw p f).idGroup = s.idGroup := rfl
@[simp] theorem State.modTw_idAt (s : State) (p : TwNo) (f : Tw → Tw) : (s.modTw p f).idAt = s.idAt := rfl
@[simp] theorem State.modTw_idCycleUs (s : State) (p : TwNo) (f : Tw → Tw) : (s.modTw p f).idCycleUs = s.idCycleUs := rfl
@[simp] theorem State.modTw_refHalf (s : State) (p : TwNo) (f : Tw → Tw) : (s.modTw p f).refHalf = s.refHalf := rfl
@[simp] theorem State.modTw_monitors (s : State) (p : TwNo) (f : Tw → Tw) : (s.modTw p f).monitors = s.monitors := rfl
@[simp] theorem State.modTw_ledger (s : State) (p : TwNo) (f : Tw → Tw) : (s.modTw p f).ledger = s.ledger := rfl
@[simp] theorem State.modTw_strings (s : State) (p : TwNo) (f : Tw → Tw) : (s.modTw p f).strings = s.strings := rfl
@[simp] theorem State.modTw_packs (s : State) (p : TwNo) (f : Tw → Tw) : (s.modTw p f).packs = s.packs := rfl
@[simp] theorem State.modTw_seq (s : State) (p : TwNo) (f : Tw → Tw) : (s.modTw p f).seq = s.seq := rfl
@[simp] theorem State.modTw_thermal (s : State) (p : TwNo) (f : Tw → Tw) : (s.modTw p f).thermal = s.thermal := rfl
@[simp] theorem State.modTw_lanes (s : State) (p : TwNo) (f : Tw → Tw) : (s.modTw p f).lanes = s.lanes := rfl
@[simp] theorem State.modTw_can (s : State) (p : TwNo) (f : Tw → Tw) : (s.modTw p f).can = s.can := rfl
@[simp] theorem State.modTw_hosts (s : State) (p : TwNo) (f : Tw → Tw) : (s.modTw p f).hosts = s.hosts := rfl
@[simp] theorem State.modTw_hostsRefused (s : State) (p : TwNo) (f : Tw → Tw) : (s.modTw p f).hostsRefused = s.hostsRefused := rfl
@[simp] theorem State.modTw_lockOwner (s : State) (p : TwNo) (f : Tw → Tw) : (s.modTw p f).lockOwner = s.lockOwner := rfl
@[simp] theorem State.modTw_lockMs (s : State) (p : TwNo) (f : Tw → Tw) : (s.modTw p f).lockMs = s.lockMs := rfl
@[simp] theorem State.modTw_wallOffsetMs (s : State) (p : TwNo) (f : Tw → Tw) : (s.modTw p f).wallOffsetMs = s.wallOffsetMs := rfl
@[simp] theorem State.modTw_tpdoLast (s : State) (p : TwNo) (f : Tw → Tw) : (s.modTw p f).tpdoLast = s.tpdoLast := rfl
@[simp] theorem State.modTw_tpdoInhibit (s : State) (p : TwNo) (f : Tw → Tw) : (s.modTw p f).tpdoInhibit = s.tpdoInhibit := rfl
@[simp] theorem State.modTw_tpdoDue (s : State) (p : TwNo) (f : Tw → Tw) : (s.modTw p f).tpdoDue = s.tpdoDue := rfl
@[simp] theorem State.modTw_tpdoUs (s : State) (p : TwNo) (f : Tw → Tw) : (s.modTw p f).tpdoUs = s.tpdoUs := rfl
@[simp] theorem State.modTw_checkUs (s : State) (p : TwNo) (f : Tw → Tw) : (s.modTw p f).checkUs = s.checkUs := rfl
@[simp] theorem State.modTw_tpdoSync (s : State) (p : TwNo) (f : Tw → Tw) : (s.modTw p f).tpdoSync = s.tpdoSync := rfl
@[simp] theorem State.modTw_rpdoSecond (s : State) (p : TwNo) (f : Tw → Tw) : (s.modTw p f).rpdoSecond = s.rpdoSecond := rfl
@[simp] theorem State.modTw_dap (s : State) (p : TwNo) (f : Tw → Tw) : (s.modTw p f).dap = s.dap := rfl
@[simp] theorem State.modTw_dict (s : State) (p : TwNo) (f : Tw → Tw) : (s.modTw p f).dict = s.dict := rfl
@[simp] theorem State.modTw_regs (s : State) (p : TwNo) (f : Tw → Tw) : (s.modTw p f).regs = s.regs := rfl
@[simp] theorem State.modTw_cores (s : State) (p : TwNo) (f : Tw → Tw) : (s.modTw p f).cores = s.cores := rfl
@[simp] theorem State.modTw_srcs (s : State) (p : TwNo) (f : Tw → Tw) : (s.modTw p f).srcs = s.srcs := rfl
@[simp] theorem State.modTw_scrubOrder (s : State) (p : TwNo) (f : Tw → Tw) : (s.modTw p f).scrubOrder = s.scrubOrder := rfl
@[simp] theorem State.modTw_badBanks (s : State) (p : TwNo) (f : Tw → Tw) : (s.modTw p f).badBanks = s.badBanks := rfl
@[simp] theorem State.modTw_recorder (s : State) (p : TwNo) (f : Tw → Tw) : (s.modTw p f).recorder = s.recorder := rfl
@[simp] theorem State.modTw_fw (s : State) (p : TwNo) (f : Tw → Tw) : (s.modTw p f).fw = s.fw := rfl
@[simp] theorem State.modTw_heldBlocks (s : State) (p : TwNo) (f : Tw → Tw) : (s.modTw p f).heldBlocks = s.heldBlocks := rfl
@[simp] theorem State.modTw_heldOther (s : State) (p : TwNo) (f : Tw → Tw) : (s.modTw p f).heldOther = s.heldOther := rfl
@[simp] theorem State.modTw_self (s : State) (p : TwNo) (f : Tw → Tw) : (s.modTw p f).tw[(p : Nat)] = f s.tw[(p : Nat)] := by simp [State.modTw]
theorem State.modTw_ne (s : State) (p : TwNo) (f : Tw → Tw) {j : TwNo} (hj : j ≠ p) : (s.modTw p f).tw[(j : Nat)] = s.tw[(j : Nat)] := by
  have hj : (p : Nat) ≠ j := fun e => hj (Fin.ext e.symm)
  simp [State.modTw, Vector.getElem_set_ne, hj]

/-! modCore. -/
@[simp] theorem State.modCore_pending (s : State) (c : CoreNo) (f : Core → Core) : (s.modCore c f).pending = s.pending := rfl
@[simp] theorem State.modCore_freeCount (s : State) (c : CoreNo) (f : Core → Core) : (s.modCore c f).freeCount = s.freeCount := rfl
@[simp] theorem State.modCore_reply (s : State) (c : CoreNo) (f : Core → Core) : (s.modCore c f).reply = s.reply := rfl
@[simp] theorem State.modCore_sent (s : State) (c : CoreNo) (f : Core → Core) : (s.modCore c f).sent = s.sent := rfl
@[simp] theorem State.modCore_phase (s : State) (c : CoreNo) (f : Core → Core) : (s.modCore c f).phase = s.phase := rfl
@[simp] theorem State.modCore_manage (s : State) (c : CoreNo) (f : Core → Core) : (s.modCore c f).manage = s.manage := rfl
@[simp] theorem State.modCore_clk (s : State) (c : CoreNo) (f : Core → Core) : (s.modCore c f).clk = s.clk := rfl
@[simp] theorem State.modCore_pins (s : State) (c : CoreNo) (f : Core → Core) : (s.modCore c f).pins = s.pins := rfl
@[simp] theorem State.modCore_syncPins (s : State) (c : CoreNo) (f : Core → Core) : (s.modCore c f).syncPins = s.syncPins := rfl
@[simp] theorem State.modCore_modes (s : State) (c : CoreNo) (f : Core → Core) : (s.modCore c f).modes = s.modes := rfl
@[simp] theorem State.modCore_own (s : State) (c : CoreNo) (f : Core → Core) : (s.modCore c f).own = s.own := rfl
@[simp] theorem State.modCore_cells (s : State) (c : CoreNo) (f : Core → Core) : (s.modCore c f).cells = s.cells := rfl
@[simp] theorem State.modCore_loops (s : State) (c : CoreNo) (f : Core → Core) : (s.modCore c f).loops = s.loops := rfl
@[simp] theorem State.modCore_traces (s : State) (c : CoreNo) (f : Core → Core) : (s.modCore c f).traces = s.traces := rfl
@[simp] theorem State.modCore_groups (s : State) (c : CoreNo) (f : Core → Core) : (s.modCore c f).groups = s.groups := rfl
@[simp] theorem State.modCore_bus (s : State) (c : CoreNo) (f : Core → Core) : (s.modCore c f).bus = s.bus := rfl
@[simp] theorem State.modCore_alloc (s : State) (c : CoreNo) (f : Core → Core) : (s.modCore c f).alloc = s.alloc := rfl
@[simp] theorem State.modCore_allocNext (s : State) (c : CoreNo) (f : Core → Core) : (s.modCore c f).allocNext = s.allocNext := rfl
@[simp] theorem State.modCore_solveCount (s : State) (c : CoreNo) (f : Core → Core) : (s.modCore c f).solveCount = s.solveCount := rfl
@[simp] theorem State.modCore_idGroup (s : State) (c : CoreNo) (f : Core → Core) : (s.modCore c f).idGroup = s.idGroup := rfl
@[simp] theorem State.modCore_idAt (s : State) (c : CoreNo) (f : Core → Core) : (s.modCore c f).idAt = s.idAt := rfl
@[simp] theorem State.modCore_idCycleUs (s : State) (c : CoreNo) (f : Core → Core) : (s.modCore c f).idCycleUs = s.idCycleUs := rfl
@[simp] theorem State.modCore_refHalf (s : State) (c : CoreNo) (f : Core → Core) : (s.modCore c f).refHalf = s.refHalf := rfl
@[simp] theorem State.modCore_monitors (s : State) (c : CoreNo) (f : Core → Core) : (s.modCore c f).monitors = s.monitors := rfl
@[simp] theorem State.modCore_ledger (s : State) (c : CoreNo) (f : Core → Core) : (s.modCore c f).ledger = s.ledger := rfl
@[simp] theorem State.modCore_strings (s : State) (c : CoreNo) (f : Core → Core) : (s.modCore c f).strings = s.strings := rfl
@[simp] theorem State.modCore_packs (s : State) (c : CoreNo) (f : Core → Core) : (s.modCore c f).packs = s.packs := rfl
@[simp] theorem State.modCore_seq (s : State) (c : CoreNo) (f : Core → Core) : (s.modCore c f).seq = s.seq := rfl
@[simp] theorem State.modCore_thermal (s : State) (c : CoreNo) (f : Core → Core) : (s.modCore c f).thermal = s.thermal := rfl
@[simp] theorem State.modCore_lanes (s : State) (c : CoreNo) (f : Core → Core) : (s.modCore c f).lanes = s.lanes := rfl
@[simp] theorem State.modCore_can (s : State) (c : CoreNo) (f : Core → Core) : (s.modCore c f).can = s.can := rfl
@[simp] theorem State.modCore_hosts (s : State) (c : CoreNo) (f : Core → Core) : (s.modCore c f).hosts = s.hosts := rfl
@[simp] theorem State.modCore_hostsRefused (s : State) (c : CoreNo) (f : Core → Core) : (s.modCore c f).hostsRefused = s.hostsRefused := rfl
@[simp] theorem State.modCore_lockOwner (s : State) (c : CoreNo) (f : Core → Core) : (s.modCore c f).lockOwner = s.lockOwner := rfl
@[simp] theorem State.modCore_lockMs (s : State) (c : CoreNo) (f : Core → Core) : (s.modCore c f).lockMs = s.lockMs := rfl
@[simp] theorem State.modCore_wallOffsetMs (s : State) (c : CoreNo) (f : Core → Core) : (s.modCore c f).wallOffsetMs = s.wallOffsetMs := rfl
@[simp] theorem State.modCore_tpdoLast (s : State) (c : CoreNo) (f : Core → Core) : (s.modCore c f).tpdoLast = s.tpdoLast := rfl
@[simp] theorem State.modCore_tpdoInhibit (s : State) (c : CoreNo) (f : Core → Core) : (s.modCore c f).tpdoInhibit = s.tpdoInhibit := rfl
@[simp] theorem State.modCore_tpdoDue (s : State) (c : CoreNo) (f : Core → Core) : (s.modCore c f).tpdoDue = s.tpdoDue := rfl
@[simp] theorem State.modCore_tpdoUs (s : State) (c : CoreNo) (f : Core → Core) : (s.modCore c f).tpdoUs = s.tpdoUs := rfl
@[simp] theorem State.modCore_checkUs (s : State) (c : CoreNo) (f : Core → Core) : (s.modCore c f).checkUs = s.checkUs := rfl
@[simp] theorem State.modCore_tpdoSync (s : State) (c : CoreNo) (f : Core → Core) : (s.modCore c f).tpdoSync = s.tpdoSync := rfl
@[simp] theorem State.modCore_rpdoSecond (s : State) (c : CoreNo) (f : Core → Core) : (s.modCore c f).rpdoSecond = s.rpdoSecond := rfl
@[simp] theorem State.modCore_dap (s : State) (c : CoreNo) (f : Core → Core) : (s.modCore c f).dap = s.dap := rfl
@[simp] theorem State.modCore_dict (s : State) (c : CoreNo) (f : Core → Core) : (s.modCore c f).dict = s.dict := rfl
@[simp] theorem State.modCore_tw (s : State) (c : CoreNo) (f : Core → Core) : (s.modCore c f).tw = s.tw := rfl
@[simp] theorem State.modCore_regs (s : State) (c : CoreNo) (f : Core → Core) : (s.modCore c f).regs = s.regs := rfl
@[simp] theorem State.modCore_srcs (s : State) (c : CoreNo) (f : Core → Core) : (s.modCore c f).srcs = s.srcs := rfl
@[simp] theorem State.modCore_scrubOrder (s : State) (c : CoreNo) (f : Core → Core) : (s.modCore c f).scrubOrder = s.scrubOrder := rfl
@[simp] theorem State.modCore_badBanks (s : State) (c : CoreNo) (f : Core → Core) : (s.modCore c f).badBanks = s.badBanks := rfl
@[simp] theorem State.modCore_recorder (s : State) (c : CoreNo) (f : Core → Core) : (s.modCore c f).recorder = s.recorder := rfl
@[simp] theorem State.modCore_fw (s : State) (c : CoreNo) (f : Core → Core) : (s.modCore c f).fw = s.fw := rfl
@[simp] theorem State.modCore_heldBlocks (s : State) (c : CoreNo) (f : Core → Core) : (s.modCore c f).heldBlocks = s.heldBlocks := rfl
@[simp] theorem State.modCore_heldOther (s : State) (c : CoreNo) (f : Core → Core) : (s.modCore c f).heldOther = s.heldOther := rfl
@[simp] theorem State.modCore_self (s : State) (c : CoreNo) (f : Core → Core) : (s.modCore c f).cores[(c : Nat)] = f s.cores[(c : Nat)] := by simp [State.modCore]
theorem State.modCore_ne (s : State) (c : CoreNo) (f : Core → Core) {j : CoreNo} (hj : j ≠ c) : (s.modCore c f).cores[(j : Nat)] = s.cores[(j : Nat)] := by
  have hj : (c : Nat) ≠ j := fun e => hj (Fin.ext e.symm)
  simp [State.modCore, Vector.getElem_set_ne, hj]

/-! modSrc. -/
@[simp] theorem State.modSrc_pending (s : State) (n : SharedNo) (f : Src → Src) : (s.modSrc n f).pending = s.pending := rfl
@[simp] theorem State.modSrc_freeCount (s : State) (n : SharedNo) (f : Src → Src) : (s.modSrc n f).freeCount = s.freeCount := rfl
@[simp] theorem State.modSrc_reply (s : State) (n : SharedNo) (f : Src → Src) : (s.modSrc n f).reply = s.reply := rfl
@[simp] theorem State.modSrc_sent (s : State) (n : SharedNo) (f : Src → Src) : (s.modSrc n f).sent = s.sent := rfl
@[simp] theorem State.modSrc_phase (s : State) (n : SharedNo) (f : Src → Src) : (s.modSrc n f).phase = s.phase := rfl
@[simp] theorem State.modSrc_manage (s : State) (n : SharedNo) (f : Src → Src) : (s.modSrc n f).manage = s.manage := rfl
@[simp] theorem State.modSrc_clk (s : State) (n : SharedNo) (f : Src → Src) : (s.modSrc n f).clk = s.clk := rfl
@[simp] theorem State.modSrc_pins (s : State) (n : SharedNo) (f : Src → Src) : (s.modSrc n f).pins = s.pins := rfl
@[simp] theorem State.modSrc_syncPins (s : State) (n : SharedNo) (f : Src → Src) : (s.modSrc n f).syncPins = s.syncPins := rfl
@[simp] theorem State.modSrc_modes (s : State) (n : SharedNo) (f : Src → Src) : (s.modSrc n f).modes = s.modes := rfl
@[simp] theorem State.modSrc_own (s : State) (n : SharedNo) (f : Src → Src) : (s.modSrc n f).own = s.own := rfl
@[simp] theorem State.modSrc_cells (s : State) (n : SharedNo) (f : Src → Src) : (s.modSrc n f).cells = s.cells := rfl
@[simp] theorem State.modSrc_loops (s : State) (n : SharedNo) (f : Src → Src) : (s.modSrc n f).loops = s.loops := rfl
@[simp] theorem State.modSrc_traces (s : State) (n : SharedNo) (f : Src → Src) : (s.modSrc n f).traces = s.traces := rfl
@[simp] theorem State.modSrc_groups (s : State) (n : SharedNo) (f : Src → Src) : (s.modSrc n f).groups = s.groups := rfl
@[simp] theorem State.modSrc_bus (s : State) (n : SharedNo) (f : Src → Src) : (s.modSrc n f).bus = s.bus := rfl
@[simp] theorem State.modSrc_alloc (s : State) (n : SharedNo) (f : Src → Src) : (s.modSrc n f).alloc = s.alloc := rfl
@[simp] theorem State.modSrc_allocNext (s : State) (n : SharedNo) (f : Src → Src) : (s.modSrc n f).allocNext = s.allocNext := rfl
@[simp] theorem State.modSrc_solveCount (s : State) (n : SharedNo) (f : Src → Src) : (s.modSrc n f).solveCount = s.solveCount := rfl
@[simp] theorem State.modSrc_idGroup (s : State) (n : SharedNo) (f : Src → Src) : (s.modSrc n f).idGroup = s.idGroup := rfl
@[simp] theorem State.modSrc_idAt (s : State) (n : SharedNo) (f : Src → Src) : (s.modSrc n f).idAt = s.idAt := rfl
@[simp] theorem State.modSrc_idCycleUs (s : State) (n : SharedNo) (f : Src → Src) : (s.modSrc n f).idCycleUs = s.idCycleUs := rfl
@[simp] theorem State.modSrc_refHalf (s : State) (n : SharedNo) (f : Src → Src) : (s.modSrc n f).refHalf = s.refHalf := rfl
@[simp] theorem State.modSrc_monitors (s : State) (n : SharedNo) (f : Src → Src) : (s.modSrc n f).monitors = s.monitors := rfl
@[simp] theorem State.modSrc_ledger (s : State) (n : SharedNo) (f : Src → Src) : (s.modSrc n f).ledger = s.ledger := rfl
@[simp] theorem State.modSrc_strings (s : State) (n : SharedNo) (f : Src → Src) : (s.modSrc n f).strings = s.strings := rfl
@[simp] theorem State.modSrc_packs (s : State) (n : SharedNo) (f : Src → Src) : (s.modSrc n f).packs = s.packs := rfl
@[simp] theorem State.modSrc_seq (s : State) (n : SharedNo) (f : Src → Src) : (s.modSrc n f).seq = s.seq := rfl
@[simp] theorem State.modSrc_thermal (s : State) (n : SharedNo) (f : Src → Src) : (s.modSrc n f).thermal = s.thermal := rfl
@[simp] theorem State.modSrc_lanes (s : State) (n : SharedNo) (f : Src → Src) : (s.modSrc n f).lanes = s.lanes := rfl
@[simp] theorem State.modSrc_can (s : State) (n : SharedNo) (f : Src → Src) : (s.modSrc n f).can = s.can := rfl
@[simp] theorem State.modSrc_hosts (s : State) (n : SharedNo) (f : Src → Src) : (s.modSrc n f).hosts = s.hosts := rfl
@[simp] theorem State.modSrc_hostsRefused (s : State) (n : SharedNo) (f : Src → Src) : (s.modSrc n f).hostsRefused = s.hostsRefused := rfl
@[simp] theorem State.modSrc_lockOwner (s : State) (n : SharedNo) (f : Src → Src) : (s.modSrc n f).lockOwner = s.lockOwner := rfl
@[simp] theorem State.modSrc_lockMs (s : State) (n : SharedNo) (f : Src → Src) : (s.modSrc n f).lockMs = s.lockMs := rfl
@[simp] theorem State.modSrc_wallOffsetMs (s : State) (n : SharedNo) (f : Src → Src) : (s.modSrc n f).wallOffsetMs = s.wallOffsetMs := rfl
@[simp] theorem State.modSrc_tpdoLast (s : State) (n : SharedNo) (f : Src → Src) : (s.modSrc n f).tpdoLast = s.tpdoLast := rfl
@[simp] theorem State.modSrc_tpdoInhibit (s : State) (n : SharedNo) (f : Src → Src) : (s.modSrc n f).tpdoInhibit = s.tpdoInhibit := rfl
@[simp] theorem State.modSrc_tpdoDue (s : State) (n : SharedNo) (f : Src → Src) : (s.modSrc n f).tpdoDue = s.tpdoDue := rfl
@[simp] theorem State.modSrc_tpdoUs (s : State) (n : SharedNo) (f : Src → Src) : (s.modSrc n f).tpdoUs = s.tpdoUs := rfl
@[simp] theorem State.modSrc_checkUs (s : State) (n : SharedNo) (f : Src → Src) : (s.modSrc n f).checkUs = s.checkUs := rfl
@[simp] theorem State.modSrc_tpdoSync (s : State) (n : SharedNo) (f : Src → Src) : (s.modSrc n f).tpdoSync = s.tpdoSync := rfl
@[simp] theorem State.modSrc_rpdoSecond (s : State) (n : SharedNo) (f : Src → Src) : (s.modSrc n f).rpdoSecond = s.rpdoSecond := rfl
@[simp] theorem State.modSrc_dap (s : State) (n : SharedNo) (f : Src → Src) : (s.modSrc n f).dap = s.dap := rfl
@[simp] theorem State.modSrc_dict (s : State) (n : SharedNo) (f : Src → Src) : (s.modSrc n f).dict = s.dict := rfl
@[simp] theorem State.modSrc_tw (s : State) (n : SharedNo) (f : Src → Src) : (s.modSrc n f).tw = s.tw := rfl
@[simp] theorem State.modSrc_regs (s : State) (n : SharedNo) (f : Src → Src) : (s.modSrc n f).regs = s.regs := rfl
@[simp] theorem State.modSrc_cores (s : State) (n : SharedNo) (f : Src → Src) : (s.modSrc n f).cores = s.cores := rfl
@[simp] theorem State.modSrc_scrubOrder (s : State) (n : SharedNo) (f : Src → Src) : (s.modSrc n f).scrubOrder = s.scrubOrder := rfl
@[simp] theorem State.modSrc_badBanks (s : State) (n : SharedNo) (f : Src → Src) : (s.modSrc n f).badBanks = s.badBanks := rfl
@[simp] theorem State.modSrc_recorder (s : State) (n : SharedNo) (f : Src → Src) : (s.modSrc n f).recorder = s.recorder := rfl
@[simp] theorem State.modSrc_fw (s : State) (n : SharedNo) (f : Src → Src) : (s.modSrc n f).fw = s.fw := rfl
@[simp] theorem State.modSrc_heldBlocks (s : State) (n : SharedNo) (f : Src → Src) : (s.modSrc n f).heldBlocks = s.heldBlocks := rfl
@[simp] theorem State.modSrc_heldOther (s : State) (n : SharedNo) (f : Src → Src) : (s.modSrc n f).heldOther = s.heldOther := rfl
@[simp] theorem State.modSrc_self (s : State) (n : SharedNo) (f : Src → Src) : (s.modSrc n f).srcs[(n : Nat)] = f s.srcs[(n : Nat)] := by simp [State.modSrc]
theorem State.modSrc_ne (s : State) (n : SharedNo) (f : Src → Src) {j : SharedNo} (hj : j ≠ n) : (s.modSrc n f).srcs[(j : Nat)] = s.srcs[(j : Nat)] := by
  have hj : (n : Nat) ≠ j := fun e => hj (Fin.ext e.symm)
  simp [State.modSrc, Vector.getElem_set_ne, hj]

/-! modRec. -/
@[simp] theorem State.modRec_pending (s : State) (f : Recorder → Recorder) : (s.modRec f).pending = s.pending := rfl
@[simp] theorem State.modRec_freeCount (s : State) (f : Recorder → Recorder) : (s.modRec f).freeCount = s.freeCount := rfl
@[simp] theorem State.modRec_reply (s : State) (f : Recorder → Recorder) : (s.modRec f).reply = s.reply := rfl
@[simp] theorem State.modRec_sent (s : State) (f : Recorder → Recorder) : (s.modRec f).sent = s.sent := rfl
@[simp] theorem State.modRec_phase (s : State) (f : Recorder → Recorder) : (s.modRec f).phase = s.phase := rfl
@[simp] theorem State.modRec_manage (s : State) (f : Recorder → Recorder) : (s.modRec f).manage = s.manage := rfl
@[simp] theorem State.modRec_clk (s : State) (f : Recorder → Recorder) : (s.modRec f).clk = s.clk := rfl
@[simp] theorem State.modRec_pins (s : State) (f : Recorder → Recorder) : (s.modRec f).pins = s.pins := rfl
@[simp] theorem State.modRec_syncPins (s : State) (f : Recorder → Recorder) : (s.modRec f).syncPins = s.syncPins := rfl
@[simp] theorem State.modRec_modes (s : State) (f : Recorder → Recorder) : (s.modRec f).modes = s.modes := rfl
@[simp] theorem State.modRec_own (s : State) (f : Recorder → Recorder) : (s.modRec f).own = s.own := rfl
@[simp] theorem State.modRec_cells (s : State) (f : Recorder → Recorder) : (s.modRec f).cells = s.cells := rfl
@[simp] theorem State.modRec_loops (s : State) (f : Recorder → Recorder) : (s.modRec f).loops = s.loops := rfl
@[simp] theorem State.modRec_traces (s : State) (f : Recorder → Recorder) : (s.modRec f).traces = s.traces := rfl
@[simp] theorem State.modRec_groups (s : State) (f : Recorder → Recorder) : (s.modRec f).groups = s.groups := rfl
@[simp] theorem State.modRec_bus (s : State) (f : Recorder → Recorder) : (s.modRec f).bus = s.bus := rfl
@[simp] theorem State.modRec_alloc (s : State) (f : Recorder → Recorder) : (s.modRec f).alloc = s.alloc := rfl
@[simp] theorem State.modRec_allocNext (s : State) (f : Recorder → Recorder) : (s.modRec f).allocNext = s.allocNext := rfl
@[simp] theorem State.modRec_solveCount (s : State) (f : Recorder → Recorder) : (s.modRec f).solveCount = s.solveCount := rfl
@[simp] theorem State.modRec_idGroup (s : State) (f : Recorder → Recorder) : (s.modRec f).idGroup = s.idGroup := rfl
@[simp] theorem State.modRec_idAt (s : State) (f : Recorder → Recorder) : (s.modRec f).idAt = s.idAt := rfl
@[simp] theorem State.modRec_idCycleUs (s : State) (f : Recorder → Recorder) : (s.modRec f).idCycleUs = s.idCycleUs := rfl
@[simp] theorem State.modRec_refHalf (s : State) (f : Recorder → Recorder) : (s.modRec f).refHalf = s.refHalf := rfl
@[simp] theorem State.modRec_monitors (s : State) (f : Recorder → Recorder) : (s.modRec f).monitors = s.monitors := rfl
@[simp] theorem State.modRec_ledger (s : State) (f : Recorder → Recorder) : (s.modRec f).ledger = s.ledger := rfl
@[simp] theorem State.modRec_strings (s : State) (f : Recorder → Recorder) : (s.modRec f).strings = s.strings := rfl
@[simp] theorem State.modRec_packs (s : State) (f : Recorder → Recorder) : (s.modRec f).packs = s.packs := rfl
@[simp] theorem State.modRec_seq (s : State) (f : Recorder → Recorder) : (s.modRec f).seq = s.seq := rfl
@[simp] theorem State.modRec_thermal (s : State) (f : Recorder → Recorder) : (s.modRec f).thermal = s.thermal := rfl
@[simp] theorem State.modRec_lanes (s : State) (f : Recorder → Recorder) : (s.modRec f).lanes = s.lanes := rfl
@[simp] theorem State.modRec_can (s : State) (f : Recorder → Recorder) : (s.modRec f).can = s.can := rfl
@[simp] theorem State.modRec_hosts (s : State) (f : Recorder → Recorder) : (s.modRec f).hosts = s.hosts := rfl
@[simp] theorem State.modRec_hostsRefused (s : State) (f : Recorder → Recorder) : (s.modRec f).hostsRefused = s.hostsRefused := rfl
@[simp] theorem State.modRec_lockOwner (s : State) (f : Recorder → Recorder) : (s.modRec f).lockOwner = s.lockOwner := rfl
@[simp] theorem State.modRec_lockMs (s : State) (f : Recorder → Recorder) : (s.modRec f).lockMs = s.lockMs := rfl
@[simp] theorem State.modRec_wallOffsetMs (s : State) (f : Recorder → Recorder) : (s.modRec f).wallOffsetMs = s.wallOffsetMs := rfl
@[simp] theorem State.modRec_tpdoLast (s : State) (f : Recorder → Recorder) : (s.modRec f).tpdoLast = s.tpdoLast := rfl
@[simp] theorem State.modRec_tpdoInhibit (s : State) (f : Recorder → Recorder) : (s.modRec f).tpdoInhibit = s.tpdoInhibit := rfl
@[simp] theorem State.modRec_tpdoDue (s : State) (f : Recorder → Recorder) : (s.modRec f).tpdoDue = s.tpdoDue := rfl
@[simp] theorem State.modRec_tpdoUs (s : State) (f : Recorder → Recorder) : (s.modRec f).tpdoUs = s.tpdoUs := rfl
@[simp] theorem State.modRec_checkUs (s : State) (f : Recorder → Recorder) : (s.modRec f).checkUs = s.checkUs := rfl
@[simp] theorem State.modRec_tpdoSync (s : State) (f : Recorder → Recorder) : (s.modRec f).tpdoSync = s.tpdoSync := rfl
@[simp] theorem State.modRec_rpdoSecond (s : State) (f : Recorder → Recorder) : (s.modRec f).rpdoSecond = s.rpdoSecond := rfl
@[simp] theorem State.modRec_dap (s : State) (f : Recorder → Recorder) : (s.modRec f).dap = s.dap := rfl
@[simp] theorem State.modRec_dict (s : State) (f : Recorder → Recorder) : (s.modRec f).dict = s.dict := rfl
@[simp] theorem State.modRec_tw (s : State) (f : Recorder → Recorder) : (s.modRec f).tw = s.tw := rfl
@[simp] theorem State.modRec_regs (s : State) (f : Recorder → Recorder) : (s.modRec f).regs = s.regs := rfl
@[simp] theorem State.modRec_cores (s : State) (f : Recorder → Recorder) : (s.modRec f).cores = s.cores := rfl
@[simp] theorem State.modRec_srcs (s : State) (f : Recorder → Recorder) : (s.modRec f).srcs = s.srcs := rfl
@[simp] theorem State.modRec_scrubOrder (s : State) (f : Recorder → Recorder) : (s.modRec f).scrubOrder = s.scrubOrder := rfl
@[simp] theorem State.modRec_badBanks (s : State) (f : Recorder → Recorder) : (s.modRec f).badBanks = s.badBanks := rfl
@[simp] theorem State.modRec_fw (s : State) (f : Recorder → Recorder) : (s.modRec f).fw = s.fw := rfl
@[simp] theorem State.modRec_heldBlocks (s : State) (f : Recorder → Recorder) : (s.modRec f).heldBlocks = s.heldBlocks := rfl
@[simp] theorem State.modRec_heldOther (s : State) (f : Recorder → Recorder) : (s.modRec f).heldOther = s.heldOther := rfl
@[simp] theorem State.modRec_recorder (s : State) (f : Recorder → Recorder) : (s.modRec f).recorder = f s.recorder := rfl

/-! modDict. -/
@[simp] theorem State.modDict_pending (s : State) (f : DictState → DictState) : (s.modDict f).pending = s.pending := rfl
@[simp] theorem State.modDict_freeCount (s : State) (f : DictState → DictState) : (s.modDict f).freeCount = s.freeCount := rfl
@[simp] theorem State.modDict_reply (s : State) (f : DictState → DictState) : (s.modDict f).reply = s.reply := rfl
@[simp] theorem State.modDict_sent (s : State) (f : DictState → DictState) : (s.modDict f).sent = s.sent := rfl
@[simp] theorem State.modDict_phase (s : State) (f : DictState → DictState) : (s.modDict f).phase = s.phase := rfl
@[simp] theorem State.modDict_manage (s : State) (f : DictState → DictState) : (s.modDict f).manage = s.manage := rfl
@[simp] theorem State.modDict_clk (s : State) (f : DictState → DictState) : (s.modDict f).clk = s.clk := rfl
@[simp] theorem State.modDict_pins (s : State) (f : DictState → DictState) : (s.modDict f).pins = s.pins := rfl
@[simp] theorem State.modDict_syncPins (s : State) (f : DictState → DictState) : (s.modDict f).syncPins = s.syncPins := rfl
@[simp] theorem State.modDict_modes (s : State) (f : DictState → DictState) : (s.modDict f).modes = s.modes := rfl
@[simp] theorem State.modDict_own (s : State) (f : DictState → DictState) : (s.modDict f).own = s.own := rfl
@[simp] theorem State.modDict_cells (s : State) (f : DictState → DictState) : (s.modDict f).cells = s.cells := rfl
@[simp] theorem State.modDict_loops (s : State) (f : DictState → DictState) : (s.modDict f).loops = s.loops := rfl
@[simp] theorem State.modDict_traces (s : State) (f : DictState → DictState) : (s.modDict f).traces = s.traces := rfl
@[simp] theorem State.modDict_groups (s : State) (f : DictState → DictState) : (s.modDict f).groups = s.groups := rfl
@[simp] theorem State.modDict_bus (s : State) (f : DictState → DictState) : (s.modDict f).bus = s.bus := rfl
@[simp] theorem State.modDict_alloc (s : State) (f : DictState → DictState) : (s.modDict f).alloc = s.alloc := rfl
@[simp] theorem State.modDict_allocNext (s : State) (f : DictState → DictState) : (s.modDict f).allocNext = s.allocNext := rfl
@[simp] theorem State.modDict_solveCount (s : State) (f : DictState → DictState) : (s.modDict f).solveCount = s.solveCount := rfl
@[simp] theorem State.modDict_idGroup (s : State) (f : DictState → DictState) : (s.modDict f).idGroup = s.idGroup := rfl
@[simp] theorem State.modDict_idAt (s : State) (f : DictState → DictState) : (s.modDict f).idAt = s.idAt := rfl
@[simp] theorem State.modDict_idCycleUs (s : State) (f : DictState → DictState) : (s.modDict f).idCycleUs = s.idCycleUs := rfl
@[simp] theorem State.modDict_refHalf (s : State) (f : DictState → DictState) : (s.modDict f).refHalf = s.refHalf := rfl
@[simp] theorem State.modDict_monitors (s : State) (f : DictState → DictState) : (s.modDict f).monitors = s.monitors := rfl
@[simp] theorem State.modDict_ledger (s : State) (f : DictState → DictState) : (s.modDict f).ledger = s.ledger := rfl
@[simp] theorem State.modDict_strings (s : State) (f : DictState → DictState) : (s.modDict f).strings = s.strings := rfl
@[simp] theorem State.modDict_packs (s : State) (f : DictState → DictState) : (s.modDict f).packs = s.packs := rfl
@[simp] theorem State.modDict_seq (s : State) (f : DictState → DictState) : (s.modDict f).seq = s.seq := rfl
@[simp] theorem State.modDict_thermal (s : State) (f : DictState → DictState) : (s.modDict f).thermal = s.thermal := rfl
@[simp] theorem State.modDict_lanes (s : State) (f : DictState → DictState) : (s.modDict f).lanes = s.lanes := rfl
@[simp] theorem State.modDict_can (s : State) (f : DictState → DictState) : (s.modDict f).can = s.can := rfl
@[simp] theorem State.modDict_hosts (s : State) (f : DictState → DictState) : (s.modDict f).hosts = s.hosts := rfl
@[simp] theorem State.modDict_hostsRefused (s : State) (f : DictState → DictState) : (s.modDict f).hostsRefused = s.hostsRefused := rfl
@[simp] theorem State.modDict_lockOwner (s : State) (f : DictState → DictState) : (s.modDict f).lockOwner = s.lockOwner := rfl
@[simp] theorem State.modDict_lockMs (s : State) (f : DictState → DictState) : (s.modDict f).lockMs = s.lockMs := rfl
@[simp] theorem State.modDict_wallOffsetMs (s : State) (f : DictState → DictState) : (s.modDict f).wallOffsetMs = s.wallOffsetMs := rfl
@[simp] theorem State.modDict_tpdoLast (s : State) (f : DictState → DictState) : (s.modDict f).tpdoLast = s.tpdoLast := rfl
@[simp] theorem State.modDict_tpdoInhibit (s : State) (f : DictState → DictState) : (s.modDict f).tpdoInhibit = s.tpdoInhibit := rfl
@[simp] theorem State.modDict_tpdoDue (s : State) (f : DictState → DictState) : (s.modDict f).tpdoDue = s.tpdoDue := rfl
@[simp] theorem State.modDict_tpdoUs (s : State) (f : DictState → DictState) : (s.modDict f).tpdoUs = s.tpdoUs := rfl
@[simp] theorem State.modDict_checkUs (s : State) (f : DictState → DictState) : (s.modDict f).checkUs = s.checkUs := rfl
@[simp] theorem State.modDict_tpdoSync (s : State) (f : DictState → DictState) : (s.modDict f).tpdoSync = s.tpdoSync := rfl
@[simp] theorem State.modDict_rpdoSecond (s : State) (f : DictState → DictState) : (s.modDict f).rpdoSecond = s.rpdoSecond := rfl
@[simp] theorem State.modDict_dap (s : State) (f : DictState → DictState) : (s.modDict f).dap = s.dap := rfl
@[simp] theorem State.modDict_tw (s : State) (f : DictState → DictState) : (s.modDict f).tw = s.tw := rfl
@[simp] theorem State.modDict_regs (s : State) (f : DictState → DictState) : (s.modDict f).regs = s.regs := rfl
@[simp] theorem State.modDict_cores (s : State) (f : DictState → DictState) : (s.modDict f).cores = s.cores := rfl
@[simp] theorem State.modDict_srcs (s : State) (f : DictState → DictState) : (s.modDict f).srcs = s.srcs := rfl
@[simp] theorem State.modDict_scrubOrder (s : State) (f : DictState → DictState) : (s.modDict f).scrubOrder = s.scrubOrder := rfl
@[simp] theorem State.modDict_badBanks (s : State) (f : DictState → DictState) : (s.modDict f).badBanks = s.badBanks := rfl
@[simp] theorem State.modDict_recorder (s : State) (f : DictState → DictState) : (s.modDict f).recorder = s.recorder := rfl
@[simp] theorem State.modDict_fw (s : State) (f : DictState → DictState) : (s.modDict f).fw = s.fw := rfl
@[simp] theorem State.modDict_heldBlocks (s : State) (f : DictState → DictState) : (s.modDict f).heldBlocks = s.heldBlocks := rfl
@[simp] theorem State.modDict_heldOther (s : State) (f : DictState → DictState) : (s.modDict f).heldOther = s.heldOther := rfl
@[simp] theorem State.modDict_dict (s : State) (f : DictState → DictState) : (s.modDict f).dict = f s.dict := rfl

/-! modModes. -/
@[simp] theorem State.modModes_pending (s : State) (f : ModeState → ModeState) : (s.modModes f).pending = s.pending := rfl
@[simp] theorem State.modModes_freeCount (s : State) (f : ModeState → ModeState) : (s.modModes f).freeCount = s.freeCount := rfl
@[simp] theorem State.modModes_reply (s : State) (f : ModeState → ModeState) : (s.modModes f).reply = s.reply := rfl
@[simp] theorem State.modModes_sent (s : State) (f : ModeState → ModeState) : (s.modModes f).sent = s.sent := rfl
@[simp] theorem State.modModes_phase (s : State) (f : ModeState → ModeState) : (s.modModes f).phase = s.phase := rfl
@[simp] theorem State.modModes_manage (s : State) (f : ModeState → ModeState) : (s.modModes f).manage = s.manage := rfl
@[simp] theorem State.modModes_clk (s : State) (f : ModeState → ModeState) : (s.modModes f).clk = s.clk := rfl
@[simp] theorem State.modModes_pins (s : State) (f : ModeState → ModeState) : (s.modModes f).pins = s.pins := rfl
@[simp] theorem State.modModes_syncPins (s : State) (f : ModeState → ModeState) : (s.modModes f).syncPins = s.syncPins := rfl
@[simp] theorem State.modModes_own (s : State) (f : ModeState → ModeState) : (s.modModes f).own = s.own := rfl
@[simp] theorem State.modModes_cells (s : State) (f : ModeState → ModeState) : (s.modModes f).cells = s.cells := rfl
@[simp] theorem State.modModes_loops (s : State) (f : ModeState → ModeState) : (s.modModes f).loops = s.loops := rfl
@[simp] theorem State.modModes_traces (s : State) (f : ModeState → ModeState) : (s.modModes f).traces = s.traces := rfl
@[simp] theorem State.modModes_groups (s : State) (f : ModeState → ModeState) : (s.modModes f).groups = s.groups := rfl
@[simp] theorem State.modModes_bus (s : State) (f : ModeState → ModeState) : (s.modModes f).bus = s.bus := rfl
@[simp] theorem State.modModes_alloc (s : State) (f : ModeState → ModeState) : (s.modModes f).alloc = s.alloc := rfl
@[simp] theorem State.modModes_allocNext (s : State) (f : ModeState → ModeState) : (s.modModes f).allocNext = s.allocNext := rfl
@[simp] theorem State.modModes_solveCount (s : State) (f : ModeState → ModeState) : (s.modModes f).solveCount = s.solveCount := rfl
@[simp] theorem State.modModes_idGroup (s : State) (f : ModeState → ModeState) : (s.modModes f).idGroup = s.idGroup := rfl
@[simp] theorem State.modModes_idAt (s : State) (f : ModeState → ModeState) : (s.modModes f).idAt = s.idAt := rfl
@[simp] theorem State.modModes_idCycleUs (s : State) (f : ModeState → ModeState) : (s.modModes f).idCycleUs = s.idCycleUs := rfl
@[simp] theorem State.modModes_refHalf (s : State) (f : ModeState → ModeState) : (s.modModes f).refHalf = s.refHalf := rfl
@[simp] theorem State.modModes_monitors (s : State) (f : ModeState → ModeState) : (s.modModes f).monitors = s.monitors := rfl
@[simp] theorem State.modModes_ledger (s : State) (f : ModeState → ModeState) : (s.modModes f).ledger = s.ledger := rfl
@[simp] theorem State.modModes_strings (s : State) (f : ModeState → ModeState) : (s.modModes f).strings = s.strings := rfl
@[simp] theorem State.modModes_packs (s : State) (f : ModeState → ModeState) : (s.modModes f).packs = s.packs := rfl
@[simp] theorem State.modModes_seq (s : State) (f : ModeState → ModeState) : (s.modModes f).seq = s.seq := rfl
@[simp] theorem State.modModes_thermal (s : State) (f : ModeState → ModeState) : (s.modModes f).thermal = s.thermal := rfl
@[simp] theorem State.modModes_lanes (s : State) (f : ModeState → ModeState) : (s.modModes f).lanes = s.lanes := rfl
@[simp] theorem State.modModes_can (s : State) (f : ModeState → ModeState) : (s.modModes f).can = s.can := rfl
@[simp] theorem State.modModes_hosts (s : State) (f : ModeState → ModeState) : (s.modModes f).hosts = s.hosts := rfl
@[simp] theorem State.modModes_hostsRefused (s : State) (f : ModeState → ModeState) : (s.modModes f).hostsRefused = s.hostsRefused := rfl
@[simp] theorem State.modModes_lockOwner (s : State) (f : ModeState → ModeState) : (s.modModes f).lockOwner = s.lockOwner := rfl
@[simp] theorem State.modModes_lockMs (s : State) (f : ModeState → ModeState) : (s.modModes f).lockMs = s.lockMs := rfl
@[simp] theorem State.modModes_wallOffsetMs (s : State) (f : ModeState → ModeState) : (s.modModes f).wallOffsetMs = s.wallOffsetMs := rfl
@[simp] theorem State.modModes_tpdoLast (s : State) (f : ModeState → ModeState) : (s.modModes f).tpdoLast = s.tpdoLast := rfl
@[simp] theorem State.modModes_tpdoInhibit (s : State) (f : ModeState → ModeState) : (s.modModes f).tpdoInhibit = s.tpdoInhibit := rfl
@[simp] theorem State.modModes_tpdoDue (s : State) (f : ModeState → ModeState) : (s.modModes f).tpdoDue = s.tpdoDue := rfl
@[simp] theorem State.modModes_tpdoUs (s : State) (f : ModeState → ModeState) : (s.modModes f).tpdoUs = s.tpdoUs := rfl
@[simp] theorem State.modModes_checkUs (s : State) (f : ModeState → ModeState) : (s.modModes f).checkUs = s.checkUs := rfl
@[simp] theorem State.modModes_tpdoSync (s : State) (f : ModeState → ModeState) : (s.modModes f).tpdoSync = s.tpdoSync := rfl
@[simp] theorem State.modModes_rpdoSecond (s : State) (f : ModeState → ModeState) : (s.modModes f).rpdoSecond = s.rpdoSecond := rfl
@[simp] theorem State.modModes_dap (s : State) (f : ModeState → ModeState) : (s.modModes f).dap = s.dap := rfl
@[simp] theorem State.modModes_dict (s : State) (f : ModeState → ModeState) : (s.modModes f).dict = s.dict := rfl
@[simp] theorem State.modModes_tw (s : State) (f : ModeState → ModeState) : (s.modModes f).tw = s.tw := rfl
@[simp] theorem State.modModes_regs (s : State) (f : ModeState → ModeState) : (s.modModes f).regs = s.regs := rfl
@[simp] theorem State.modModes_cores (s : State) (f : ModeState → ModeState) : (s.modModes f).cores = s.cores := rfl
@[simp] theorem State.modModes_srcs (s : State) (f : ModeState → ModeState) : (s.modModes f).srcs = s.srcs := rfl
@[simp] theorem State.modModes_scrubOrder (s : State) (f : ModeState → ModeState) : (s.modModes f).scrubOrder = s.scrubOrder := rfl
@[simp] theorem State.modModes_badBanks (s : State) (f : ModeState → ModeState) : (s.modModes f).badBanks = s.badBanks := rfl
@[simp] theorem State.modModes_recorder (s : State) (f : ModeState → ModeState) : (s.modModes f).recorder = s.recorder := rfl
@[simp] theorem State.modModes_fw (s : State) (f : ModeState → ModeState) : (s.modModes f).fw = s.fw := rfl
@[simp] theorem State.modModes_heldBlocks (s : State) (f : ModeState → ModeState) : (s.modModes f).heldBlocks = s.heldBlocks := rfl
@[simp] theorem State.modModes_heldOther (s : State) (f : ModeState → ModeState) : (s.modModes f).heldOther = s.heldOther := rfl
@[simp] theorem State.modModes_modes (s : State) (f : ModeState → ModeState) : (s.modModes f).modes = f s.modes := rfl

/-! modClk. -/
@[simp] theorem State.modClk_pending (s : State) (f : Clocks → Clocks) : (s.modClk f).pending = s.pending := rfl
@[simp] theorem State.modClk_freeCount (s : State) (f : Clocks → Clocks) : (s.modClk f).freeCount = s.freeCount := rfl
@[simp] theorem State.modClk_reply (s : State) (f : Clocks → Clocks) : (s.modClk f).reply = s.reply := rfl
@[simp] theorem State.modClk_sent (s : State) (f : Clocks → Clocks) : (s.modClk f).sent = s.sent := rfl
@[simp] theorem State.modClk_phase (s : State) (f : Clocks → Clocks) : (s.modClk f).phase = s.phase := rfl
@[simp] theorem State.modClk_manage (s : State) (f : Clocks → Clocks) : (s.modClk f).manage = s.manage := rfl
@[simp] theorem State.modClk_pins (s : State) (f : Clocks → Clocks) : (s.modClk f).pins = s.pins := rfl
@[simp] theorem State.modClk_syncPins (s : State) (f : Clocks → Clocks) : (s.modClk f).syncPins = s.syncPins := rfl
@[simp] theorem State.modClk_modes (s : State) (f : Clocks → Clocks) : (s.modClk f).modes = s.modes := rfl
@[simp] theorem State.modClk_own (s : State) (f : Clocks → Clocks) : (s.modClk f).own = s.own := rfl
@[simp] theorem State.modClk_cells (s : State) (f : Clocks → Clocks) : (s.modClk f).cells = s.cells := rfl
@[simp] theorem State.modClk_loops (s : State) (f : Clocks → Clocks) : (s.modClk f).loops = s.loops := rfl
@[simp] theorem State.modClk_traces (s : State) (f : Clocks → Clocks) : (s.modClk f).traces = s.traces := rfl
@[simp] theorem State.modClk_groups (s : State) (f : Clocks → Clocks) : (s.modClk f).groups = s.groups := rfl
@[simp] theorem State.modClk_bus (s : State) (f : Clocks → Clocks) : (s.modClk f).bus = s.bus := rfl
@[simp] theorem State.modClk_alloc (s : State) (f : Clocks → Clocks) : (s.modClk f).alloc = s.alloc := rfl
@[simp] theorem State.modClk_allocNext (s : State) (f : Clocks → Clocks) : (s.modClk f).allocNext = s.allocNext := rfl
@[simp] theorem State.modClk_solveCount (s : State) (f : Clocks → Clocks) : (s.modClk f).solveCount = s.solveCount := rfl
@[simp] theorem State.modClk_idGroup (s : State) (f : Clocks → Clocks) : (s.modClk f).idGroup = s.idGroup := rfl
@[simp] theorem State.modClk_idAt (s : State) (f : Clocks → Clocks) : (s.modClk f).idAt = s.idAt := rfl
@[simp] theorem State.modClk_idCycleUs (s : State) (f : Clocks → Clocks) : (s.modClk f).idCycleUs = s.idCycleUs := rfl
@[simp] theorem State.modClk_refHalf (s : State) (f : Clocks → Clocks) : (s.modClk f).refHalf = s.refHalf := rfl
@[simp] theorem State.modClk_monitors (s : State) (f : Clocks → Clocks) : (s.modClk f).monitors = s.monitors := rfl
@[simp] theorem State.modClk_ledger (s : State) (f : Clocks → Clocks) : (s.modClk f).ledger = s.ledger := rfl
@[simp] theorem State.modClk_strings (s : State) (f : Clocks → Clocks) : (s.modClk f).strings = s.strings := rfl
@[simp] theorem State.modClk_packs (s : State) (f : Clocks → Clocks) : (s.modClk f).packs = s.packs := rfl
@[simp] theorem State.modClk_seq (s : State) (f : Clocks → Clocks) : (s.modClk f).seq = s.seq := rfl
@[simp] theorem State.modClk_thermal (s : State) (f : Clocks → Clocks) : (s.modClk f).thermal = s.thermal := rfl
@[simp] theorem State.modClk_lanes (s : State) (f : Clocks → Clocks) : (s.modClk f).lanes = s.lanes := rfl
@[simp] theorem State.modClk_can (s : State) (f : Clocks → Clocks) : (s.modClk f).can = s.can := rfl
@[simp] theorem State.modClk_hosts (s : State) (f : Clocks → Clocks) : (s.modClk f).hosts = s.hosts := rfl
@[simp] theorem State.modClk_hostsRefused (s : State) (f : Clocks → Clocks) : (s.modClk f).hostsRefused = s.hostsRefused := rfl
@[simp] theorem State.modClk_lockOwner (s : State) (f : Clocks → Clocks) : (s.modClk f).lockOwner = s.lockOwner := rfl
@[simp] theorem State.modClk_lockMs (s : State) (f : Clocks → Clocks) : (s.modClk f).lockMs = s.lockMs := rfl
@[simp] theorem State.modClk_wallOffsetMs (s : State) (f : Clocks → Clocks) : (s.modClk f).wallOffsetMs = s.wallOffsetMs := rfl
@[simp] theorem State.modClk_tpdoLast (s : State) (f : Clocks → Clocks) : (s.modClk f).tpdoLast = s.tpdoLast := rfl
@[simp] theorem State.modClk_tpdoInhibit (s : State) (f : Clocks → Clocks) : (s.modClk f).tpdoInhibit = s.tpdoInhibit := rfl
@[simp] theorem State.modClk_tpdoDue (s : State) (f : Clocks → Clocks) : (s.modClk f).tpdoDue = s.tpdoDue := rfl
@[simp] theorem State.modClk_tpdoUs (s : State) (f : Clocks → Clocks) : (s.modClk f).tpdoUs = s.tpdoUs := rfl
@[simp] theorem State.modClk_checkUs (s : State) (f : Clocks → Clocks) : (s.modClk f).checkUs = s.checkUs := rfl
@[simp] theorem State.modClk_tpdoSync (s : State) (f : Clocks → Clocks) : (s.modClk f).tpdoSync = s.tpdoSync := rfl
@[simp] theorem State.modClk_rpdoSecond (s : State) (f : Clocks → Clocks) : (s.modClk f).rpdoSecond = s.rpdoSecond := rfl
@[simp] theorem State.modClk_dap (s : State) (f : Clocks → Clocks) : (s.modClk f).dap = s.dap := rfl
@[simp] theorem State.modClk_dict (s : State) (f : Clocks → Clocks) : (s.modClk f).dict = s.dict := rfl
@[simp] theorem State.modClk_tw (s : State) (f : Clocks → Clocks) : (s.modClk f).tw = s.tw := rfl
@[simp] theorem State.modClk_regs (s : State) (f : Clocks → Clocks) : (s.modClk f).regs = s.regs := rfl
@[simp] theorem State.modClk_cores (s : State) (f : Clocks → Clocks) : (s.modClk f).cores = s.cores := rfl
@[simp] theorem State.modClk_srcs (s : State) (f : Clocks → Clocks) : (s.modClk f).srcs = s.srcs := rfl
@[simp] theorem State.modClk_scrubOrder (s : State) (f : Clocks → Clocks) : (s.modClk f).scrubOrder = s.scrubOrder := rfl
@[simp] theorem State.modClk_badBanks (s : State) (f : Clocks → Clocks) : (s.modClk f).badBanks = s.badBanks := rfl
@[simp] theorem State.modClk_recorder (s : State) (f : Clocks → Clocks) : (s.modClk f).recorder = s.recorder := rfl
@[simp] theorem State.modClk_fw (s : State) (f : Clocks → Clocks) : (s.modClk f).fw = s.fw := rfl
@[simp] theorem State.modClk_heldBlocks (s : State) (f : Clocks → Clocks) : (s.modClk f).heldBlocks = s.heldBlocks := rfl
@[simp] theorem State.modClk_heldOther (s : State) (f : Clocks → Clocks) : (s.modClk f).heldOther = s.heldOther := rfl
@[simp] theorem State.modClk_clk (s : State) (f : Clocks → Clocks) : (s.modClk f).clk = f s.clk := rfl

/-! modPins. -/
@[simp] theorem State.modPins_pending (s : State) (f : Pins → Pins) : (s.modPins f).pending = s.pending := rfl
@[simp] theorem State.modPins_freeCount (s : State) (f : Pins → Pins) : (s.modPins f).freeCount = s.freeCount := rfl
@[simp] theorem State.modPins_reply (s : State) (f : Pins → Pins) : (s.modPins f).reply = s.reply := rfl
@[simp] theorem State.modPins_sent (s : State) (f : Pins → Pins) : (s.modPins f).sent = s.sent := rfl
@[simp] theorem State.modPins_phase (s : State) (f : Pins → Pins) : (s.modPins f).phase = s.phase := rfl
@[simp] theorem State.modPins_manage (s : State) (f : Pins → Pins) : (s.modPins f).manage = s.manage := rfl
@[simp] theorem State.modPins_clk (s : State) (f : Pins → Pins) : (s.modPins f).clk = s.clk := rfl
@[simp] theorem State.modPins_syncPins (s : State) (f : Pins → Pins) : (s.modPins f).syncPins = s.syncPins := rfl
@[simp] theorem State.modPins_modes (s : State) (f : Pins → Pins) : (s.modPins f).modes = s.modes := rfl
@[simp] theorem State.modPins_own (s : State) (f : Pins → Pins) : (s.modPins f).own = s.own := rfl
@[simp] theorem State.modPins_cells (s : State) (f : Pins → Pins) : (s.modPins f).cells = s.cells := rfl
@[simp] theorem State.modPins_loops (s : State) (f : Pins → Pins) : (s.modPins f).loops = s.loops := rfl
@[simp] theorem State.modPins_traces (s : State) (f : Pins → Pins) : (s.modPins f).traces = s.traces := rfl
@[simp] theorem State.modPins_groups (s : State) (f : Pins → Pins) : (s.modPins f).groups = s.groups := rfl
@[simp] theorem State.modPins_bus (s : State) (f : Pins → Pins) : (s.modPins f).bus = s.bus := rfl
@[simp] theorem State.modPins_alloc (s : State) (f : Pins → Pins) : (s.modPins f).alloc = s.alloc := rfl
@[simp] theorem State.modPins_allocNext (s : State) (f : Pins → Pins) : (s.modPins f).allocNext = s.allocNext := rfl
@[simp] theorem State.modPins_solveCount (s : State) (f : Pins → Pins) : (s.modPins f).solveCount = s.solveCount := rfl
@[simp] theorem State.modPins_idGroup (s : State) (f : Pins → Pins) : (s.modPins f).idGroup = s.idGroup := rfl
@[simp] theorem State.modPins_idAt (s : State) (f : Pins → Pins) : (s.modPins f).idAt = s.idAt := rfl
@[simp] theorem State.modPins_idCycleUs (s : State) (f : Pins → Pins) : (s.modPins f).idCycleUs = s.idCycleUs := rfl
@[simp] theorem State.modPins_refHalf (s : State) (f : Pins → Pins) : (s.modPins f).refHalf = s.refHalf := rfl
@[simp] theorem State.modPins_monitors (s : State) (f : Pins → Pins) : (s.modPins f).monitors = s.monitors := rfl
@[simp] theorem State.modPins_ledger (s : State) (f : Pins → Pins) : (s.modPins f).ledger = s.ledger := rfl
@[simp] theorem State.modPins_strings (s : State) (f : Pins → Pins) : (s.modPins f).strings = s.strings := rfl
@[simp] theorem State.modPins_packs (s : State) (f : Pins → Pins) : (s.modPins f).packs = s.packs := rfl
@[simp] theorem State.modPins_seq (s : State) (f : Pins → Pins) : (s.modPins f).seq = s.seq := rfl
@[simp] theorem State.modPins_thermal (s : State) (f : Pins → Pins) : (s.modPins f).thermal = s.thermal := rfl
@[simp] theorem State.modPins_lanes (s : State) (f : Pins → Pins) : (s.modPins f).lanes = s.lanes := rfl
@[simp] theorem State.modPins_can (s : State) (f : Pins → Pins) : (s.modPins f).can = s.can := rfl
@[simp] theorem State.modPins_hosts (s : State) (f : Pins → Pins) : (s.modPins f).hosts = s.hosts := rfl
@[simp] theorem State.modPins_hostsRefused (s : State) (f : Pins → Pins) : (s.modPins f).hostsRefused = s.hostsRefused := rfl
@[simp] theorem State.modPins_lockOwner (s : State) (f : Pins → Pins) : (s.modPins f).lockOwner = s.lockOwner := rfl
@[simp] theorem State.modPins_lockMs (s : State) (f : Pins → Pins) : (s.modPins f).lockMs = s.lockMs := rfl
@[simp] theorem State.modPins_wallOffsetMs (s : State) (f : Pins → Pins) : (s.modPins f).wallOffsetMs = s.wallOffsetMs := rfl
@[simp] theorem State.modPins_tpdoLast (s : State) (f : Pins → Pins) : (s.modPins f).tpdoLast = s.tpdoLast := rfl
@[simp] theorem State.modPins_tpdoInhibit (s : State) (f : Pins → Pins) : (s.modPins f).tpdoInhibit = s.tpdoInhibit := rfl
@[simp] theorem State.modPins_tpdoDue (s : State) (f : Pins → Pins) : (s.modPins f).tpdoDue = s.tpdoDue := rfl
@[simp] theorem State.modPins_tpdoUs (s : State) (f : Pins → Pins) : (s.modPins f).tpdoUs = s.tpdoUs := rfl
@[simp] theorem State.modPins_checkUs (s : State) (f : Pins → Pins) : (s.modPins f).checkUs = s.checkUs := rfl
@[simp] theorem State.modPins_tpdoSync (s : State) (f : Pins → Pins) : (s.modPins f).tpdoSync = s.tpdoSync := rfl
@[simp] theorem State.modPins_rpdoSecond (s : State) (f : Pins → Pins) : (s.modPins f).rpdoSecond = s.rpdoSecond := rfl
@[simp] theorem State.modPins_dap (s : State) (f : Pins → Pins) : (s.modPins f).dap = s.dap := rfl
@[simp] theorem State.modPins_dict (s : State) (f : Pins → Pins) : (s.modPins f).dict = s.dict := rfl
@[simp] theorem State.modPins_tw (s : State) (f : Pins → Pins) : (s.modPins f).tw = s.tw := rfl
@[simp] theorem State.modPins_regs (s : State) (f : Pins → Pins) : (s.modPins f).regs = s.regs := rfl
@[simp] theorem State.modPins_cores (s : State) (f : Pins → Pins) : (s.modPins f).cores = s.cores := rfl
@[simp] theorem State.modPins_srcs (s : State) (f : Pins → Pins) : (s.modPins f).srcs = s.srcs := rfl
@[simp] theorem State.modPins_scrubOrder (s : State) (f : Pins → Pins) : (s.modPins f).scrubOrder = s.scrubOrder := rfl
@[simp] theorem State.modPins_badBanks (s : State) (f : Pins → Pins) : (s.modPins f).badBanks = s.badBanks := rfl
@[simp] theorem State.modPins_recorder (s : State) (f : Pins → Pins) : (s.modPins f).recorder = s.recorder := rfl
@[simp] theorem State.modPins_fw (s : State) (f : Pins → Pins) : (s.modPins f).fw = s.fw := rfl
@[simp] theorem State.modPins_heldBlocks (s : State) (f : Pins → Pins) : (s.modPins f).heldBlocks = s.heldBlocks := rfl
@[simp] theorem State.modPins_heldOther (s : State) (f : Pins → Pins) : (s.modPins f).heldOther = s.heldOther := rfl
@[simp] theorem State.modPins_pins (s : State) (f : Pins → Pins) : (s.modPins f).pins = f s.pins := rfl

/-! modFw. -/
@[simp] theorem State.modFw_pending (s : State) (f : Firmware → Firmware) : (s.modFw f).pending = s.pending := rfl
@[simp] theorem State.modFw_freeCount (s : State) (f : Firmware → Firmware) : (s.modFw f).freeCount = s.freeCount := rfl
@[simp] theorem State.modFw_reply (s : State) (f : Firmware → Firmware) : (s.modFw f).reply = s.reply := rfl
@[simp] theorem State.modFw_sent (s : State) (f : Firmware → Firmware) : (s.modFw f).sent = s.sent := rfl
@[simp] theorem State.modFw_phase (s : State) (f : Firmware → Firmware) : (s.modFw f).phase = s.phase := rfl
@[simp] theorem State.modFw_manage (s : State) (f : Firmware → Firmware) : (s.modFw f).manage = s.manage := rfl
@[simp] theorem State.modFw_clk (s : State) (f : Firmware → Firmware) : (s.modFw f).clk = s.clk := rfl
@[simp] theorem State.modFw_pins (s : State) (f : Firmware → Firmware) : (s.modFw f).pins = s.pins := rfl
@[simp] theorem State.modFw_syncPins (s : State) (f : Firmware → Firmware) : (s.modFw f).syncPins = s.syncPins := rfl
@[simp] theorem State.modFw_modes (s : State) (f : Firmware → Firmware) : (s.modFw f).modes = s.modes := rfl
@[simp] theorem State.modFw_own (s : State) (f : Firmware → Firmware) : (s.modFw f).own = s.own := rfl
@[simp] theorem State.modFw_cells (s : State) (f : Firmware → Firmware) : (s.modFw f).cells = s.cells := rfl
@[simp] theorem State.modFw_loops (s : State) (f : Firmware → Firmware) : (s.modFw f).loops = s.loops := rfl
@[simp] theorem State.modFw_traces (s : State) (f : Firmware → Firmware) : (s.modFw f).traces = s.traces := rfl
@[simp] theorem State.modFw_groups (s : State) (f : Firmware → Firmware) : (s.modFw f).groups = s.groups := rfl
@[simp] theorem State.modFw_bus (s : State) (f : Firmware → Firmware) : (s.modFw f).bus = s.bus := rfl
@[simp] theorem State.modFw_alloc (s : State) (f : Firmware → Firmware) : (s.modFw f).alloc = s.alloc := rfl
@[simp] theorem State.modFw_allocNext (s : State) (f : Firmware → Firmware) : (s.modFw f).allocNext = s.allocNext := rfl
@[simp] theorem State.modFw_solveCount (s : State) (f : Firmware → Firmware) : (s.modFw f).solveCount = s.solveCount := rfl
@[simp] theorem State.modFw_idGroup (s : State) (f : Firmware → Firmware) : (s.modFw f).idGroup = s.idGroup := rfl
@[simp] theorem State.modFw_idAt (s : State) (f : Firmware → Firmware) : (s.modFw f).idAt = s.idAt := rfl
@[simp] theorem State.modFw_idCycleUs (s : State) (f : Firmware → Firmware) : (s.modFw f).idCycleUs = s.idCycleUs := rfl
@[simp] theorem State.modFw_refHalf (s : State) (f : Firmware → Firmware) : (s.modFw f).refHalf = s.refHalf := rfl
@[simp] theorem State.modFw_monitors (s : State) (f : Firmware → Firmware) : (s.modFw f).monitors = s.monitors := rfl
@[simp] theorem State.modFw_ledger (s : State) (f : Firmware → Firmware) : (s.modFw f).ledger = s.ledger := rfl
@[simp] theorem State.modFw_strings (s : State) (f : Firmware → Firmware) : (s.modFw f).strings = s.strings := rfl
@[simp] theorem State.modFw_packs (s : State) (f : Firmware → Firmware) : (s.modFw f).packs = s.packs := rfl
@[simp] theorem State.modFw_seq (s : State) (f : Firmware → Firmware) : (s.modFw f).seq = s.seq := rfl
@[simp] theorem State.modFw_thermal (s : State) (f : Firmware → Firmware) : (s.modFw f).thermal = s.thermal := rfl
@[simp] theorem State.modFw_lanes (s : State) (f : Firmware → Firmware) : (s.modFw f).lanes = s.lanes := rfl
@[simp] theorem State.modFw_can (s : State) (f : Firmware → Firmware) : (s.modFw f).can = s.can := rfl
@[simp] theorem State.modFw_hosts (s : State) (f : Firmware → Firmware) : (s.modFw f).hosts = s.hosts := rfl
@[simp] theorem State.modFw_hostsRefused (s : State) (f : Firmware → Firmware) : (s.modFw f).hostsRefused = s.hostsRefused := rfl
@[simp] theorem State.modFw_lockOwner (s : State) (f : Firmware → Firmware) : (s.modFw f).lockOwner = s.lockOwner := rfl
@[simp] theorem State.modFw_lockMs (s : State) (f : Firmware → Firmware) : (s.modFw f).lockMs = s.lockMs := rfl
@[simp] theorem State.modFw_wallOffsetMs (s : State) (f : Firmware → Firmware) : (s.modFw f).wallOffsetMs = s.wallOffsetMs := rfl
@[simp] theorem State.modFw_tpdoLast (s : State) (f : Firmware → Firmware) : (s.modFw f).tpdoLast = s.tpdoLast := rfl
@[simp] theorem State.modFw_tpdoInhibit (s : State) (f : Firmware → Firmware) : (s.modFw f).tpdoInhibit = s.tpdoInhibit := rfl
@[simp] theorem State.modFw_tpdoDue (s : State) (f : Firmware → Firmware) : (s.modFw f).tpdoDue = s.tpdoDue := rfl
@[simp] theorem State.modFw_tpdoUs (s : State) (f : Firmware → Firmware) : (s.modFw f).tpdoUs = s.tpdoUs := rfl
@[simp] theorem State.modFw_checkUs (s : State) (f : Firmware → Firmware) : (s.modFw f).checkUs = s.checkUs := rfl
@[simp] theorem State.modFw_tpdoSync (s : State) (f : Firmware → Firmware) : (s.modFw f).tpdoSync = s.tpdoSync := rfl
@[simp] theorem State.modFw_rpdoSecond (s : State) (f : Firmware → Firmware) : (s.modFw f).rpdoSecond = s.rpdoSecond := rfl
@[simp] theorem State.modFw_dap (s : State) (f : Firmware → Firmware) : (s.modFw f).dap = s.dap := rfl
@[simp] theorem State.modFw_dict (s : State) (f : Firmware → Firmware) : (s.modFw f).dict = s.dict := rfl
@[simp] theorem State.modFw_tw (s : State) (f : Firmware → Firmware) : (s.modFw f).tw = s.tw := rfl
@[simp] theorem State.modFw_regs (s : State) (f : Firmware → Firmware) : (s.modFw f).regs = s.regs := rfl
@[simp] theorem State.modFw_cores (s : State) (f : Firmware → Firmware) : (s.modFw f).cores = s.cores := rfl
@[simp] theorem State.modFw_srcs (s : State) (f : Firmware → Firmware) : (s.modFw f).srcs = s.srcs := rfl
@[simp] theorem State.modFw_scrubOrder (s : State) (f : Firmware → Firmware) : (s.modFw f).scrubOrder = s.scrubOrder := rfl
@[simp] theorem State.modFw_badBanks (s : State) (f : Firmware → Firmware) : (s.modFw f).badBanks = s.badBanks := rfl
@[simp] theorem State.modFw_recorder (s : State) (f : Firmware → Firmware) : (s.modFw f).recorder = s.recorder := rfl
@[simp] theorem State.modFw_heldBlocks (s : State) (f : Firmware → Firmware) : (s.modFw f).heldBlocks = s.heldBlocks := rfl
@[simp] theorem State.modFw_heldOther (s : State) (f : Firmware → Firmware) : (s.modFw f).heldOther = s.heldOther := rfl
@[simp] theorem State.modFw_fw (s : State) (f : Firmware → Firmware) : (s.modFw f).fw = f s.fw := rfl

/-! modSession. -/
@[simp] theorem State.modSession_pending (s : State) (f : Session → Session) : (s.modSession f).pending = s.pending := rfl
@[simp] theorem State.modSession_freeCount (s : State) (f : Session → Session) : (s.modSession f).freeCount = s.freeCount := rfl
@[simp] theorem State.modSession_reply (s : State) (f : Session → Session) : (s.modSession f).reply = s.reply := rfl
@[simp] theorem State.modSession_sent (s : State) (f : Session → Session) : (s.modSession f).sent = s.sent := rfl
@[simp] theorem State.modSession_phase (s : State) (f : Session → Session) : (s.modSession f).phase = s.phase := rfl
@[simp] theorem State.modSession_manage (s : State) (f : Session → Session) : (s.modSession f).manage = s.manage := rfl
@[simp] theorem State.modSession_clk (s : State) (f : Session → Session) : (s.modSession f).clk = s.clk := rfl
@[simp] theorem State.modSession_pins (s : State) (f : Session → Session) : (s.modSession f).pins = s.pins := rfl
@[simp] theorem State.modSession_syncPins (s : State) (f : Session → Session) : (s.modSession f).syncPins = s.syncPins := rfl
@[simp] theorem State.modSession_modes (s : State) (f : Session → Session) : (s.modSession f).modes = s.modes := rfl
@[simp] theorem State.modSession_own (s : State) (f : Session → Session) : (s.modSession f).own = s.own := rfl
@[simp] theorem State.modSession_cells (s : State) (f : Session → Session) : (s.modSession f).cells = s.cells := rfl
@[simp] theorem State.modSession_loops (s : State) (f : Session → Session) : (s.modSession f).loops = s.loops := rfl
@[simp] theorem State.modSession_traces (s : State) (f : Session → Session) : (s.modSession f).traces = s.traces := rfl
@[simp] theorem State.modSession_groups (s : State) (f : Session → Session) : (s.modSession f).groups = s.groups := rfl
@[simp] theorem State.modSession_bus (s : State) (f : Session → Session) : (s.modSession f).bus = s.bus := rfl
@[simp] theorem State.modSession_alloc (s : State) (f : Session → Session) : (s.modSession f).alloc = s.alloc := rfl
@[simp] theorem State.modSession_allocNext (s : State) (f : Session → Session) : (s.modSession f).allocNext = s.allocNext := rfl
@[simp] theorem State.modSession_solveCount (s : State) (f : Session → Session) : (s.modSession f).solveCount = s.solveCount := rfl
@[simp] theorem State.modSession_idGroup (s : State) (f : Session → Session) : (s.modSession f).idGroup = s.idGroup := rfl
@[simp] theorem State.modSession_idAt (s : State) (f : Session → Session) : (s.modSession f).idAt = s.idAt := rfl
@[simp] theorem State.modSession_idCycleUs (s : State) (f : Session → Session) : (s.modSession f).idCycleUs = s.idCycleUs := rfl
@[simp] theorem State.modSession_refHalf (s : State) (f : Session → Session) : (s.modSession f).refHalf = s.refHalf := rfl
@[simp] theorem State.modSession_monitors (s : State) (f : Session → Session) : (s.modSession f).monitors = s.monitors := rfl
@[simp] theorem State.modSession_ledger (s : State) (f : Session → Session) : (s.modSession f).ledger = s.ledger := rfl
@[simp] theorem State.modSession_strings (s : State) (f : Session → Session) : (s.modSession f).strings = s.strings := rfl
@[simp] theorem State.modSession_packs (s : State) (f : Session → Session) : (s.modSession f).packs = s.packs := rfl
@[simp] theorem State.modSession_seq (s : State) (f : Session → Session) : (s.modSession f).seq = s.seq := rfl
@[simp] theorem State.modSession_thermal (s : State) (f : Session → Session) : (s.modSession f).thermal = s.thermal := rfl
@[simp] theorem State.modSession_lanes (s : State) (f : Session → Session) : (s.modSession f).lanes = s.lanes := rfl
@[simp] theorem State.modSession_can (s : State) (f : Session → Session) : (s.modSession f).can = s.can := rfl
@[simp] theorem State.modSession_hosts (s : State) (f : Session → Session) : (s.modSession f).hosts = s.hosts := rfl
@[simp] theorem State.modSession_hostsRefused (s : State) (f : Session → Session) : (s.modSession f).hostsRefused = s.hostsRefused := rfl
@[simp] theorem State.modSession_lockOwner (s : State) (f : Session → Session) : (s.modSession f).lockOwner = s.lockOwner := rfl
@[simp] theorem State.modSession_lockMs (s : State) (f : Session → Session) : (s.modSession f).lockMs = s.lockMs := rfl
@[simp] theorem State.modSession_wallOffsetMs (s : State) (f : Session → Session) : (s.modSession f).wallOffsetMs = s.wallOffsetMs := rfl
@[simp] theorem State.modSession_tpdoLast (s : State) (f : Session → Session) : (s.modSession f).tpdoLast = s.tpdoLast := rfl
@[simp] theorem State.modSession_tpdoInhibit (s : State) (f : Session → Session) : (s.modSession f).tpdoInhibit = s.tpdoInhibit := rfl
@[simp] theorem State.modSession_tpdoDue (s : State) (f : Session → Session) : (s.modSession f).tpdoDue = s.tpdoDue := rfl
@[simp] theorem State.modSession_tpdoUs (s : State) (f : Session → Session) : (s.modSession f).tpdoUs = s.tpdoUs := rfl
@[simp] theorem State.modSession_checkUs (s : State) (f : Session → Session) : (s.modSession f).checkUs = s.checkUs := rfl
@[simp] theorem State.modSession_tpdoSync (s : State) (f : Session → Session) : (s.modSession f).tpdoSync = s.tpdoSync := rfl
@[simp] theorem State.modSession_rpdoSecond (s : State) (f : Session → Session) : (s.modSession f).rpdoSecond = s.rpdoSecond := rfl
@[simp] theorem State.modSession_dap (s : State) (f : Session → Session) : (s.modSession f).dap = s.dap := rfl
@[simp] theorem State.modSession_dict (s : State) (f : Session → Session) : (s.modSession f).dict = s.dict := rfl
@[simp] theorem State.modSession_tw (s : State) (f : Session → Session) : (s.modSession f).tw = s.tw := rfl
@[simp] theorem State.modSession_regs (s : State) (f : Session → Session) : (s.modSession f).regs = s.regs := rfl
@[simp] theorem State.modSession_cores (s : State) (f : Session → Session) : (s.modSession f).cores = s.cores := rfl
@[simp] theorem State.modSession_srcs (s : State) (f : Session → Session) : (s.modSession f).srcs = s.srcs := rfl
@[simp] theorem State.modSession_scrubOrder (s : State) (f : Session → Session) : (s.modSession f).scrubOrder = s.scrubOrder := rfl
@[simp] theorem State.modSession_badBanks (s : State) (f : Session → Session) : (s.modSession f).badBanks = s.badBanks := rfl
@[simp] theorem State.modSession_recorder (s : State) (f : Session → Session) : (s.modSession f).recorder = s.recorder := rfl
@[simp] theorem State.modSession_heldBlocks (s : State) (f : Session → Session) : (s.modSession f).heldBlocks = s.heldBlocks := rfl
@[simp] theorem State.modSession_heldOther (s : State) (f : Session → Session) : (s.modSession f).heldOther = s.heldOther := rfl

/-! modBus. -/
@[simp] theorem State.modBus_pending (s : State) (f : Bus → Bus) : (s.modBus f).pending = s.pending := rfl
@[simp] theorem State.modBus_freeCount (s : State) (f : Bus → Bus) : (s.modBus f).freeCount = s.freeCount := rfl
@[simp] theorem State.modBus_reply (s : State) (f : Bus → Bus) : (s.modBus f).reply = s.reply := rfl
@[simp] theorem State.modBus_sent (s : State) (f : Bus → Bus) : (s.modBus f).sent = s.sent := rfl
@[simp] theorem State.modBus_phase (s : State) (f : Bus → Bus) : (s.modBus f).phase = s.phase := rfl
@[simp] theorem State.modBus_manage (s : State) (f : Bus → Bus) : (s.modBus f).manage = s.manage := rfl
@[simp] theorem State.modBus_clk (s : State) (f : Bus → Bus) : (s.modBus f).clk = s.clk := rfl
@[simp] theorem State.modBus_pins (s : State) (f : Bus → Bus) : (s.modBus f).pins = s.pins := rfl
@[simp] theorem State.modBus_syncPins (s : State) (f : Bus → Bus) : (s.modBus f).syncPins = s.syncPins := rfl
@[simp] theorem State.modBus_modes (s : State) (f : Bus → Bus) : (s.modBus f).modes = s.modes := rfl
@[simp] theorem State.modBus_own (s : State) (f : Bus → Bus) : (s.modBus f).own = s.own := rfl
@[simp] theorem State.modBus_cells (s : State) (f : Bus → Bus) : (s.modBus f).cells = s.cells := rfl
@[simp] theorem State.modBus_loops (s : State) (f : Bus → Bus) : (s.modBus f).loops = s.loops := rfl
@[simp] theorem State.modBus_traces (s : State) (f : Bus → Bus) : (s.modBus f).traces = s.traces := rfl
@[simp] theorem State.modBus_groups (s : State) (f : Bus → Bus) : (s.modBus f).groups = s.groups := rfl
@[simp] theorem State.modBus_alloc (s : State) (f : Bus → Bus) : (s.modBus f).alloc = s.alloc := rfl
@[simp] theorem State.modBus_allocNext (s : State) (f : Bus → Bus) : (s.modBus f).allocNext = s.allocNext := rfl
@[simp] theorem State.modBus_solveCount (s : State) (f : Bus → Bus) : (s.modBus f).solveCount = s.solveCount := rfl
@[simp] theorem State.modBus_idGroup (s : State) (f : Bus → Bus) : (s.modBus f).idGroup = s.idGroup := rfl
@[simp] theorem State.modBus_idAt (s : State) (f : Bus → Bus) : (s.modBus f).idAt = s.idAt := rfl
@[simp] theorem State.modBus_idCycleUs (s : State) (f : Bus → Bus) : (s.modBus f).idCycleUs = s.idCycleUs := rfl
@[simp] theorem State.modBus_refHalf (s : State) (f : Bus → Bus) : (s.modBus f).refHalf = s.refHalf := rfl
@[simp] theorem State.modBus_monitors (s : State) (f : Bus → Bus) : (s.modBus f).monitors = s.monitors := rfl
@[simp] theorem State.modBus_ledger (s : State) (f : Bus → Bus) : (s.modBus f).ledger = s.ledger := rfl
@[simp] theorem State.modBus_strings (s : State) (f : Bus → Bus) : (s.modBus f).strings = s.strings := rfl
@[simp] theorem State.modBus_packs (s : State) (f : Bus → Bus) : (s.modBus f).packs = s.packs := rfl
@[simp] theorem State.modBus_seq (s : State) (f : Bus → Bus) : (s.modBus f).seq = s.seq := rfl
@[simp] theorem State.modBus_thermal (s : State) (f : Bus → Bus) : (s.modBus f).thermal = s.thermal := rfl
@[simp] theorem State.modBus_lanes (s : State) (f : Bus → Bus) : (s.modBus f).lanes = s.lanes := rfl
@[simp] theorem State.modBus_can (s : State) (f : Bus → Bus) : (s.modBus f).can = s.can := rfl
@[simp] theorem State.modBus_hosts (s : State) (f : Bus → Bus) : (s.modBus f).hosts = s.hosts := rfl
@[simp] theorem State.modBus_hostsRefused (s : State) (f : Bus → Bus) : (s.modBus f).hostsRefused = s.hostsRefused := rfl
@[simp] theorem State.modBus_lockOwner (s : State) (f : Bus → Bus) : (s.modBus f).lockOwner = s.lockOwner := rfl
@[simp] theorem State.modBus_lockMs (s : State) (f : Bus → Bus) : (s.modBus f).lockMs = s.lockMs := rfl
@[simp] theorem State.modBus_wallOffsetMs (s : State) (f : Bus → Bus) : (s.modBus f).wallOffsetMs = s.wallOffsetMs := rfl
@[simp] theorem State.modBus_tpdoLast (s : State) (f : Bus → Bus) : (s.modBus f).tpdoLast = s.tpdoLast := rfl
@[simp] theorem State.modBus_tpdoInhibit (s : State) (f : Bus → Bus) : (s.modBus f).tpdoInhibit = s.tpdoInhibit := rfl
@[simp] theorem State.modBus_tpdoDue (s : State) (f : Bus → Bus) : (s.modBus f).tpdoDue = s.tpdoDue := rfl
@[simp] theorem State.modBus_tpdoUs (s : State) (f : Bus → Bus) : (s.modBus f).tpdoUs = s.tpdoUs := rfl
@[simp] theorem State.modBus_checkUs (s : State) (f : Bus → Bus) : (s.modBus f).checkUs = s.checkUs := rfl
@[simp] theorem State.modBus_tpdoSync (s : State) (f : Bus → Bus) : (s.modBus f).tpdoSync = s.tpdoSync := rfl
@[simp] theorem State.modBus_rpdoSecond (s : State) (f : Bus → Bus) : (s.modBus f).rpdoSecond = s.rpdoSecond := rfl
@[simp] theorem State.modBus_dap (s : State) (f : Bus → Bus) : (s.modBus f).dap = s.dap := rfl
@[simp] theorem State.modBus_dict (s : State) (f : Bus → Bus) : (s.modBus f).dict = s.dict := rfl
@[simp] theorem State.modBus_tw (s : State) (f : Bus → Bus) : (s.modBus f).tw = s.tw := rfl
@[simp] theorem State.modBus_regs (s : State) (f : Bus → Bus) : (s.modBus f).regs = s.regs := rfl
@[simp] theorem State.modBus_cores (s : State) (f : Bus → Bus) : (s.modBus f).cores = s.cores := rfl
@[simp] theorem State.modBus_srcs (s : State) (f : Bus → Bus) : (s.modBus f).srcs = s.srcs := rfl
@[simp] theorem State.modBus_scrubOrder (s : State) (f : Bus → Bus) : (s.modBus f).scrubOrder = s.scrubOrder := rfl
@[simp] theorem State.modBus_badBanks (s : State) (f : Bus → Bus) : (s.modBus f).badBanks = s.badBanks := rfl
@[simp] theorem State.modBus_recorder (s : State) (f : Bus → Bus) : (s.modBus f).recorder = s.recorder := rfl
@[simp] theorem State.modBus_fw (s : State) (f : Bus → Bus) : (s.modBus f).fw = s.fw := rfl
@[simp] theorem State.modBus_heldBlocks (s : State) (f : Bus → Bus) : (s.modBus f).heldBlocks = s.heldBlocks := rfl
@[simp] theorem State.modBus_heldOther (s : State) (f : Bus → Bus) : (s.modBus f).heldOther = s.heldOther := rfl
@[simp] theorem State.modBus_bus (s : State) (f : Bus → Bus) : (s.modBus f).bus = f s.bus := rfl

/-! setWritten. -/
@[simp] theorem State.setWritten_pending (s : State) (index sub : Nat) (v : Int) : (s.setWritten index sub v).pending = s.pending := rfl
@[simp] theorem State.setWritten_freeCount (s : State) (index sub : Nat) (v : Int) : (s.setWritten index sub v).freeCount = s.freeCount := rfl
@[simp] theorem State.setWritten_reply (s : State) (index sub : Nat) (v : Int) : (s.setWritten index sub v).reply = s.reply := rfl
@[simp] theorem State.setWritten_sent (s : State) (index sub : Nat) (v : Int) : (s.setWritten index sub v).sent = s.sent := rfl
@[simp] theorem State.setWritten_phase (s : State) (index sub : Nat) (v : Int) : (s.setWritten index sub v).phase = s.phase := rfl
@[simp] theorem State.setWritten_manage (s : State) (index sub : Nat) (v : Int) : (s.setWritten index sub v).manage = s.manage := rfl
@[simp] theorem State.setWritten_clk (s : State) (index sub : Nat) (v : Int) : (s.setWritten index sub v).clk = s.clk := rfl
@[simp] theorem State.setWritten_pins (s : State) (index sub : Nat) (v : Int) : (s.setWritten index sub v).pins = s.pins := rfl
@[simp] theorem State.setWritten_syncPins (s : State) (index sub : Nat) (v : Int) : (s.setWritten index sub v).syncPins = s.syncPins := rfl
@[simp] theorem State.setWritten_modes (s : State) (index sub : Nat) (v : Int) : (s.setWritten index sub v).modes = s.modes := rfl
@[simp] theorem State.setWritten_own (s : State) (index sub : Nat) (v : Int) : (s.setWritten index sub v).own = s.own := rfl
@[simp] theorem State.setWritten_cells (s : State) (index sub : Nat) (v : Int) : (s.setWritten index sub v).cells = s.cells := rfl
@[simp] theorem State.setWritten_loops (s : State) (index sub : Nat) (v : Int) : (s.setWritten index sub v).loops = s.loops := rfl
@[simp] theorem State.setWritten_traces (s : State) (index sub : Nat) (v : Int) : (s.setWritten index sub v).traces = s.traces := rfl
@[simp] theorem State.setWritten_groups (s : State) (index sub : Nat) (v : Int) : (s.setWritten index sub v).groups = s.groups := rfl
@[simp] theorem State.setWritten_bus (s : State) (index sub : Nat) (v : Int) : (s.setWritten index sub v).bus = s.bus := rfl
@[simp] theorem State.setWritten_alloc (s : State) (index sub : Nat) (v : Int) : (s.setWritten index sub v).alloc = s.alloc := rfl
@[simp] theorem State.setWritten_allocNext (s : State) (index sub : Nat) (v : Int) : (s.setWritten index sub v).allocNext = s.allocNext := rfl
@[simp] theorem State.setWritten_solveCount (s : State) (index sub : Nat) (v : Int) : (s.setWritten index sub v).solveCount = s.solveCount := rfl
@[simp] theorem State.setWritten_idGroup (s : State) (index sub : Nat) (v : Int) : (s.setWritten index sub v).idGroup = s.idGroup := rfl
@[simp] theorem State.setWritten_idAt (s : State) (index sub : Nat) (v : Int) : (s.setWritten index sub v).idAt = s.idAt := rfl
@[simp] theorem State.setWritten_idCycleUs (s : State) (index sub : Nat) (v : Int) : (s.setWritten index sub v).idCycleUs = s.idCycleUs := rfl
@[simp] theorem State.setWritten_refHalf (s : State) (index sub : Nat) (v : Int) : (s.setWritten index sub v).refHalf = s.refHalf := rfl
@[simp] theorem State.setWritten_monitors (s : State) (index sub : Nat) (v : Int) : (s.setWritten index sub v).monitors = s.monitors := rfl
@[simp] theorem State.setWritten_ledger (s : State) (index sub : Nat) (v : Int) : (s.setWritten index sub v).ledger = s.ledger := rfl
@[simp] theorem State.setWritten_strings (s : State) (index sub : Nat) (v : Int) : (s.setWritten index sub v).strings = s.strings := rfl
@[simp] theorem State.setWritten_packs (s : State) (index sub : Nat) (v : Int) : (s.setWritten index sub v).packs = s.packs := rfl
@[simp] theorem State.setWritten_seq (s : State) (index sub : Nat) (v : Int) : (s.setWritten index sub v).seq = s.seq := rfl
@[simp] theorem State.setWritten_thermal (s : State) (index sub : Nat) (v : Int) : (s.setWritten index sub v).thermal = s.thermal := rfl
@[simp] theorem State.setWritten_lanes (s : State) (index sub : Nat) (v : Int) : (s.setWritten index sub v).lanes = s.lanes := rfl
@[simp] theorem State.setWritten_can (s : State) (index sub : Nat) (v : Int) : (s.setWritten index sub v).can = s.can := rfl
@[simp] theorem State.setWritten_hosts (s : State) (index sub : Nat) (v : Int) : (s.setWritten index sub v).hosts = s.hosts := rfl
@[simp] theorem State.setWritten_hostsRefused (s : State) (index sub : Nat) (v : Int) : (s.setWritten index sub v).hostsRefused = s.hostsRefused := rfl
@[simp] theorem State.setWritten_lockOwner (s : State) (index sub : Nat) (v : Int) : (s.setWritten index sub v).lockOwner = s.lockOwner := rfl
@[simp] theorem State.setWritten_lockMs (s : State) (index sub : Nat) (v : Int) : (s.setWritten index sub v).lockMs = s.lockMs := rfl
@[simp] theorem State.setWritten_wallOffsetMs (s : State) (index sub : Nat) (v : Int) : (s.setWritten index sub v).wallOffsetMs = s.wallOffsetMs := rfl
@[simp] theorem State.setWritten_tpdoLast (s : State) (index sub : Nat) (v : Int) : (s.setWritten index sub v).tpdoLast = s.tpdoLast := rfl
@[simp] theorem State.setWritten_tpdoInhibit (s : State) (index sub : Nat) (v : Int) : (s.setWritten index sub v).tpdoInhibit = s.tpdoInhibit := rfl
@[simp] theorem State.setWritten_tpdoDue (s : State) (index sub : Nat) (v : Int) : (s.setWritten index sub v).tpdoDue = s.tpdoDue := rfl
@[simp] theorem State.setWritten_tpdoUs (s : State) (index sub : Nat) (v : Int) : (s.setWritten index sub v).tpdoUs = s.tpdoUs := rfl
@[simp] theorem State.setWritten_checkUs (s : State) (index sub : Nat) (v : Int) : (s.setWritten index sub v).checkUs = s.checkUs := rfl
@[simp] theorem State.setWritten_tpdoSync (s : State) (index sub : Nat) (v : Int) : (s.setWritten index sub v).tpdoSync = s.tpdoSync := rfl
@[simp] theorem State.setWritten_rpdoSecond (s : State) (index sub : Nat) (v : Int) : (s.setWritten index sub v).rpdoSecond = s.rpdoSecond := rfl
@[simp] theorem State.setWritten_dap (s : State) (index sub : Nat) (v : Int) : (s.setWritten index sub v).dap = s.dap := rfl
@[simp] theorem State.setWritten_tw (s : State) (index sub : Nat) (v : Int) : (s.setWritten index sub v).tw = s.tw := rfl
@[simp] theorem State.setWritten_regs (s : State) (index sub : Nat) (v : Int) : (s.setWritten index sub v).regs = s.regs := rfl
@[simp] theorem State.setWritten_cores (s : State) (index sub : Nat) (v : Int) : (s.setWritten index sub v).cores = s.cores := rfl
@[simp] theorem State.setWritten_srcs (s : State) (index sub : Nat) (v : Int) : (s.setWritten index sub v).srcs = s.srcs := rfl
@[simp] theorem State.setWritten_scrubOrder (s : State) (index sub : Nat) (v : Int) : (s.setWritten index sub v).scrubOrder = s.scrubOrder := rfl
@[simp] theorem State.setWritten_badBanks (s : State) (index sub : Nat) (v : Int) : (s.setWritten index sub v).badBanks = s.badBanks := rfl
@[simp] theorem State.setWritten_recorder (s : State) (index sub : Nat) (v : Int) : (s.setWritten index sub v).recorder = s.recorder := rfl
@[simp] theorem State.setWritten_fw (s : State) (index sub : Nat) (v : Int) : (s.setWritten index sub v).fw = s.fw := rfl
@[simp] theorem State.setWritten_heldBlocks (s : State) (index sub : Nat) (v : Int) : (s.setWritten index sub v).heldBlocks = s.heldBlocks := rfl
@[simp] theorem State.setWritten_heldOther (s : State) (index sub : Nat) (v : Int) : (s.setWritten index sub v).heldOther = s.heldOther := rfl

/-! setForce. -/
@[simp] theorem State.setForce_pending (s : State) (index sub : Nat) (v : Int) : (s.setForce index sub v).pending = s.pending := rfl
@[simp] theorem State.setForce_freeCount (s : State) (index sub : Nat) (v : Int) : (s.setForce index sub v).freeCount = s.freeCount := rfl
@[simp] theorem State.setForce_reply (s : State) (index sub : Nat) (v : Int) : (s.setForce index sub v).reply = s.reply := rfl
@[simp] theorem State.setForce_sent (s : State) (index sub : Nat) (v : Int) : (s.setForce index sub v).sent = s.sent := rfl
@[simp] theorem State.setForce_phase (s : State) (index sub : Nat) (v : Int) : (s.setForce index sub v).phase = s.phase := rfl
@[simp] theorem State.setForce_manage (s : State) (index sub : Nat) (v : Int) : (s.setForce index sub v).manage = s.manage := rfl
@[simp] theorem State.setForce_clk (s : State) (index sub : Nat) (v : Int) : (s.setForce index sub v).clk = s.clk := rfl
@[simp] theorem State.setForce_pins (s : State) (index sub : Nat) (v : Int) : (s.setForce index sub v).pins = s.pins := rfl
@[simp] theorem State.setForce_syncPins (s : State) (index sub : Nat) (v : Int) : (s.setForce index sub v).syncPins = s.syncPins := rfl
@[simp] theorem State.setForce_modes (s : State) (index sub : Nat) (v : Int) : (s.setForce index sub v).modes = s.modes := rfl
@[simp] theorem State.setForce_own (s : State) (index sub : Nat) (v : Int) : (s.setForce index sub v).own = s.own := rfl
@[simp] theorem State.setForce_cells (s : State) (index sub : Nat) (v : Int) : (s.setForce index sub v).cells = s.cells := rfl
@[simp] theorem State.setForce_loops (s : State) (index sub : Nat) (v : Int) : (s.setForce index sub v).loops = s.loops := rfl
@[simp] theorem State.setForce_traces (s : State) (index sub : Nat) (v : Int) : (s.setForce index sub v).traces = s.traces := rfl
@[simp] theorem State.setForce_groups (s : State) (index sub : Nat) (v : Int) : (s.setForce index sub v).groups = s.groups := rfl
@[simp] theorem State.setForce_bus (s : State) (index sub : Nat) (v : Int) : (s.setForce index sub v).bus = s.bus := rfl
@[simp] theorem State.setForce_alloc (s : State) (index sub : Nat) (v : Int) : (s.setForce index sub v).alloc = s.alloc := rfl
@[simp] theorem State.setForce_allocNext (s : State) (index sub : Nat) (v : Int) : (s.setForce index sub v).allocNext = s.allocNext := rfl
@[simp] theorem State.setForce_solveCount (s : State) (index sub : Nat) (v : Int) : (s.setForce index sub v).solveCount = s.solveCount := rfl
@[simp] theorem State.setForce_idGroup (s : State) (index sub : Nat) (v : Int) : (s.setForce index sub v).idGroup = s.idGroup := rfl
@[simp] theorem State.setForce_idAt (s : State) (index sub : Nat) (v : Int) : (s.setForce index sub v).idAt = s.idAt := rfl
@[simp] theorem State.setForce_idCycleUs (s : State) (index sub : Nat) (v : Int) : (s.setForce index sub v).idCycleUs = s.idCycleUs := rfl
@[simp] theorem State.setForce_refHalf (s : State) (index sub : Nat) (v : Int) : (s.setForce index sub v).refHalf = s.refHalf := rfl
@[simp] theorem State.setForce_monitors (s : State) (index sub : Nat) (v : Int) : (s.setForce index sub v).monitors = s.monitors := rfl
@[simp] theorem State.setForce_ledger (s : State) (index sub : Nat) (v : Int) : (s.setForce index sub v).ledger = s.ledger := rfl
@[simp] theorem State.setForce_strings (s : State) (index sub : Nat) (v : Int) : (s.setForce index sub v).strings = s.strings := rfl
@[simp] theorem State.setForce_packs (s : State) (index sub : Nat) (v : Int) : (s.setForce index sub v).packs = s.packs := rfl
@[simp] theorem State.setForce_seq (s : State) (index sub : Nat) (v : Int) : (s.setForce index sub v).seq = s.seq := rfl
@[simp] theorem State.setForce_thermal (s : State) (index sub : Nat) (v : Int) : (s.setForce index sub v).thermal = s.thermal := rfl
@[simp] theorem State.setForce_lanes (s : State) (index sub : Nat) (v : Int) : (s.setForce index sub v).lanes = s.lanes := rfl
@[simp] theorem State.setForce_can (s : State) (index sub : Nat) (v : Int) : (s.setForce index sub v).can = s.can := rfl
@[simp] theorem State.setForce_hosts (s : State) (index sub : Nat) (v : Int) : (s.setForce index sub v).hosts = s.hosts := rfl
@[simp] theorem State.setForce_hostsRefused (s : State) (index sub : Nat) (v : Int) : (s.setForce index sub v).hostsRefused = s.hostsRefused := rfl
@[simp] theorem State.setForce_lockOwner (s : State) (index sub : Nat) (v : Int) : (s.setForce index sub v).lockOwner = s.lockOwner := rfl
@[simp] theorem State.setForce_lockMs (s : State) (index sub : Nat) (v : Int) : (s.setForce index sub v).lockMs = s.lockMs := rfl
@[simp] theorem State.setForce_wallOffsetMs (s : State) (index sub : Nat) (v : Int) : (s.setForce index sub v).wallOffsetMs = s.wallOffsetMs := rfl
@[simp] theorem State.setForce_tpdoLast (s : State) (index sub : Nat) (v : Int) : (s.setForce index sub v).tpdoLast = s.tpdoLast := rfl
@[simp] theorem State.setForce_tpdoInhibit (s : State) (index sub : Nat) (v : Int) : (s.setForce index sub v).tpdoInhibit = s.tpdoInhibit := rfl
@[simp] theorem State.setForce_tpdoDue (s : State) (index sub : Nat) (v : Int) : (s.setForce index sub v).tpdoDue = s.tpdoDue := rfl
@[simp] theorem State.setForce_tpdoUs (s : State) (index sub : Nat) (v : Int) : (s.setForce index sub v).tpdoUs = s.tpdoUs := rfl
@[simp] theorem State.setForce_checkUs (s : State) (index sub : Nat) (v : Int) : (s.setForce index sub v).checkUs = s.checkUs := rfl
@[simp] theorem State.setForce_tpdoSync (s : State) (index sub : Nat) (v : Int) : (s.setForce index sub v).tpdoSync = s.tpdoSync := rfl
@[simp] theorem State.setForce_rpdoSecond (s : State) (index sub : Nat) (v : Int) : (s.setForce index sub v).rpdoSecond = s.rpdoSecond := rfl
@[simp] theorem State.setForce_dap (s : State) (index sub : Nat) (v : Int) : (s.setForce index sub v).dap = s.dap := rfl
@[simp] theorem State.setForce_tw (s : State) (index sub : Nat) (v : Int) : (s.setForce index sub v).tw = s.tw := rfl
@[simp] theorem State.setForce_regs (s : State) (index sub : Nat) (v : Int) : (s.setForce index sub v).regs = s.regs := rfl
@[simp] theorem State.setForce_cores (s : State) (index sub : Nat) (v : Int) : (s.setForce index sub v).cores = s.cores := rfl
@[simp] theorem State.setForce_srcs (s : State) (index sub : Nat) (v : Int) : (s.setForce index sub v).srcs = s.srcs := rfl
@[simp] theorem State.setForce_scrubOrder (s : State) (index sub : Nat) (v : Int) : (s.setForce index sub v).scrubOrder = s.scrubOrder := rfl
@[simp] theorem State.setForce_badBanks (s : State) (index sub : Nat) (v : Int) : (s.setForce index sub v).badBanks = s.badBanks := rfl
@[simp] theorem State.setForce_recorder (s : State) (index sub : Nat) (v : Int) : (s.setForce index sub v).recorder = s.recorder := rfl
@[simp] theorem State.setForce_fw (s : State) (index sub : Nat) (v : Int) : (s.setForce index sub v).fw = s.fw := rfl
@[simp] theorem State.setForce_heldBlocks (s : State) (index sub : Nat) (v : Int) : (s.setForce index sub v).heldBlocks = s.heldBlocks := rfl
@[simp] theorem State.setForce_heldOther (s : State) (index sub : Nat) (v : Int) : (s.setForce index sub v).heldOther = s.heldOther := rfl

/-! send. -/
@[simp] theorem State.send_pending (s : State) (m : Msg) : (s.send m).pending = s.pending := rfl
@[simp] theorem State.send_freeCount (s : State) (m : Msg) : (s.send m).freeCount = s.freeCount := rfl
@[simp] theorem State.send_reply (s : State) (m : Msg) : (s.send m).reply = s.reply := rfl
@[simp] theorem State.send_phase (s : State) (m : Msg) : (s.send m).phase = s.phase := rfl
@[simp] theorem State.send_manage (s : State) (m : Msg) : (s.send m).manage = s.manage := rfl
@[simp] theorem State.send_clk (s : State) (m : Msg) : (s.send m).clk = s.clk := rfl
@[simp] theorem State.send_pins (s : State) (m : Msg) : (s.send m).pins = s.pins := rfl
@[simp] theorem State.send_syncPins (s : State) (m : Msg) : (s.send m).syncPins = s.syncPins := rfl
@[simp] theorem State.send_modes (s : State) (m : Msg) : (s.send m).modes = s.modes := rfl
@[simp] theorem State.send_own (s : State) (m : Msg) : (s.send m).own = s.own := rfl
@[simp] theorem State.send_cells (s : State) (m : Msg) : (s.send m).cells = s.cells := rfl
@[simp] theorem State.send_loops (s : State) (m : Msg) : (s.send m).loops = s.loops := rfl
@[simp] theorem State.send_traces (s : State) (m : Msg) : (s.send m).traces = s.traces := rfl
@[simp] theorem State.send_groups (s : State) (m : Msg) : (s.send m).groups = s.groups := rfl
@[simp] theorem State.send_bus (s : State) (m : Msg) : (s.send m).bus = s.bus := rfl
@[simp] theorem State.send_alloc (s : State) (m : Msg) : (s.send m).alloc = s.alloc := rfl
@[simp] theorem State.send_allocNext (s : State) (m : Msg) : (s.send m).allocNext = s.allocNext := rfl
@[simp] theorem State.send_solveCount (s : State) (m : Msg) : (s.send m).solveCount = s.solveCount := rfl
@[simp] theorem State.send_idGroup (s : State) (m : Msg) : (s.send m).idGroup = s.idGroup := rfl
@[simp] theorem State.send_idAt (s : State) (m : Msg) : (s.send m).idAt = s.idAt := rfl
@[simp] theorem State.send_idCycleUs (s : State) (m : Msg) : (s.send m).idCycleUs = s.idCycleUs := rfl
@[simp] theorem State.send_refHalf (s : State) (m : Msg) : (s.send m).refHalf = s.refHalf := rfl
@[simp] theorem State.send_monitors (s : State) (m : Msg) : (s.send m).monitors = s.monitors := rfl
@[simp] theorem State.send_ledger (s : State) (m : Msg) : (s.send m).ledger = s.ledger := rfl
@[simp] theorem State.send_strings (s : State) (m : Msg) : (s.send m).strings = s.strings := rfl
@[simp] theorem State.send_packs (s : State) (m : Msg) : (s.send m).packs = s.packs := rfl
@[simp] theorem State.send_seq (s : State) (m : Msg) : (s.send m).seq = s.seq := rfl
@[simp] theorem State.send_thermal (s : State) (m : Msg) : (s.send m).thermal = s.thermal := rfl
@[simp] theorem State.send_lanes (s : State) (m : Msg) : (s.send m).lanes = s.lanes := rfl
@[simp] theorem State.send_can (s : State) (m : Msg) : (s.send m).can = s.can := rfl
@[simp] theorem State.send_hosts (s : State) (m : Msg) : (s.send m).hosts = s.hosts := rfl
@[simp] theorem State.send_hostsRefused (s : State) (m : Msg) : (s.send m).hostsRefused = s.hostsRefused := rfl
@[simp] theorem State.send_lockOwner (s : State) (m : Msg) : (s.send m).lockOwner = s.lockOwner := rfl
@[simp] theorem State.send_lockMs (s : State) (m : Msg) : (s.send m).lockMs = s.lockMs := rfl
@[simp] theorem State.send_wallOffsetMs (s : State) (m : Msg) : (s.send m).wallOffsetMs = s.wallOffsetMs := rfl
@[simp] theorem State.send_tpdoLast (s : State) (m : Msg) : (s.send m).tpdoLast = s.tpdoLast := rfl
@[simp] theorem State.send_tpdoInhibit (s : State) (m : Msg) : (s.send m).tpdoInhibit = s.tpdoInhibit := rfl
@[simp] theorem State.send_tpdoDue (s : State) (m : Msg) : (s.send m).tpdoDue = s.tpdoDue := rfl
@[simp] theorem State.send_tpdoUs (s : State) (m : Msg) : (s.send m).tpdoUs = s.tpdoUs := rfl
@[simp] theorem State.send_checkUs (s : State) (m : Msg) : (s.send m).checkUs = s.checkUs := rfl
@[simp] theorem State.send_tpdoSync (s : State) (m : Msg) : (s.send m).tpdoSync = s.tpdoSync := rfl
@[simp] theorem State.send_rpdoSecond (s : State) (m : Msg) : (s.send m).rpdoSecond = s.rpdoSecond := rfl
@[simp] theorem State.send_dap (s : State) (m : Msg) : (s.send m).dap = s.dap := rfl
@[simp] theorem State.send_dict (s : State) (m : Msg) : (s.send m).dict = s.dict := rfl
@[simp] theorem State.send_tw (s : State) (m : Msg) : (s.send m).tw = s.tw := rfl
@[simp] theorem State.send_regs (s : State) (m : Msg) : (s.send m).regs = s.regs := rfl
@[simp] theorem State.send_cores (s : State) (m : Msg) : (s.send m).cores = s.cores := rfl
@[simp] theorem State.send_srcs (s : State) (m : Msg) : (s.send m).srcs = s.srcs := rfl
@[simp] theorem State.send_scrubOrder (s : State) (m : Msg) : (s.send m).scrubOrder = s.scrubOrder := rfl
@[simp] theorem State.send_badBanks (s : State) (m : Msg) : (s.send m).badBanks = s.badBanks := rfl
@[simp] theorem State.send_recorder (s : State) (m : Msg) : (s.send m).recorder = s.recorder := rfl
@[simp] theorem State.send_fw (s : State) (m : Msg) : (s.send m).fw = s.fw := rfl
@[simp] theorem State.send_heldBlocks (s : State) (m : Msg) : (s.send m).heldBlocks = s.heldBlocks := rfl
@[simp] theorem State.send_heldOther (s : State) (m : Msg) : (s.send m).heldOther = s.heldOther := rfl

/-! answer. -/
@[simp] theorem State.answer_pending (s : State) (code : Nat) (data : Bytes) (total : Nat) : (s.answer code data total).pending = s.pending := rfl
@[simp] theorem State.answer_freeCount (s : State) (code : Nat) (data : Bytes) (total : Nat) : (s.answer code data total).freeCount = s.freeCount := rfl
@[simp] theorem State.answer_sent (s : State) (code : Nat) (data : Bytes) (total : Nat) : (s.answer code data total).sent = s.sent := rfl
@[simp] theorem State.answer_phase (s : State) (code : Nat) (data : Bytes) (total : Nat) : (s.answer code data total).phase = s.phase := rfl
@[simp] theorem State.answer_manage (s : State) (code : Nat) (data : Bytes) (total : Nat) : (s.answer code data total).manage = s.manage := rfl
@[simp] theorem State.answer_clk (s : State) (code : Nat) (data : Bytes) (total : Nat) : (s.answer code data total).clk = s.clk := rfl
@[simp] theorem State.answer_pins (s : State) (code : Nat) (data : Bytes) (total : Nat) : (s.answer code data total).pins = s.pins := rfl
@[simp] theorem State.answer_syncPins (s : State) (code : Nat) (data : Bytes) (total : Nat) : (s.answer code data total).syncPins = s.syncPins := rfl
@[simp] theorem State.answer_modes (s : State) (code : Nat) (data : Bytes) (total : Nat) : (s.answer code data total).modes = s.modes := rfl
@[simp] theorem State.answer_own (s : State) (code : Nat) (data : Bytes) (total : Nat) : (s.answer code data total).own = s.own := rfl
@[simp] theorem State.answer_cells (s : State) (code : Nat) (data : Bytes) (total : Nat) : (s.answer code data total).cells = s.cells := rfl
@[simp] theorem State.answer_loops (s : State) (code : Nat) (data : Bytes) (total : Nat) : (s.answer code data total).loops = s.loops := rfl
@[simp] theorem State.answer_traces (s : State) (code : Nat) (data : Bytes) (total : Nat) : (s.answer code data total).traces = s.traces := rfl
@[simp] theorem State.answer_groups (s : State) (code : Nat) (data : Bytes) (total : Nat) : (s.answer code data total).groups = s.groups := rfl
@[simp] theorem State.answer_bus (s : State) (code : Nat) (data : Bytes) (total : Nat) : (s.answer code data total).bus = s.bus := rfl
@[simp] theorem State.answer_alloc (s : State) (code : Nat) (data : Bytes) (total : Nat) : (s.answer code data total).alloc = s.alloc := rfl
@[simp] theorem State.answer_allocNext (s : State) (code : Nat) (data : Bytes) (total : Nat) : (s.answer code data total).allocNext = s.allocNext := rfl
@[simp] theorem State.answer_solveCount (s : State) (code : Nat) (data : Bytes) (total : Nat) : (s.answer code data total).solveCount = s.solveCount := rfl
@[simp] theorem State.answer_idGroup (s : State) (code : Nat) (data : Bytes) (total : Nat) : (s.answer code data total).idGroup = s.idGroup := rfl
@[simp] theorem State.answer_idAt (s : State) (code : Nat) (data : Bytes) (total : Nat) : (s.answer code data total).idAt = s.idAt := rfl
@[simp] theorem State.answer_idCycleUs (s : State) (code : Nat) (data : Bytes) (total : Nat) : (s.answer code data total).idCycleUs = s.idCycleUs := rfl
@[simp] theorem State.answer_refHalf (s : State) (code : Nat) (data : Bytes) (total : Nat) : (s.answer code data total).refHalf = s.refHalf := rfl
@[simp] theorem State.answer_monitors (s : State) (code : Nat) (data : Bytes) (total : Nat) : (s.answer code data total).monitors = s.monitors := rfl
@[simp] theorem State.answer_ledger (s : State) (code : Nat) (data : Bytes) (total : Nat) : (s.answer code data total).ledger = s.ledger := rfl
@[simp] theorem State.answer_strings (s : State) (code : Nat) (data : Bytes) (total : Nat) : (s.answer code data total).strings = s.strings := rfl
@[simp] theorem State.answer_packs (s : State) (code : Nat) (data : Bytes) (total : Nat) : (s.answer code data total).packs = s.packs := rfl
@[simp] theorem State.answer_seq (s : State) (code : Nat) (data : Bytes) (total : Nat) : (s.answer code data total).seq = s.seq := rfl
@[simp] theorem State.answer_thermal (s : State) (code : Nat) (data : Bytes) (total : Nat) : (s.answer code data total).thermal = s.thermal := rfl
@[simp] theorem State.answer_lanes (s : State) (code : Nat) (data : Bytes) (total : Nat) : (s.answer code data total).lanes = s.lanes := rfl
@[simp] theorem State.answer_can (s : State) (code : Nat) (data : Bytes) (total : Nat) : (s.answer code data total).can = s.can := rfl
@[simp] theorem State.answer_hosts (s : State) (code : Nat) (data : Bytes) (total : Nat) : (s.answer code data total).hosts = s.hosts := rfl
@[simp] theorem State.answer_hostsRefused (s : State) (code : Nat) (data : Bytes) (total : Nat) : (s.answer code data total).hostsRefused = s.hostsRefused := rfl
@[simp] theorem State.answer_lockOwner (s : State) (code : Nat) (data : Bytes) (total : Nat) : (s.answer code data total).lockOwner = s.lockOwner := rfl
@[simp] theorem State.answer_lockMs (s : State) (code : Nat) (data : Bytes) (total : Nat) : (s.answer code data total).lockMs = s.lockMs := rfl
@[simp] theorem State.answer_wallOffsetMs (s : State) (code : Nat) (data : Bytes) (total : Nat) : (s.answer code data total).wallOffsetMs = s.wallOffsetMs := rfl
@[simp] theorem State.answer_tpdoLast (s : State) (code : Nat) (data : Bytes) (total : Nat) : (s.answer code data total).tpdoLast = s.tpdoLast := rfl
@[simp] theorem State.answer_tpdoInhibit (s : State) (code : Nat) (data : Bytes) (total : Nat) : (s.answer code data total).tpdoInhibit = s.tpdoInhibit := rfl
@[simp] theorem State.answer_tpdoDue (s : State) (code : Nat) (data : Bytes) (total : Nat) : (s.answer code data total).tpdoDue = s.tpdoDue := rfl
@[simp] theorem State.answer_tpdoUs (s : State) (code : Nat) (data : Bytes) (total : Nat) : (s.answer code data total).tpdoUs = s.tpdoUs := rfl
@[simp] theorem State.answer_checkUs (s : State) (code : Nat) (data : Bytes) (total : Nat) : (s.answer code data total).checkUs = s.checkUs := rfl
@[simp] theorem State.answer_tpdoSync (s : State) (code : Nat) (data : Bytes) (total : Nat) : (s.answer code data total).tpdoSync = s.tpdoSync := rfl
@[simp] theorem State.answer_rpdoSecond (s : State) (code : Nat) (data : Bytes) (total : Nat) : (s.answer code data total).rpdoSecond = s.rpdoSecond := rfl
@[simp] theorem State.answer_dap (s : State) (code : Nat) (data : Bytes) (total : Nat) : (s.answer code data total).dap = s.dap := rfl
@[simp] theorem State.answer_dict (s : State) (code : Nat) (data : Bytes) (total : Nat) : (s.answer code data total).dict = s.dict := rfl
@[simp] theorem State.answer_tw (s : State) (code : Nat) (data : Bytes) (total : Nat) : (s.answer code data total).tw = s.tw := rfl
@[simp] theorem State.answer_regs (s : State) (code : Nat) (data : Bytes) (total : Nat) : (s.answer code data total).regs = s.regs := rfl
@[simp] theorem State.answer_cores (s : State) (code : Nat) (data : Bytes) (total : Nat) : (s.answer code data total).cores = s.cores := rfl
@[simp] theorem State.answer_srcs (s : State) (code : Nat) (data : Bytes) (total : Nat) : (s.answer code data total).srcs = s.srcs := rfl
@[simp] theorem State.answer_scrubOrder (s : State) (code : Nat) (data : Bytes) (total : Nat) : (s.answer code data total).scrubOrder = s.scrubOrder := rfl
@[simp] theorem State.answer_badBanks (s : State) (code : Nat) (data : Bytes) (total : Nat) : (s.answer code data total).badBanks = s.badBanks := rfl
@[simp] theorem State.answer_recorder (s : State) (code : Nat) (data : Bytes) (total : Nat) : (s.answer code data total).recorder = s.recorder := rfl
@[simp] theorem State.answer_fw (s : State) (code : Nat) (data : Bytes) (total : Nat) : (s.answer code data total).fw = s.fw := rfl
@[simp] theorem State.answer_heldBlocks (s : State) (code : Nat) (data : Bytes) (total : Nat) : (s.answer code data total).heldBlocks = s.heldBlocks := rfl
@[simp] theorem State.answer_heldOther (s : State) (code : Nat) (data : Bytes) (total : Nat) : (s.answer code data total).heldOther = s.heldOther := rfl

/-! Parts of a cell, of the ledger and of the sequencer. -/

@[simp] theorem State.modFeeder_self (s : State) (c : CellNo) (f : Feeder → Feeder) :
    (s.modFeeder c f).cells[(c : Nat)] = { s.cells[(c : Nat)] with feeder := f s.cells[(c : Nat)].feeder } := State.modCell_self s c _
theorem State.modFeeder_ne (s : State) (c : CellNo) (f : Feeder → Feeder) {j : CellNo} (h : j ≠ c) :
    (s.modFeeder c f).cells[(j : Nat)] = s.cells[(j : Nat)] := State.modCell_ne s c _ h
@[simp] theorem State.modOring_self (s : State) (c : CellNo) (f : Oring → Oring) :
    (s.modOring c f).cells[(c : Nat)] = { s.cells[(c : Nat)] with oring := f s.cells[(c : Nat)].oring } := State.modCell_self s c _
theorem State.modOring_ne (s : State) (c : CellNo) (f : Oring → Oring) {j : CellNo} (h : j ≠ c) :
    (s.modOring c f).cells[(j : Nat)] = s.cells[(j : Nat)] := State.modCell_ne s c _ h
@[simp] theorem State.modSink_self (s : State) (x : SinkNo) (f : Sink → Sink) :
    (s.modSink x f).ledger.sinks[(x : Nat)] = f s.ledger.sinks[(x : Nat)] := by simp [State.modSink, State.modLedger]
theorem State.modSink_ne (s : State) (x : SinkNo) (f : Sink → Sink) {j : SinkNo} (h : j ≠ x) :
    (s.modSink x f).ledger.sinks[(j : Nat)] = s.ledger.sinks[(j : Nat)] := by
  have h : (x : Nat) ≠ j := fun e => h (Fin.ext e.symm)
  simp [State.modSink, State.modLedger, Vector.getElem_set_ne, h]
@[simp] theorem State.modSink_grants (s : State) (x : SinkNo) (f : Sink → Sink) :
    (s.modSink x f).ledger.grants = s.ledger.grants := rfl
@[simp] theorem State.modGrant_self (s : State) (g : GrantNo) (f : Grant → Grant) :
    (s.modGrant g f).ledger.grants[(g : Nat)] = f s.ledger.grants[(g : Nat)] := by simp [State.modGrant, State.modLedger]
@[simp] theorem State.modGrant_sinks (s : State) (g : GrantNo) (f : Grant → Grant) :
    (s.modGrant g f).ledger.sinks = s.ledger.sinks := rfl
@[simp] theorem State.modRail_self (s : State) (r : RailNo) (f : Rail → Rail) :
    (s.modRail r f).seq.rails[(r : Nat)] = f s.seq.rails[(r : Nat)] := by simp [State.modRail, State.modSeq]
theorem State.modRail_ne (s : State) (r : RailNo) (f : Rail → Rail) {j : RailNo} (h : j ≠ r) :
    (s.modRail r f).seq.rails[(j : Nat)] = s.seq.rails[(j : Nat)] := by
  have h : (r : Nat) ≠ j := fun e => h (Fin.ext e.symm)
  simp [State.modRail, State.modSeq, Vector.getElem_set_ne, h]
@[simp] theorem State.modSession_fw (s : State) (f : Session → Session) :
    (s.modSession f).fw = { s.fw with session := f s.fw.session } := rfl
@[simp] theorem State.setWritten_dict (s : State) (index sub : Nat) (v : Int) :
    (s.setWritten index sub v).dict = { s.dict with written := Dict.store s.dict.written index sub v } := rfl
@[simp] theorem State.setForce_dict (s : State) (index sub : Nat) (v : Int) :
    (s.setForce index sub v).dict = { s.dict with force := Dict.store s.dict.force index sub v } := rfl
@[simp] theorem State.send_sent (s : State) (m : Msg) : (s.send m).sent = s.sent ++ [m] := rfl
@[simp] theorem State.answer_reply (s : State) (code : Nat) (data : Bytes) (total : Nat) :
    (s.answer code data total).reply = { code := code, data := data, total := total } := rfl

/-! Doing something for each of several instances: what one keeps, all keep. -/

/-- A property that each step of `over` keeps holds after all of them. -/
theorem State.over_ind {α : Type} {P : State → Prop} {f : α → State → State} (hf : ∀ a t, P t → P (f a t)) :
    ∀ (xs : List α) (s : State), P s → P (s.over xs f)
  | [], _, h => h
  | a :: xs, s, h => State.over_ind hf xs (f a s) (hf a s h)

/-- A property that each step of `each` keeps holds after all of them. -/
theorem State.each_ind {n : Nat} {P : State → Prop} {f : Fin n → State → State} (hf : ∀ i t, P t → P (f i t)) (s : State) (h : P s) :
    P (s.each n f) := State.over_ind hf (List.finRange n) s h

/-- A property that `f` keeps holds after `onFin`. -/
theorem State.onFin_ind {b n : Nat} {P : State → Prop} {f : Fin b → State → State} (hf : ∀ i t, P t → P (f i t)) (s : State) (h : P s) :
    P (s.onFin b n f) := by
  unfold State.onFin
  split
  · exact hf _ s h
  · exact h

@[simp] theorem State.over_nil {α : Type} (s : State) (f : α → State → State) : s.over [] f = s := rfl

end Sys2Proof.Machine
end

