-- ==== Sys2Proof/Laws/Event.lean ====
section
/-! SUPPORT. Laws/Event.lean: all that recording an event can change, and all that sending an EMCY can change. -/

namespace Sys2Proof.Machine

/-! Recording (R345 to R351, R90, R365). -/

/-- What recording may differ in: the recorder, the trace units, and the settling time of a trial. -/
def State.Noted (s t : State) : Prop :=
  ∃ q u n, t = { s with recorder := q, traces := u, fw := { s.fw with settleMs := n } }

theorem State.Noted.refl (s : State) : s.Noted s := ⟨s.recorder, s.traces, s.fw.settleMs, rfl⟩

theorem State.Noted.trans {s t u : State} (h : s.Noted t) (h' : t.Noted u) : s.Noted u := by
  obtain ⟨q, v, n, rfl⟩ := h
  obtain ⟨q', v', n', rfl⟩ := h'
  exact ⟨q', v', n', rfl⟩

theorem State.modRec_noted (s : State) (f : Recorder → Recorder) : s.Noted (s.modRec f) := ⟨_, _, _, rfl⟩

theorem State.modTrace_noted (s : State) (u : TraceNo) (f : Trace → Trace) : s.Noted (s.modTrace u f) := ⟨_, _, _, rfl⟩

theorem State.noteEvent_noted (code : Nat) (s : State) : s.Noted (s.noteEvent code) :=
  State.each_ind (P := s.Noted) (fun u t h => by
    split
    · exact h.trans (t.modTrace_noted u _)
    · exact h) s (.refl s)

theorem State.noteFault_noted (src code : Nat) (s : State) : s.Noted (s.noteFault src code) := by
  unfold State.noteFault
  split
  · exact ⟨_, _, _, rfl⟩
  · exact .refl s

theorem State.closeRecs_noted (p : Rec → Bool) (pfi : Bool) (s : State) : s.Noted (s.closeRecs p pfi) := by
  unfold State.closeRecs
  exact s.modRec_noted _

theorem State.writeRec_noted (r : Rec) (s : State) : s.Noted (s.writeRec r) := by
  unfold State.writeRec
  extract_lets t
  have ht : s.Noted t := s.closeRecs_noted _ _
  exact ht.trans (t.modRec_noted _)

theorem State.admitRec_noted (r : Rec) (s : State) : s.Noted (s.admitRec r) := by
  unfold State.admitRec
  extract_lets rate limited
  split
  next pass flag bs _ =>
  extract_lets t r' folds
  have ht : s.Noted t := s.modRec_noted _
  split
  · split
    · exact ht.trans (t.modRec_noted _)
    · exact ht.trans (State.writeRec_noted _ _)
  · exact ht.trans (t.modRec_noted _)

/-- An event changes nothing but the recorder, what the trace units have seen, and the settling time of a trial. -/
theorem State.event_noted (src code inst : Nat) (payload : Bytes) (s : State) : s.Noted (s.event src code inst payload) := by
  have h : s.Noted ((s.noteEvent code).noteFault src code) := (s.noteEvent_noted code).trans (State.noteFault_noted _ _ _)
  unfold State.event
  extract_lets r t
  split
  · exact h.trans (State.admitRec_noted _ _)
  · split
    · exact h.trans (State.modRec_noted _ _)
    · split
      · exact h.trans (State.admitRec_noted _ _)
      · exact h

theorem State.drainQueue_noted (s : State) : s.Noted s.drainQueue := by
  unfold State.drainQueue
  extract_lets rs lost t u
  have ht : s.Noted u := State.over_ind (P := s.Noted) (fun r v h => h.trans (v.admitRec_noted r)) rs t (s.modRec_noted _)
  split
  · exact ht
  · exact ht.trans (State.event_noted _ _ _ _ _)

/-! Messages (R277). -/

/-- What sending may differ in: the messages sent, the CAN ports, and a record of a message that was lost. -/
def State.Told (s t : State) : Prop :=
  ∃ m c q u n, t = { s with sent := m, can := c, recorder := q, traces := u, fw := { s.fw with settleMs := n } }

theorem State.Told.refl (s : State) : s.Told s := ⟨s.sent, s.can, s.recorder, s.traces, s.fw.settleMs, rfl⟩

theorem State.Told.trans {s t u : State} (h : s.Told t) (h' : t.Told u) : s.Told u := by
  obtain ⟨m, c, q, v, n, rfl⟩ := h
  obtain ⟨m', c', q', v', n', rfl⟩ := h'
  exact ⟨m', c', q', v', n', rfl⟩

theorem State.Noted.told {s t : State} (h : s.Noted t) : s.Told t := by
  obtain ⟨q, u, n, rfl⟩ := h
  exact ⟨s.sent, s.can, q, u, n, rfl⟩

theorem State.modCan_told (s : State) (p : CanNo) (f : Can → Can) : s.Told (s.modCan p f) :=
  ⟨s.sent, _, s.recorder, s.traces, s.fw.settleMs, rfl⟩

theorem State.send_told (s : State) (m : Msg) : s.Told (s.send m) := ⟨_, s.can, s.recorder, s.traces, s.fw.settleMs, rfl⟩

theorem State.emcyOn_told (p : CanNo) (code : Nat) (b : Bytes) (s : State) : s.Told (s.emcyOn p code b) := by
  unfold State.emcyOn
  split
  · split
    · extract_lets q t
      have ht : s.Told t := s.modCan_told p _
      clear_value t q
      split
      · split
        · exact ht
        · exact ht.trans (State.event_noted _ _ _ _ t).told
      · exact ht
    · exact (s.send_told _).trans (State.modCan_told _ p _)
  · exact .refl s

/-- An EMCY changes nothing but the messages, the CAN ports and the record of a message lost. -/
theorem State.emcy_told (code : Nat) (b : Bytes) (s : State) : s.Told (s.emcy code b) :=
  (s.emcyOn_told 0 code b).trans (State.emcyOn_told 1 code b _)

theorem State.errReset_told (before s : State) : s.Told (State.errReset before s) := by
  unfold State.errReset
  split
  · exact s.emcy_told _ _
  · exact .refl s

/-- The EMCY of R278 apart, `settle` answers the state it is given. -/
theorem settle_next (before s : State) : ∃ t, settle before s = .next t ∧ s.Told t := ⟨_, rfl, State.errReset_told before s⟩

/-! The fields that recording and sending leave alone. -/

theorem State.Noted.pending {s t : State} (h : s.Noted t) : t.pending = s.pending := by obtain ⟨_, _, _, rfl⟩ := h; rfl
theorem State.Noted.freeCount {s t : State} (h : s.Noted t) : t.freeCount = s.freeCount := by obtain ⟨_, _, _, rfl⟩ := h; rfl
theorem State.Noted.reply {s t : State} (h : s.Noted t) : t.reply = s.reply := by obtain ⟨_, _, _, rfl⟩ := h; rfl
theorem State.Noted.sent {s t : State} (h : s.Noted t) : t.sent = s.sent := by obtain ⟨_, _, _, rfl⟩ := h; rfl
theorem State.Noted.phase {s t : State} (h : s.Noted t) : t.phase = s.phase := by obtain ⟨_, _, _, rfl⟩ := h; rfl
theorem State.Noted.manage {s t : State} (h : s.Noted t) : t.manage = s.manage := by obtain ⟨_, _, _, rfl⟩ := h; rfl
theorem State.Noted.clk {s t : State} (h : s.Noted t) : t.clk = s.clk := by obtain ⟨_, _, _, rfl⟩ := h; rfl
theorem State.Noted.pins {s t : State} (h : s.Noted t) : t.pins = s.pins := by obtain ⟨_, _, _, rfl⟩ := h; rfl
theorem State.Noted.syncPins {s t : State} (h : s.Noted t) : t.syncPins = s.syncPins := by obtain ⟨_, _, _, rfl⟩ := h; rfl
theorem State.Noted.modes {s t : State} (h : s.Noted t) : t.modes = s.modes := by obtain ⟨_, _, _, rfl⟩ := h; rfl
theorem State.Noted.own {s t : State} (h : s.Noted t) : t.own = s.own := by obtain ⟨_, _, _, rfl⟩ := h; rfl
theorem State.Noted.cells {s t : State} (h : s.Noted t) : t.cells = s.cells := by obtain ⟨_, _, _, rfl⟩ := h; rfl
theorem State.Noted.loops {s t : State} (h : s.Noted t) : t.loops = s.loops := by obtain ⟨_, _, _, rfl⟩ := h; rfl
theorem State.Noted.groups {s t : State} (h : s.Noted t) : t.groups = s.groups := by obtain ⟨_, _, _, rfl⟩ := h; rfl
theorem State.Noted.bus {s t : State} (h : s.Noted t) : t.bus = s.bus := by obtain ⟨_, _, _, rfl⟩ := h; rfl
theorem State.Noted.alloc {s t : State} (h : s.Noted t) : t.alloc = s.alloc := by obtain ⟨_, _, _, rfl⟩ := h; rfl
theorem State.Noted.allocNext {s t : State} (h : s.Noted t) : t.allocNext = s.allocNext := by obtain ⟨_, _, _, rfl⟩ := h; rfl
theorem State.Noted.solveCount {s t : State} (h : s.Noted t) : t.solveCount = s.solveCount := by obtain ⟨_, _, _, rfl⟩ := h; rfl
theorem State.Noted.idGroup {s t : State} (h : s.Noted t) : t.idGroup = s.idGroup := by obtain ⟨_, _, _, rfl⟩ := h; rfl
theorem State.Noted.idAt {s t : State} (h : s.Noted t) : t.idAt = s.idAt := by obtain ⟨_, _, _, rfl⟩ := h; rfl
theorem State.Noted.ledger {s t : State} (h : s.Noted t) : t.ledger = s.ledger := by obtain ⟨_, _, _, rfl⟩ := h; rfl
theorem State.Noted.strings {s t : State} (h : s.Noted t) : t.strings = s.strings := by obtain ⟨_, _, _, rfl⟩ := h; rfl
theorem State.Noted.packs {s t : State} (h : s.Noted t) : t.packs = s.packs := by obtain ⟨_, _, _, rfl⟩ := h; rfl
theorem State.Noted.seq {s t : State} (h : s.Noted t) : t.seq = s.seq := by obtain ⟨_, _, _, rfl⟩ := h; rfl
theorem State.Noted.thermal {s t : State} (h : s.Noted t) : t.thermal = s.thermal := by obtain ⟨_, _, _, rfl⟩ := h; rfl
theorem State.Noted.lanes {s t : State} (h : s.Noted t) : t.lanes = s.lanes := by obtain ⟨_, _, _, rfl⟩ := h; rfl
theorem State.Noted.can {s t : State} (h : s.Noted t) : t.can = s.can := by obtain ⟨_, _, _, rfl⟩ := h; rfl
theorem State.Noted.hosts {s t : State} (h : s.Noted t) : t.hosts = s.hosts := by obtain ⟨_, _, _, rfl⟩ := h; rfl
theorem State.Noted.hostsRefused {s t : State} (h : s.Noted t) : t.hostsRefused = s.hostsRefused := by obtain ⟨_, _, _, rfl⟩ := h; rfl
theorem State.Noted.lockOwner {s t : State} (h : s.Noted t) : t.lockOwner = s.lockOwner := by obtain ⟨_, _, _, rfl⟩ := h; rfl
theorem State.Noted.lockMs {s t : State} (h : s.Noted t) : t.lockMs = s.lockMs := by obtain ⟨_, _, _, rfl⟩ := h; rfl
theorem State.Noted.wallOffsetMs {s t : State} (h : s.Noted t) : t.wallOffsetMs = s.wallOffsetMs := by obtain ⟨_, _, _, rfl⟩ := h; rfl
theorem State.Noted.tpdoLast {s t : State} (h : s.Noted t) : t.tpdoLast = s.tpdoLast := by obtain ⟨_, _, _, rfl⟩ := h; rfl
theorem State.Noted.tpdoInhibit {s t : State} (h : s.Noted t) : t.tpdoInhibit = s.tpdoInhibit := by obtain ⟨_, _, _, rfl⟩ := h; rfl
theorem State.Noted.tpdoDue {s t : State} (h : s.Noted t) : t.tpdoDue = s.tpdoDue := by obtain ⟨_, _, _, rfl⟩ := h; rfl
theorem State.Noted.tpdoSync {s t : State} (h : s.Noted t) : t.tpdoSync = s.tpdoSync := by obtain ⟨_, _, _, rfl⟩ := h; rfl
theorem State.Noted.rpdoSecond {s t : State} (h : s.Noted t) : t.rpdoSecond = s.rpdoSecond := by obtain ⟨_, _, _, rfl⟩ := h; rfl
theorem State.Noted.dap {s t : State} (h : s.Noted t) : t.dap = s.dap := by obtain ⟨_, _, _, rfl⟩ := h; rfl
theorem State.Noted.dict {s t : State} (h : s.Noted t) : t.dict = s.dict := by obtain ⟨_, _, _, rfl⟩ := h; rfl
theorem State.Noted.tw {s t : State} (h : s.Noted t) : t.tw = s.tw := by obtain ⟨_, _, _, rfl⟩ := h; rfl
theorem State.Noted.regs {s t : State} (h : s.Noted t) : t.regs = s.regs := by obtain ⟨_, _, _, rfl⟩ := h; rfl
theorem State.Noted.cores {s t : State} (h : s.Noted t) : t.cores = s.cores := by obtain ⟨_, _, _, rfl⟩ := h; rfl
theorem State.Noted.srcs {s t : State} (h : s.Noted t) : t.srcs = s.srcs := by obtain ⟨_, _, _, rfl⟩ := h; rfl
theorem State.Noted.scrubOrder {s t : State} (h : s.Noted t) : t.scrubOrder = s.scrubOrder := by obtain ⟨_, _, _, rfl⟩ := h; rfl
theorem State.Noted.badBanks {s t : State} (h : s.Noted t) : t.badBanks = s.badBanks := by obtain ⟨_, _, _, rfl⟩ := h; rfl
theorem State.Noted.heldBlocks {s t : State} (h : s.Noted t) : t.heldBlocks = s.heldBlocks := by obtain ⟨_, _, _, rfl⟩ := h; rfl
theorem State.Noted.heldOther {s t : State} (h : s.Noted t) : t.heldOther = s.heldOther := by obtain ⟨_, _, _, rfl⟩ := h; rfl
theorem State.Told.pending {s t : State} (h : s.Told t) : t.pending = s.pending := by obtain ⟨_, _, _, _, _, rfl⟩ := h; rfl
theorem State.Told.freeCount {s t : State} (h : s.Told t) : t.freeCount = s.freeCount := by obtain ⟨_, _, _, _, _, rfl⟩ := h; rfl
theorem State.Told.reply {s t : State} (h : s.Told t) : t.reply = s.reply := by obtain ⟨_, _, _, _, _, rfl⟩ := h; rfl
theorem State.Told.phase {s t : State} (h : s.Told t) : t.phase = s.phase := by obtain ⟨_, _, _, _, _, rfl⟩ := h; rfl
theorem State.Told.manage {s t : State} (h : s.Told t) : t.manage = s.manage := by obtain ⟨_, _, _, _, _, rfl⟩ := h; rfl
theorem State.Told.clk {s t : State} (h : s.Told t) : t.clk = s.clk := by obtain ⟨_, _, _, _, _, rfl⟩ := h; rfl
theorem State.Told.pins {s t : State} (h : s.Told t) : t.pins = s.pins := by obtain ⟨_, _, _, _, _, rfl⟩ := h; rfl
theorem State.Told.syncPins {s t : State} (h : s.Told t) : t.syncPins = s.syncPins := by obtain ⟨_, _, _, _, _, rfl⟩ := h; rfl
theorem State.Told.modes {s t : State} (h : s.Told t) : t.modes = s.modes := by obtain ⟨_, _, _, _, _, rfl⟩ := h; rfl
theorem State.Told.own {s t : State} (h : s.Told t) : t.own = s.own := by obtain ⟨_, _, _, _, _, rfl⟩ := h; rfl
theorem State.Told.cells {s t : State} (h : s.Told t) : t.cells = s.cells := by obtain ⟨_, _, _, _, _, rfl⟩ := h; rfl
theorem State.Told.loops {s t : State} (h : s.Told t) : t.loops = s.loops := by obtain ⟨_, _, _, _, _, rfl⟩ := h; rfl
theorem State.Told.groups {s t : State} (h : s.Told t) : t.groups = s.groups := by obtain ⟨_, _, _, _, _, rfl⟩ := h; rfl
theorem State.Told.bus {s t : State} (h : s.Told t) : t.bus = s.bus := by obtain ⟨_, _, _, _, _, rfl⟩ := h; rfl
theorem State.Told.alloc {s t : State} (h : s.Told t) : t.alloc = s.alloc := by obtain ⟨_, _, _, _, _, rfl⟩ := h; rfl
theorem State.Told.allocNext {s t : State} (h : s.Told t) : t.allocNext = s.allocNext := by obtain ⟨_, _, _, _, _, rfl⟩ := h; rfl
theorem State.Told.solveCount {s t : State} (h : s.Told t) : t.solveCount = s.solveCount := by obtain ⟨_, _, _, _, _, rfl⟩ := h; rfl
theorem State.Told.idGroup {s t : State} (h : s.Told t) : t.idGroup = s.idGroup := by obtain ⟨_, _, _, _, _, rfl⟩ := h; rfl
theorem State.Told.idAt {s t : State} (h : s.Told t) : t.idAt = s.idAt := by obtain ⟨_, _, _, _, _, rfl⟩ := h; rfl
theorem State.Told.ledger {s t : State} (h : s.Told t) : t.ledger = s.ledger := by obtain ⟨_, _, _, _, _, rfl⟩ := h; rfl
theorem State.Told.strings {s t : State} (h : s.Told t) : t.strings = s.strings := by obtain ⟨_, _, _, _, _, rfl⟩ := h; rfl
theorem State.Told.packs {s t : State} (h : s.Told t) : t.packs = s.packs := by obtain ⟨_, _, _, _, _, rfl⟩ := h; rfl
theorem State.Told.seq {s t : State} (h : s.Told t) : t.seq = s.seq := by obtain ⟨_, _, _, _, _, rfl⟩ := h; rfl
theorem State.Told.thermal {s t : State} (h : s.Told t) : t.thermal = s.thermal := by obtain ⟨_, _, _, _, _, rfl⟩ := h; rfl
theorem State.Told.lanes {s t : State} (h : s.Told t) : t.lanes = s.lanes := by obtain ⟨_, _, _, _, _, rfl⟩ := h; rfl
theorem State.Told.hosts {s t : State} (h : s.Told t) : t.hosts = s.hosts := by obtain ⟨_, _, _, _, _, rfl⟩ := h; rfl
theorem State.Told.hostsRefused {s t : State} (h : s.Told t) : t.hostsRefused = s.hostsRefused := by obtain ⟨_, _, _, _, _, rfl⟩ := h; rfl
theorem State.Told.lockOwner {s t : State} (h : s.Told t) : t.lockOwner = s.lockOwner := by obtain ⟨_, _, _, _, _, rfl⟩ := h; rfl
theorem State.Told.lockMs {s t : State} (h : s.Told t) : t.lockMs = s.lockMs := by obtain ⟨_, _, _, _, _, rfl⟩ := h; rfl
theorem State.Told.wallOffsetMs {s t : State} (h : s.Told t) : t.wallOffsetMs = s.wallOffsetMs := by obtain ⟨_, _, _, _, _, rfl⟩ := h; rfl
theorem State.Told.tpdoLast {s t : State} (h : s.Told t) : t.tpdoLast = s.tpdoLast := by obtain ⟨_, _, _, _, _, rfl⟩ := h; rfl
theorem State.Told.tpdoInhibit {s t : State} (h : s.Told t) : t.tpdoInhibit = s.tpdoInhibit := by obtain ⟨_, _, _, _, _, rfl⟩ := h; rfl
theorem State.Told.tpdoDue {s t : State} (h : s.Told t) : t.tpdoDue = s.tpdoDue := by obtain ⟨_, _, _, _, _, rfl⟩ := h; rfl
theorem State.Told.tpdoSync {s t : State} (h : s.Told t) : t.tpdoSync = s.tpdoSync := by obtain ⟨_, _, _, _, _, rfl⟩ := h; rfl
theorem State.Told.rpdoSecond {s t : State} (h : s.Told t) : t.rpdoSecond = s.rpdoSecond := by obtain ⟨_, _, _, _, _, rfl⟩ := h; rfl
theorem State.Told.dap {s t : State} (h : s.Told t) : t.dap = s.dap := by obtain ⟨_, _, _, _, _, rfl⟩ := h; rfl
theorem State.Told.dict {s t : State} (h : s.Told t) : t.dict = s.dict := by obtain ⟨_, _, _, _, _, rfl⟩ := h; rfl
theorem State.Told.tw {s t : State} (h : s.Told t) : t.tw = s.tw := by obtain ⟨_, _, _, _, _, rfl⟩ := h; rfl
theorem State.Told.regs {s t : State} (h : s.Told t) : t.regs = s.regs := by obtain ⟨_, _, _, _, _, rfl⟩ := h; rfl
theorem State.Told.cores {s t : State} (h : s.Told t) : t.cores = s.cores := by obtain ⟨_, _, _, _, _, rfl⟩ := h; rfl
theorem State.Told.srcs {s t : State} (h : s.Told t) : t.srcs = s.srcs := by obtain ⟨_, _, _, _, _, rfl⟩ := h; rfl
theorem State.Told.scrubOrder {s t : State} (h : s.Told t) : t.scrubOrder = s.scrubOrder := by obtain ⟨_, _, _, _, _, rfl⟩ := h; rfl
theorem State.Told.badBanks {s t : State} (h : s.Told t) : t.badBanks = s.badBanks := by obtain ⟨_, _, _, _, _, rfl⟩ := h; rfl
theorem State.Told.heldBlocks {s t : State} (h : s.Told t) : t.heldBlocks = s.heldBlocks := by obtain ⟨_, _, _, _, _, rfl⟩ := h; rfl
theorem State.Told.heldOther {s t : State} (h : s.Told t) : t.heldOther = s.heldOther := by obtain ⟨_, _, _, _, _, rfl⟩ := h; rfl

@[simp] theorem State.event_pending (src code inst : Nat) (b : Bytes) (s : State) : (s.event src code inst b).pending = s.pending :=
  (State.event_noted src code inst b s).pending
@[simp] theorem State.event_freeCount (src code inst : Nat) (b : Bytes) (s : State) : (s.event src code inst b).freeCount = s.freeCount :=
  (State.event_noted src code inst b s).freeCount
@[simp] theorem State.event_reply (src code inst : Nat) (b : Bytes) (s : State) : (s.event src code inst b).reply = s.reply :=
  (State.event_noted src code inst b s).reply
@[simp] theorem State.event_sent (src code inst : Nat) (b : Bytes) (s : State) : (s.event src code inst b).sent = s.sent :=
  (State.event_noted src code inst b s).sent
@[simp] theorem State.event_phase (src code inst : Nat) (b : Bytes) (s : State) : (s.event src code inst b).phase = s.phase :=
  (State.event_noted src code inst b s).phase
@[simp] theorem State.event_manage (src code inst : Nat) (b : Bytes) (s : State) : (s.event src code inst b).manage = s.manage :=
  (State.event_noted src code inst b s).manage
@[simp] theorem State.event_clk (src code inst : Nat) (b : Bytes) (s : State) : (s.event src code inst b).clk = s.clk :=
  (State.event_noted src code inst b s).clk
@[simp] theorem State.event_pins (src code inst : Nat) (b : Bytes) (s : State) : (s.event src code inst b).pins = s.pins :=
  (State.event_noted src code inst b s).pins
@[simp] theorem State.event_syncPins (src code inst : Nat) (b : Bytes) (s : State) : (s.event src code inst b).syncPins = s.syncPins :=
  (State.event_noted src code inst b s).syncPins
@[simp] theorem State.event_modes (src code inst : Nat) (b : Bytes) (s : State) : (s.event src code inst b).modes = s.modes :=
  (State.event_noted src code inst b s).modes
@[simp] theorem State.event_own (src code inst : Nat) (b : Bytes) (s : State) : (s.event src code inst b).own = s.own :=
  (State.event_noted src code inst b s).own
@[simp] theorem State.event_cells (src code inst : Nat) (b : Bytes) (s : State) : (s.event src code inst b).cells = s.cells :=
  (State.event_noted src code inst b s).cells
@[simp] theorem State.event_loops (src code inst : Nat) (b : Bytes) (s : State) : (s.event src code inst b).loops = s.loops :=
  (State.event_noted src code inst b s).loops
@[simp] theorem State.event_groups (src code inst : Nat) (b : Bytes) (s : State) : (s.event src code inst b).groups = s.groups :=
  (State.event_noted src code inst b s).groups
@[simp] theorem State.event_bus (src code inst : Nat) (b : Bytes) (s : State) : (s.event src code inst b).bus = s.bus :=
  (State.event_noted src code inst b s).bus
@[simp] theorem State.event_alloc (src code inst : Nat) (b : Bytes) (s : State) : (s.event src code inst b).alloc = s.alloc :=
  (State.event_noted src code inst b s).alloc
@[simp] theorem State.event_allocNext (src code inst : Nat) (b : Bytes) (s : State) : (s.event src code inst b).allocNext = s.allocNext :=
  (State.event_noted src code inst b s).allocNext
@[simp] theorem State.event_solveCount (src code inst : Nat) (b : Bytes) (s : State) : (s.event src code inst b).solveCount = s.solveCount :=
  (State.event_noted src code inst b s).solveCount
@[simp] theorem State.event_idGroup (src code inst : Nat) (b : Bytes) (s : State) : (s.event src code inst b).idGroup = s.idGroup :=
  (State.event_noted src code inst b s).idGroup
@[simp] theorem State.event_idAt (src code inst : Nat) (b : Bytes) (s : State) : (s.event src code inst b).idAt = s.idAt :=
  (State.event_noted src code inst b s).idAt
@[simp] theorem State.event_ledger (src code inst : Nat) (b : Bytes) (s : State) : (s.event src code inst b).ledger = s.ledger :=
  (State.event_noted src code inst b s).ledger
@[simp] theorem State.event_strings (src code inst : Nat) (b : Bytes) (s : State) : (s.event src code inst b).strings = s.strings :=
  (State.event_noted src code inst b s).strings
@[simp] theorem State.event_packs (src code inst : Nat) (b : Bytes) (s : State) : (s.event src code inst b).packs = s.packs :=
  (State.event_noted src code inst b s).packs
@[simp] theorem State.event_seq (src code inst : Nat) (b : Bytes) (s : State) : (s.event src code inst b).seq = s.seq :=
  (State.event_noted src code inst b s).seq
@[simp] theorem State.event_thermal (src code inst : Nat) (b : Bytes) (s : State) : (s.event src code inst b).thermal = s.thermal :=
  (State.event_noted src code inst b s).thermal
@[simp] theorem State.event_lanes (src code inst : Nat) (b : Bytes) (s : State) : (s.event src code inst b).lanes = s.lanes :=
  (State.event_noted src code inst b s).lanes
@[simp] theorem State.event_can (src code inst : Nat) (b : Bytes) (s : State) : (s.event src code inst b).can = s.can :=
  (State.event_noted src code inst b s).can
@[simp] theorem State.event_hosts (src code inst : Nat) (b : Bytes) (s : State) : (s.event src code inst b).hosts = s.hosts :=
  (State.event_noted src code inst b s).hosts
@[simp] theorem State.event_hostsRefused (src code inst : Nat) (b : Bytes) (s : State) : (s.event src code inst b).hostsRefused = s.hostsRefused :=
  (State.event_noted src code inst b s).hostsRefused
@[simp] theorem State.event_lockOwner (src code inst : Nat) (b : Bytes) (s : State) : (s.event src code inst b).lockOwner = s.lockOwner :=
  (State.event_noted src code inst b s).lockOwner
@[simp] theorem State.event_lockMs (src code inst : Nat) (b : Bytes) (s : State) : (s.event src code inst b).lockMs = s.lockMs :=
  (State.event_noted src code inst b s).lockMs
@[simp] theorem State.event_wallOffsetMs (src code inst : Nat) (b : Bytes) (s : State) : (s.event src code inst b).wallOffsetMs = s.wallOffsetMs :=
  (State.event_noted src code inst b s).wallOffsetMs
@[simp] theorem State.event_tpdoLast (src code inst : Nat) (b : Bytes) (s : State) : (s.event src code inst b).tpdoLast = s.tpdoLast :=
  (State.event_noted src code inst b s).tpdoLast
@[simp] theorem State.event_tpdoInhibit (src code inst : Nat) (b : Bytes) (s : State) : (s.event src code inst b).tpdoInhibit = s.tpdoInhibit :=
  (State.event_noted src code inst b s).tpdoInhibit
@[simp] theorem State.event_tpdoDue (src code inst : Nat) (b : Bytes) (s : State) : (s.event src code inst b).tpdoDue = s.tpdoDue :=
  (State.event_noted src code inst b s).tpdoDue
@[simp] theorem State.event_tpdoSync (src code inst : Nat) (b : Bytes) (s : State) : (s.event src code inst b).tpdoSync = s.tpdoSync :=
  (State.event_noted src code inst b s).tpdoSync
@[simp] theorem State.event_rpdoSecond (src code inst : Nat) (b : Bytes) (s : State) : (s.event src code inst b).rpdoSecond = s.rpdoSecond :=
  (State.event_noted src code inst b s).rpdoSecond
@[simp] theorem State.event_dap (src code inst : Nat) (b : Bytes) (s : State) : (s.event src code inst b).dap = s.dap :=
  (State.event_noted src code inst b s).dap
@[simp] theorem State.event_dict (src code inst : Nat) (b : Bytes) (s : State) : (s.event src code inst b).dict = s.dict :=
  (State.event_noted src code inst b s).dict
@[simp] theorem State.event_tw (src code inst : Nat) (b : Bytes) (s : State) : (s.event src code inst b).tw = s.tw :=
  (State.event_noted src code inst b s).tw
@[simp] theorem State.event_regs (src code inst : Nat) (b : Bytes) (s : State) : (s.event src code inst b).regs = s.regs :=
  (State.event_noted src code inst b s).regs
@[simp] theorem State.event_cores (src code inst : Nat) (b : Bytes) (s : State) : (s.event src code inst b).cores = s.cores :=
  (State.event_noted src code inst b s).cores
@[simp] theorem State.event_srcs (src code inst : Nat) (b : Bytes) (s : State) : (s.event src code inst b).srcs = s.srcs :=
  (State.event_noted src code inst b s).srcs
@[simp] theorem State.event_scrubOrder (src code inst : Nat) (b : Bytes) (s : State) : (s.event src code inst b).scrubOrder = s.scrubOrder :=
  (State.event_noted src code inst b s).scrubOrder
@[simp] theorem State.event_badBanks (src code inst : Nat) (b : Bytes) (s : State) : (s.event src code inst b).badBanks = s.badBanks :=
  (State.event_noted src code inst b s).badBanks
@[simp] theorem State.event_heldBlocks (src code inst : Nat) (b : Bytes) (s : State) : (s.event src code inst b).heldBlocks = s.heldBlocks :=
  (State.event_noted src code inst b s).heldBlocks
@[simp] theorem State.event_heldOther (src code inst : Nat) (b : Bytes) (s : State) : (s.event src code inst b).heldOther = s.heldOther :=
  (State.event_noted src code inst b s).heldOther
@[simp] theorem State.emcy_pending (code : Nat) (b : Bytes) (s : State) : (s.emcy code b).pending = s.pending := (State.emcy_told code b s).pending
@[simp] theorem State.errReset_pending (before s : State) : (State.errReset before s).pending = s.pending := (State.errReset_told before s).pending
@[simp] theorem State.emcy_freeCount (code : Nat) (b : Bytes) (s : State) : (s.emcy code b).freeCount = s.freeCount := (State.emcy_told code b s).freeCount
@[simp] theorem State.errReset_freeCount (before s : State) : (State.errReset before s).freeCount = s.freeCount := (State.errReset_told before s).freeCount
@[simp] theorem State.emcy_reply (code : Nat) (b : Bytes) (s : State) : (s.emcy code b).reply = s.reply := (State.emcy_told code b s).reply
@[simp] theorem State.errReset_reply (before s : State) : (State.errReset before s).reply = s.reply := (State.errReset_told before s).reply
@[simp] theorem State.emcy_phase (code : Nat) (b : Bytes) (s : State) : (s.emcy code b).phase = s.phase := (State.emcy_told code b s).phase
@[simp] theorem State.errReset_phase (before s : State) : (State.errReset before s).phase = s.phase := (State.errReset_told before s).phase
@[simp] theorem State.emcy_manage (code : Nat) (b : Bytes) (s : State) : (s.emcy code b).manage = s.manage := (State.emcy_told code b s).manage
@[simp] theorem State.errReset_manage (before s : State) : (State.errReset before s).manage = s.manage := (State.errReset_told before s).manage
@[simp] theorem State.emcy_clk (code : Nat) (b : Bytes) (s : State) : (s.emcy code b).clk = s.clk := (State.emcy_told code b s).clk
@[simp] theorem State.errReset_clk (before s : State) : (State.errReset before s).clk = s.clk := (State.errReset_told before s).clk
@[simp] theorem State.emcy_pins (code : Nat) (b : Bytes) (s : State) : (s.emcy code b).pins = s.pins := (State.emcy_told code b s).pins
@[simp] theorem State.errReset_pins (before s : State) : (State.errReset before s).pins = s.pins := (State.errReset_told before s).pins
@[simp] theorem State.emcy_syncPins (code : Nat) (b : Bytes) (s : State) : (s.emcy code b).syncPins = s.syncPins := (State.emcy_told code b s).syncPins
@[simp] theorem State.errReset_syncPins (before s : State) : (State.errReset before s).syncPins = s.syncPins := (State.errReset_told before s).syncPins
@[simp] theorem State.emcy_modes (code : Nat) (b : Bytes) (s : State) : (s.emcy code b).modes = s.modes := (State.emcy_told code b s).modes
@[simp] theorem State.errReset_modes (before s : State) : (State.errReset before s).modes = s.modes := (State.errReset_told before s).modes
@[simp] theorem State.emcy_own (code : Nat) (b : Bytes) (s : State) : (s.emcy code b).own = s.own := (State.emcy_told code b s).own
@[simp] theorem State.errReset_own (before s : State) : (State.errReset before s).own = s.own := (State.errReset_told before s).own
@[simp] theorem State.emcy_cells (code : Nat) (b : Bytes) (s : State) : (s.emcy code b).cells = s.cells := (State.emcy_told code b s).cells
@[simp] theorem State.errReset_cells (before s : State) : (State.errReset before s).cells = s.cells := (State.errReset_told before s).cells
@[simp] theorem State.emcy_loops (code : Nat) (b : Bytes) (s : State) : (s.emcy code b).loops = s.loops := (State.emcy_told code b s).loops
@[simp] theorem State.errReset_loops (before s : State) : (State.errReset before s).loops = s.loops := (State.errReset_told before s).loops
@[simp] theorem State.emcy_groups (code : Nat) (b : Bytes) (s : State) : (s.emcy code b).groups = s.groups := (State.emcy_told code b s).groups
@[simp] theorem State.errReset_groups (before s : State) : (State.errReset before s).groups = s.groups := (State.errReset_told before s).groups
@[simp] theorem State.emcy_bus (code : Nat) (b : Bytes) (s : State) : (s.emcy code b).bus = s.bus := (State.emcy_told code b s).bus
@[simp] theorem State.errReset_bus (before s : State) : (State.errReset before s).bus = s.bus := (State.errReset_told before s).bus
@[simp] theorem State.emcy_alloc (code : Nat) (b : Bytes) (s : State) : (s.emcy code b).alloc = s.alloc := (State.emcy_told code b s).alloc
@[simp] theorem State.errReset_alloc (before s : State) : (State.errReset before s).alloc = s.alloc := (State.errReset_told before s).alloc
@[simp] theorem State.emcy_allocNext (code : Nat) (b : Bytes) (s : State) : (s.emcy code b).allocNext = s.allocNext := (State.emcy_told code b s).allocNext
@[simp] theorem State.errReset_allocNext (before s : State) : (State.errReset before s).allocNext = s.allocNext := (State.errReset_told before s).allocNext
@[simp] theorem State.emcy_solveCount (code : Nat) (b : Bytes) (s : State) : (s.emcy code b).solveCount = s.solveCount := (State.emcy_told code b s).solveCount
@[simp] theorem State.errReset_solveCount (before s : State) : (State.errReset before s).solveCount = s.solveCount := (State.errReset_told before s).solveCount
@[simp] theorem State.emcy_idGroup (code : Nat) (b : Bytes) (s : State) : (s.emcy code b).idGroup = s.idGroup := (State.emcy_told code b s).idGroup
@[simp] theorem State.errReset_idGroup (before s : State) : (State.errReset before s).idGroup = s.idGroup := (State.errReset_told before s).idGroup
@[simp] theorem State.emcy_idAt (code : Nat) (b : Bytes) (s : State) : (s.emcy code b).idAt = s.idAt := (State.emcy_told code b s).idAt
@[simp] theorem State.errReset_idAt (before s : State) : (State.errReset before s).idAt = s.idAt := (State.errReset_told before s).idAt
@[simp] theorem State.emcy_ledger (code : Nat) (b : Bytes) (s : State) : (s.emcy code b).ledger = s.ledger := (State.emcy_told code b s).ledger
@[simp] theorem State.errReset_ledger (before s : State) : (State.errReset before s).ledger = s.ledger := (State.errReset_told before s).ledger
@[simp] theorem State.emcy_strings (code : Nat) (b : Bytes) (s : State) : (s.emcy code b).strings = s.strings := (State.emcy_told code b s).strings
@[simp] theorem State.errReset_strings (before s : State) : (State.errReset before s).strings = s.strings := (State.errReset_told before s).strings
@[simp] theorem State.emcy_packs (code : Nat) (b : Bytes) (s : State) : (s.emcy code b).packs = s.packs := (State.emcy_told code b s).packs
@[simp] theorem State.errReset_packs (before s : State) : (State.errReset before s).packs = s.packs := (State.errReset_told before s).packs
@[simp] theorem State.emcy_seq (code : Nat) (b : Bytes) (s : State) : (s.emcy code b).seq = s.seq := (State.emcy_told code b s).seq
@[simp] theorem State.errReset_seq (before s : State) : (State.errReset before s).seq = s.seq := (State.errReset_told before s).seq
@[simp] theorem State.emcy_thermal (code : Nat) (b : Bytes) (s : State) : (s.emcy code b).thermal = s.thermal := (State.emcy_told code b s).thermal
@[simp] theorem State.errReset_thermal (before s : State) : (State.errReset before s).thermal = s.thermal := (State.errReset_told before s).thermal
@[simp] theorem State.emcy_lanes (code : Nat) (b : Bytes) (s : State) : (s.emcy code b).lanes = s.lanes := (State.emcy_told code b s).lanes
@[simp] theorem State.errReset_lanes (before s : State) : (State.errReset before s).lanes = s.lanes := (State.errReset_told before s).lanes
@[simp] theorem State.emcy_hosts (code : Nat) (b : Bytes) (s : State) : (s.emcy code b).hosts = s.hosts := (State.emcy_told code b s).hosts
@[simp] theorem State.errReset_hosts (before s : State) : (State.errReset before s).hosts = s.hosts := (State.errReset_told before s).hosts
@[simp] theorem State.emcy_hostsRefused (code : Nat) (b : Bytes) (s : State) : (s.emcy code b).hostsRefused = s.hostsRefused := (State.emcy_told code b s).hostsRefused
@[simp] theorem State.errReset_hostsRefused (before s : State) : (State.errReset before s).hostsRefused = s.hostsRefused := (State.errReset_told before s).hostsRefused
@[simp] theorem State.emcy_lockOwner (code : Nat) (b : Bytes) (s : State) : (s.emcy code b).lockOwner = s.lockOwner := (State.emcy_told code b s).lockOwner
@[simp] theorem State.errReset_lockOwner (before s : State) : (State.errReset before s).lockOwner = s.lockOwner := (State.errReset_told before s).lockOwner
@[simp] theorem State.emcy_lockMs (code : Nat) (b : Bytes) (s : State) : (s.emcy code b).lockMs = s.lockMs := (State.emcy_told code b s).lockMs
@[simp] theorem State.errReset_lockMs (before s : State) : (State.errReset before s).lockMs = s.lockMs := (State.errReset_told before s).lockMs
@[simp] theorem State.emcy_wallOffsetMs (code : Nat) (b : Bytes) (s : State) : (s.emcy code b).wallOffsetMs = s.wallOffsetMs := (State.emcy_told code b s).wallOffsetMs
@[simp] theorem State.errReset_wallOffsetMs (before s : State) : (State.errReset before s).wallOffsetMs = s.wallOffsetMs := (State.errReset_told before s).wallOffsetMs
@[simp] theorem State.emcy_tpdoLast (code : Nat) (b : Bytes) (s : State) : (s.emcy code b).tpdoLast = s.tpdoLast := (State.emcy_told code b s).tpdoLast
@[simp] theorem State.errReset_tpdoLast (before s : State) : (State.errReset before s).tpdoLast = s.tpdoLast := (State.errReset_told before s).tpdoLast
@[simp] theorem State.emcy_tpdoInhibit (code : Nat) (b : Bytes) (s : State) : (s.emcy code b).tpdoInhibit = s.tpdoInhibit := (State.emcy_told code b s).tpdoInhibit
@[simp] theorem State.errReset_tpdoInhibit (before s : State) : (State.errReset before s).tpdoInhibit = s.tpdoInhibit := (State.errReset_told before s).tpdoInhibit
@[simp] theorem State.emcy_tpdoDue (code : Nat) (b : Bytes) (s : State) : (s.emcy code b).tpdoDue = s.tpdoDue := (State.emcy_told code b s).tpdoDue
@[simp] theorem State.errReset_tpdoDue (before s : State) : (State.errReset before s).tpdoDue = s.tpdoDue := (State.errReset_told before s).tpdoDue
@[simp] theorem State.emcy_tpdoSync (code : Nat) (b : Bytes) (s : State) : (s.emcy code b).tpdoSync = s.tpdoSync := (State.emcy_told code b s).tpdoSync
@[simp] theorem State.errReset_tpdoSync (before s : State) : (State.errReset before s).tpdoSync = s.tpdoSync := (State.errReset_told before s).tpdoSync
@[simp] theorem State.emcy_rpdoSecond (code : Nat) (b : Bytes) (s : State) : (s.emcy code b).rpdoSecond = s.rpdoSecond := (State.emcy_told code b s).rpdoSecond
@[simp] theorem State.errReset_rpdoSecond (before s : State) : (State.errReset before s).rpdoSecond = s.rpdoSecond := (State.errReset_told before s).rpdoSecond
@[simp] theorem State.emcy_dap (code : Nat) (b : Bytes) (s : State) : (s.emcy code b).dap = s.dap := (State.emcy_told code b s).dap
@[simp] theorem State.errReset_dap (before s : State) : (State.errReset before s).dap = s.dap := (State.errReset_told before s).dap
@[simp] theorem State.emcy_dict (code : Nat) (b : Bytes) (s : State) : (s.emcy code b).dict = s.dict := (State.emcy_told code b s).dict
@[simp] theorem State.errReset_dict (before s : State) : (State.errReset before s).dict = s.dict := (State.errReset_told before s).dict
@[simp] theorem State.emcy_tw (code : Nat) (b : Bytes) (s : State) : (s.emcy code b).tw = s.tw := (State.emcy_told code b s).tw
@[simp] theorem State.errReset_tw (before s : State) : (State.errReset before s).tw = s.tw := (State.errReset_told before s).tw
@[simp] theorem State.emcy_regs (code : Nat) (b : Bytes) (s : State) : (s.emcy code b).regs = s.regs := (State.emcy_told code b s).regs
@[simp] theorem State.errReset_regs (before s : State) : (State.errReset before s).regs = s.regs := (State.errReset_told before s).regs
@[simp] theorem State.emcy_cores (code : Nat) (b : Bytes) (s : State) : (s.emcy code b).cores = s.cores := (State.emcy_told code b s).cores
@[simp] theorem State.errReset_cores (before s : State) : (State.errReset before s).cores = s.cores := (State.errReset_told before s).cores
@[simp] theorem State.emcy_srcs (code : Nat) (b : Bytes) (s : State) : (s.emcy code b).srcs = s.srcs := (State.emcy_told code b s).srcs
@[simp] theorem State.errReset_srcs (before s : State) : (State.errReset before s).srcs = s.srcs := (State.errReset_told before s).srcs
@[simp] theorem State.emcy_scrubOrder (code : Nat) (b : Bytes) (s : State) : (s.emcy code b).scrubOrder = s.scrubOrder := (State.emcy_told code b s).scrubOrder
@[simp] theorem State.errReset_scrubOrder (before s : State) : (State.errReset before s).scrubOrder = s.scrubOrder := (State.errReset_told before s).scrubOrder
@[simp] theorem State.emcy_badBanks (code : Nat) (b : Bytes) (s : State) : (s.emcy code b).badBanks = s.badBanks := (State.emcy_told code b s).badBanks
@[simp] theorem State.errReset_badBanks (before s : State) : (State.errReset before s).badBanks = s.badBanks := (State.errReset_told before s).badBanks
@[simp] theorem State.emcy_heldBlocks (code : Nat) (b : Bytes) (s : State) : (s.emcy code b).heldBlocks = s.heldBlocks := (State.emcy_told code b s).heldBlocks
@[simp] theorem State.errReset_heldBlocks (before s : State) : (State.errReset before s).heldBlocks = s.heldBlocks := (State.errReset_told before s).heldBlocks
@[simp] theorem State.emcy_heldOther (code : Nat) (b : Bytes) (s : State) : (s.emcy code b).heldOther = s.heldOther := (State.emcy_told code b s).heldOther
@[simp] theorem State.errReset_heldOther (before s : State) : (State.errReset before s).heldOther = s.heldOther := (State.errReset_told before s).heldOther

end Sys2Proof.Machine
end

