-- ==== Sys2Proof/Laws/Keeps.lean ====
section
/-! SUPPORT. Laws/Keeps.lean: the relation that every operation of the machine keeps between the state before it and after it. -/

set_option linter.unreachableTactic false
set_option linter.unusedTactic false
set_option linter.tactic.unusedName false

namespace Sys2Proof.Machine

/-- What an operation keeps: the queue, the canonical form of the dictionary, the bounds of the recorder, and what firmware guards. With
`strict` true it keeps the boot phase and the mode too. -/
structure State.Keeps (strict : Bool) (s t : State) : Prop where
  pending : t.pending = s.pending
  still : strict = true → t.phase = s.phase ∧ t.modes.mode = s.modes.mode
  dict : s.dict.canonical → t.dict.canonical
  recorder : s.recorder.bounded → t.recorder.bounded
  guards : s.fw.guards t.fw

theorem Firmware.guards_refl (w : Firmware) : w.guards w := ⟨le_refl _, fun _ h _ => h⟩

theorem Firmware.guards_trans {u v w : Firmware} (h : u.guards v) (h' : v.guards w) : u.guards w :=
  ⟨h.1.trans h'.1, fun k hk hl => h'.2 k (h.2 k hk hl) hl⟩

theorem State.Keeps.refl (strict : Bool) (s : State) : s.Keeps strict s :=
  ⟨rfl, fun _ => ⟨rfl, rfl⟩, id, id, s.fw.guards_refl⟩

theorem State.Keeps.trans {strict : Bool} {s t u : State} (h : s.Keeps strict t) (h' : t.Keeps strict u) : s.Keeps strict u :=
  ⟨h'.pending.trans h.pending, fun e => ⟨(h'.still e).1.trans (h.still e).1, (h'.still e).2.trans (h.still e).2⟩,
    fun c => h'.dict (h.dict c), fun c => h'.recorder (h.recorder c), Firmware.guards_trans h.guards h'.guards⟩

theorem State.Keeps.loose {strict : Bool} {s t : State} (h : s.Keeps strict t) : s.Keeps false t :=
  ⟨h.pending, fun e => Bool.noConfusion e, h.dict, h.recorder, h.guards⟩

/-- One operation after another. -/
theorem State.Keeps.seq {strict : Bool} {s0 t : State} {f : State → State} (ht : s0.Keeps strict t)
    (hf : ∀ u, s0.Keeps strict u → s0.Keeps strict (f u)) : s0.Keeps strict (let u := t; f u) := hf t ht

/-- A change of other fields keeps everything. -/
theorem State.Keeps.same {strict : Bool} {s0 s t : State} (h : s0.Keeps strict s) (hp : t.pending = s.pending) (hf : t.phase = s.phase)
    (hm : t.modes.mode = s.modes.mode) (hd : t.dict = s.dict) (hr : t.recorder = s.recorder) (hw : t.fw = s.fw) : s0.Keeps strict t :=
  h.trans ⟨hp, fun _ => ⟨hf, hm⟩, fun c => hd ▸ c, fun c => hr ▸ c, hw ▸ s.fw.guards_refl⟩

/-- A state written out from another with the fields that matter taken from it. -/
theorem State.Keeps.mk_eq {strict : Bool} {s0 s u : State} {freeCountX : Nat} {replyX : Reply} {sentX : List Msg} {manageX : Manage} {clkX : Clocks} {pinsX : Pins} {syncPinsX : SyncPins} {ownX : OwnPower} {cellsX : Vector Cell 48} {loopsX : Vector Loop 16} {tracesX : Vector Trace 4} {groupsX : Vector Group 24} {busX : Bus} {allocX : AllocResult} {allocNextX : AllocResult} {solveCountX : Nat} {idGroupX : Option GroupNo} {idAtX : Option Nat} {idCycleUsX : Nat} {refHalfX : BitVec 6} {monitorsX : Vector (BitVec 12) 5} {ledgerX : Ledger} {stringsX : Vector Batt 4} {packsX : List PackSlot} {seqX : Seq} {thermalX : Vector Thermal 22} {lanesX : Lanes} {canX : Vector Can 2} {hostsX : Vector HostCtx 32} {hostsRefusedX : Nat} {lockOwnerX : Option HostNo} {lockMsX : Nat} {wallOffsetMsX : Int} {tpdoLastX : Vector Bytes 32} {tpdoInhibitX : Vector Bool 32} {tpdoDueX : Vector Bool 32} {tpdoUsX : Vector Nat 32} {checkUsX : Nat} {tpdoSyncX : Vector Nat 32} {rpdoSecondX : Vector Nat 16} {dapX : Vector Dap 2} {twX : Vector Tw 12} {regsX : Vector Reg 256} {coresX : Vector Core 4} {srcsX : Vector Src 160} {scrubOrderX : List CoreNo} {badBanksX : List MemFail} {heldBlocksX : BitVec 6} {heldOtherX : List (BitVec 8)}
    (hu : State.mk s.pending freeCountX replyX sentX s.phase manageX clkX pinsX syncPinsX s.modes ownX cellsX loopsX tracesX groupsX busX allocX allocNextX solveCountX idGroupX idAtX idCycleUsX refHalfX monitorsX ledgerX stringsX packsX seqX thermalX lanesX canX hostsX hostsRefusedX lockOwnerX lockMsX wallOffsetMsX tpdoLastX tpdoInhibitX tpdoDueX tpdoUsX checkUsX tpdoSyncX rpdoSecondX dapX s.dict twX regsX coresX srcsX scrubOrderX badBanksX s.recorder s.fw heldBlocksX heldOtherX = u) (h : s0.Keeps strict s) : s0.Keeps strict u := by
  subst hu
  exact .same h rfl rfl rfl rfl rfl rfl

theorem State.Keeps.of_pair {α : Type} {strict : Bool} {s0 t : State} {a : α} {p : α × State} (e : p = (a, t)) (h : s0.Keeps strict p.2) :
    s0.Keeps strict t := by subst e; exact h

theorem State.Keeps.of_triple {α β : Type} {strict : Bool} {s0 t : State} {x : α} {y : β} {p : α × β × State} (e : p = (x, y, t))
    (h : s0.Keeps strict p.2.2) : s0.Keeps strict t := by subst e; exact h

/-! The named writers. -/

theorem State.modModes_keeps {strict : Bool} {s0 s : State} (h : s0.Keeps strict s) (f : ModeState → ModeState) (hf : ∀ x, (f x).mode = x.mode) :
    s0.Keeps strict (s.modModes f) :=
  h.trans ⟨rfl, fun _ => ⟨rfl, hf _⟩, id, id, s.fw.guards_refl⟩

theorem State.modFw_keeps {strict : Bool} {s0 s : State} (h : s0.Keeps strict s) (f : Firmware → Firmware)
    (hv : ∀ w, (f w).secVersion = w.secVersion) (hk : ∀ w, (f w).keys = w.keys) : s0.Keeps strict (s.modFw f) :=
  h.trans ⟨rfl, fun _ => ⟨rfl, rfl⟩, id, id, (hv s.fw).ge, fun k hm _ => by
    have e := hk s.fw
    simp only [State.modFw]
    rw [e]
    exact hm⟩

theorem State.modSession_keeps {strict : Bool} {s0 s : State} (h : s0.Keeps strict s) (f : Session → Session) : s0.Keeps strict (s.modSession f) :=
  State.modFw_keeps h _ (fun _ => rfl) (fun _ => rfl)

theorem State.modRec_keeps {strict : Bool} {s0 s : State} (h : s0.Keeps strict s) (f : Recorder → Recorder)
    (hf : ∀ q : Recorder, q.bounded → (f q).bounded) : s0.Keeps strict (s.modRec f) :=
  h.trans ⟨rfl, fun _ => ⟨rfl, rfl⟩, id, fun c => hf _ c, s.fw.guards_refl⟩

/-- A change of the recorder that leaves its stores alone. -/
theorem State.modRec_keeps_same {strict : Bool} {s0 s : State} (h : s0.Keeps strict s) (f : Recorder → Recorder)
    (hr : ∀ q, (f q).ring = q.ring) (hl : ∀ q, (f q).log = q.log) (hq : ∀ q, (f q).queue = q.queue)
    (hg : ∀ q, (f q).gasps = q.gasps) : s0.Keeps strict (s.modRec f) :=
  State.modRec_keeps h f fun q c => by
    simp only [Recorder.bounded, hr, hl, hq, hg] at c ⊢
    exact c

theorem State.modDict_keeps {strict : Bool} {s0 s : State} (h : s0.Keeps strict s) (f : DictState → DictState)
    (hf : ∀ d : DictState, d.canonical → (f d).canonical) : s0.Keeps strict (s.modDict f) :=
  h.trans ⟨rfl, fun _ => ⟨rfl, rfl⟩, fun c => hf _ c, id, s.fw.guards_refl⟩

/-- The same, where the new state is right because the first one was. -/
theorem State.modDict_keeps_from {strict : Bool} {s0 s : State} (h : s0.Keeps strict s) (f : DictState → DictState)
    (hf : s0.dict.canonical → s.dict.canonical → (f s.dict).canonical) : s0.Keeps strict (s.modDict f) :=
  ⟨h.pending, h.still, fun c => hf c (h.dict c), h.recorder, h.guards⟩

/-- A change of the dictionary's state that leaves its stores alone. -/
theorem State.modDict_keeps_same {strict : Bool} {s0 s : State} (h : s0.Keeps strict s) (f : DictState → DictState)
    (hw : ∀ d, (f d).written = d.written) (hf : ∀ d, (f d).force = d.force) (hi : ∀ d, (f d).images = d.images) :
    s0.Keeps strict (s.modDict f) :=
  State.modDict_keeps h f fun d c => by
    simp only [DictState.canonical, hw, hf, hi] at c ⊢
    exact c

/-! The sparse stores of the dictionary. -/

theorem Dict.put_keys {d : Dict} {k : Nat} {v : Int} {p : Nat × Int} (h : p ∈ Dict.put d k v) : p.1 = k ∨ p ∈ d := by
  induction d with
  | nil => simp_all [Dict.put]
  | cons q r ih =>
    unfold Dict.put at h
    split at h
    · simp only [List.mem_cons] at h ⊢
      rcases h with rfl | h
      · exact .inl rfl
      · exact .inr h
    · split at h
      · simp only [List.mem_cons] at h ⊢
        rcases h with rfl | h
        · exact .inl rfl
        · exact .inr (.inr h)
      · simp only [List.mem_cons] at h ⊢
        rcases h with rfl | h
        · exact .inr (.inl rfl)
        · exact (ih h).imp id .inr

theorem Dict.wf_put {d : Dict} (k : Nat) (v : Int) (h : Dict.wf d) : Dict.wf (Dict.put d k v) := by
  induction d with
  | nil => simp [Dict.put, Dict.wf]
  | cons q r ih =>
    simp only [Dict.wf, List.map_cons, List.pairwise_cons] at h
    unfold Dict.put
    split
    next hk =>
      simp only [Dict.wf, List.map_cons, List.pairwise_cons, List.mem_cons]
      refine ⟨?_, h⟩
      rintro x (rfl | hx)
      · exact hk
      · exact hk.trans (h.1 x hx)
    next hk =>
      split
      next e => simpa [Dict.wf, e] using h
      next ne =>
        simp only [Dict.wf, List.map_cons, List.pairwise_cons]
        refine ⟨?_, ih h.2⟩
        intro x hx
        obtain ⟨p, hp, rfl⟩ := List.mem_map.1 hx
        rcases Dict.put_keys hp with e | hm
        · omega
        · exact h.1 _ (List.mem_map_of_mem hm)

theorem Dict.wf_filter {d : Dict} (p : Nat × Int → Bool) (h : Dict.wf d) : Dict.wf (d.filter p) :=
  List.Pairwise.sublist (List.Sublist.map _ List.filter_sublist) h

theorem Dict.wf_store {d : Dict} (index sub : Nat) (v : Int) (h : Dict.wf d) : Dict.wf (Dict.store d index sub v) := by
  unfold Dict.store
  split
  · exact Dict.wf_filter _ h
  · exact Dict.wf_put _ _ h

theorem State.setWritten_keeps {strict : Bool} {s0 s : State} (h : s0.Keeps strict s) (index sub : Nat) (v : Int) :
    s0.Keeps strict (s.setWritten index sub v) :=
  State.modDict_keeps h _ fun _ c => ⟨Dict.wf_store _ _ _ c.1, c.2⟩

theorem State.setForce_keeps {strict : Bool} {s0 s : State} (h : s0.Keeps strict s) (index sub : Nat) (v : Int) :
    s0.Keeps strict (s.setForce index sub v) :=
  State.modDict_keeps h _ fun _ c => ⟨c.1, Dict.wf_store _ _ _ c.2.1, c.2.2⟩

/-! Loops over instances. -/

theorem State.over_keeps {α : Type} {strict : Bool} {s0 s : State} {f : α → State → State} (h : s0.Keeps strict s)
    (hf : ∀ a t, s0.Keeps strict t → s0.Keeps strict (f a t)) (xs : List α) : s0.Keeps strict (s.over xs f) :=
  State.over_ind (P := fun t => s0.Keeps strict t) hf xs s h

theorem State.each_keeps {n : Nat} {strict : Bool} {s0 s : State} {f : Fin n → State → State} (h : s0.Keeps strict s)
    (hf : ∀ i t, s0.Keeps strict t → s0.Keeps strict (f i t)) : s0.Keeps strict (s.each n f) :=
  State.each_ind (P := fun t => s0.Keeps strict t) hf s h

theorem State.onFin_keeps {k n : Nat} {strict : Bool} {s0 s : State} {f : Fin k → State → State} (h : s0.Keeps strict s)
    (hf : ∀ i t, s0.Keeps strict t → s0.Keeps strict (f i t)) : s0.Keeps strict (s.onFin k n f) :=
  State.onFin_ind (P := fun t => s0.Keeps strict t) hf s h

/-! The stores of the recorder (R350 to R353). -/

theorem totalBy_cons (f : Rec → Nat) (r : Rec) (rs : List Rec) : totalBy f (r :: rs) = f r + totalBy f rs := by
  have h : ∀ (xs : List Rec) (n : Nat), xs.foldl (fun n r => n + f r) n = n + xs.foldl (fun n r => n + f r) 0 := by
    intro xs
    induction xs with
    | nil => simp
    | cons x xs ih =>
      intro n
      simp only [List.foldl_cons]
      rw [ih, ih (0 + f x)]
      omega
  simp only [totalBy, List.foldl_cons]
  rw [h]
  omega

theorem totalBy_drop (f : Rec → Nat) (n : Nat) (rs : List Rec) : totalBy f (dropOldest f n rs) ≤ totalBy f rs - n := by
  induction rs generalizing n with
  | nil => cases n <;> simp [dropOldest, totalBy]
  | cons r rs ih =>
    cases n with
    | zero => simp [dropOldest]
    | succ n =>
      have := ih (n + 1 - f r)
      rw [totalBy_cons]
      unfold dropOldest
      by_cases hc : f r ≤ n + 1
      · omega
      · have e : n + 1 - f r = 0 := by omega
        rw [e] at this ⊢
        have h0 : dropOldest f 0 rs = rs := by cases rs <;> rfl
        rw [h0] at this ⊢
        omega

theorem totalBy_filter (f : Rec → Nat) (p : Rec → Bool) (rs : List Rec) : totalBy f (rs.filter p) ≤ totalBy f rs := by
  induction rs with
  | nil => simp
  | cons r rs ih =>
    rw [List.filter_cons, totalBy_cons]
    split
    · rw [totalBy_cons]; omega
    · omega

theorem totalBy_map (f : Rec → Nat) (g : Rec → Rec) (hg : ∀ r, f (g r) = f r) (rs : List Rec) : totalBy f (rs.map g) = totalBy f rs := by
  induction rs with
  | nil => rfl
  | cons r rs ih => rw [List.map_cons, totalBy_cons, totalBy_cons, ih, hg]

theorem ringTrim_total (rs : List Rec) : totalBy (fun r => padTo 4 r.size) (ringTrim rs) ≤ 262144 :=
  (totalBy_drop _ _ _).trans (by omega)

theorem logTrim_total (rs : List Rec) : totalBy (fun r => padTo 8 (r.size + 8)) (logTrim rs) ≤ 1015808 :=
  (totalBy_drop _ _ _).trans (by omega)

theorem queueTrim_total (rs : List Rec) : totalBy Rec.size (dropOldest Rec.size (totalBy Rec.size rs - 8192) rs) ≤ 8192 :=
  (totalBy_drop _ _ _).trans (by omega)

theorem Rec.close_size (peat : Nat) (pfi : Bool) (r : Rec) : (r.close peat pfi).size = r.size := by
  unfold Rec.close
  split <;> rfl

theorem State.closeRecs_keeps {strict : Bool} {s0 s : State} (h : s0.Keeps strict s) (p : Rec → Bool) (pfi : Bool) : s0.Keeps strict (s.closeRecs p pfi) := by
  unfold State.closeRecs
  refine State.modRec_keeps h _ fun q c => ⟨?_, c.2⟩
  refine (totalBy_map _ _ (fun r => ?_) q.ring).trans_le c.1
  split
  · rw [Rec.close_size]
  · rfl

theorem State.writeRec_keeps {strict : Bool} {s0 s : State} (h : s0.Keeps strict s) (r : Rec) : s0.Keeps strict (s.writeRec r) := by
  unfold State.writeRec
  extract_lets t
  have ht : s0.Keeps strict t := State.closeRecs_keeps h _ _
  refine State.modRec_keeps ht _ fun q c => ?_
  dsimp only
  split
  · exact c
  · simp only [Recorder.bounded] at c ⊢
    exact ⟨ringTrim_total _, c.2⟩

theorem State.admitRec_keeps {strict : Bool} {s0 s : State} (h : s0.Keeps strict s) (r : Rec) : s0.Keeps strict (s.admitRec r) := by
  unfold State.admitRec
  extract_lets rate limited
  split
  next pass flag bs _ =>
  extract_lets t r' folds
  have ht : s0.Keeps strict t := State.modRec_keeps_same h _ (fun _ => rfl) (fun _ => rfl) (fun _ => rfl) (fun _ => rfl)
  split
  · split
    · refine State.modRec_keeps ht _ fun q c => ⟨?_, c.2⟩
      refine (totalBy_map _ _ (fun r => ?_) q.ring).trans_le c.1
      split <;> rfl
    · exact State.writeRec_keeps ht _
  · exact State.modRec_keeps_same ht _ (fun _ => rfl) (fun _ => rfl) (fun _ => rfl) (fun _ => rfl)

theorem State.enqueueRec_keeps {strict : Bool} {s0 s : State} (h : s0.Keeps strict s) (r : Rec) : s0.Keeps strict (s.enqueueRec r) := by
  unfold State.enqueueRec
  refine State.modRec_keeps h _ fun q c => ?_
  simp only [Recorder.bounded] at c ⊢
  exact ⟨c.1, c.2.1, queueTrim_total _, c.2.2.2⟩

theorem State.noteFault_keeps {strict : Bool} {s0 s : State} (h : s0.Keeps strict s) (src code : Nat) : s0.Keeps strict (s.noteFault src code) := by
  unfold State.noteFault
  split
  · exact State.modFw_keeps h _ (fun _ => rfl) (fun _ => rfl)
  · exact h

theorem State.modTrace_keeps {strict : Bool} {s0 s : State} (h : s0.Keeps strict s) (u : TraceNo) (f : Trace → Trace) : s0.Keeps strict (s.modTrace u f) :=
  .same h rfl rfl rfl rfl rfl rfl

theorem State.noteEvent_keeps {strict : Bool} {s0 s : State} (h : s0.Keeps strict s) (code : Nat) : s0.Keeps strict (s.noteEvent code) :=
  State.each_keeps h fun u t ht => by
    split
    · exact State.modTrace_keeps ht u _
    · exact ht

theorem State.event_keeps {strict : Bool} {s0 s : State} (h : s0.Keeps strict s) (src code inst : Nat) (payload : Bytes) :
    s0.Keeps strict (s.event src code inst payload) := by
  have h : s0.Keeps strict ((s.noteEvent code).noteFault src code) := State.noteFault_keeps (State.noteEvent_keeps h _) _ _
  unfold State.event
  extract_lets r t
  split
  · exact State.admitRec_keeps h _
  · split
    · exact State.enqueueRec_keeps h _
    · split
      · exact State.admitRec_keeps h _
      · exact h

theorem State.drainQueue_keeps {strict : Bool} {s0 s : State} (h : s0.Keeps strict s) : s0.Keeps strict s.drainQueue := by
  unfold State.drainQueue
  extract_lets rs lost t u
  have ht : s0.Keeps strict t := State.modRec_keeps h _ fun _ c => ⟨c.1, c.2.1, Nat.zero_le _, c.2.2.2⟩
  have hu : s0.Keeps strict u := State.over_keeps ht (fun r v h => State.admitRec_keeps h r) rs
  split
  · exact hu
  · exact State.event_keeps hu _ _ _ _

theorem State.modCell_keeps {strict : Bool} {s0 s : State} (h : s0.Keeps strict s) (c : CellNo) (f : Cell → Cell) :
    s0.Keeps strict (State.modCell s c f) := by
  unfold State.modCell
  repeat' first
    | with_reducible assumption | intro _ | ((fail_if_no_progress extract_lets +onlyGivenNames t); refine (?_ : State.Keeps strict s0 t → _) ?_; (on_goal 1 => intro ht; clear_value t); on_goal 2 => try unfold t)
    | fail_if_no_progress extract_lets +onlyGivenNames t
    | (generalize hu : State.mk .. = u; refine (?_ : State.Keeps strict s0 u → _) (.mk_eq hu ?_); clear hu) | split | dsimp only

theorem State.modFeeder_keeps {strict : Bool} {s0 s : State} (h : s0.Keeps strict s) (c : CellNo) (f : Feeder → Feeder) :
    s0.Keeps strict (State.modFeeder s c f) := by
  unfold State.modFeeder
  repeat' first
    | with_reducible assumption | intro _ | ((fail_if_no_progress extract_lets +onlyGivenNames t); refine (?_ : State.Keeps strict s0 t → _) ?_; (on_goal 1 => intro ht; clear_value t); on_goal 2 => try unfold t)
    | fail_if_no_progress extract_lets +onlyGivenNames t | with_reducible apply State.modCell_keeps
    | (generalize hu : State.mk .. = u; refine (?_ : State.Keeps strict s0 u → _) (.mk_eq hu ?_); clear hu) | split | dsimp only

theorem State.modOring_keeps {strict : Bool} {s0 s : State} (h : s0.Keeps strict s) (c : CellNo) (f : Oring → Oring) :
    s0.Keeps strict (State.modOring s c f) := by
  unfold State.modOring
  repeat' first
    | with_reducible assumption | intro _ | ((fail_if_no_progress extract_lets +onlyGivenNames t); refine (?_ : State.Keeps strict s0 t → _) ?_; (on_goal 1 => intro ht; clear_value t); on_goal 2 => try unfold t)
    | fail_if_no_progress extract_lets +onlyGivenNames t | with_reducible apply State.modCell_keeps
    | (generalize hu : State.mk .. = u; refine (?_ : State.Keeps strict s0 u → _) (.mk_eq hu ?_); clear hu) | split | dsimp only

theorem State.modLoop_keeps {strict : Bool} {s0 s : State} (h : s0.Keeps strict s) (k : LoopNo) (f : Loop → Loop) :
    s0.Keeps strict (State.modLoop s k f) := by
  unfold State.modLoop
  repeat' first
    | with_reducible assumption | intro _ | ((fail_if_no_progress extract_lets +onlyGivenNames t); refine (?_ : State.Keeps strict s0 t → _) ?_; (on_goal 1 => intro ht; clear_value t); on_goal 2 => try unfold t)
    | fail_if_no_progress extract_lets +onlyGivenNames t
    | (generalize hu : State.mk .. = u; refine (?_ : State.Keeps strict s0 u → _) (.mk_eq hu ?_); clear hu) | split | dsimp only

theorem State.modGroup_keeps {strict : Bool} {s0 s : State} (h : s0.Keeps strict s) (g : GroupNo) (f : Group → Group) :
    s0.Keeps strict (State.modGroup s g f) := by
  unfold State.modGroup
  repeat' first
    | with_reducible assumption | intro _ | ((fail_if_no_progress extract_lets +onlyGivenNames t); refine (?_ : State.Keeps strict s0 t → _) ?_; (on_goal 1 => intro ht; clear_value t); on_goal 2 => try unfold t)
    | fail_if_no_progress extract_lets +onlyGivenNames t
    | (generalize hu : State.mk .. = u; refine (?_ : State.Keeps strict s0 u → _) (.mk_eq hu ?_); clear hu) | split | dsimp only

theorem State.modString_keeps {strict : Bool} {s0 s : State} (h : s0.Keeps strict s) (n : StringNo) (f : Batt → Batt) :
    s0.Keeps strict (State.modString s n f) := by
  unfold State.modString
  repeat' first
    | with_reducible assumption | intro _ | ((fail_if_no_progress extract_lets +onlyGivenNames t); refine (?_ : State.Keeps strict s0 t → _) ?_; (on_goal 1 => intro ht; clear_value t); on_goal 2 => try unfold t)
    | fail_if_no_progress extract_lets +onlyGivenNames t
    | (generalize hu : State.mk .. = u; refine (?_ : State.Keeps strict s0 u → _) (.mk_eq hu ?_); clear hu) | split | dsimp only

theorem State.modLedger_keeps {strict : Bool} {s0 s : State} (h : s0.Keeps strict s) (f : Ledger → Ledger) :
    s0.Keeps strict (State.modLedger s f) := by
  unfold State.modLedger
  repeat' first
    | with_reducible assumption | intro _ | ((fail_if_no_progress extract_lets +onlyGivenNames t); refine (?_ : State.Keeps strict s0 t → _) ?_; (on_goal 1 => intro ht; clear_value t); on_goal 2 => try unfold t)
    | fail_if_no_progress extract_lets +onlyGivenNames t
    | (generalize hu : State.mk .. = u; refine (?_ : State.Keeps strict s0 u → _) (.mk_eq hu ?_); clear hu) | split | dsimp only

theorem State.modSink_keeps {strict : Bool} {s0 s : State} (h : s0.Keeps strict s) (x : SinkNo) (f : Sink → Sink) :
    s0.Keeps strict (State.modSink s x f) := by
  unfold State.modSink
  repeat' first
    | with_reducible assumption | intro _ | ((fail_if_no_progress extract_lets +onlyGivenNames t); refine (?_ : State.Keeps strict s0 t → _) ?_; (on_goal 1 => intro ht; clear_value t); on_goal 2 => try unfold t)
    | fail_if_no_progress extract_lets +onlyGivenNames t | with_reducible apply State.modLedger_keeps
    | (generalize hu : State.mk .. = u; refine (?_ : State.Keeps strict s0 u → _) (.mk_eq hu ?_); clear hu) | split | dsimp only

theorem State.modGrant_keeps {strict : Bool} {s0 s : State} (h : s0.Keeps strict s) (g : GrantNo) (f : Grant → Grant) :
    s0.Keeps strict (State.modGrant s g f) := by
  unfold State.modGrant
  repeat' first
    | with_reducible assumption | intro _ | ((fail_if_no_progress extract_lets +onlyGivenNames t); refine (?_ : State.Keeps strict s0 t → _) ?_; (on_goal 1 => intro ht; clear_value t); on_goal 2 => try unfold t)
    | fail_if_no_progress extract_lets +onlyGivenNames t | with_reducible apply State.modLedger_keeps
    | (generalize hu : State.mk .. = u; refine (?_ : State.Keeps strict s0 u → _) (.mk_eq hu ?_); clear hu) | split | dsimp only

theorem State.modSeq_keeps {strict : Bool} {s0 s : State} (h : s0.Keeps strict s) (f : Seq → Seq) :
    s0.Keeps strict (State.modSeq s f) := by
  unfold State.modSeq
  repeat' first
    | with_reducible assumption | intro _ | ((fail_if_no_progress extract_lets +onlyGivenNames t); refine (?_ : State.Keeps strict s0 t → _) ?_; (on_goal 1 => intro ht; clear_value t); on_goal 2 => try unfold t)
    | fail_if_no_progress extract_lets +onlyGivenNames t
    | (generalize hu : State.mk .. = u; refine (?_ : State.Keeps strict s0 u → _) (.mk_eq hu ?_); clear hu) | split | dsimp only

theorem State.modRail_keeps {strict : Bool} {s0 s : State} (h : s0.Keeps strict s) (r : RailNo) (f : Rail → Rail) :
    s0.Keeps strict (State.modRail s r f) := by
  unfold State.modRail
  repeat' first
    | with_reducible assumption | intro _ | ((fail_if_no_progress extract_lets +onlyGivenNames t); refine (?_ : State.Keeps strict s0 t → _) ?_; (on_goal 1 => intro ht; clear_value t); on_goal 2 => try unfold t)
    | fail_if_no_progress extract_lets +onlyGivenNames t | with_reducible apply State.modSeq_keeps
    | (generalize hu : State.mk .. = u; refine (?_ : State.Keeps strict s0 u → _) (.mk_eq hu ?_); clear hu) | split | dsimp only

theorem State.modThermal_keeps {strict : Bool} {s0 s : State} (h : s0.Keeps strict s) (i : InputNo) (f : Thermal → Thermal) :
    s0.Keeps strict (State.modThermal s i f) := by
  unfold State.modThermal
  repeat' first
    | with_reducible assumption | intro _ | ((fail_if_no_progress extract_lets +onlyGivenNames t); refine (?_ : State.Keeps strict s0 t → _) ?_; (on_goal 1 => intro ht; clear_value t); on_goal 2 => try unfold t)
    | fail_if_no_progress extract_lets +onlyGivenNames t
    | (generalize hu : State.mk .. = u; refine (?_ : State.Keeps strict s0 u → _) (.mk_eq hu ?_); clear hu) | split | dsimp only

theorem State.modLanes_keeps {strict : Bool} {s0 s : State} (h : s0.Keeps strict s) (f : Lanes → Lanes) :
    s0.Keeps strict (State.modLanes s f) := by
  unfold State.modLanes
  repeat' first
    | with_reducible assumption | intro _ | ((fail_if_no_progress extract_lets +onlyGivenNames t); refine (?_ : State.Keeps strict s0 t → _) ?_; (on_goal 1 => intro ht; clear_value t); on_goal 2 => try unfold t)
    | fail_if_no_progress extract_lets +onlyGivenNames t
    | (generalize hu : State.mk .. = u; refine (?_ : State.Keeps strict s0 u → _) (.mk_eq hu ?_); clear hu) | split | dsimp only

theorem State.modCan_keeps {strict : Bool} {s0 s : State} (h : s0.Keeps strict s) (p : CanNo) (f : Can → Can) :
    s0.Keeps strict (State.modCan s p f) := by
  unfold State.modCan
  repeat' first
    | with_reducible assumption | intro _ | ((fail_if_no_progress extract_lets +onlyGivenNames t); refine (?_ : State.Keeps strict s0 t → _) ?_; (on_goal 1 => intro ht; clear_value t); on_goal 2 => try unfold t)
    | fail_if_no_progress extract_lets +onlyGivenNames t
    | (generalize hu : State.mk .. = u; refine (?_ : State.Keeps strict s0 u → _) (.mk_eq hu ?_); clear hu) | split | dsimp only

theorem State.modHost_keeps {strict : Bool} {s0 s : State} (h : s0.Keeps strict s) (h : HostNo) (f : HostCtx → HostCtx) :
    s0.Keeps strict (State.modHost s h f) := by
  unfold State.modHost
  repeat' first
    | with_reducible assumption | intro _ | ((fail_if_no_progress extract_lets +onlyGivenNames t); refine (?_ : State.Keeps strict s0 t → _) ?_; (on_goal 1 => intro ht; clear_value t); on_goal 2 => try unfold t)
    | fail_if_no_progress extract_lets +onlyGivenNames t
    | (generalize hu : State.mk .. = u; refine (?_ : State.Keeps strict s0 u → _) (.mk_eq hu ?_); clear hu) | split | dsimp only

theorem State.modDap_keeps {strict : Bool} {s0 s : State} (h : s0.Keeps strict s) (d : DapNo) (f : Dap → Dap) :
    s0.Keeps strict (State.modDap s d f) := by
  unfold State.modDap
  repeat' first
    | with_reducible assumption | intro _ | ((fail_if_no_progress extract_lets +onlyGivenNames t); refine (?_ : State.Keeps strict s0 t → _) ?_; (on_goal 1 => intro ht; clear_value t); on_goal 2 => try unfold t)
    | fail_if_no_progress extract_lets +onlyGivenNames t
    | (generalize hu : State.mk .. = u; refine (?_ : State.Keeps strict s0 u → _) (.mk_eq hu ?_); clear hu) | split | dsimp only

theorem State.modTw_keeps {strict : Bool} {s0 s : State} (h : s0.Keeps strict s) (p : TwNo) (f : Tw → Tw) :
    s0.Keeps strict (State.modTw s p f) := by
  unfold State.modTw
  repeat' first
    | with_reducible assumption | intro _ | ((fail_if_no_progress extract_lets +onlyGivenNames t); refine (?_ : State.Keeps strict s0 t → _) ?_; (on_goal 1 => intro ht; clear_value t); on_goal 2 => try unfold t)
    | fail_if_no_progress extract_lets +onlyGivenNames t
    | (generalize hu : State.mk .. = u; refine (?_ : State.Keeps strict s0 u → _) (.mk_eq hu ?_); clear hu) | split | dsimp only

theorem State.modCore_keeps {strict : Bool} {s0 s : State} (h : s0.Keeps strict s) (c : CoreNo) (f : Core → Core) :
    s0.Keeps strict (State.modCore s c f) := by
  unfold State.modCore
  repeat' first
    | with_reducible assumption | intro _ | ((fail_if_no_progress extract_lets +onlyGivenNames t); refine (?_ : State.Keeps strict s0 t → _) ?_; (on_goal 1 => intro ht; clear_value t); on_goal 2 => try unfold t)
    | fail_if_no_progress extract_lets +onlyGivenNames t
    | (generalize hu : State.mk .. = u; refine (?_ : State.Keeps strict s0 u → _) (.mk_eq hu ?_); clear hu) | split | dsimp only

theorem State.modSrc_keeps {strict : Bool} {s0 s : State} (h : s0.Keeps strict s) (n : SharedNo) (f : Src → Src) :
    s0.Keeps strict (State.modSrc s n f) := by
  unfold State.modSrc
  repeat' first
    | with_reducible assumption | intro _ | ((fail_if_no_progress extract_lets +onlyGivenNames t); refine (?_ : State.Keeps strict s0 t → _) ?_; (on_goal 1 => intro ht; clear_value t); on_goal 2 => try unfold t)
    | fail_if_no_progress extract_lets +onlyGivenNames t
    | (generalize hu : State.mk .. = u; refine (?_ : State.Keeps strict s0 u → _) (.mk_eq hu ?_); clear hu) | split | dsimp only

theorem State.modClk_keeps {strict : Bool} {s0 s : State} (h : s0.Keeps strict s) (f : Clocks → Clocks) :
    s0.Keeps strict (State.modClk s f) := by
  unfold State.modClk
  repeat' first
    | with_reducible assumption | intro _ | ((fail_if_no_progress extract_lets +onlyGivenNames t); refine (?_ : State.Keeps strict s0 t → _) ?_; (on_goal 1 => intro ht; clear_value t); on_goal 2 => try unfold t)
    | fail_if_no_progress extract_lets +onlyGivenNames t
    | (generalize hu : State.mk .. = u; refine (?_ : State.Keeps strict s0 u → _) (.mk_eq hu ?_); clear hu) | split | dsimp only

theorem State.modPins_keeps {strict : Bool} {s0 s : State} (h : s0.Keeps strict s) (f : Pins → Pins) :
    s0.Keeps strict (State.modPins s f) := by
  unfold State.modPins
  repeat' first
    | with_reducible assumption | intro _ | ((fail_if_no_progress extract_lets +onlyGivenNames t); refine (?_ : State.Keeps strict s0 t → _) ?_; (on_goal 1 => intro ht; clear_value t); on_goal 2 => try unfold t)
    | fail_if_no_progress extract_lets +onlyGivenNames t
    | (generalize hu : State.mk .. = u; refine (?_ : State.Keeps strict s0 u → _) (.mk_eq hu ?_); clear hu) | split | dsimp only

theorem State.modBus_keeps {strict : Bool} {s0 s : State} (h : s0.Keeps strict s) (f : Bus → Bus) :
    s0.Keeps strict (State.modBus s f) := by
  unfold State.modBus
  repeat' first
    | with_reducible assumption | intro _ | ((fail_if_no_progress extract_lets +onlyGivenNames t); refine (?_ : State.Keeps strict s0 t → _) ?_; (on_goal 1 => intro ht; clear_value t); on_goal 2 => try unfold t)
    | fail_if_no_progress extract_lets +onlyGivenNames t
    | (generalize hu : State.mk .. = u; refine (?_ : State.Keeps strict s0 u → _) (.mk_eq hu ?_); clear hu) | split | dsimp only

theorem State.fresh_keeps {strict : Bool} {s0 s : State} (h : s0.Keeps strict s) :
    s0.Keeps strict (State.fresh s).2 := by
  unfold State.fresh
  repeat' first
    | with_reducible assumption | intro _ | ((fail_if_no_progress extract_lets +onlyGivenNames t); refine (?_ : State.Keeps strict s0 t → _) ?_; (on_goal 1 => intro ht; clear_value t); on_goal 2 => try unfold t)
    | fail_if_no_progress extract_lets +onlyGivenNames t
    | (generalize hu : State.mk .. = u; refine (?_ : State.Keeps strict s0 u → _) (.mk_eq hu ?_); clear hu) | split | dsimp only

theorem State.send_keeps {strict : Bool} {s0 s : State} (h : s0.Keeps strict s) (m : Msg) :
    s0.Keeps strict (State.send s m) := by
  unfold State.send
  repeat' first
    | with_reducible assumption | intro _ | ((fail_if_no_progress extract_lets +onlyGivenNames t); refine (?_ : State.Keeps strict s0 t → _) ?_; (on_goal 1 => intro ht; clear_value t); on_goal 2 => try unfold t)
    | fail_if_no_progress extract_lets +onlyGivenNames t
    | (generalize hu : State.mk .. = u; refine (?_ : State.Keeps strict s0 u → _) (.mk_eq hu ?_); clear hu) | split | dsimp only

theorem State.answer_keeps {strict : Bool} {s0 s : State} (h : s0.Keeps strict s) (code : Nat) (data : Bytes) (total : Nat) :
    s0.Keeps strict (State.answer s code data total) := by
  unfold State.answer
  repeat' first
    | with_reducible assumption | intro _ | ((fail_if_no_progress extract_lets +onlyGivenNames t); refine (?_ : State.Keeps strict s0 t → _) ?_; (on_goal 1 => intro ht; clear_value t); on_goal 2 => try unfold t)
    | fail_if_no_progress extract_lets +onlyGivenNames t
    | (generalize hu : State.mk .. = u; refine (?_ : State.Keeps strict s0 u → _) (.mk_eq hu ?_); clear hu) | split | dsimp only

theorem State.adopt_keeps {strict : Bool} {s0 s : State} (h : s0.Keeps strict s) (index sub : Nat) :
    s0.Keeps strict (State.adopt s index sub) := by
  unfold State.adopt
  repeat' first
    | with_reducible assumption | intro _ | ((fail_if_no_progress extract_lets +onlyGivenNames t); refine (?_ : State.Keeps strict s0 t → _) ?_; (on_goal 1 => intro ht; clear_value t); on_goal 2 => try unfold t)
    | fail_if_no_progress extract_lets +onlyGivenNames t | with_reducible apply State.setForce_keeps | split | dsimp only

theorem State.adoptAll_keeps {strict : Bool} {s0 s : State} (h : s0.Keeps strict s) (index : Nat) (subs : List Nat) :
    s0.Keeps strict (State.adoptAll s index subs) := by
  unfold State.adoptAll
  repeat' first
    | with_reducible assumption | intro _ | ((fail_if_no_progress extract_lets +onlyGivenNames t); refine (?_ : State.Keeps strict s0 t → _) ?_; (on_goal 1 => intro ht; clear_value t); on_goal 2 => try unfold t)
    | fail_if_no_progress extract_lets +onlyGivenNames t | with_reducible apply State.adopt_keeps
    | with_reducible apply State.over_keeps | split | dsimp only


theorem State.emcyOn_keeps {strict : Bool} {s0 s : State} (h : s0.Keeps strict s) (p : CanNo) (code : Nat) (b : Bytes) :
    s0.Keeps strict (State.emcyOn p code b s) := by
  unfold State.emcyOn
  split
  · split
    · have ht := State.modCan_keeps h p
      dsimp only
      split
      · split
        · exact ht _
        · exact State.event_keeps (ht _) _ _ _ _
      · exact ht _
    · exact State.modCan_keeps (State.send_keeps h _) _ _
  · exact h

theorem State.emcy_keeps {strict : Bool} {s0 s : State} (h : s0.Keeps strict s) (code : Nat) (b : Bytes) :
    s0.Keeps strict (State.emcy code b s) := by
  unfold State.emcy
  repeat' first
    | with_reducible assumption | intro _ | ((fail_if_no_progress extract_lets +onlyGivenNames t); refine (?_ : State.Keeps strict s0 t → _) ?_; (on_goal 1 => intro ht; clear_value t); on_goal 2 => try unfold t)
    | fail_if_no_progress extract_lets +onlyGivenNames t | with_reducible apply State.emcyOn_keeps | split | dsimp only


theorem State.errReset_keeps {strict : Bool} {s0 s : State} (h : s0.Keeps strict s) (u : State) : s0.Keeps strict (State.errReset u s) := by
  unfold State.errReset
  split
  · exact State.emcy_keeps h _ _
  · exact h


theorem settle_keeps {strict : Bool} {s0 s : State} (h : s0.Keeps strict s) (u : State) : ∃ t, settle u s = .next t ∧ s0.Keeps strict t :=
  ⟨_, rfl, State.errReset_keeps h u⟩

theorem State.twRan_keeps {strict : Bool} {s0 s : State} (h : s0.Keeps strict s) (p : TwNo) :
    s0.Keeps strict (State.twRan p s) := by
  unfold State.twRan
  repeat' first
    | with_reducible assumption | intro _ | ((fail_if_no_progress extract_lets +onlyGivenNames t); refine (?_ : State.Keeps strict s0 t → _) ?_; (on_goal 1 => intro ht; clear_value t); on_goal 2 => try unfold t)
    | fail_if_no_progress extract_lets +onlyGivenNames t | with_reducible apply State.modTw_keeps
    | (generalize hu : State.mk .. = u; refine (?_ : State.Keeps strict s0 u → _) (.mk_eq hu ?_); clear hu) | split | dsimp only

theorem State.sendBeat_keeps {strict : Bool} {s0 s : State} (h : s0.Keeps strict s) (p : CanNo) :
    s0.Keeps strict (State.sendBeat p s) := by
  unfold State.sendBeat
  repeat' first
    | with_reducible assumption | intro _ | ((fail_if_no_progress extract_lets +onlyGivenNames t); refine (?_ : State.Keeps strict s0 t → _) ?_; (on_goal 1 => intro ht; clear_value t); on_goal 2 => try unfold t)
    | fail_if_no_progress extract_lets +onlyGivenNames t | with_reducible apply State.modCan_keeps
    | with_reducible apply State.send_keeps
    | (generalize hu : State.mk .. = u; refine (?_ : State.Keeps strict s0 u → _) (.mk_eq hu ?_); clear hu) | split | dsimp only

theorem State.rejoin_keeps {strict : Bool} {s0 s : State} (h : s0.Keeps strict s) (p : CanNo) :
    s0.Keeps strict (State.rejoin p s) := by
  unfold State.rejoin
  repeat' first
    | with_reducible assumption | intro _ | ((fail_if_no_progress extract_lets +onlyGivenNames t); refine (?_ : State.Keeps strict s0 t → _) ?_; (on_goal 1 => intro ht; clear_value t); on_goal 2 => try unfold t)
    | fail_if_no_progress extract_lets +onlyGivenNames t | with_reducible apply State.modCan_keeps
    | with_reducible apply State.sendBeat_keeps
    | (generalize hu : State.mk .. = u; refine (?_ : State.Keeps strict s0 u → _) (.mk_eq hu ?_); clear hu) | split | dsimp only

theorem State.armWatchdog_keeps {strict : Bool} {s0 s : State} (h : s0.Keeps strict s) :
    s0.Keeps strict (State.armWatchdog s) := by
  unfold State.armWatchdog
  repeat' first
    | with_reducible assumption | intro _ | ((fail_if_no_progress extract_lets +onlyGivenNames t); refine (?_ : State.Keeps strict s0 t → _) ?_; (on_goal 1 => intro ht; clear_value t); on_goal 2 => try unfold t)
    | fail_if_no_progress extract_lets +onlyGivenNames t | with_reducible apply State.modClk_keeps
    | (generalize hu : State.mk .. = u; refine (?_ : State.Keeps strict s0 u → _) (.mk_eq hu ?_); clear hu) | split | dsimp only

theorem execEmcyInhibitExpiry_keeps {strict : Bool} {s0 s : State} (h : s0.Keeps strict s) (p : CanNo) :
    ∃ t, (execEmcyInhibitExpiry p s) = .next t ∧ s0.Keeps strict t := by
  unfold execEmcyInhibitExpiry
  repeat' first
    | with_reducible assumption | intro _ | ((fail_if_no_progress extract_lets +onlyGivenNames t); refine (?_ : State.Keeps strict s0 t → _) ?_; (on_goal 1 => intro ht; clear_value t); on_goal 2 => try unfold t)
    | fail_if_no_progress extract_lets +onlyGivenNames t | with_reducible refine ⟨_, rfl, ?_⟩ | with_reducible apply State.emcyOn_keeps
    | with_reducible apply State.modCan_keeps
    | (generalize hu : State.mk .. = u; refine (?_ : State.Keeps strict s0 u → _) (.mk_eq hu ?_); clear hu) | split
    | with_reducible refine State.Keeps.of_pair (by assumption) ?_ | with_reducible refine State.Keeps.of_triple (by assumption) ?_
    | dsimp only

end Sys2Proof.Machine
end

