-- ==== Sys2Proof/Laws/KeepsLoops.lean ====
section
/-! SUPPORT. Laws/KeepsLoops.lean: what the operations of cells, groups, loops, feeders and oring keep (State.Keeps). -/

set_option linter.unreachableTactic false
set_option linter.unusedTactic false
set_option linter.tactic.unusedName false

namespace Sys2Proof.Machine

/-! Machine/Cells.lean. -/

theorem State.setFault_keeps {strict : Bool} {s0 s : State} (h : s0.Keeps strict s) (c : CellNo) (b : Nat) :
    s0.Keeps strict (State.setFault c b s) := by
  unfold State.setFault
  repeat' first
    | with_reducible assumption | intro _ | ((fail_if_no_progress extract_lets +onlyGivenNames t); refine (?_ : State.Keeps strict s0 t → _) ?_; (on_goal 1 => intro ht; clear_value t); on_goal 2 => try unfold t)
    | fail_if_no_progress extract_lets +onlyGivenNames t | with_reducible apply State.event_keeps
    | with_reducible apply State.modCell_keeps
    | (generalize hu : State.mk .. = u; refine (?_ : State.Keeps strict s0 u → _) (.mk_eq hu ?_); clear hu) | split | dsimp only

theorem State.calCheck_keeps {strict : Bool} {s0 s : State} (h : s0.Keeps strict s) (c : CellNo) :
    s0.Keeps strict (State.calCheck c s) := by
  unfold State.calCheck
  repeat' first
    | with_reducible assumption | intro _ | ((fail_if_no_progress extract_lets +onlyGivenNames t); refine (?_ : State.Keeps strict s0 t → _) ?_; (on_goal 1 => intro ht; clear_value t); on_goal 2 => try unfold t)
    | fail_if_no_progress extract_lets +onlyGivenNames t | with_reducible apply State.setFault_keeps
    | (generalize hu : State.mk .. = u; refine (?_ : State.Keeps strict s0 u → _) (.mk_eq hu ?_); clear hu) | split
    | with_reducible refine State.Keeps.of_pair (by assumption) ?_ | with_reducible refine State.Keeps.of_triple (by assumption) ?_
    | dsimp only

theorem State.clearFault_keeps {strict : Bool} {s0 s : State} (h : s0.Keeps strict s) (c : CellNo) (mask : BitVec 16) :
    s0.Keeps strict (State.clearFault c mask s) := by
  unfold State.clearFault
  repeat' first
    | with_reducible assumption | intro _ | ((fail_if_no_progress extract_lets +onlyGivenNames t); refine (?_ : State.Keeps strict s0 t → _) ?_; (on_goal 1 => intro ht; clear_value t); on_goal 2 => try unfold t)
    | fail_if_no_progress extract_lets +onlyGivenNames t | with_reducible apply State.calCheck_keeps
    | with_reducible apply State.modCell_keeps | with_reducible apply State.over_keeps | with_reducible apply State.setFault_keeps
    | (generalize hu : State.mk .. = u; refine (?_ : State.Keeps strict s0 u → _) (.mk_eq hu ?_); clear hu) | split | dsimp only

theorem State.setLatch_keeps {strict : Bool} {s0 s : State} (h : s0.Keeps strict s) (c : CellNo) (cause : Nat) :
    s0.Keeps strict (State.setLatch c cause s) := by
  unfold State.setLatch
  repeat' first
    | with_reducible assumption | intro _ | ((fail_if_no_progress extract_lets +onlyGivenNames t); refine (?_ : State.Keeps strict s0 t → _) ?_; (on_goal 1 => intro ht; clear_value t); on_goal 2 => try unfold t)
    | fail_if_no_progress extract_lets +onlyGivenNames t | with_reducible apply State.event_keeps
    | with_reducible apply State.modCell_keeps
    | (generalize hu : State.mk .. = u; refine (?_ : State.Keeps strict s0 u → _) (.mk_eq hu ?_); clear hu) | split | dsimp only

theorem State.releaseSafe_keeps {strict : Bool} {s0 s : State} (h : s0.Keeps strict s) (c : CellNo) :
    s0.Keeps strict (State.releaseSafe c s) := by
  unfold State.releaseSafe
  repeat' first
    | with_reducible assumption | intro _ | ((fail_if_no_progress extract_lets +onlyGivenNames t); refine (?_ : State.Keeps strict s0 t → _) ?_; (on_goal 1 => intro ht; clear_value t); on_goal 2 => try unfold t)
    | fail_if_no_progress extract_lets +onlyGivenNames t | with_reducible apply State.event_keeps
    | with_reducible apply State.modCell_keeps
    | (generalize hu : State.mk .. = u; refine (?_ : State.Keeps strict s0 u → _) (.mk_eq hu ?_); clear hu) | split | dsimp only

theorem writeSafeAction_keeps {strict : Bool} {s0 s : State} (h : s0.Keeps strict s) (c : CellNo) (v : Nat) :
    s0.Keeps strict (writeSafeAction c v s).2 := by
  unfold writeSafeAction
  repeat' first
    | with_reducible assumption | intro _ | ((fail_if_no_progress extract_lets +onlyGivenNames t); refine (?_ : State.Keeps strict s0 t → _) ?_; (on_goal 1 => intro ht; clear_value t); on_goal 2 => try unfold t)
    | fail_if_no_progress extract_lets +onlyGivenNames t | with_reducible apply State.modCell_keeps
    | with_reducible apply State.setWritten_keeps
    | (generalize hu : State.mk .. = u; refine (?_ : State.Keeps strict s0 u → _) (.mk_eq hu ?_); clear hu) | split | dsimp only

theorem writeCalRecord_keeps {strict : Bool} {s0 s : State} (h : s0.Keeps strict s) (c : CellNo) (r : Bytes) :
    s0.Keeps strict (writeCalRecord c r s).2 := by
  unfold writeCalRecord
  repeat' first
    | with_reducible assumption | intro _ | ((fail_if_no_progress extract_lets +onlyGivenNames t); refine (?_ : State.Keeps strict s0 t → _) ?_; (on_goal 1 => intro ht; clear_value t); on_goal 2 => try unfold t)
    | fail_if_no_progress extract_lets +onlyGivenNames t | with_reducible apply State.calCheck_keeps
    | with_reducible apply State.modCell_keeps
    | (generalize hu : State.mk .. = u; refine (?_ : State.Keeps strict s0 u → _) (.mk_eq hu ?_); clear hu) | split | dsimp only

/-! Machine/Agreement.lean. -/

theorem State.testSet_keeps {strict : Bool} {s0 s : State} (h : s0.Keeps strict s) (i : SetId) :
    s0.Keeps strict (State.testSet i s) := by
  unfold State.testSet
  repeat' first
    | with_reducible assumption | intro _ | ((fail_if_no_progress extract_lets +onlyGivenNames t); refine (?_ : State.Keeps strict s0 t → _) ?_; (on_goal 1 => intro ht; clear_value t); on_goal 2 => try unfold t)
    | fail_if_no_progress extract_lets +onlyGivenNames t | with_reducible apply State.event_keeps
    | with_reducible refine State.modDict_keeps_same ?_ _ (fun _ => rfl) (fun _ => rfl) (fun _ => rfl)
    | (generalize hu : State.mk .. = u; refine (?_ : State.Keeps strict s0 u → _) (.mk_eq hu ?_); clear hu) | split
    | with_reducible refine State.Keeps.of_pair (by assumption) ?_ | with_reducible refine State.Keeps.of_triple (by assumption) ?_
    | dsimp only

theorem State.noteAdopted_keeps {strict : Bool} {s0 s : State} (h : s0.Keeps strict s) (i : SetId) :
    s0.Keeps strict (State.noteAdopted i s) := by
  unfold State.noteAdopted
  repeat' first
    | with_reducible assumption | intro _ | ((fail_if_no_progress extract_lets +onlyGivenNames t); refine (?_ : State.Keeps strict s0 t → _) ?_; (on_goal 1 => intro ht; clear_value t); on_goal 2 => try unfold t)
    | fail_if_no_progress extract_lets +onlyGivenNames t | with_reducible apply State.event_keeps
    | with_reducible refine State.modDict_keeps_same ?_ _ (fun _ => rfl) (fun _ => rfl) (fun _ => rfl)
    | (generalize hu : State.mk .. = u; refine (?_ : State.Keeps strict s0 u → _) (.mk_eq hu ?_); clear hu) | split
    | with_reducible refine State.Keeps.of_pair (by assumption) ?_ | with_reducible refine State.Keeps.of_triple (by assumption) ?_
    | dsimp only

theorem State.adoptSet_keeps {strict : Bool} {s0 s : State} (h : s0.Keeps strict s) (i : SetId) :
    s0.Keeps strict (State.adoptSet i s) := by
  unfold State.adoptSet
  repeat' first
    | with_reducible assumption | intro _ | ((fail_if_no_progress extract_lets +onlyGivenNames t); refine (?_ : State.Keeps strict s0 t → _) ?_; (on_goal 1 => intro ht; clear_value t); on_goal 2 => try unfold t)
    | fail_if_no_progress extract_lets +onlyGivenNames t | with_reducible apply State.adopt_keeps
    | with_reducible apply State.noteAdopted_keeps | with_reducible apply State.over_keeps
    | (generalize hu : State.mk .. = u; refine (?_ : State.Keeps strict s0 u → _) (.mk_eq hu ?_); clear hu) | split | dsimp only

theorem State.adoptEntry_keeps {strict : Bool} {s0 s : State} (h : s0.Keeps strict s) (index sub : Nat) :
    s0.Keeps strict (State.adoptEntry index sub s) := by
  unfold State.adoptEntry
  repeat' first
    | with_reducible assumption | intro _ | ((fail_if_no_progress extract_lets +onlyGivenNames t); refine (?_ : State.Keeps strict s0 t → _) ?_; (on_goal 1 => intro ht; clear_value t); on_goal 2 => try unfold t)
    | fail_if_no_progress extract_lets +onlyGivenNames t | with_reducible apply State.adopt_keeps
    | with_reducible apply State.noteAdopted_keeps | with_reducible apply State.over_keeps
    | (generalize hu : State.mk .. = u; refine (?_ : State.Keeps strict s0 u → _) (.mk_eq hu ?_); clear hu) | split | dsimp only

theorem State.feederAdopt_keeps {strict : Bool} {s0 s : State} (h : s0.Keeps strict s) (c : CellNo) :
    s0.Keeps strict (State.feederAdopt c s) := by
  unfold State.feederAdopt
  repeat' first
    | with_reducible assumption | intro _ | ((fail_if_no_progress extract_lets +onlyGivenNames t); refine (?_ : State.Keeps strict s0 t → _) ?_; (on_goal 1 => intro ht; clear_value t); on_goal 2 => try unfold t)
    | fail_if_no_progress extract_lets +onlyGivenNames t | with_reducible apply State.adoptEntry_keeps
    | with_reducible apply State.adoptSet_keeps | with_reducible apply State.over_keeps
    | (generalize hu : State.mk .. = u; refine (?_ : State.Keeps strict s0 u → _) (.mk_eq hu ?_); clear hu) | split | dsimp only

theorem State.feederStartAdopt_keeps {strict : Bool} {s0 s : State} (h : s0.Keeps strict s) (c : CellNo) :
    s0.Keeps strict (State.feederStartAdopt c s) := by
  unfold State.feederStartAdopt
  repeat' first
    | with_reducible assumption | intro _ | ((fail_if_no_progress extract_lets +onlyGivenNames t); refine (?_ : State.Keeps strict s0 t → _) ?_; (on_goal 1 => intro ht; clear_value t); on_goal 2 => try unfold t)
    | fail_if_no_progress extract_lets +onlyGivenNames t | with_reducible apply State.adoptEntry_keeps
    | with_reducible apply State.adoptSet_keeps | with_reducible apply State.over_keeps
    | (generalize hu : State.mk .. = u; refine (?_ : State.Keeps strict s0 u → _) (.mk_eq hu ?_); clear hu) | split | dsimp only

theorem State.testEntry_keeps {strict : Bool} {s0 s : State} (h : s0.Keeps strict s) (index sub : Nat) :
    s0.Keeps strict (State.testEntry index sub s) := by
  unfold State.testEntry
  repeat' first
    | with_reducible assumption | intro _ | ((fail_if_no_progress extract_lets +onlyGivenNames t); refine (?_ : State.Keeps strict s0 t → _) ?_; (on_goal 1 => intro ht; clear_value t); on_goal 2 => try unfold t)
    | fail_if_no_progress extract_lets +onlyGivenNames t | with_reducible apply State.feederAdopt_keeps
    | with_reducible apply State.over_keeps | with_reducible apply State.testSet_keeps
    | (generalize hu : State.mk .. = u; refine (?_ : State.Keeps strict s0 u → _) (.mk_eq hu ?_); clear hu) | split
    | with_reducible refine State.Keeps.of_pair (by assumption) ?_ | with_reducible refine State.Keeps.of_triple (by assumption) ?_
    | dsimp only

/-! Machine/Groups.lean. -/

theorem State.driveGroup_keeps {strict : Bool} {s0 s : State} (h : s0.Keeps strict s) (g : GroupNo) :
    s0.Keeps strict (State.driveGroup g s) := by
  unfold State.driveGroup
  repeat' first
    | with_reducible assumption | intro _ | ((fail_if_no_progress extract_lets +onlyGivenNames t); refine (?_ : State.Keeps strict s0 t → _) ?_; (on_goal 1 => intro ht; clear_value t); on_goal 2 => try unfold t)
    | fail_if_no_progress extract_lets +onlyGivenNames t | with_reducible apply State.modCell_keeps
    | (generalize hu : State.mk .. = u; refine (?_ : State.Keeps strict s0 u → _) (.mk_eq hu ?_); clear hu) | split
    | with_reducible refine State.Keeps.of_pair (by assumption) ?_ | with_reducible refine State.Keeps.of_triple (by assumption) ?_
    | dsimp only

theorem State.groupTo_keeps {strict : Bool} {s0 s : State} (h : s0.Keeps strict s) (g : GroupNo) (st : GroupState) :
    s0.Keeps strict (State.groupTo g st s) := by
  unfold State.groupTo
  repeat' first
    | with_reducible assumption | intro _ | ((fail_if_no_progress extract_lets +onlyGivenNames t); refine (?_ : State.Keeps strict s0 t → _) ?_; (on_goal 1 => intro ht; clear_value t); on_goal 2 => try unfold t)
    | fail_if_no_progress extract_lets +onlyGivenNames t | with_reducible apply State.driveGroup_keeps
    | with_reducible apply State.modGroup_keeps
    | (generalize hu : State.mk .. = u; refine (?_ : State.Keeps strict s0 u → _) (.mk_eq hu ?_); clear hu) | split | dsimp only

theorem State.groupLow_keeps {strict : Bool} {s0 s : State} (h : s0.Keeps strict s) (g : GroupNo) :
    s0.Keeps strict (State.groupLow g s) := by
  unfold State.groupLow
  repeat' first
    | with_reducible assumption | intro _ | ((fail_if_no_progress extract_lets +onlyGivenNames t); refine (?_ : State.Keeps strict s0 t → _) ?_; (on_goal 1 => intro ht; clear_value t); on_goal 2 => try unfold t)
    | fail_if_no_progress extract_lets +onlyGivenNames t | with_reducible apply State.modCell_keeps
    | (generalize hu : State.mk .. = u; refine (?_ : State.Keeps strict s0 u → _) (.mk_eq hu ?_); clear hu) | split
    | with_reducible refine State.Keeps.of_pair (by assumption) ?_ | with_reducible refine State.Keeps.of_triple (by assumption) ?_
    | dsimp only

theorem State.abandonId_keeps {strict : Bool} {s0 s : State} (h : s0.Keeps strict s) (g : GroupNo) :
    s0.Keeps strict (State.abandonId g s) := by
  unfold State.abandonId
  split
  · have hu : s0.Keeps strict { s with idGroup := none } := .same h rfl rfl rfl rfl rfl rfl
    generalize State.mk .. = u at hu ⊢
    split
    next rm t e => exact State.event_keeps (State.modGroup_keeps (State.Keeps.of_pair e (State.fresh_keeps hu)) _ _) _ _ _ _
  · exact h

theorem State.groupStop_keeps {strict : Bool} {s0 s : State} (h : s0.Keeps strict s) (g : GroupNo) (cause src : Nat) :
    s0.Keeps strict (State.groupStop g cause src s) := by
  unfold State.groupStop
  repeat' first
    | with_reducible assumption | intro _ | ((fail_if_no_progress extract_lets +onlyGivenNames t); refine (?_ : State.Keeps strict s0 t → _) ?_; (on_goal 1 => intro ht; clear_value t); on_goal 2 => try unfold t)
    | fail_if_no_progress extract_lets +onlyGivenNames t | with_reducible apply State.abandonId_keeps
    | with_reducible apply State.event_keeps | with_reducible apply State.groupLow_keeps | with_reducible apply State.modGroup_keeps
    | (generalize hu : State.mk .. = u; refine (?_ : State.Keeps strict s0 u → _) (.mk_eq hu ?_); clear hu) | split | dsimp only

theorem State.abandonAny_keeps {strict : Bool} {s0 s : State} (h : s0.Keeps strict s) :
    s0.Keeps strict (State.abandonAny s) := by
  unfold State.abandonAny
  repeat' first
    | with_reducible assumption | intro _ | ((fail_if_no_progress extract_lets +onlyGivenNames t); refine (?_ : State.Keeps strict s0 t → _) ?_; (on_goal 1 => intro ht; clear_value t); on_goal 2 => try unfold t)
    | fail_if_no_progress extract_lets +onlyGivenNames t | with_reducible apply State.abandonId_keeps
    | (generalize hu : State.mk .. = u; refine (?_ : State.Keeps strict s0 u → _) (.mk_eq hu ?_); clear hu) | split
    | with_reducible refine State.Keeps.of_pair (by assumption) ?_ | with_reducible refine State.Keeps.of_triple (by assumption) ?_
    | dsimp only

theorem State.laneStop_keeps {strict : Bool} {s0 s : State} (h : s0.Keeps strict s) (g : GroupNo) (cause : Nat) :
    s0.Keeps strict (State.laneStop g cause s) := by
  unfold State.laneStop
  repeat' first
    | with_reducible assumption | intro _ | ((fail_if_no_progress extract_lets +onlyGivenNames t); refine (?_ : State.Keeps strict s0 t → _) ?_; (on_goal 1 => intro ht; clear_value t); on_goal 2 => try unfold t)
    | fail_if_no_progress extract_lets +onlyGivenNames t | with_reducible apply State.groupStop_keeps
    | (generalize hu : State.mk .. = u; refine (?_ : State.Keeps strict s0 u → _) (.mk_eq hu ?_); clear hu) | split | dsimp only

theorem State.stopCellGroup_keeps {strict : Bool} {s0 s : State} (h : s0.Keeps strict s) (c : CellNo) (cause : Nat) :
    s0.Keeps strict (State.stopCellGroup c cause s) := by
  unfold State.stopCellGroup
  repeat' first
    | with_reducible assumption | intro _ | ((fail_if_no_progress extract_lets +onlyGivenNames t); refine (?_ : State.Keeps strict s0 t → _) ?_; (on_goal 1 => intro ht; clear_value t); on_goal 2 => try unfold t)
    | fail_if_no_progress extract_lets +onlyGivenNames t | with_reducible apply State.laneStop_keeps
    | (generalize hu : State.mk .. = u; refine (?_ : State.Keeps strict s0 u → _) (.mk_eq hu ?_); clear hu) | split
    | with_reducible refine State.Keeps.of_pair (by assumption) ?_ | with_reducible refine State.Keeps.of_triple (by assumption) ?_
    | dsimp only

theorem writeFaultLatch_keeps {strict : Bool} {s0 s : State} (h : s0.Keeps strict s) (c : CellNo) (v : Nat) :
    s0.Keeps strict (writeFaultLatch c v s).2 := by
  unfold writeFaultLatch
  repeat' first
    | with_reducible assumption | intro _ | ((fail_if_no_progress extract_lets +onlyGivenNames t); refine (?_ : State.Keeps strict s0 t → _) ?_; (on_goal 1 => intro ht; clear_value t); on_goal 2 => try unfold t)
    | fail_if_no_progress extract_lets +onlyGivenNames t | with_reducible apply State.clearFault_keeps
    | with_reducible apply State.driveGroup_keeps
    | (generalize hu : State.mk .. = u; refine (?_ : State.Keeps strict s0 u → _) (.mk_eq hu ?_); clear hu) | split
    | with_reducible refine State.Keeps.of_pair (by assumption) ?_ | with_reducible refine State.Keeps.of_triple (by assumption) ?_
    | dsimp only

theorem State.setSafe_keeps {strict : Bool} {s0 s : State} (h : s0.Keeps strict s) (c : CellNo) (cause : Nat) :
    s0.Keeps strict (State.setSafe c cause s) := by
  unfold State.setSafe
  repeat' first
    | with_reducible assumption | intro _ | ((fail_if_no_progress extract_lets +onlyGivenNames t); refine (?_ : State.Keeps strict s0 t → _) ?_; (on_goal 1 => intro ht; clear_value t); on_goal 2 => try unfold t)
    | fail_if_no_progress extract_lets +onlyGivenNames t | with_reducible apply State.setLatch_keeps
    | with_reducible apply State.stopCellGroup_keeps
    | (generalize hu : State.mk .. = u; refine (?_ : State.Keeps strict s0 u → _) (.mk_eq hu ?_); clear hu) | split | dsimp only

theorem State.setSafeAll_keeps {strict : Bool} {s0 s : State} (h : s0.Keeps strict s) (cause : Nat) :
    s0.Keeps strict (State.setSafeAll cause s) := by
  unfold State.setSafeAll
  repeat' first
    | with_reducible assumption | intro _ | ((fail_if_no_progress extract_lets +onlyGivenNames t); refine (?_ : State.Keeps strict s0 t → _) ?_; (on_goal 1 => intro ht; clear_value t); on_goal 2 => try unfold t)
    | fail_if_no_progress extract_lets +onlyGivenNames t | with_reducible apply State.each_keeps
    | with_reducible apply State.setSafe_keeps
    | (generalize hu : State.mk .. = u; refine (?_ : State.Keeps strict s0 u → _) (.mk_eq hu ?_); clear hu) | split | dsimp only

/-! Machine/Traces.lean. -/

theorem State.traceClock_keeps {strict : Bool} {s0 s : State} (h : s0.Keeps strict s) (u : TraceNo) (v : List Int) (gap : Bool) :
    s0.Keeps strict (State.traceClock u v gap s) := by
  unfold State.traceClock
  repeat' first
    | with_reducible assumption | intro _ | ((fail_if_no_progress extract_lets +onlyGivenNames t); refine (?_ : State.Keeps strict s0 t → _) ?_; (on_goal 1 => intro ht; clear_value t); on_goal 2 => try unfold t)
    | fail_if_no_progress extract_lets +onlyGivenNames t | with_reducible apply State.modTrace_keeps
    | (generalize hu : State.mk .. = u; refine (?_ : State.Keeps strict s0 u → _) (.mk_eq hu ?_); clear hu) | split
    | with_reducible refine State.Keeps.of_pair (by assumption) ?_ | with_reducible refine State.Keeps.of_triple (by assumption) ?_
    | dsimp only

theorem State.traceSlow_keeps {strict : Bool} {s0 s : State} (h : s0.Keeps strict s) (source : Nat) :
    s0.Keeps strict (State.traceSlow source s) := by
  unfold State.traceSlow
  repeat' first
    | with_reducible assumption | intro _ | ((fail_if_no_progress extract_lets +onlyGivenNames t); refine (?_ : State.Keeps strict s0 t → _) ?_; (on_goal 1 => intro ht; clear_value t); on_goal 2 => try unfold t)
    | fail_if_no_progress extract_lets +onlyGivenNames t | with_reducible apply State.each_keeps
    | with_reducible apply State.traceClock_keeps
    | (generalize hu : State.mk .. = u; refine (?_ : State.Keeps strict s0 u → _) (.mk_eq hu ?_); clear hu) | split | dsimp only

theorem State.traceBoundary_keeps {strict : Bool} {s0 s : State} (h : s0.Keeps strict s) (k : LoopNo) :
    s0.Keeps strict (State.traceBoundary k s) := by
  unfold State.traceBoundary
  repeat' first
    | with_reducible assumption | intro _ | ((fail_if_no_progress extract_lets +onlyGivenNames t); refine (?_ : State.Keeps strict s0 t → _) ?_; (on_goal 1 => intro ht; clear_value t); on_goal 2 => try unfold t)
    | fail_if_no_progress extract_lets +onlyGivenNames t | with_reducible apply State.each_keeps
    | with_reducible apply State.modTrace_keeps
    | (generalize hu : State.mk .. = u; refine (?_ : State.Keeps strict s0 u → _) (.mk_eq hu ?_); clear hu) | split | dsimp only

theorem State.traceLoop_keeps {strict : Bool} {s0 s : State} (h : s0.Keeps strict s) (k : LoopNo) (gap : Bool) :
    s0.Keeps strict (State.traceLoop k gap s) := by
  unfold State.traceLoop
  repeat' first
    | with_reducible assumption | intro _ | ((fail_if_no_progress extract_lets +onlyGivenNames t); refine (?_ : State.Keeps strict s0 t → _) ?_; (on_goal 1 => intro ht; clear_value t); on_goal 2 => try unfold t)
    | fail_if_no_progress extract_lets +onlyGivenNames t | with_reducible apply State.each_keeps
    | with_reducible apply State.traceClock_keeps
    | (generalize hu : State.mk .. = u; refine (?_ : State.Keeps strict s0 u → _) (.mk_eq hu ?_); clear hu) | split | dsimp only

theorem State.traceFlutter_keeps {strict : Bool} {s0 s : State} (h : s0.Keeps strict s) (k : LoopNo) :
    s0.Keeps strict (State.traceFlutter k s) := by
  unfold State.traceFlutter
  repeat' first
    | with_reducible assumption | intro _ | ((fail_if_no_progress extract_lets +onlyGivenNames t); refine (?_ : State.Keeps strict s0 t → _) ?_; (on_goal 1 => intro ht; clear_value t); on_goal 2 => try unfold t)
    | fail_if_no_progress extract_lets +onlyGivenNames t | with_reducible apply State.each_keeps
    | with_reducible apply State.modTrace_keeps
    | (generalize hu : State.mk .. = u; refine (?_ : State.Keeps strict s0 u → _) (.mk_eq hu ?_); clear hu) | split | dsimp only

theorem State.traceStop_keeps {strict : Bool} {s0 s : State} (h : s0.Keeps strict s) (k : LoopNo) :
    s0.Keeps strict (State.traceStop k s) := by
  unfold State.traceStop
  repeat' first
    | with_reducible assumption | intro _ | ((fail_if_no_progress extract_lets +onlyGivenNames t); refine (?_ : State.Keeps strict s0 t → _) ?_; (on_goal 1 => intro ht; clear_value t); on_goal 2 => try unfold t)
    | fail_if_no_progress extract_lets +onlyGivenNames t | with_reducible apply State.each_keeps
    | with_reducible apply State.modTrace_keeps
    | (generalize hu : State.mk .. = u; refine (?_ : State.Keeps strict s0 u → _) (.mk_eq hu ?_); clear hu) | split | dsimp only

theorem armUnit_keeps {strict : Bool} {s0 s : State} (h : s0.Keeps strict s) (u : TraceNo) :
    s0.Keeps strict (armUnit u s).2 := by
  unfold armUnit
  repeat' first
    | with_reducible assumption | intro _ | ((fail_if_no_progress extract_lets +onlyGivenNames t); refine (?_ : State.Keeps strict s0 t → _) ?_; (on_goal 1 => intro ht; clear_value t); on_goal 2 => try unfold t)
    | fail_if_no_progress extract_lets +onlyGivenNames t | with_reducible apply State.modTrace_keeps
    | (generalize hu : State.mk .. = u; refine (?_ : State.Keeps strict s0 u → _) (.mk_eq hu ?_); clear hu) | split | dsimp only

theorem forceUnit_keeps {strict : Bool} {s0 s : State} (h : s0.Keeps strict s) (u : TraceNo) :
    s0.Keeps strict (forceUnit u s).2 := by
  unfold forceUnit
  repeat' first
    | with_reducible assumption | intro _ | ((fail_if_no_progress extract_lets +onlyGivenNames t); refine (?_ : State.Keeps strict s0 t → _) ?_; (on_goal 1 => intro ht; clear_value t); on_goal 2 => try unfold t)
    | fail_if_no_progress extract_lets +onlyGivenNames t | with_reducible apply State.modTrace_keeps
    | (generalize hu : State.mk .. = u; refine (?_ : State.Keeps strict s0 u → _) (.mk_eq hu ?_); clear hu) | split | dsimp only

theorem disarmUnit_keeps {strict : Bool} {s0 s : State} (h : s0.Keeps strict s) (u : TraceNo) :
    s0.Keeps strict (disarmUnit u s).2 := by
  unfold disarmUnit
  repeat' first
    | with_reducible assumption | intro _ | ((fail_if_no_progress extract_lets +onlyGivenNames t); refine (?_ : State.Keeps strict s0 t → _) ?_; (on_goal 1 => intro ht; clear_value t); on_goal 2 => try unfold t)
    | fail_if_no_progress extract_lets +onlyGivenNames t | with_reducible apply State.modTrace_keeps
    | (generalize hu : State.mk .. = u; refine (?_ : State.Keeps strict s0 u → _) (.mk_eq hu ?_); clear hu) | split | dsimp only

theorem writeTraceCommand_keeps {strict : Bool} {s0 s : State} (h : s0.Keeps strict s) (u : TraceNo) (v : Nat) :
    s0.Keeps strict (writeTraceCommand u v s).2 := by
  unfold writeTraceCommand
  repeat' first
    | with_reducible assumption | intro _ | ((fail_if_no_progress extract_lets +onlyGivenNames t); refine (?_ : State.Keeps strict s0 t → _) ?_; (on_goal 1 => intro ht; clear_value t); on_goal 2 => try unfold t)
    | fail_if_no_progress extract_lets +onlyGivenNames t | with_reducible apply armUnit_keeps
    | with_reducible apply disarmUnit_keeps | with_reducible apply forceUnit_keeps
    | (generalize hu : State.mk .. = u; refine (?_ : State.Keeps strict s0 u → _) (.mk_eq hu ?_); clear hu) | split | dsimp only

theorem writeTraceConfig_keeps {strict : Bool} {s0 s : State} (h : s0.Keeps strict s) (u : TraceNo) (sub : Nat) (v : Int) :
    s0.Keeps strict (writeTraceConfig u sub v s).2 := by
  unfold writeTraceConfig
  repeat' first
    | with_reducible assumption | intro _ | ((fail_if_no_progress extract_lets +onlyGivenNames t); refine (?_ : State.Keeps strict s0 t → _) ?_; (on_goal 1 => intro ht; clear_value t); on_goal 2 => try unfold t)
    | fail_if_no_progress extract_lets +onlyGivenNames t | with_reducible apply State.setWritten_keeps
    | (generalize hu : State.mk .. = u; refine (?_ : State.Keeps strict s0 u → _) (.mk_eq hu ?_); clear hu) | split | dsimp only

/-! Machine/Loops.lean. -/

theorem State.scheduleRejected_keeps {strict : Bool} {s0 s : State} (h : s0.Keeps strict s) (k : LoopNo) (p : CellNo × Rat) :
    s0.Keeps strict (State.scheduleRejected k p s) := by
  unfold State.scheduleRejected
  repeat' first
    | with_reducible assumption | intro _ | ((fail_if_no_progress extract_lets +onlyGivenNames t); refine (?_ : State.Keeps strict s0 t → _) ?_; (on_goal 1 => intro ht; clear_value t); on_goal 2 => try unfold t)
    | fail_if_no_progress extract_lets +onlyGivenNames t | with_reducible apply State.event_keeps
    | (generalize hu : State.mk .. = u; refine (?_ : State.Keeps strict s0 u → _) (.mk_eq hu ?_); clear hu) | split | dsimp only

theorem State.recapacity_keeps {strict : Bool} {s0 s : State} (h : s0.Keeps strict s) (k : LoopNo) :
    s0.Keeps strict (State.recapacity k s) := by
  unfold State.recapacity
  repeat' first
    | with_reducible assumption | intro _ | ((fail_if_no_progress extract_lets +onlyGivenNames t); refine (?_ : State.Keeps strict s0 t → _) ?_; (on_goal 1 => intro ht; clear_value t); on_goal 2 => try unfold t)
    | fail_if_no_progress extract_lets +onlyGivenNames t | with_reducible apply State.event_keeps
    | with_reducible apply State.modLoop_keeps
    | (generalize hu : State.mk .. = u; refine (?_ : State.Keeps strict s0 u → _) (.mk_eq hu ?_); clear hu) | split | dsimp only

theorem State.placeOffsets_keeps {strict : Bool} {s0 s : State} (h : s0.Keeps strict s) (k : LoopNo) :
    s0.Keeps strict (State.placeOffsets k s) := by
  unfold State.placeOffsets
  repeat' first
    | with_reducible assumption | intro _ | ((fail_if_no_progress extract_lets +onlyGivenNames t); refine (?_ : State.Keeps strict s0 t → _) ?_; (on_goal 1 => intro ht; clear_value t); on_goal 2 => try unfold t)
    | fail_if_no_progress extract_lets +onlyGivenNames t | with_reducible apply State.modCell_keeps
    | with_reducible apply State.over_keeps
    | (generalize hu : State.mk .. = u; refine (?_ : State.Keeps strict s0 u → _) (.mk_eq hu ?_); clear hu) | split | dsimp only

theorem State.rampDone_keeps {strict : Bool} {s0 s : State} (h : s0.Keeps strict s) (k : LoopNo) (c : CellNo) :
    s0.Keeps strict (State.rampDone k c s) := by
  unfold State.rampDone
  repeat' first
    | with_reducible assumption | intro _ | ((fail_if_no_progress extract_lets +onlyGivenNames t); refine (?_ : State.Keeps strict s0 t → _) ?_; (on_goal 1 => intro ht; clear_value t); on_goal 2 => try unfold t)
    | fail_if_no_progress extract_lets +onlyGivenNames t | with_reducible apply State.modCell_keeps
    | with_reducible apply State.modLoop_keeps
    | (generalize hu : State.mk .. = u; refine (?_ : State.Keeps strict s0 u → _) (.mk_eq hu ?_); clear hu) | split | dsimp only

theorem State.unshed_keeps {strict : Bool} {s0 s : State} (h : s0.Keeps strict s) (k : LoopNo) (c : CellNo) (w : Rat) :
    s0.Keeps strict (State.unshed k c w s) := by
  unfold State.unshed
  repeat' first
    | with_reducible assumption | intro _ | ((fail_if_no_progress extract_lets +onlyGivenNames t); refine (?_ : State.Keeps strict s0 t → _) ?_; (on_goal 1 => intro ht; clear_value t); on_goal 2 => try unfold t)
    | fail_if_no_progress extract_lets +onlyGivenNames t | with_reducible apply State.modCell_keeps
    | with_reducible apply State.modLoop_keeps
    | (generalize hu : State.mk .. = u; refine (?_ : State.Keeps strict s0 u → _) (.mk_eq hu ?_); clear hu) | split | dsimp only

theorem State.addPhase_keeps {strict : Bool} {s0 s : State} (h : s0.Keeps strict s) (k : LoopNo) (c : CellNo) (atOnce : Bool) (cause : Nat) :
    s0.Keeps strict (State.addPhase k c atOnce cause s) := by
  unfold State.addPhase
  repeat' first
    | with_reducible assumption | intro _ | ((fail_if_no_progress extract_lets +onlyGivenNames t); refine (?_ : State.Keeps strict s0 t → _) ?_; (on_goal 1 => intro ht; clear_value t); on_goal 2 => try unfold t)
    | fail_if_no_progress extract_lets +onlyGivenNames t | with_reducible apply State.event_keeps
    | with_reducible apply State.unshed_keeps
    | (generalize hu : State.mk .. = u; refine (?_ : State.Keeps strict s0 u → _) (.mk_eq hu ?_); clear hu) | split | dsimp only

theorem State.membersLow_keeps {strict : Bool} {s0 s : State} (h : s0.Keeps strict s) (k : LoopNo) :
    s0.Keeps strict (State.membersLow k s) := by
  unfold State.membersLow
  repeat' first
    | with_reducible assumption | intro _ | ((fail_if_no_progress extract_lets +onlyGivenNames t); refine (?_ : State.Keeps strict s0 t → _) ?_; (on_goal 1 => intro ht; clear_value t); on_goal 2 => try unfold t)
    | fail_if_no_progress extract_lets +onlyGivenNames t | with_reducible apply State.modCell_keeps
    | with_reducible apply State.over_keeps
    | (generalize hu : State.mk .. = u; refine (?_ : State.Keeps strict s0 u → _) (.mk_eq hu ?_); clear hu) | split | dsimp only

theorem State.endBrake_keeps {strict : Bool} {s0 s : State} (h : s0.Keeps strict s) (k : LoopNo) (armed : Bool) :
    s0.Keeps strict (State.endBrake k armed s) := by
  unfold State.endBrake
  repeat' first
    | with_reducible assumption | intro _ | ((fail_if_no_progress extract_lets +onlyGivenNames t); refine (?_ : State.Keeps strict s0 t → _) ?_; (on_goal 1 => intro ht; clear_value t); on_goal 2 => try unfold t)
    | fail_if_no_progress extract_lets +onlyGivenNames t | with_reducible apply State.event_keeps
    | with_reducible apply State.modLoop_keeps
    | (generalize hu : State.mk .. = u; refine (?_ : State.Keeps strict s0 u → _) (.mk_eq hu ?_); clear hu) | split | dsimp only

theorem State.clearStates_keeps {strict : Bool} {s0 s : State} (h : s0.Keeps strict s) (k : LoopNo) :
    s0.Keeps strict (State.clearStates k s) := by
  unfold State.clearStates
  repeat' first
    | with_reducible assumption | intro _ | ((fail_if_no_progress extract_lets +onlyGivenNames t); refine (?_ : State.Keeps strict s0 t → _) ?_; (on_goal 1 => intro ht; clear_value t); on_goal 2 => try unfold t)
    | fail_if_no_progress extract_lets +onlyGivenNames t | with_reducible apply State.modCell_keeps
    | with_reducible apply State.modLoop_keeps | with_reducible apply State.over_keeps
    | (generalize hu : State.mk .. = u; refine (?_ : State.Keeps strict s0 u → _) (.mk_eq hu ?_); clear hu) | split | dsimp only

theorem State.stopLoop_keeps {strict : Bool} {s0 s : State} (h : s0.Keeps strict s) (k : LoopNo) (st : LoopState) (cause : Nat) :
    s0.Keeps strict (State.stopLoop k st cause s) := by
  unfold State.stopLoop
  repeat' first
    | with_reducible assumption | intro _ | ((fail_if_no_progress extract_lets +onlyGivenNames t); refine (?_ : State.Keeps strict s0 t → _) ?_; (on_goal 1 => intro ht; clear_value t); on_goal 2 => try unfold t)
    | fail_if_no_progress extract_lets +onlyGivenNames t | with_reducible apply State.endBrake_keeps
    | with_reducible apply State.membersLow_keeps | with_reducible apply State.modLoop_keeps | with_reducible apply State.over_keeps
    | with_reducible apply State.recapacity_keeps | with_reducible apply State.stopCellGroup_keeps
    | with_reducible apply State.traceStop_keeps
    | (generalize hu : State.mk .. = u; refine (?_ : State.Keeps strict s0 u → _) (.mk_eq hu ?_); clear hu) | split | dsimp only

theorem State.startLoop_keeps {strict : Bool} {s0 s : State} (h : s0.Keeps strict s) (k : LoopNo) :
    s0.Keeps strict (State.startLoop k s) := by
  unfold State.startLoop
  repeat' first
    | with_reducible assumption | intro _ | ((fail_if_no_progress extract_lets +onlyGivenNames t); refine (?_ : State.Keeps strict s0 t → _) ?_; (on_goal 1 => intro ht; clear_value t); on_goal 2 => try unfold t)
    | fail_if_no_progress extract_lets +onlyGivenNames t | with_reducible apply State.clearStates_keeps
    | with_reducible apply State.modLoop_keeps | with_reducible apply State.over_keeps
    | with_reducible apply State.placeOffsets_keeps | with_reducible apply State.recapacity_keeps
    | with_reducible apply State.setWritten_keeps | with_reducible apply State.unshed_keeps
    | (generalize hu : State.mk .. = u; refine (?_ : State.Keeps strict s0 u → _) (.mk_eq hu ?_); clear hu) | split
    | with_reducible refine State.Keeps.of_pair (by assumption) ?_ | with_reducible refine State.Keeps.of_triple (by assumption) ?_
    | dsimp only

theorem State.tryStart_keeps {strict : Bool} {s0 s : State} (h : s0.Keeps strict s) (k : LoopNo) :
    s0.Keeps strict (State.tryStart k s) := by
  unfold State.tryStart
  repeat' first
    | with_reducible assumption | intro _ | ((fail_if_no_progress extract_lets +onlyGivenNames t); refine (?_ : State.Keeps strict s0 t → _) ?_; (on_goal 1 => intro ht; clear_value t); on_goal 2 => try unfold t)
    | fail_if_no_progress extract_lets +onlyGivenNames t | with_reducible apply State.startLoop_keeps
    | (generalize hu : State.mk .. = u; refine (?_ : State.Keeps strict s0 u → _) (.mk_eq hu ?_); clear hu) | split | dsimp only

theorem State.restartLoop_keeps {strict : Bool} {s0 s : State} (h : s0.Keeps strict s) (k : LoopNo) :
    s0.Keeps strict (State.restartLoop k s) := by
  unfold State.restartLoop
  split
  · exact State.modLoop_keeps h _ _
  · exact State.startLoop_keeps h k

theorem State.loopOn_keeps {strict : Bool} {s0 s : State} (h : s0.Keeps strict s) (k : LoopNo) :
    s0.Keeps strict (State.loopOn k s) := by
  unfold State.loopOn
  repeat' first
    | with_reducible assumption | intro _ | ((fail_if_no_progress extract_lets +onlyGivenNames t); refine (?_ : State.Keeps strict s0 t → _) ?_; (on_goal 1 => intro ht; clear_value t); on_goal 2 => try unfold t)
    | fail_if_no_progress extract_lets +onlyGivenNames t | with_reducible apply State.modLoop_keeps
    | with_reducible apply State.tryStart_keeps
    | (generalize hu : State.mk .. = u; refine (?_ : State.Keeps strict s0 u → _) (.mk_eq hu ?_); clear hu) | split | dsimp only

theorem State.loopOff_keeps {strict : Bool} {s0 s : State} (h : s0.Keeps strict s) (k : LoopNo) :
    s0.Keeps strict (State.loopOff k s) := by
  unfold State.loopOff
  repeat' first
    | with_reducible assumption | intro _ | ((fail_if_no_progress extract_lets +onlyGivenNames t); refine (?_ : State.Keeps strict s0 t → _) ?_; (on_goal 1 => intro ht; clear_value t); on_goal 2 => try unfold t)
    | fail_if_no_progress extract_lets +onlyGivenNames t | with_reducible apply State.modLoop_keeps
    | with_reducible apply State.stopLoop_keeps
    | (generalize hu : State.mk .. = u; refine (?_ : State.Keeps strict s0 u → _) (.mk_eq hu ?_); clear hu) | split | dsimp only

theorem State.loopMemoryError_keeps {strict : Bool} {s0 s : State} (h : s0.Keeps strict s) (k : LoopNo) :
    s0.Keeps strict (State.loopMemoryError k s) := by
  unfold State.loopMemoryError
  repeat' first
    | with_reducible assumption | intro _ | ((fail_if_no_progress extract_lets +onlyGivenNames t); refine (?_ : State.Keeps strict s0 t → _) ?_; (on_goal 1 => intro ht; clear_value t); on_goal 2 => try unfold t)
    | fail_if_no_progress extract_lets +onlyGivenNames t | with_reducible apply State.event_keeps
    | with_reducible apply State.fresh_keeps | with_reducible apply State.modLoop_keeps | with_reducible apply State.over_keeps
    | with_reducible apply State.setSafe_keeps | with_reducible apply State.stopLoop_keeps
    | (generalize hu : State.mk .. = u; refine (?_ : State.Keeps strict s0 u → _) (.mk_eq hu ?_); clear hu) | split
    | with_reducible refine State.Keeps.of_pair (by assumption) ?_ | with_reducible refine State.Keeps.of_triple (by assumption) ?_
    | dsimp only

theorem State.dropMember_keeps {strict : Bool} {s0 s : State} (h : s0.Keeps strict s) (k : LoopNo) (c : CellNo) (cause : DropCause) :
    s0.Keeps strict (State.dropMember k c cause s) := by
  unfold State.dropMember
  repeat' first
    | with_reducible assumption | intro _ | ((fail_if_no_progress extract_lets +onlyGivenNames t); refine (?_ : State.Keeps strict s0 t → _) ?_; (on_goal 1 => intro ht; clear_value t); on_goal 2 => try unfold t)
    | fail_if_no_progress extract_lets +onlyGivenNames t | with_reducible apply State.event_keeps
    | with_reducible apply State.modCell_keeps | with_reducible apply State.modLoop_keeps
    | with_reducible apply State.recapacity_keeps | with_reducible apply State.stopCellGroup_keeps
    | with_reducible apply State.stopLoop_keeps
    | (generalize hu : State.mk .. = u; refine (?_ : State.Keeps strict s0 u → _) (.mk_eq hu ?_); clear hu) | split | dsimp only

theorem State.switchSet_keeps {strict : Bool} {s0 s : State} (h : s0.Keeps strict s) (k : LoopNo) :
    s0.Keeps strict (State.switchSet k s) := by
  unfold State.switchSet
  repeat' first
    | with_reducible assumption | intro _ | ((fail_if_no_progress extract_lets +onlyGivenNames t); refine (?_ : State.Keeps strict s0 t → _) ?_; (on_goal 1 => intro ht; clear_value t); on_goal 2 => try unfold t)
    | fail_if_no_progress extract_lets +onlyGivenNames t | with_reducible apply State.event_keeps
    | with_reducible apply State.modLoop_keeps
    | (generalize hu : State.mk .. = u; refine (?_ : State.Keeps strict s0 u → _) (.mk_eq hu ?_); clear hu) | split
    | with_reducible refine State.Keeps.of_pair (by assumption) ?_ | with_reducible refine State.Keeps.of_triple (by assumption) ?_
    | dsimp only

/-! Machine/Feeder.lean. -/

theorem State.feederMeasure_keeps {strict : Bool} {s0 s : State} (h : s0.Keeps strict s) (c : CellNo) :
    s0.Keeps strict (State.feederMeasure c s) := by
  unfold State.feederMeasure
  repeat' first
    | with_reducible assumption | intro _ | ((fail_if_no_progress extract_lets +onlyGivenNames t); refine (?_ : State.Keeps strict s0 t → _) ?_; (on_goal 1 => intro ht; clear_value t); on_goal 2 => try unfold t)
    | fail_if_no_progress extract_lets +onlyGivenNames t | with_reducible apply State.modFeeder_keeps
    | (generalize hu : State.mk .. = u; refine (?_ : State.Keeps strict s0 u → _) (.mk_eq hu ?_); clear hu) | split | dsimp only

theorem execSlotPresent_keeps {strict : Bool} {s0 s : State} (h : s0.Keeps strict s) (c : CellNo) :
    ∃ t, (execSlotPresent c s) = .next t ∧ s0.Keeps strict t := by
  unfold execSlotPresent
  repeat' first
    | with_reducible assumption | intro _ | ((fail_if_no_progress extract_lets +onlyGivenNames t); refine (?_ : State.Keeps strict s0 t → _) ?_; (on_goal 1 => intro ht; clear_value t); on_goal 2 => try unfold t)
    | fail_if_no_progress extract_lets +onlyGivenNames t | with_reducible refine ⟨_, rfl, ?_⟩
    | with_reducible apply State.event_keeps | with_reducible apply State.modFeeder_keeps
    | (generalize hu : State.mk .. = u; refine (?_ : State.Keeps strict s0 u → _) (.mk_eq hu ?_); clear hu) | split | dsimp only

theorem State.startUnseat_keeps {strict : Bool} {s0 s : State} (h : s0.Keeps strict s) (c : CellNo) :
    s0.Keeps strict (State.startUnseat c s) := by
  unfold State.startUnseat
  repeat' first
    | with_reducible assumption | intro _ | ((fail_if_no_progress extract_lets +onlyGivenNames t); refine (?_ : State.Keeps strict s0 t → _) ?_; (on_goal 1 => intro ht; clear_value t); on_goal 2 => try unfold t)
    | fail_if_no_progress extract_lets +onlyGivenNames t | with_reducible apply State.event_keeps
    | with_reducible apply State.modCell_keeps | with_reducible apply State.modFeeder_keeps
    | (generalize hu : State.mk .. = u; refine (?_ : State.Keeps strict s0 u → _) (.mk_eq hu ?_); clear hu) | split | dsimp only

theorem execUnseat_keeps {strict : Bool} {s0 s : State} (h : s0.Keeps strict s) (c : CellNo) :
    ∃ t, (execUnseat c s) = .next t ∧ s0.Keeps strict t := by
  unfold execUnseat
  repeat' first
    | with_reducible assumption | intro _ | ((fail_if_no_progress extract_lets +onlyGivenNames t); refine (?_ : State.Keeps strict s0 t → _) ?_; (on_goal 1 => intro ht; clear_value t); on_goal 2 => try unfold t)
    | fail_if_no_progress extract_lets +onlyGivenNames t | with_reducible refine ⟨_, rfl, ?_⟩
    | with_reducible apply State.startUnseat_keeps
    | (generalize hu : State.mk .. = u; refine (?_ : State.Keeps strict s0 u → _) (.mk_eq hu ?_); clear hu) | split | dsimp only

theorem execInsertionCountDone_keeps {strict : Bool} {s0 s : State} (h : s0.Keeps strict s) (c : CellNo) :
    ∃ t, (execInsertionCountDone c s) = .next t ∧ s0.Keeps strict t := by
  unfold execInsertionCountDone
  repeat' first
    | with_reducible assumption | intro _ | ((fail_if_no_progress extract_lets +onlyGivenNames t); refine (?_ : State.Keeps strict s0 t → _) ?_; (on_goal 1 => intro ht; clear_value t); on_goal 2 => try unfold t)
    | fail_if_no_progress extract_lets +onlyGivenNames t | with_reducible refine ⟨_, rfl, ?_⟩
    | with_reducible apply State.modFeeder_keeps
    | (generalize hu : State.mk .. = u; refine (?_ : State.Keeps strict s0 u → _) (.mk_eq hu ?_); clear hu) | split | dsimp only

theorem State.startFeeder_keeps {strict : Bool} {s0 s : State} (h : s0.Keeps strict s) (c : CellNo) :
    s0.Keeps strict (State.startFeeder c s) := by
  unfold State.startFeeder
  repeat' first
    | with_reducible assumption | intro _ | ((fail_if_no_progress extract_lets +onlyGivenNames t); refine (?_ : State.Keeps strict s0 t → _) ?_; (on_goal 1 => intro ht; clear_value t); on_goal 2 => try unfold t)
    | fail_if_no_progress extract_lets +onlyGivenNames t | with_reducible apply State.event_keeps
    | with_reducible apply State.feederStartAdopt_keeps | with_reducible apply State.modCell_keeps
    | with_reducible apply State.modFeeder_keeps | with_reducible apply State.modLedger_keeps
    | (generalize hu : State.mk .. = u; refine (?_ : State.Keeps strict s0 u → _) (.mk_eq hu ?_); clear hu) | split | dsimp only

theorem execFeederStart_keeps {strict : Bool} {s0 s : State} (h : s0.Keeps strict s) (c : CellNo) :
    ∃ t, (execFeederStart c s) = .next t ∧ s0.Keeps strict t := by
  unfold execFeederStart
  repeat' first
    | with_reducible assumption | intro _ | ((fail_if_no_progress extract_lets +onlyGivenNames t); refine (?_ : State.Keeps strict s0 t → _) ?_; (on_goal 1 => intro ht; clear_value t); on_goal 2 => try unfold t)
    | fail_if_no_progress extract_lets +onlyGivenNames t | with_reducible refine ⟨_, rfl, ?_⟩
    | with_reducible apply State.startFeeder_keeps
    | (generalize hu : State.mk .. = u; refine (?_ : State.Keeps strict s0 u → _) (.mk_eq hu ?_); clear hu) | split | dsimp only

theorem State.feederOff_keeps {strict : Bool} {s0 s : State} (h : s0.Keeps strict s) (c : CellNo) :
    s0.Keeps strict (State.feederOff c s) := by
  unfold State.feederOff
  repeat' first
    | with_reducible assumption | intro _ | ((fail_if_no_progress extract_lets +onlyGivenNames t); refine (?_ : State.Keeps strict s0 t → _) ?_; (on_goal 1 => intro ht; clear_value t); on_goal 2 => try unfold t)
    | fail_if_no_progress extract_lets +onlyGivenNames t | with_reducible apply State.modCell_keeps
    | (generalize hu : State.mk .. = u; refine (?_ : State.Keeps strict s0 u → _) (.mk_eq hu ?_); clear hu) | split | dsimp only

theorem State.latchEmcy_keeps {strict : Bool} {s0 s : State} (h : s0.Keeps strict s) (c : CellNo) (cause : Nat) :
    s0.Keeps strict (State.latchEmcy c cause s) := by
  unfold State.latchEmcy
  repeat' first
    | with_reducible assumption | intro _ | ((fail_if_no_progress extract_lets +onlyGivenNames t); refine (?_ : State.Keeps strict s0 t → _) ?_; (on_goal 1 => intro ht; clear_value t); on_goal 2 => try unfold t)
    | fail_if_no_progress extract_lets +onlyGivenNames t | with_reducible apply State.emcy_keeps
    | (generalize hu : State.mk .. = u; refine (?_ : State.Keeps strict s0 u → _) (.mk_eq hu ?_); clear hu) | split | dsimp only

theorem State.tripFeeder_keeps {strict : Bool} {s0 s : State} (h : s0.Keeps strict s) (c : CellNo) (cause : Nat) :
    s0.Keeps strict (State.tripFeeder c cause s) := by
  unfold State.tripFeeder
  repeat' first
    | with_reducible assumption | intro _ | ((fail_if_no_progress extract_lets +onlyGivenNames t); refine (?_ : State.Keeps strict s0 t → _) ?_; (on_goal 1 => intro ht; clear_value t); on_goal 2 => try unfold t)
    | fail_if_no_progress extract_lets +onlyGivenNames t | with_reducible apply State.event_keeps
    | with_reducible apply State.feederOff_keeps | with_reducible apply State.latchEmcy_keeps
    | with_reducible apply State.modFeeder_keeps | with_reducible apply State.modSink_keeps
    | (generalize hu : State.mk .. = u; refine (?_ : State.Keeps strict s0 u → _) (.mk_eq hu ?_); clear hu) | split | dsimp only

theorem State.noteTrip_keeps {strict : Bool} {s0 s : State} (h : s0.Keeps strict s) (c : CellNo) (cause : Nat) :
    s0.Keeps strict (State.noteTrip c cause s) := by
  unfold State.noteTrip
  repeat' first
    | with_reducible assumption | intro _ | ((fail_if_no_progress extract_lets +onlyGivenNames t); refine (?_ : State.Keeps strict s0 t → _) ?_; (on_goal 1 => intro ht; clear_value t); on_goal 2 => try unfold t)
    | fail_if_no_progress extract_lets +onlyGivenNames t | with_reducible apply State.modFeeder_keeps
    | (generalize hu : State.mk .. = u; refine (?_ : State.Keeps strict s0 u → _) (.mk_eq hu ?_); clear hu) | split
    | with_reducible refine State.Keeps.of_pair (by assumption) ?_ | with_reducible refine State.Keeps.of_triple (by assumption) ?_
    | dsimp only

theorem State.feederComplete_keeps {strict : Bool} {s0 s : State} (h : s0.Keeps strict s) (c : CellNo) :
    s0.Keeps strict (State.feederComplete c s) := by
  unfold State.feederComplete
  repeat' first
    | with_reducible assumption | intro _ | ((fail_if_no_progress extract_lets +onlyGivenNames t); refine (?_ : State.Keeps strict s0 t → _) ?_; (on_goal 1 => intro ht; clear_value t); on_goal 2 => try unfold t)
    | fail_if_no_progress extract_lets +onlyGivenNames t | with_reducible apply State.event_keeps
    | with_reducible apply State.modFeeder_keeps
    | (generalize hu : State.mk .. = u; refine (?_ : State.Keeps strict s0 u → _) (.mk_eq hu ?_); clear hu) | split | dsimp only

theorem State.inrushSample_keeps {strict : Bool} {s0 s : State} (h : s0.Keeps strict s) (c : CellNo) :
    s0.Keeps strict (State.inrushSample c s).2 := by
  unfold State.inrushSample
  repeat' first
    | with_reducible assumption | intro _ | ((fail_if_no_progress extract_lets +onlyGivenNames t); refine (?_ : State.Keeps strict s0 t → _) ?_; (on_goal 1 => intro ht; clear_value t); on_goal 2 => try unfold t)
    | fail_if_no_progress extract_lets +onlyGivenNames t | with_reducible apply State.modFeeder_keeps
    | (generalize hu : State.mk .. = u; refine (?_ : State.Keeps strict s0 u → _) (.mk_eq hu ?_); clear hu) | split | dsimp only

theorem State.inrushDrive_keeps {strict : Bool} {s0 s : State} (h : s0.Keeps strict s) (c : CellNo) :
    s0.Keeps strict (State.inrushDrive c s) := by
  unfold State.inrushDrive
  repeat' first
    | with_reducible assumption | intro _ | ((fail_if_no_progress extract_lets +onlyGivenNames t); refine (?_ : State.Keeps strict s0 t → _) ?_; (on_goal 1 => intro ht; clear_value t); on_goal 2 => try unfold t)
    | fail_if_no_progress extract_lets +onlyGivenNames t | with_reducible apply State.feederComplete_keeps
    | with_reducible apply State.modCell_keeps | with_reducible apply State.modFeeder_keeps
    | (generalize hu : State.mk .. = u; refine (?_ : State.Keeps strict s0 u → _) (.mk_eq hu ?_); clear hu) | split | dsimp only

theorem State.onSample_keeps {strict : Bool} {s0 s : State} (h : s0.Keeps strict s) (c : CellNo) :
    s0.Keeps strict (State.onSample c s).2 := by
  unfold State.onSample
  repeat' first
    | with_reducible assumption | intro _ | ((fail_if_no_progress extract_lets +onlyGivenNames t); refine (?_ : State.Keeps strict s0 t → _) ?_; (on_goal 1 => intro ht; clear_value t); on_goal 2 => try unfold t)
    | fail_if_no_progress extract_lets +onlyGivenNames t | with_reducible apply State.modFeeder_keeps
    | (generalize hu : State.mk .. = u; refine (?_ : State.Keeps strict s0 u → _) (.mk_eq hu ?_); clear hu) | split | dsimp only

theorem State.offSample_keeps {strict : Bool} {s0 s : State} (h : s0.Keeps strict s) (c : CellNo) :
    s0.Keeps strict (State.offSample c s) := by
  unfold State.offSample
  repeat' first
    | with_reducible assumption | intro _ | ((fail_if_no_progress extract_lets +onlyGivenNames t); refine (?_ : State.Keeps strict s0 t → _) ?_; (on_goal 1 => intro ht; clear_value t); on_goal 2 => try unfold t)
    | fail_if_no_progress extract_lets +onlyGivenNames t | with_reducible apply State.modCell_keeps
    | with_reducible apply State.modFeeder_keeps
    | (generalize hu : State.mk .. = u; refine (?_ : State.Keeps strict s0 u → _) (.mk_eq hu ?_); clear hu) | split | dsimp only

theorem State.countSample_keeps {strict : Bool} {s0 s : State} (h : s0.Keeps strict s) (c : CellNo) :
    s0.Keeps strict (State.countSample c s) := by
  unfold State.countSample
  repeat' first
    | with_reducible assumption | intro _ | ((fail_if_no_progress extract_lets +onlyGivenNames t); refine (?_ : State.Keeps strict s0 t → _) ?_; (on_goal 1 => intro ht; clear_value t); on_goal 2 => try unfold t)
    | fail_if_no_progress extract_lets +onlyGivenNames t | with_reducible apply State.modFeeder_keeps
    | (generalize hu : State.mk .. = u; refine (?_ : State.Keeps strict s0 u → _) (.mk_eq hu ?_); clear hu) | split | dsimp only

theorem State.feederPeriod_keeps {strict : Bool} {s0 s : State} (h : s0.Keeps strict s) (c : CellNo) :
    s0.Keeps strict (State.feederPeriod c s) := by
  unfold State.feederPeriod
  repeat' first
    | with_reducible assumption | intro _ | ((fail_if_no_progress extract_lets +onlyGivenNames t); refine (?_ : State.Keeps strict s0 t → _) ?_; (on_goal 1 => intro ht; clear_value t); on_goal 2 => try unfold t)
    | fail_if_no_progress extract_lets +onlyGivenNames t | with_reducible apply State.inrushDrive_keeps
    | with_reducible apply State.inrushSample_keeps | with_reducible apply State.modFeeder_keeps
    | with_reducible apply State.offSample_keeps | with_reducible apply State.onSample_keeps
    | with_reducible apply State.tripFeeder_keeps
    | (generalize hu : State.mk .. = u; refine (?_ : State.Keeps strict s0 u → _) (.mk_eq hu ?_); clear hu) | split
    | with_reducible refine State.Keeps.of_pair (by assumption) ?_ | with_reducible refine State.Keeps.of_triple (by assumption) ?_
    | dsimp only

theorem execFeederControlPeriod_keeps {strict : Bool} {s0 s : State} (h : s0.Keeps strict s) (c : CellNo) (x : ControlSample) :
    ∃ t, (execFeederControlPeriod c x s) = .next t ∧ s0.Keeps strict t := by
  unfold execFeederControlPeriod
  repeat' first
    | with_reducible assumption | intro _ | ((fail_if_no_progress extract_lets +onlyGivenNames t); refine (?_ : State.Keeps strict s0 t → _) ?_; (on_goal 1 => intro ht; clear_value t); on_goal 2 => try unfold t)
    | fail_if_no_progress extract_lets +onlyGivenNames t | with_reducible apply State.errReset_keeps
    | with_reducible refine ⟨_, rfl, ?_⟩ | with_reducible apply State.adoptSet_keeps | with_reducible apply State.countSample_keeps
    | with_reducible apply State.feederMeasure_keeps | with_reducible apply State.feederPeriod_keeps
    | with_reducible apply State.modCell_keeps | with_reducible apply settle_keeps
    | (generalize hu : State.mk .. = u; refine (?_ : State.Keeps strict s0 u → _) (.mk_eq hu ?_); clear hu) | split | dsimp only

theorem execInrushTimeout_keeps {strict : Bool} {s0 s : State} (h : s0.Keeps strict s) (c : CellNo) :
    ∃ t, (execInrushTimeout c s) = .next t ∧ s0.Keeps strict t := by
  unfold execInrushTimeout
  repeat' first
    | with_reducible assumption | intro _ | ((fail_if_no_progress extract_lets +onlyGivenNames t); refine (?_ : State.Keeps strict s0 t → _) ?_; (on_goal 1 => intro ht; clear_value t); on_goal 2 => try unfold t)
    | fail_if_no_progress extract_lets +onlyGivenNames t | with_reducible apply State.errReset_keeps
    | with_reducible refine ⟨_, rfl, ?_⟩ | with_reducible apply State.feederComplete_keeps
    | with_reducible apply State.tripFeeder_keeps | with_reducible apply settle_keeps
    | (generalize hu : State.mk .. = u; refine (?_ : State.Keeps strict s0 u → _) (.mk_eq hu ?_); clear hu) | split | dsimp only

theorem execPassDeviceFault_keeps {strict : Bool} {s0 s : State} (h : s0.Keeps strict s) (c : CellNo) (cause : PassCause) :
    ∃ t, (execPassDeviceFault c cause s) = .next t ∧ s0.Keeps strict t := by
  unfold execPassDeviceFault
  repeat' first
    | with_reducible assumption | intro _ | ((fail_if_no_progress extract_lets +onlyGivenNames t); refine (?_ : State.Keeps strict s0 t → _) ?_; (on_goal 1 => intro ht; clear_value t); on_goal 2 => try unfold t)
    | fail_if_no_progress extract_lets +onlyGivenNames t | with_reducible apply State.errReset_keeps
    | with_reducible refine ⟨_, rfl, ?_⟩ | with_reducible apply State.event_keeps | with_reducible apply State.feederOff_keeps
    | with_reducible apply State.latchEmcy_keeps | with_reducible apply State.modFeeder_keeps
    | with_reducible apply State.modSink_keeps | with_reducible apply State.setFault_keeps | with_reducible apply settle_keeps
    | (generalize hu : State.mk .. = u; refine (?_ : State.Keeps strict s0 u → _) (.mk_eq hu ?_); clear hu) | split | dsimp only

theorem execFeederUnloaded_keeps {strict : Bool} {s0 s : State} (h : s0.Keeps strict s) (c : CellNo) :
    ∃ t, (execFeederUnloaded c s) = .next t ∧ s0.Keeps strict t := by
  unfold execFeederUnloaded
  repeat' first
    | with_reducible assumption | intro _ | ((fail_if_no_progress extract_lets +onlyGivenNames t); refine (?_ : State.Keeps strict s0 t → _) ?_; (on_goal 1 => intro ht; clear_value t); on_goal 2 => try unfold t)
    | fail_if_no_progress extract_lets +onlyGivenNames t | with_reducible refine ⟨_, rfl, ?_⟩
    | with_reducible apply State.event_keeps | with_reducible apply State.feederOff_keeps
    | with_reducible apply State.modFeeder_keeps
    | (generalize hu : State.mk .. = u; refine (?_ : State.Keeps strict s0 u → _) (.mk_eq hu ?_); clear hu) | split | dsimp only

theorem execFeederRetry_keeps {strict : Bool} {s0 s : State} (h : s0.Keeps strict s) (c : CellNo) :
    ∃ t, (execFeederRetry c s) = .next t ∧ s0.Keeps strict t := by
  unfold execFeederRetry
  repeat' first
    | with_reducible assumption | intro _ | ((fail_if_no_progress extract_lets +onlyGivenNames t); refine (?_ : State.Keeps strict s0 t → _) ?_; (on_goal 1 => intro ht; clear_value t); on_goal 2 => try unfold t)
    | fail_if_no_progress extract_lets +onlyGivenNames t | with_reducible apply State.errReset_keeps
    | with_reducible refine ⟨_, rfl, ?_⟩ | with_reducible apply State.clearFault_keeps | with_reducible apply State.modFeeder_keeps
    | with_reducible apply State.startFeeder_keeps | with_reducible apply State.tripFeeder_keeps | with_reducible apply settle_keeps
    | (generalize hu : State.mk .. = u; refine (?_ : State.Keeps strict s0 u → _) (.mk_eq hu ?_); clear hu) | split | dsimp only

theorem execFeederRetryReload_keeps {strict : Bool} {s0 s : State} (h : s0.Keeps strict s) (c : CellNo) :
    ∃ t, (execFeederRetryReload c s) = .next t ∧ s0.Keeps strict t := by
  unfold execFeederRetryReload
  repeat' first
    | with_reducible assumption | intro _ | ((fail_if_no_progress extract_lets +onlyGivenNames t); refine (?_ : State.Keeps strict s0 t → _) ?_; (on_goal 1 => intro ht; clear_value t); on_goal 2 => try unfold t)
    | fail_if_no_progress extract_lets +onlyGivenNames t | with_reducible refine ⟨_, rfl, ?_⟩
    | with_reducible apply State.modFeeder_keeps
    | (generalize hu : State.mk .. = u; refine (?_ : State.Keeps strict s0 u → _) (.mk_eq hu ?_); clear hu) | split | dsimp only

theorem State.shedFeeder_keeps {strict : Bool} {s0 s : State} (h : s0.Keeps strict s) (c : CellNo) :
    s0.Keeps strict (State.shedFeeder c s) := by
  unfold State.shedFeeder
  repeat' first
    | with_reducible assumption | intro _ | ((fail_if_no_progress extract_lets +onlyGivenNames t); refine (?_ : State.Keeps strict s0 t → _) ?_; (on_goal 1 => intro ht; clear_value t); on_goal 2 => try unfold t)
    | fail_if_no_progress extract_lets +onlyGivenNames t | with_reducible apply State.feederOff_keeps
    | with_reducible apply State.modCell_keeps | with_reducible apply State.modFeeder_keeps
    | (generalize hu : State.mk .. = u; refine (?_ : State.Keeps strict s0 u → _) (.mk_eq hu ?_); clear hu) | split | dsimp only

theorem State.restoreFeeder_keeps {strict : Bool} {s0 s : State} (h : s0.Keeps strict s) (c : CellNo) :
    s0.Keeps strict (State.restoreFeeder c s) := by
  unfold State.restoreFeeder
  repeat' first
    | with_reducible assumption | intro _ | ((fail_if_no_progress extract_lets +onlyGivenNames t); refine (?_ : State.Keeps strict s0 t → _) ?_; (on_goal 1 => intro ht; clear_value t); on_goal 2 => try unfold t)
    | fail_if_no_progress extract_lets +onlyGivenNames t | with_reducible apply State.modFeeder_keeps
    | (generalize hu : State.mk .. = u; refine (?_ : State.Keeps strict s0 u → _) (.mk_eq hu ?_); clear hu) | split | dsimp only

theorem State.holdFeeder_keeps {strict : Bool} {s0 s : State} (h : s0.Keeps strict s) (c : CellNo) :
    s0.Keeps strict (State.holdFeeder c s) := by
  unfold State.holdFeeder
  repeat' first
    | with_reducible assumption | intro _ | ((fail_if_no_progress extract_lets +onlyGivenNames t); refine (?_ : State.Keeps strict s0 t → _) ?_; (on_goal 1 => intro ht; clear_value t); on_goal 2 => try unfold t)
    | fail_if_no_progress extract_lets +onlyGivenNames t | with_reducible apply State.feederOff_keeps
    | with_reducible apply State.modFeeder_keeps
    | (generalize hu : State.mk .. = u; refine (?_ : State.Keeps strict s0 u → _) (.mk_eq hu ?_); clear hu) | split | dsimp only

theorem State.unseated50_keeps {strict : Bool} {s0 s : State} (h : s0.Keeps strict s) (c : CellNo) :
    s0.Keeps strict (State.unseated50 c s) := by
  unfold State.unseated50
  repeat' first
    | with_reducible assumption | intro _ | ((fail_if_no_progress extract_lets +onlyGivenNames t); refine (?_ : State.Keeps strict s0 t → _) ?_; (on_goal 1 => intro ht; clear_value t); on_goal 2 => try unfold t)
    | fail_if_no_progress extract_lets +onlyGivenNames t | with_reducible apply State.modFeeder_keeps
    | (generalize hu : State.mk .. = u; refine (?_ : State.Keeps strict s0 u → _) (.mk_eq hu ?_); clear hu) | split | dsimp only

theorem writeFeederClear_keeps {strict : Bool} {s0 s : State} (h : s0.Keeps strict s) (c : CellNo) (v : Nat) (opr : Bool) (host : Nat) :
    s0.Keeps strict (writeFeederClear c v opr host s).2 := by
  unfold writeFeederClear
  repeat' first
    | with_reducible assumption | intro _ | ((fail_if_no_progress extract_lets +onlyGivenNames t); refine (?_ : State.Keeps strict s0 t → _) ?_; (on_goal 1 => intro ht; clear_value t); on_goal 2 => try unfold t)
    | fail_if_no_progress extract_lets +onlyGivenNames t | with_reducible apply State.clearFault_keeps
    | with_reducible apply State.event_keeps | with_reducible apply State.modFeeder_keeps
    | (generalize hu : State.mk .. = u; refine (?_ : State.Keeps strict s0 u → _) (.mk_eq hu ?_); clear hu) | split | dsimp only

theorem writeFeedEnable_keeps {strict : Bool} {s0 s : State} (h : s0.Keeps strict s) (c : CellNo) (v : Nat) :
    s0.Keeps strict (writeFeedEnable c v s).2 := by
  unfold writeFeedEnable
  repeat' first
    | with_reducible assumption | intro _ | ((fail_if_no_progress extract_lets +onlyGivenNames t); refine (?_ : State.Keeps strict s0 t → _) ?_; (on_goal 1 => intro ht; clear_value t); on_goal 2 => try unfold t)
    | fail_if_no_progress extract_lets +onlyGivenNames t | with_reducible apply State.feederAdopt_keeps
    | with_reducible apply State.feederOff_keeps | with_reducible apply State.modFeeder_keeps
    | with_reducible apply State.setWritten_keeps
    | (generalize hu : State.mk .. = u; refine (?_ : State.Keeps strict s0 u → _) (.mk_eq hu ?_); clear hu) | split | dsimp only

theorem writeSlotBinding_keeps {strict : Bool} {s0 s : State} (h : s0.Keeps strict s) (c : CellNo) (sub : Nat) (v : Int) :
    s0.Keeps strict (writeSlotBinding c sub v s).2 := by
  unfold writeSlotBinding
  repeat' first
    | with_reducible assumption | intro _ | ((fail_if_no_progress extract_lets +onlyGivenNames t); refine (?_ : State.Keeps strict s0 t → _) ?_; (on_goal 1 => intro ht; clear_value t); on_goal 2 => try unfold t)
    | fail_if_no_progress extract_lets +onlyGivenNames t | with_reducible apply State.setWritten_keeps
    | (generalize hu : State.mk .. = u; refine (?_ : State.Keeps strict s0 u → _) (.mk_eq hu ?_); clear hu) | split | dsimp only

/-! Machine/Oring.lean. -/

theorem State.oringMeasure_keeps {strict : Bool} {s0 s : State} (h : s0.Keeps strict s) (c : CellNo) :
    s0.Keeps strict (State.oringMeasure c s) := by
  unfold State.oringMeasure
  repeat' first
    | with_reducible assumption | intro _ | ((fail_if_no_progress extract_lets +onlyGivenNames t); refine (?_ : State.Keeps strict s0 t → _) ?_; (on_goal 1 => intro ht; clear_value t); on_goal 2 => try unfold t)
    | fail_if_no_progress extract_lets +onlyGivenNames t | with_reducible apply State.modOring_keeps
    | (generalize hu : State.mk .. = u; refine (?_ : State.Keeps strict s0 u → _) (.mk_eq hu ?_); clear hu) | split | dsimp only

theorem State.orBlock_keeps {strict : Bool} {s0 s : State} (h : s0.Keeps strict s) (c : CellNo) :
    s0.Keeps strict (State.orBlock c s) := by
  unfold State.orBlock
  repeat' first
    | with_reducible assumption | intro _ | ((fail_if_no_progress extract_lets +onlyGivenNames t); refine (?_ : State.Keeps strict s0 t → _) ?_; (on_goal 1 => intro ht; clear_value t); on_goal 2 => try unfold t)
    | fail_if_no_progress extract_lets +onlyGivenNames t | with_reducible apply State.modCell_keeps
    | with_reducible apply State.modOring_keeps
    | (generalize hu : State.mk .. = u; refine (?_ : State.Keeps strict s0 u → _) (.mk_eq hu ?_); clear hu) | split | dsimp only

theorem State.oringStep_keeps {strict : Bool} {s0 s : State} (h : s0.Keeps strict s) (c : CellNo) :
    s0.Keeps strict (State.oringStep c s) := by
  unfold State.oringStep
  repeat' first
    | with_reducible assumption | intro _ | ((fail_if_no_progress extract_lets +onlyGivenNames t); refine (?_ : State.Keeps strict s0 t → _) ?_; (on_goal 1 => intro ht; clear_value t); on_goal 2 => try unfold t)
    | fail_if_no_progress extract_lets +onlyGivenNames t | with_reducible apply State.event_keeps
    | with_reducible apply State.modCell_keeps | with_reducible apply State.modOring_keeps
    | with_reducible apply State.orBlock_keeps
    | (generalize hu : State.mk .. = u; refine (?_ : State.Keeps strict s0 u → _) (.mk_eq hu ?_); clear hu) | split
    | with_reducible refine State.Keeps.of_pair (by assumption) ?_ | with_reducible refine State.Keeps.of_triple (by assumption) ?_
    | dsimp only

theorem execOringControlPeriod_keeps {strict : Bool} {s0 s : State} (h : s0.Keeps strict s) (c : CellNo) (x : ControlSample) :
    ∃ t, (execOringControlPeriod c x s) = .next t ∧ s0.Keeps strict t := by
  unfold execOringControlPeriod
  repeat' first
    | with_reducible assumption | intro _ | ((fail_if_no_progress extract_lets +onlyGivenNames t); refine (?_ : State.Keeps strict s0 t → _) ?_; (on_goal 1 => intro ht; clear_value t); on_goal 2 => try unfold t)
    | fail_if_no_progress extract_lets +onlyGivenNames t | with_reducible refine ⟨_, rfl, ?_⟩
    | with_reducible apply State.adoptSet_keeps | with_reducible apply State.modCell_keeps
    | with_reducible apply State.oringMeasure_keeps | with_reducible apply State.oringStep_keeps
    | (generalize hu : State.mk .. = u; refine (?_ : State.Keeps strict s0 u → _) (.mk_eq hu ?_); clear hu) | split | dsimp only

theorem execOringReverse_keeps {strict : Bool} {s0 s : State} (h : s0.Keeps strict s) (c : CellNo) (sense : TripSense) :
    ∃ t, (execOringReverse c sense s) = .next t ∧ s0.Keeps strict t := by
  unfold execOringReverse
  repeat' first
    | with_reducible assumption | intro _ | ((fail_if_no_progress extract_lets +onlyGivenNames t); refine (?_ : State.Keeps strict s0 t → _) ?_; (on_goal 1 => intro ht; clear_value t); on_goal 2 => try unfold t)
    | fail_if_no_progress extract_lets +onlyGivenNames t | with_reducible apply State.errReset_keeps
    | with_reducible refine ⟨_, rfl, ?_⟩ | with_reducible apply State.event_keeps | with_reducible apply State.modCell_keeps
    | with_reducible apply State.modOring_keeps | with_reducible apply State.setFault_keeps | with_reducible apply settle_keeps
    | (generalize hu : State.mk .. = u; refine (?_ : State.Keeps strict s0 u → _) (.mk_eq hu ?_); clear hu) | split | dsimp only

theorem execOringRearm_keeps {strict : Bool} {s0 s : State} (h : s0.Keeps strict s) (c : CellNo) :
    ∃ t, (execOringRearm c s) = .next t ∧ s0.Keeps strict t := by
  unfold execOringRearm
  repeat' first
    | with_reducible assumption | intro _ | ((fail_if_no_progress extract_lets +onlyGivenNames t); refine (?_ : State.Keeps strict s0 t → _) ?_; (on_goal 1 => intro ht; clear_value t); on_goal 2 => try unfold t)
    | fail_if_no_progress extract_lets +onlyGivenNames t | with_reducible refine ⟨_, rfl, ?_⟩
    | with_reducible apply State.clearFault_keeps | with_reducible apply State.modOring_keeps
    | (generalize hu : State.mk .. = u; refine (?_ : State.Keeps strict s0 u → _) (.mk_eq hu ?_); clear hu) | split | dsimp only

theorem writeOrClear_keeps {strict : Bool} {s0 s : State} (h : s0.Keeps strict s) (c : CellNo) (v : Nat) :
    s0.Keeps strict (writeOrClear c v s).2 := by
  unfold writeOrClear
  repeat' first
    | with_reducible assumption | intro _ | ((fail_if_no_progress extract_lets +onlyGivenNames t); refine (?_ : State.Keeps strict s0 t → _) ?_; (on_goal 1 => intro ht; clear_value t); on_goal 2 => try unfold t)
    | fail_if_no_progress extract_lets +onlyGivenNames t | with_reducible apply State.event_keeps
    | with_reducible apply State.modOring_keeps
    | (generalize hu : State.mk .. = u; refine (?_ : State.Keeps strict s0 u → _) (.mk_eq hu ?_); clear hu) | split | dsimp only

theorem writeOrEnable_keeps {strict : Bool} {s0 s : State} (h : s0.Keeps strict s) (c : CellNo) (v : Nat) :
    s0.Keeps strict (writeOrEnable c v s).2 := by
  unfold writeOrEnable
  repeat' first
    | with_reducible assumption | intro _ | ((fail_if_no_progress extract_lets +onlyGivenNames t); refine (?_ : State.Keeps strict s0 t → _) ?_; (on_goal 1 => intro ht; clear_value t); on_goal 2 => try unfold t)
    | fail_if_no_progress extract_lets +onlyGivenNames t | with_reducible apply State.modCell_keeps
    | with_reducible apply State.modOring_keeps | with_reducible apply State.setWritten_keeps
    | (generalize hu : State.mk .. = u; refine (?_ : State.Keeps strict s0 u → _) (.mk_eq hu ?_); clear hu) | split | dsimp only

/-! Machine/CellFaults.lean. -/

theorem State.faultLow_keeps {strict : Bool} {s0 s : State} (h : s0.Keeps strict s) (c : CellNo) :
    s0.Keeps strict (State.faultLow c s) := by
  unfold State.faultLow
  repeat' first
    | with_reducible assumption | intro _ | ((fail_if_no_progress extract_lets +onlyGivenNames t); refine (?_ : State.Keeps strict s0 t → _) ?_; (on_goal 1 => intro ht; clear_value t); on_goal 2 => try unfold t)
    | fail_if_no_progress extract_lets +onlyGivenNames t | with_reducible apply State.modCell_keeps
    | with_reducible apply State.modOring_keeps
    | (generalize hu : State.mk .. = u; refine (?_ : State.Keeps strict s0 u → _) (.mk_eq hu ?_); clear hu) | split
    | with_reducible refine State.Keeps.of_pair (by assumption) ?_ | with_reducible refine State.Keeps.of_triple (by assumption) ?_
    | dsimp only

theorem execFastTrip_keeps {strict : Bool} {s0 s : State} (h : s0.Keeps strict s) (c : CellNo) (sense : TripSense) :
    ∃ t, (execFastTrip c sense s) = .next t ∧ s0.Keeps strict t := by
  unfold execFastTrip
  repeat' first
    | with_reducible assumption | intro _ | ((fail_if_no_progress extract_lets +onlyGivenNames t); refine (?_ : State.Keeps strict s0 t → _) ?_; (on_goal 1 => intro ht; clear_value t); on_goal 2 => try unfold t)
    | fail_if_no_progress extract_lets +onlyGivenNames t | with_reducible refine ⟨_, rfl, ?_⟩
    | with_reducible apply State.feederOff_keeps | with_reducible apply State.noteTrip_keeps
    | with_reducible apply State.setFault_keeps
    | (generalize hu : State.mk .. = u; refine (?_ : State.Keeps strict s0 u → _) (.mk_eq hu ?_); clear hu) | split | dsimp only

theorem execDriverFlt_keeps {strict : Bool} {s0 s : State} (h : s0.Keeps strict s) (c : CellNo) (present : Bool) :
    ∃ t, (execDriverFlt c present s) = .next t ∧ s0.Keeps strict t := by
  unfold execDriverFlt
  repeat' first
    | with_reducible assumption | intro _ | ((fail_if_no_progress extract_lets +onlyGivenNames t); refine (?_ : State.Keeps strict s0 t → _) ?_; (on_goal 1 => intro ht; clear_value t); on_goal 2 => try unfold t)
    | fail_if_no_progress extract_lets +onlyGivenNames t | with_reducible refine ⟨_, rfl, ?_⟩
    | with_reducible apply State.faultLow_keeps | with_reducible apply State.groupStop_keeps
    | with_reducible apply State.modCell_keeps | with_reducible apply State.noteTrip_keeps
    | with_reducible apply State.setFault_keeps
    | (generalize hu : State.mk .. = u; refine (?_ : State.Keeps strict s0 u → _) (.mk_eq hu ?_); clear hu) | split
    | with_reducible refine State.Keeps.of_pair (by assumption) ?_ | with_reducible refine State.Keeps.of_triple (by assumption) ?_
    | dsimp only

theorem State.senseFault_keeps {strict : Bool} {s0 s : State} (h : s0.Keeps strict s) (c : CellNo) (b : Nat) :
    s0.Keeps strict (State.senseFault c b s) := by
  unfold State.senseFault
  repeat' first
    | with_reducible assumption | intro _ | ((fail_if_no_progress extract_lets +onlyGivenNames t); refine (?_ : State.Keeps strict s0 t → _) ?_; (on_goal 1 => intro ht; clear_value t); on_goal 2 => try unfold t)
    | fail_if_no_progress extract_lets +onlyGivenNames t | with_reducible apply State.faultLow_keeps
    | with_reducible apply State.noteTrip_keeps | with_reducible apply State.setFault_keeps
    | with_reducible apply State.stopCellGroup_keeps
    | (generalize hu : State.mk .. = u; refine (?_ : State.Keeps strict s0 u → _) (.mk_eq hu ?_); clear hu) | split | dsimp only

theorem State.senseCause_keeps {strict : Bool} {s0 s : State} (h : s0.Keeps strict s) (c : CellNo) (b : Nat) (present : Bool) :
    s0.Keeps strict (State.senseCause c b present s) := by
  unfold State.senseCause
  repeat' first
    | with_reducible assumption | intro _ | ((fail_if_no_progress extract_lets +onlyGivenNames t); refine (?_ : State.Keeps strict s0 t → _) ?_; (on_goal 1 => intro ht; clear_value t); on_goal 2 => try unfold t)
    | fail_if_no_progress extract_lets +onlyGivenNames t | with_reducible apply State.modCell_keeps
    | with_reducible apply State.senseFault_keeps
    | (generalize hu : State.mk .. = u; refine (?_ : State.Keeps strict s0 u → _) (.mk_eq hu ?_); clear hu) | split | dsimp only

theorem execSenseRangeFault_keeps {strict : Bool} {s0 s : State} (h : s0.Keeps strict s) (c : CellNo) (sense : Sense) (present : Bool) :
    ∃ t, (execSenseRangeFault c sense present s) = .next t ∧ s0.Keeps strict t := by
  unfold execSenseRangeFault
  repeat' first
    | with_reducible assumption | intro _ | ((fail_if_no_progress extract_lets +onlyGivenNames t); refine (?_ : State.Keeps strict s0 t → _) ?_; (on_goal 1 => intro ht; clear_value t); on_goal 2 => try unfold t)
    | fail_if_no_progress extract_lets +onlyGivenNames t | with_reducible apply State.errReset_keeps
    | with_reducible refine ⟨_, rfl, ?_⟩ | with_reducible apply State.senseCause_keeps | with_reducible apply settle_keeps
    | (generalize hu : State.mk .. = u; refine (?_ : State.Keeps strict s0 u → _) (.mk_eq hu ?_); clear hu) | split
    | with_reducible refine State.Keeps.of_pair (by assumption) ?_ | with_reducible refine State.Keeps.of_triple (by assumption) ?_
    | dsimp only

theorem execBitclkLoss_keeps {strict : Bool} {s0 s : State} (h : s0.Keeps strict s) (c : CellNo) (present : Bool) :
    ∃ t, (execBitclkLoss c present s) = .next t ∧ s0.Keeps strict t := by
  unfold execBitclkLoss
  repeat' first
    | with_reducible assumption | intro _ | ((fail_if_no_progress extract_lets +onlyGivenNames t); refine (?_ : State.Keeps strict s0 t → _) ?_; (on_goal 1 => intro ht; clear_value t); on_goal 2 => try unfold t)
    | fail_if_no_progress extract_lets +onlyGivenNames t | with_reducible apply State.errReset_keeps
    | with_reducible refine ⟨_, rfl, ?_⟩ | with_reducible apply State.senseCause_keeps | with_reducible apply settle_keeps
    | (generalize hu : State.mk .. = u; refine (?_ : State.Keeps strict s0 u → _) (.mk_eq hu ?_); clear hu) | split | dsimp only

theorem execBitstreamStuck_keeps {strict : Bool} {s0 s : State} (h : s0.Keeps strict s) (c : CellNo) (present : Bool) :
    ∃ t, (execBitstreamStuck c present s) = .next t ∧ s0.Keeps strict t := by
  unfold execBitstreamStuck
  repeat' first
    | with_reducible assumption | intro _ | ((fail_if_no_progress extract_lets +onlyGivenNames t); refine (?_ : State.Keeps strict s0 t → _) ?_; (on_goal 1 => intro ht; clear_value t); on_goal 2 => try unfold t)
    | fail_if_no_progress extract_lets +onlyGivenNames t | with_reducible apply State.errReset_keeps
    | with_reducible refine ⟨_, rfl, ?_⟩ | with_reducible apply State.senseCause_keeps | with_reducible apply settle_keeps
    | (generalize hu : State.mk .. = u; refine (?_ : State.Keeps strict s0 u → _) (.mk_eq hu ?_); clear hu) | split | dsimp only

theorem execHoldWindow_keeps {strict : Bool} {s0 s : State} (h : s0.Keeps strict s) (c : CellNo) :
    ∃ t, (execHoldWindow c s) = .next t ∧ s0.Keeps strict t := by
  unfold execHoldWindow
  repeat' first
    | with_reducible assumption | intro _ | ((fail_if_no_progress extract_lets +onlyGivenNames t); refine (?_ : State.Keeps strict s0 t → _) ?_; (on_goal 1 => intro ht; clear_value t); on_goal 2 => try unfold t)
    | fail_if_no_progress extract_lets +onlyGivenNames t | with_reducible refine ⟨_, rfl, ?_⟩
    | with_reducible apply State.modCell_keeps | with_reducible apply State.setFault_keeps
    | (generalize hu : State.mk .. = u; refine (?_ : State.Keeps strict s0 u → _) (.mk_eq hu ?_); clear hu) | split | dsimp only

/-! Machine/LoopPeriod.lean. -/

theorem State.stepPeriod_keeps {strict : Bool} {s0 s : State} (h : s0.Keeps strict s) (k : LoopNo) :
    s0.Keeps strict (State.stepPeriod k s) := by
  unfold State.stepPeriod
  repeat' first
    | with_reducible assumption | intro _ | ((fail_if_no_progress extract_lets +onlyGivenNames t); refine (?_ : State.Keeps strict s0 t → _) ?_; (on_goal 1 => intro ht; clear_value t); on_goal 2 => try unfold t)
    | fail_if_no_progress extract_lets +onlyGivenNames t | with_reducible apply State.modLoop_keeps
    | (generalize hu : State.mk .. = u; refine (?_ : State.Keeps strict s0 u → _) (.mk_eq hu ?_); clear hu) | split
    | with_reducible refine State.Keeps.of_pair (by assumption) ?_ | with_reducible refine State.Keeps.of_triple (by assumption) ?_
    | dsimp only

theorem State.comparatorAdd_keeps {strict : Bool} {s0 s : State} (h : s0.Keeps strict s) (k : LoopNo) :
    s0.Keeps strict (State.comparatorAdd k s) := by
  unfold State.comparatorAdd
  repeat' first
    | with_reducible assumption | intro _ | ((fail_if_no_progress extract_lets +onlyGivenNames t); refine (?_ : State.Keeps strict s0 t → _) ?_; (on_goal 1 => intro ht; clear_value t); on_goal 2 => try unfold t)
    | fail_if_no_progress extract_lets +onlyGivenNames t | with_reducible apply State.addPhase_keeps
    | with_reducible apply State.modCell_keeps | with_reducible apply State.modLoop_keeps | with_reducible apply State.over_keeps
    | (generalize hu : State.mk .. = u; refine (?_ : State.Keeps strict s0 u → _) (.mk_eq hu ?_); clear hu) | split | dsimp only

theorem State.brakeBoundary_keeps {strict : Bool} {s0 s : State} (h : s0.Keeps strict s) (k : LoopNo) :
    s0.Keeps strict (State.brakeBoundary k s) := by
  unfold State.brakeBoundary
  repeat' first
    | with_reducible assumption | intro _ | ((fail_if_no_progress extract_lets +onlyGivenNames t); refine (?_ : State.Keeps strict s0 t → _) ?_; (on_goal 1 => intro ht; clear_value t); on_goal 2 => try unfold t)
    | fail_if_no_progress extract_lets +onlyGivenNames t | with_reducible apply State.endBrake_keeps
    | with_reducible apply State.modLoop_keeps
    | (generalize hu : State.mk .. = u; refine (?_ : State.Keeps strict s0 u → _) (.mk_eq hu ?_); clear hu) | split | dsimp only

theorem State.burstBoundary_keeps {strict : Bool} {s0 s : State} (h : s0.Keeps strict s) (k : LoopNo) :
    s0.Keeps strict (State.burstBoundary k s) := by
  unfold State.burstBoundary
  repeat' first
    | with_reducible assumption | intro _ | ((fail_if_no_progress extract_lets +onlyGivenNames t); refine (?_ : State.Keeps strict s0 t → _) ?_; (on_goal 1 => intro ht; clear_value t); on_goal 2 => try unfold t)
    | fail_if_no_progress extract_lets +onlyGivenNames t | with_reducible apply State.event_keeps
    | with_reducible apply State.membersLow_keeps | with_reducible apply State.modLoop_keeps
    | (generalize hu : State.mk .. = u; refine (?_ : State.Keeps strict s0 u → _) (.mk_eq hu ?_); clear hu) | split | dsimp only

theorem State.pgBoundary_keeps {strict : Bool} {s0 s : State} (h : s0.Keeps strict s) (k : LoopNo) :
    s0.Keeps strict (State.pgBoundary k s) := by
  unfold State.pgBoundary
  repeat' first
    | with_reducible assumption | intro _ | ((fail_if_no_progress extract_lets +onlyGivenNames t); refine (?_ : State.Keeps strict s0 t → _) ?_; (on_goal 1 => intro ht; clear_value t); on_goal 2 => try unfold t)
    | fail_if_no_progress extract_lets +onlyGivenNames t | with_reducible apply State.modLoop_keeps
    | (generalize hu : State.mk .. = u; refine (?_ : State.Keeps strict s0 u → _) (.mk_eq hu ?_); clear hu) | split | dsimp only

theorem State.boundary_keeps {strict : Bool} {s0 s : State} (h : s0.Keeps strict s) (k : LoopNo) :
    s0.Keeps strict (State.boundary k s) := by
  unfold State.boundary
  repeat' first
    | with_reducible assumption | intro _ | ((fail_if_no_progress extract_lets +onlyGivenNames t); refine (?_ : State.Keeps strict s0 t → _) ?_; (on_goal 1 => intro ht; clear_value t); on_goal 2 => try unfold t)
    | fail_if_no_progress extract_lets +onlyGivenNames t | with_reducible apply State.adoptSet_keeps
    | with_reducible apply State.brakeBoundary_keeps | with_reducible apply State.burstBoundary_keeps
    | with_reducible apply State.comparatorAdd_keeps | with_reducible apply State.modCell_keeps
    | with_reducible apply State.modLoop_keeps | with_reducible apply State.over_keeps | with_reducible apply State.pgBoundary_keeps
    | with_reducible apply State.stepPeriod_keeps | with_reducible apply State.switchSet_keeps
    | with_reducible apply State.traceBoundary_keeps
    | (generalize hu : State.mk .. = u; refine (?_ : State.Keeps strict s0 u → _) (.mk_eq hu ?_); clear hu) | split | dsimp only

theorem State.beginPeriod_keeps {strict : Bool} {s0 s : State} (h : s0.Keeps strict s) (k : LoopNo) (m : CellNo) :
    s0.Keeps strict (State.beginPeriod k m s) := by
  unfold State.beginPeriod
  repeat' first
    | with_reducible assumption | intro _ | ((fail_if_no_progress extract_lets +onlyGivenNames t); refine (?_ : State.Keeps strict s0 t → _) ?_; (on_goal 1 => intro ht; clear_value t); on_goal 2 => try unfold t)
    | fail_if_no_progress extract_lets +onlyGivenNames t | with_reducible apply State.modCell_keeps
    | with_reducible apply State.rampDone_keeps
    | (generalize hu : State.mk .. = u; refine (?_ : State.Keeps strict s0 u → _) (.mk_eq hu ?_); clear hu) | split | dsimp only

theorem State.driveMember_keeps {strict : Bool} {s0 s : State} (h : s0.Keeps strict s) (k : LoopNo) (m : CellNo) :
    s0.Keeps strict (State.driveMember k m s) := by
  unfold State.driveMember
  repeat' first
    | with_reducible assumption | intro _ | ((fail_if_no_progress extract_lets +onlyGivenNames t); refine (?_ : State.Keeps strict s0 t → _) ?_; (on_goal 1 => intro ht; clear_value t); on_goal 2 => try unfold t)
    | fail_if_no_progress extract_lets +onlyGivenNames t | with_reducible apply State.modCell_keeps
    | (generalize hu : State.mk .. = u; refine (?_ : State.Keeps strict s0 u → _) (.mk_eq hu ?_); clear hu) | split | dsimp only

theorem State.takeSample_keeps {strict : Bool} {s0 s : State} (h : s0.Keeps strict s) (m : CellNo) (x : MemberSample) (withVs : Bool) :
    s0.Keeps strict (State.takeSample m x withVs s) := by
  unfold State.takeSample
  repeat' first
    | with_reducible assumption | intro _ | ((fail_if_no_progress extract_lets +onlyGivenNames t); refine (?_ : State.Keeps strict s0 t → _) ?_; (on_goal 1 => intro ht; clear_value t); on_goal 2 => try unfold t)
    | fail_if_no_progress extract_lets +onlyGivenNames t | with_reducible apply State.modCell_keeps
    | with_reducible apply State.modGroup_keeps
    | (generalize hu : State.mk .. = u; refine (?_ : State.Keeps strict s0 u → _) (.mk_eq hu ?_); clear hu) | split
    | with_reducible refine State.Keeps.of_pair (by assumption) ?_ | with_reducible refine State.Keeps.of_triple (by assumption) ?_
    | dsimp only

theorem State.outerPath_keeps {strict : Bool} {s0 s : State} (h : s0.Keeps strict s) (k : LoopNo) (m : CellNo) :
    s0.Keeps strict (State.outerPath k m s) := by
  unfold State.outerPath
  repeat' first
    | with_reducible assumption | intro _ | ((fail_if_no_progress extract_lets +onlyGivenNames t); refine (?_ : State.Keeps strict s0 t → _) ?_; (on_goal 1 => intro ht; clear_value t); on_goal 2 => try unfold t)
    | fail_if_no_progress extract_lets +onlyGivenNames t | with_reducible apply State.modLoop_keeps
    | (generalize hu : State.mk .. = u; refine (?_ : State.Keeps strict s0 u → _) (.mk_eq hu ?_); clear hu) | split | dsimp only

theorem State.innerPath_keeps {strict : Bool} {s0 s : State} (h : s0.Keeps strict s) (k : LoopNo) (m : CellNo) (inTime : Bool) :
    s0.Keeps strict (State.innerPath k m inTime s) := by
  unfold State.innerPath
  repeat' first
    | with_reducible assumption | intro _ | ((fail_if_no_progress extract_lets +onlyGivenNames t); refine (?_ : State.Keeps strict s0 t → _) ?_; (on_goal 1 => intro ht; clear_value t); on_goal 2 => try unfold t)
    | fail_if_no_progress extract_lets +onlyGivenNames t | with_reducible apply State.event_keeps
    | with_reducible apply State.modCell_keeps | with_reducible apply State.modLoop_keeps
    | (generalize hu : State.mk .. = u; refine (?_ : State.Keeps strict s0 u → _) (.mk_eq hu ?_); clear hu) | split
    | with_reducible refine State.Keeps.of_pair (by assumption) ?_ | with_reducible refine State.Keeps.of_triple (by assumption) ?_
    | dsimp only

theorem State.flutter_keeps {strict : Bool} {s0 s : State} (h : s0.Keeps strict s) (k : LoopNo) :
    s0.Keeps strict (State.flutter k s) := by
  unfold State.flutter
  repeat' first
    | with_reducible assumption | intro _ | ((fail_if_no_progress extract_lets +onlyGivenNames t); refine (?_ : State.Keeps strict s0 t → _) ?_; (on_goal 1 => intro ht; clear_value t); on_goal 2 => try unfold t)
    | fail_if_no_progress extract_lets +onlyGivenNames t | with_reducible apply State.event_keeps
    | with_reducible apply State.modLoop_keeps | with_reducible apply State.stopLoop_keeps
    | with_reducible apply State.traceFlutter_keeps
    | (generalize hu : State.mk .. = u; refine (?_ : State.Keeps strict s0 u → _) (.mk_eq hu ?_); clear hu) | split
    | with_reducible refine State.Keeps.of_pair (by assumption) ?_ | with_reducible refine State.Keeps.of_triple (by assumption) ?_
    | dsimp only

theorem State.measure_keeps {strict : Bool} {s0 s : State} (h : s0.Keeps strict s) (k : LoopNo) (m : CellNo) :
    s0.Keeps strict (State.measure k m s) := by
  unfold State.measure
  repeat' first
    | with_reducible assumption | intro _ | ((fail_if_no_progress extract_lets +onlyGivenNames t); refine (?_ : State.Keeps strict s0 t → _) ?_; (on_goal 1 => intro ht; clear_value t); on_goal 2 => try unfold t)
    | fail_if_no_progress extract_lets +onlyGivenNames t | with_reducible apply State.modLoop_keeps
    | (generalize hu : State.mk .. = u; refine (?_ : State.Keeps strict s0 u → _) (.mk_eq hu ?_); clear hu) | split | dsimp only

theorem State.stageTests_keeps {strict : Bool} {s0 s : State} (h : s0.Keeps strict s) (k : LoopNo) :
    s0.Keeps strict (State.stageTests k s) := by
  unfold State.stageTests
  repeat' first
    | with_reducible assumption | intro _ | ((fail_if_no_progress extract_lets +onlyGivenNames t); refine (?_ : State.Keeps strict s0 t → _) ?_; (on_goal 1 => intro ht; clear_value t); on_goal 2 => try unfold t)
    | fail_if_no_progress extract_lets +onlyGivenNames t | with_reducible apply State.modLoop_keeps
    | (generalize hu : State.mk .. = u; refine (?_ : State.Keeps strict s0 u → _) (.mk_eq hu ?_); clear hu) | split | dsimp only

theorem State.phaseTests_keeps {strict : Bool} {s0 s : State} (h : s0.Keeps strict s) (k : LoopNo) (m : CellNo) :
    s0.Keeps strict (State.phaseTests k m s) := by
  unfold State.phaseTests
  repeat' first
    | with_reducible assumption | intro _ | ((fail_if_no_progress extract_lets +onlyGivenNames t); refine (?_ : State.Keeps strict s0 t → _) ?_; (on_goal 1 => intro ht; clear_value t); on_goal 2 => try unfold t)
    | fail_if_no_progress extract_lets +onlyGivenNames t | with_reducible apply State.modCell_keeps
    | (generalize hu : State.mk .. = u; refine (?_ : State.Keeps strict s0 u → _) (.mk_eq hu ?_); clear hu) | split
    | with_reducible refine State.Keeps.of_pair (by assumption) ?_ | with_reducible refine State.Keeps.of_triple (by assumption) ?_
    | dsimp only

theorem State.sleepPeriod_keeps {strict : Bool} {s0 s : State} (h : s0.Keeps strict s) (k : LoopNo) :
    s0.Keeps strict (State.sleepPeriod k s) := by
  unfold State.sleepPeriod
  repeat' first
    | with_reducible assumption | intro _ | ((fail_if_no_progress extract_lets +onlyGivenNames t); refine (?_ : State.Keeps strict s0 t → _) ?_; (on_goal 1 => intro ht; clear_value t); on_goal 2 => try unfold t)
    | fail_if_no_progress extract_lets +onlyGivenNames t | with_reducible apply State.modLoop_keeps
    | (generalize hu : State.mk .. = u; refine (?_ : State.Keeps strict s0 u → _) (.mk_eq hu ?_); clear hu) | split | dsimp only

theorem State.computePeriod_keeps {strict : Bool} {s0 s : State} (h : s0.Keeps strict s) (k : LoopNo) (m : CellNo) (inTime isLead : Bool) :
    s0.Keeps strict (State.computePeriod k m inTime isLead s) := by
  unfold State.computePeriod
  repeat' first
    | with_reducible assumption | intro _ | ((fail_if_no_progress extract_lets +onlyGivenNames t); refine (?_ : State.Keeps strict s0 t → _) ?_; (on_goal 1 => intro ht; clear_value t); on_goal 2 => try unfold t)
    | fail_if_no_progress extract_lets +onlyGivenNames t | with_reducible apply State.flutter_keeps
    | with_reducible apply State.innerPath_keeps | with_reducible apply State.measure_keeps
    | with_reducible apply State.outerPath_keeps | with_reducible apply State.phaseTests_keeps
    | with_reducible apply State.stageTests_keeps
    | (generalize hu : State.mk .. = u; refine (?_ : State.Keeps strict s0 u → _) (.mk_eq hu ?_); clear hu) | split | dsimp only

theorem State.groupRamp_keeps {strict : Bool} {s0 s : State} (h : s0.Keeps strict s) (k : LoopNo) (m : CellNo) :
    s0.Keeps strict (State.groupRamp k m s) := by
  unfold State.groupRamp
  repeat' first
    | with_reducible assumption | intro _ | ((fail_if_no_progress extract_lets +onlyGivenNames t); refine (?_ : State.Keeps strict s0 t → _) ?_; (on_goal 1 => intro ht; clear_value t); on_goal 2 => try unfold t)
    | fail_if_no_progress extract_lets +onlyGivenNames t | with_reducible apply State.modGroup_keeps
    | (generalize hu : State.mk .. = u; refine (?_ : State.Keeps strict s0 u → _) (.mk_eq hu ?_); clear hu) | split
    | with_reducible refine State.Keeps.of_pair (by assumption) ?_ | with_reducible refine State.Keeps.of_triple (by assumption) ?_
    | dsimp only

theorem State.asleepPeriod_keeps {strict : Bool} {s0 s : State} (h : s0.Keeps strict s) (k : LoopNo) (m : CellNo) (x : MemberSample) (isLead : Bool) :
    s0.Keeps strict (State.asleepPeriod k m x isLead s) := by
  unfold State.asleepPeriod
  repeat' first
    | with_reducible assumption | intro _ | ((fail_if_no_progress extract_lets +onlyGivenNames t); refine (?_ : State.Keeps strict s0 t → _) ?_; (on_goal 1 => intro ht; clear_value t); on_goal 2 => try unfold t)
    | fail_if_no_progress extract_lets +onlyGivenNames t | with_reducible apply State.innerPath_keeps
    | with_reducible apply State.measure_keeps | with_reducible apply State.outerPath_keeps
    | with_reducible apply State.sleepPeriod_keeps | with_reducible apply State.takeSample_keeps
    | (generalize hu : State.mk .. = u; refine (?_ : State.Keeps strict s0 u → _) (.mk_eq hu ?_); clear hu) | split | dsimp only

theorem State.memberPeriod_keeps {strict : Bool} {s0 s : State} (h : s0.Keeps strict s) (k : LoopNo) (m : CellNo) (x : MemberSample) :
    s0.Keeps strict (State.memberPeriod k m x s) := by
  unfold State.memberPeriod
  repeat' first
    | with_reducible assumption | intro _ | ((fail_if_no_progress extract_lets +onlyGivenNames t); refine (?_ : State.Keeps strict s0 t → _) ?_; (on_goal 1 => intro ht; clear_value t); on_goal 2 => try unfold t)
    | fail_if_no_progress extract_lets +onlyGivenNames t | with_reducible apply State.asleepPeriod_keeps
    | with_reducible apply State.beginPeriod_keeps | with_reducible apply State.computePeriod_keeps
    | with_reducible apply State.driveMember_keeps | with_reducible apply State.groupRamp_keeps
    | with_reducible apply State.modCell_keeps | with_reducible apply State.takeSample_keeps
    | with_reducible apply State.traceLoop_keeps
    | (generalize hu : State.mk .. = u; refine (?_ : State.Keeps strict s0 u → _) (.mk_eq hu ?_); clear hu) | split | dsimp only

theorem State.gapPeriod_keeps {strict : Bool} {s0 s : State} (h : s0.Keeps strict s) (k : LoopNo) (m : CellNo) (x : MemberSample) :
    s0.Keeps strict (State.gapPeriod k m x s) := by
  unfold State.gapPeriod
  repeat' first
    | with_reducible assumption | intro _ | ((fail_if_no_progress extract_lets +onlyGivenNames t); refine (?_ : State.Keeps strict s0 t → _) ?_; (on_goal 1 => intro ht; clear_value t); on_goal 2 => try unfold t)
    | fail_if_no_progress extract_lets +onlyGivenNames t | with_reducible apply State.driveMember_keeps
    | with_reducible apply State.groupRamp_keeps | with_reducible apply State.takeSample_keeps
    | with_reducible apply State.traceLoop_keeps
    | (generalize hu : State.mk .. = u; refine (?_ : State.Keeps strict s0 u → _) (.mk_eq hu ?_); clear hu) | split | dsimp only

theorem State.periodStart_keeps {strict : Bool} {s0 s : State} (h : s0.Keeps strict s) (k : LoopNo) (m : CellNo) :
    s0.Keeps strict (State.periodStart k m s) := by
  unfold State.periodStart
  repeat' first
    | with_reducible assumption | intro _ | ((fail_if_no_progress extract_lets +onlyGivenNames t); refine (?_ : State.Keeps strict s0 t → _) ?_; (on_goal 1 => intro ht; clear_value t); on_goal 2 => try unfold t)
    | fail_if_no_progress extract_lets +onlyGivenNames t | with_reducible apply State.boundary_keeps
    | with_reducible apply State.modLoop_keeps | with_reducible apply State.pgBoundary_keeps
    | (generalize hu : State.mk .. = u; refine (?_ : State.Keeps strict s0 u → _) (.mk_eq hu ?_); clear hu) | split | dsimp only

theorem State.loopMember_keeps {strict : Bool} {s0 s : State} (h : s0.Keeps strict s) (k : LoopNo) (m : CellNo) (x : MemberSample) :
    s0.Keeps strict (State.loopMember k m x s) := by
  unfold State.loopMember
  repeat' first
    | with_reducible assumption | intro _ | ((fail_if_no_progress extract_lets +onlyGivenNames t); refine (?_ : State.Keeps strict s0 t → _) ?_; (on_goal 1 => intro ht; clear_value t); on_goal 2 => try unfold t)
    | fail_if_no_progress extract_lets +onlyGivenNames t | with_reducible apply State.gapPeriod_keeps
    | with_reducible apply State.memberPeriod_keeps | with_reducible apply State.periodStart_keeps
    | with_reducible apply State.traceLoop_keeps
    | (generalize hu : State.mk .. = u; refine (?_ : State.Keeps strict s0 u → _) (.mk_eq hu ?_); clear hu) | split | dsimp only

theorem execLoopPeriod_keeps {strict : Bool} {s0 s : State} (h : s0.Keeps strict s) (k : LoopNo) (m : CellNo) (x : MemberSample) :
    ∃ t, (execLoopPeriod k m x s) = .next t ∧ s0.Keeps strict t := by
  unfold execLoopPeriod
  repeat' first
    | with_reducible assumption | intro _ | ((fail_if_no_progress extract_lets +onlyGivenNames t); refine (?_ : State.Keeps strict s0 t → _) ?_; (on_goal 1 => intro ht; clear_value t); on_goal 2 => try unfold t)
    | fail_if_no_progress extract_lets +onlyGivenNames t | with_reducible refine ⟨_, rfl, ?_⟩
    | with_reducible apply State.loopMember_keeps | with_reducible apply State.loopMemoryError_keeps
    | with_reducible apply State.modCell_keeps | with_reducible apply State.takeSample_keeps
    | (generalize hu : State.mk .. = u; refine (?_ : State.Keeps strict s0 u → _) (.mk_eq hu ?_); clear hu) | split | dsimp only

/-! Machine/Line.lean. -/

theorem State.vendSample_keeps {strict : Bool} {s0 s : State} (h : s0.Keeps strict s) (g : GroupNo) (mv : Rat) :
    s0.Keeps strict (State.vendSample g mv s) := by
  unfold State.vendSample
  repeat' first
    | with_reducible assumption | intro _ | ((fail_if_no_progress extract_lets +onlyGivenNames t); refine (?_ : State.Keeps strict s0 t → _) ?_; (on_goal 1 => intro ht; clear_value t); on_goal 2 => try unfold t)
    | fail_if_no_progress extract_lets +onlyGivenNames t | with_reducible apply State.groupTo_keeps
    | with_reducible apply State.modGroup_keeps
    | (generalize hu : State.mk .. = u; refine (?_ : State.Keeps strict s0 u → _) (.mk_eq hu ?_); clear hu) | split | dsimp only

theorem execLineVendSample_keeps {strict : Bool} {s0 s : State} (h : s0.Keeps strict s) (g : GroupNo) (bits : List Bool) :
    ∃ t, (execLineVendSample g bits s) = .next t ∧ s0.Keeps strict t := by
  unfold execLineVendSample
  repeat' first
    | with_reducible assumption | intro _ | ((fail_if_no_progress extract_lets +onlyGivenNames t); refine (?_ : State.Keeps strict s0 t → _) ?_; (on_goal 1 => intro ht; clear_value t); on_goal 2 => try unfold t)
    | fail_if_no_progress extract_lets +onlyGivenNames t | with_reducible refine ⟨_, rfl, ?_⟩
    | with_reducible apply State.adoptSet_keeps | with_reducible apply State.modCell_keeps
    | with_reducible apply State.vendSample_keeps
    | (generalize hu : State.mk .. = u; refine (?_ : State.Keeps strict s0 u → _) (.mk_eq hu ?_); clear hu) | split
    | with_reducible refine State.Keeps.of_pair (by assumption) ?_ | with_reducible refine State.Keeps.of_triple (by assumption) ?_
    | dsimp only

theorem State.qualify_keeps {strict : Bool} {s0 s : State} (h : s0.Keeps strict s) (g : GroupNo) :
    s0.Keeps strict (State.qualify g s) := by
  unfold State.qualify
  repeat' first
    | with_reducible assumption | intro _ | ((fail_if_no_progress extract_lets +onlyGivenNames t); refine (?_ : State.Keeps strict s0 t → _) ?_; (on_goal 1 => intro ht; clear_value t); on_goal 2 => try unfold t)
    | fail_if_no_progress extract_lets +onlyGivenNames t | with_reducible apply State.event_keeps
    | with_reducible apply State.groupTo_keeps | with_reducible apply State.modGroup_keeps
    | (generalize hu : State.mk .. = u; refine (?_ : State.Keeps strict s0 u → _) (.mk_eq hu ?_); clear hu) | split | dsimp only

theorem execGroupStart_keeps {strict : Bool} {s0 s : State} (h : s0.Keeps strict s) (g : GroupNo) :
    ∃ t, (execGroupStart g s) = .next t ∧ s0.Keeps strict t := by
  unfold execGroupStart
  repeat' first
    | with_reducible assumption | intro _ | ((fail_if_no_progress extract_lets +onlyGivenNames t); refine (?_ : State.Keeps strict s0 t → _) ?_; (on_goal 1 => intro ht; clear_value t); on_goal 2 => try unfold t)
    | fail_if_no_progress extract_lets +onlyGivenNames t | with_reducible refine ⟨_, rfl, ?_⟩
    | with_reducible apply State.event_keeps | with_reducible apply State.groupTo_keeps | with_reducible apply State.modCell_keeps
    | with_reducible apply State.modGroup_keeps | with_reducible apply State.recapacity_keeps
    | (generalize hu : State.mk .. = u; refine (?_ : State.Keeps strict s0 u → _) (.mk_eq hu ?_); clear hu) | split
    | with_reducible refine State.Keeps.of_pair (by assumption) ?_ | with_reducible refine State.Keeps.of_triple (by assumption) ?_
    | dsimp only

theorem execGroupRampComplete_keeps {strict : Bool} {s0 s : State} (h : s0.Keeps strict s) (g : GroupNo) :
    ∃ t, (execGroupRampComplete g s) = .next t ∧ s0.Keeps strict t := by
  unfold execGroupRampComplete
  repeat' first
    | with_reducible assumption | intro _ | ((fail_if_no_progress extract_lets +onlyGivenNames t); refine (?_ : State.Keeps strict s0 t → _) ?_; (on_goal 1 => intro ht; clear_value t); on_goal 2 => try unfold t)
    | fail_if_no_progress extract_lets +onlyGivenNames t | with_reducible refine ⟨_, rfl, ?_⟩
    | with_reducible apply State.groupTo_keeps | with_reducible apply State.modGroup_keeps
    | (generalize hu : State.mk .. = u; refine (?_ : State.Keeps strict s0 u → _) (.mk_eq hu ?_); clear hu) | split | dsimp only

theorem State.stopEvent_keeps {strict : Bool} {s0 s : State} (h : s0.Keeps strict s) (g : GroupNo) (cause : StopCause) :
    s0.Keeps strict (State.stopEvent g cause s) := by
  unfold State.stopEvent
  repeat' first
    | with_reducible assumption | intro _ | ((fail_if_no_progress extract_lets +onlyGivenNames t); refine (?_ : State.Keeps strict s0 t → _) ?_; (on_goal 1 => intro ht; clear_value t); on_goal 2 => try unfold t)
    | fail_if_no_progress extract_lets +onlyGivenNames t | with_reducible apply State.event_keeps
    | (generalize hu : State.mk .. = u; refine (?_ : State.Keeps strict s0 u → _) (.mk_eq hu ?_); clear hu) | split
    | with_reducible refine State.Keeps.of_pair (by assumption) ?_ | with_reducible refine State.Keeps.of_triple (by assumption) ?_
    | dsimp only

theorem execGroupStop_keeps {strict : Bool} {s0 s : State} (h : s0.Keeps strict s) (g : GroupNo) (cause : StopCause) :
    ∃ t, (execGroupStop g cause s) = .next t ∧ s0.Keeps strict t := by
  unfold execGroupStop
  repeat' first
    | with_reducible assumption | intro _ | ((fail_if_no_progress extract_lets +onlyGivenNames t); refine (?_ : State.Keeps strict s0 t → _) ?_; (on_goal 1 => intro ht; clear_value t); on_goal 2 => try unfold t)
    | fail_if_no_progress extract_lets +onlyGivenNames t | with_reducible refine ⟨_, rfl, ?_⟩
    | with_reducible apply State.laneStop_keeps | with_reducible apply State.stopEvent_keeps
    | (generalize hu : State.mk .. = u; refine (?_ : State.Keeps strict s0 u → _) (.mk_eq hu ?_); clear hu) | split | dsimp only

theorem State.takeHeld_keeps {strict : Bool} {s0 s : State} (h : s0.Keeps strict s) (g : GroupNo) :
    s0.Keeps strict (State.takeHeld g s) := by
  unfold State.takeHeld
  repeat' first
    | with_reducible assumption | intro _ | ((fail_if_no_progress extract_lets +onlyGivenNames t); refine (?_ : State.Keeps strict s0 t → _) ?_; (on_goal 1 => intro ht; clear_value t); on_goal 2 => try unfold t)
    | fail_if_no_progress extract_lets +onlyGivenNames t | with_reducible apply State.abandonId_keeps
    | with_reducible apply State.driveGroup_keeps | with_reducible apply State.groupTo_keeps
    | with_reducible apply State.modGroup_keeps
    | (generalize hu : State.mk .. = u; refine (?_ : State.Keeps strict s0 u → _) (.mk_eq hu ?_); clear hu) | split | dsimp only

theorem execHeldTestMet_keeps {strict : Bool} {s0 s : State} (h : s0.Keeps strict s) (g : GroupNo) (cause : HeldCause) :
    ∃ t, (execHeldTestMet g cause s) = .next t ∧ s0.Keeps strict t := by
  unfold execHeldTestMet
  repeat' first
    | with_reducible assumption | intro _ | ((fail_if_no_progress extract_lets +onlyGivenNames t); refine (?_ : State.Keeps strict s0 t → _) ?_; (on_goal 1 => intro ht; clear_value t); on_goal 2 => try unfold t)
    | fail_if_no_progress extract_lets +onlyGivenNames t | with_reducible refine ⟨_, rfl, ?_⟩
    | with_reducible apply State.event_keeps | with_reducible apply State.groupLow_keeps | with_reducible apply State.modGroup_keeps
    | with_reducible apply State.takeHeld_keeps
    | (generalize hu : State.mk .. = u; refine (?_ : State.Keeps strict s0 u → _) (.mk_eq hu ?_); clear hu) | split | dsimp only

theorem State.leakStop_keeps {strict : Bool} {s0 s : State} (h : s0.Keeps strict s) (g : GroupNo) :
    s0.Keeps strict (State.leakStop g s) := by
  unfold State.leakStop
  repeat' first
    | with_reducible assumption | intro _ | ((fail_if_no_progress extract_lets +onlyGivenNames t); refine (?_ : State.Keeps strict s0 t → _) ?_; (on_goal 1 => intro ht; clear_value t); on_goal 2 => try unfold t)
    | fail_if_no_progress extract_lets +onlyGivenNames t | with_reducible apply State.groupStop_keeps
    | with_reducible apply State.groupTo_keeps | with_reducible apply State.modGroup_keeps
    | (generalize hu : State.mk .. = u; refine (?_ : State.Keeps strict s0 u → _) (.mk_eq hu ?_); clear hu) | split | dsimp only

theorem execLeakTrip_keeps {strict : Bool} {s0 s : State} (h : s0.Keeps strict s) (l : LeakNo) (asserted : Bool) :
    ∃ t, (execLeakTrip l asserted s) = .next t ∧ s0.Keeps strict t := by
  unfold execLeakTrip
  repeat' first
    | with_reducible assumption | intro _ | ((fail_if_no_progress extract_lets +onlyGivenNames t); refine (?_ : State.Keeps strict s0 t → _) ?_; (on_goal 1 => intro ht; clear_value t); on_goal 2 => try unfold t)
    | fail_if_no_progress extract_lets +onlyGivenNames t | with_reducible refine ⟨_, rfl, ?_⟩
    | with_reducible apply State.event_keeps | with_reducible apply State.leakStop_keeps | with_reducible apply State.modPins_keeps
    | with_reducible apply State.over_keeps
    | (generalize hu : State.mk .. = u; refine (?_ : State.Keeps strict s0 u → _) (.mk_eq hu ?_); clear hu) | split | dsimp only

theorem State.takeRetry_keeps {strict : Bool} {s0 s : State} (h : s0.Keeps strict s) (g : GroupNo) :
    s0.Keeps strict (State.takeRetry g s) := by
  unfold State.takeRetry
  repeat' first
    | with_reducible assumption | intro _ | ((fail_if_no_progress extract_lets +onlyGivenNames t); refine (?_ : State.Keeps strict s0 t → _) ?_; (on_goal 1 => intro ht; clear_value t); on_goal 2 => try unfold t)
    | fail_if_no_progress extract_lets +onlyGivenNames t | with_reducible apply State.event_keeps
    | with_reducible apply State.groupTo_keeps | with_reducible apply State.modGroup_keeps
    | (generalize hu : State.mk .. = u; refine (?_ : State.Keeps strict s0 u → _) (.mk_eq hu ?_); clear hu) | split | dsimp only

theorem State.afterDischarge_keeps {strict : Bool} {s0 s : State} (h : s0.Keeps strict s) (g : GroupNo) :
    s0.Keeps strict (State.afterDischarge g s) := by
  unfold State.afterDischarge
  repeat' first
    | with_reducible assumption | intro _ | ((fail_if_no_progress extract_lets +onlyGivenNames t); refine (?_ : State.Keeps strict s0 t → _) ?_; (on_goal 1 => intro ht; clear_value t); on_goal 2 => try unfold t)
    | fail_if_no_progress extract_lets +onlyGivenNames t | with_reducible apply State.groupTo_keeps
    | with_reducible apply State.takeRetry_keeps
    | (generalize hu : State.mk .. = u; refine (?_ : State.Keeps strict s0 u → _) (.mk_eq hu ?_); clear hu) | split | dsimp only

theorem execDischargeEnd_keeps {strict : Bool} {s0 s : State} (h : s0.Keeps strict s) (g : GroupNo) :
    ∃ t, (execDischargeEnd g s) = .next t ∧ s0.Keeps strict t := by
  unfold execDischargeEnd
  repeat' first
    | with_reducible assumption | intro _ | ((fail_if_no_progress extract_lets +onlyGivenNames t); refine (?_ : State.Keeps strict s0 t → _) ?_; (on_goal 1 => intro ht; clear_value t); on_goal 2 => try unfold t)
    | fail_if_no_progress extract_lets +onlyGivenNames t | with_reducible refine ⟨_, rfl, ?_⟩
    | with_reducible apply State.afterDischarge_keeps | with_reducible apply State.event_keeps
    | with_reducible apply State.groupTo_keeps
    | (generalize hu : State.mk .. = u; refine (?_ : State.Keeps strict s0 u → _) (.mk_eq hu ?_); clear hu) | split
    | with_reducible refine State.Keeps.of_pair (by assumption) ?_ | with_reducible refine State.Keeps.of_triple (by assumption) ?_
    | dsimp only

theorem State.retryGroup_keeps {strict : Bool} {s0 s : State} (h : s0.Keeps strict s) (g : GroupNo) :
    s0.Keeps strict (State.retryGroup g s) := by
  unfold State.retryGroup
  repeat' first
    | with_reducible assumption | intro _ | ((fail_if_no_progress extract_lets +onlyGivenNames t); refine (?_ : State.Keeps strict s0 t → _) ?_; (on_goal 1 => intro ht; clear_value t); on_goal 2 => try unfold t)
    | fail_if_no_progress extract_lets +onlyGivenNames t | with_reducible apply State.clearFault_keeps
    | with_reducible apply State.groupTo_keeps | with_reducible apply State.modLoop_keeps
    | (generalize hu : State.mk .. = u; refine (?_ : State.Keeps strict s0 u → _) (.mk_eq hu ?_); clear hu) | split
    | with_reducible refine State.Keeps.of_pair (by assumption) ?_ | with_reducible refine State.Keeps.of_triple (by assumption) ?_
    | dsimp only

theorem execGroupRetry_keeps {strict : Bool} {s0 s : State} (h : s0.Keeps strict s) (g : GroupNo) :
    ∃ t, (execGroupRetry g s) = .next t ∧ s0.Keeps strict t := by
  unfold execGroupRetry
  repeat' first
    | with_reducible assumption | intro _ | ((fail_if_no_progress extract_lets +onlyGivenNames t); refine (?_ : State.Keeps strict s0 t → _) ?_; (on_goal 1 => intro ht; clear_value t); on_goal 2 => try unfold t)
    | fail_if_no_progress extract_lets +onlyGivenNames t | with_reducible refine ⟨_, rfl, ?_⟩
    | with_reducible apply State.retryGroup_keeps
    | (generalize hu : State.mk .. = u; refine (?_ : State.Keeps strict s0 u → _) (.mk_eq hu ?_); clear hu) | split | dsimp only

theorem execGroupRetryReload_keeps {strict : Bool} {s0 s : State} (h : s0.Keeps strict s) (g : GroupNo) :
    ∃ t, (execGroupRetryReload g s) = .next t ∧ s0.Keeps strict t := by
  unfold execGroupRetryReload
  repeat' first
    | with_reducible assumption | intro _ | ((fail_if_no_progress extract_lets +onlyGivenNames t); refine (?_ : State.Keeps strict s0 t → _) ?_; (on_goal 1 => intro ht; clear_value t); on_goal 2 => try unfold t)
    | fail_if_no_progress extract_lets +onlyGivenNames t | with_reducible refine ⟨_, rfl, ?_⟩
    | with_reducible apply State.modGroup_keeps
    | (generalize hu : State.mk .. = u; refine (?_ : State.Keeps strict s0 u → _) (.mk_eq hu ?_); clear hu) | split | dsimp only

theorem State.probeCeiling_keeps {strict : Bool} {s0 s : State} (h : s0.Keeps strict s) (g : GroupNo) :
    s0.Keeps strict (State.probeCeiling g s) := by
  unfold State.probeCeiling
  repeat' first
    | with_reducible assumption | intro _ | ((fail_if_no_progress extract_lets +onlyGivenNames t); refine (?_ : State.Keeps strict s0 t → _) ?_; (on_goal 1 => intro ht; clear_value t); on_goal 2 => try unfold t)
    | fail_if_no_progress extract_lets +onlyGivenNames t | with_reducible apply State.event_keeps
    | with_reducible apply State.modGroup_keeps
    | (generalize hu : State.mk .. = u; refine (?_ : State.Keeps strict s0 u → _) (.mk_eq hu ?_); clear hu) | split | dsimp only

theorem State.visitGroup_keeps {strict : Bool} {s0 s : State} (h : s0.Keeps strict s) (g : GroupNo) :
    s0.Keeps strict (State.visitGroup g s) := by
  unfold State.visitGroup
  repeat' first
    | with_reducible assumption | intro _ | ((fail_if_no_progress extract_lets +onlyGivenNames t); refine (?_ : State.Keeps strict s0 t → _) ?_; (on_goal 1 => intro ht; clear_value t); on_goal 2 => try unfold t)
    | fail_if_no_progress extract_lets +onlyGivenNames t | with_reducible apply State.modGroup_keeps
    | with_reducible apply State.probeCeiling_keeps
    | (generalize hu : State.mk .. = u; refine (?_ : State.Keeps strict s0 u → _) (.mk_eq hu ?_); clear hu) | split | dsimp only

theorem State.idSample_keeps {strict : Bool} {s0 s : State} (h : s0.Keeps strict s) (g : GroupNo) (i v : Rat) :
    s0.Keeps strict (State.idSample g i v s) := by
  unfold State.idSample
  repeat' first
    | with_reducible assumption | intro _ | ((fail_if_no_progress extract_lets +onlyGivenNames t); refine (?_ : State.Keeps strict s0 t → _) ?_; (on_goal 1 => intro ht; clear_value t); on_goal 2 => try unfold t)
    | fail_if_no_progress extract_lets +onlyGivenNames t | with_reducible apply State.modGroup_keeps
    | (generalize hu : State.mk .. = u; refine (?_ : State.Keeps strict s0 u → _) (.mk_eq hu ?_); clear hu) | split | dsimp only

theorem State.idCeiling_keeps {strict : Bool} {s0 s : State} (h : s0.Keeps strict s) :
    s0.Keeps strict (State.idCeiling s) := by
  unfold State.idCeiling
  repeat' first
    | with_reducible assumption | intro _ | ((fail_if_no_progress extract_lets +onlyGivenNames t); refine (?_ : State.Keeps strict s0 t → _) ?_; (on_goal 1 => intro ht; clear_value t); on_goal 2 => try unfold t)
    | fail_if_no_progress extract_lets +onlyGivenNames t | with_reducible apply State.abandonId_keeps
    | (generalize hu : State.mk .. = u; refine (?_ : State.Keeps strict s0 u → _) (.mk_eq hu ?_); clear hu) | split
    | with_reducible refine State.Keeps.of_pair (by assumption) ?_ | with_reducible refine State.Keeps.of_triple (by assumption) ?_
    | dsimp only

theorem State.idNext_keeps {strict : Bool} {s0 s : State} (h : s0.Keeps strict s) :
    s0.Keeps strict (State.idNext s) := by
  unfold State.idNext
  repeat' first
    | with_reducible assumption | intro _ | ((fail_if_no_progress extract_lets +onlyGivenNames t); refine (?_ : State.Keeps strict s0 t → _) ?_; (on_goal 1 => intro ht; clear_value t); on_goal 2 => try unfold t)
    | fail_if_no_progress extract_lets +onlyGivenNames t | with_reducible apply State.visitGroup_keeps
    | (generalize hu : State.mk .. = u; refine (?_ : State.Keeps strict s0 u → _) (.mk_eq hu ?_); clear hu) | split
    | with_reducible refine State.Keeps.of_pair (by assumption) ?_ | with_reducible refine State.Keeps.of_triple (by assumption) ?_
    | dsimp only

theorem execIdCycle_keeps {strict : Bool} {s0 s : State} (h : s0.Keeps strict s) :
    ∃ t, (execIdCycle s) = .next t ∧ s0.Keeps strict t := by
  unfold execIdCycle
  repeat' first
    | with_reducible assumption | intro _ | ((fail_if_no_progress extract_lets +onlyGivenNames t); refine (?_ : State.Keeps strict s0 t → _) ?_; (on_goal 1 => intro ht; clear_value t); on_goal 2 => try unfold t)
    | fail_if_no_progress extract_lets +onlyGivenNames t | with_reducible refine ⟨_, rfl, ?_⟩
    | with_reducible apply State.idNext_keeps
    | (generalize hu : State.mk .. = u; refine (?_ : State.Keeps strict s0 u → _) (.mk_eq hu ?_); clear hu) | split | dsimp only

theorem State.identify_keeps {strict : Bool} {s0 s : State} (h : s0.Keeps strict s) (g : GroupNo) (ia ib va vb : Rat) :
    s0.Keeps strict (State.identify g ia ib va vb s) := by
  unfold State.identify
  repeat' first
    | with_reducible assumption | intro _ | ((fail_if_no_progress extract_lets +onlyGivenNames t); refine (?_ : State.Keeps strict s0 t → _) ?_; (on_goal 1 => intro ht; clear_value t); on_goal 2 => try unfold t)
    | fail_if_no_progress extract_lets +onlyGivenNames t | with_reducible apply State.event_keeps
    | with_reducible apply State.modGroup_keeps
    | (generalize hu : State.mk .. = u; refine (?_ : State.Keeps strict s0 u → _) (.mk_eq hu ?_); clear hu) | split | dsimp only

theorem execIdentificationDone_keeps {strict : Bool} {s0 s : State} (h : s0.Keeps strict s) (g : GroupNo) :
    ∃ t, (execIdentificationDone g s) = .next t ∧ s0.Keeps strict t := by
  unfold execIdentificationDone
  repeat' first
    | with_reducible assumption | intro _ | ((fail_if_no_progress extract_lets +onlyGivenNames t); refine (?_ : State.Keeps strict s0 t → _) ?_; (on_goal 1 => intro ht; clear_value t); on_goal 2 => try unfold t)
    | fail_if_no_progress extract_lets +onlyGivenNames t | with_reducible refine ⟨_, rfl, ?_⟩
    | with_reducible apply State.abandonId_keeps | with_reducible apply State.idNext_keeps
    | with_reducible apply State.identify_keeps | with_reducible apply State.modGroup_keeps
    | (generalize hu : State.mk .. = u; refine (?_ : State.Keeps strict s0 u → _) (.mk_eq hu ?_); clear hu) | split | dsimp only

theorem writeGroupEnable_keeps {strict : Bool} {s0 s : State} (h : s0.Keeps strict s) (g : GroupNo) (v : Nat) :
    s0.Keeps strict (writeGroupEnable g v s).2 := by
  unfold writeGroupEnable
  repeat' first
    | with_reducible assumption | intro _ | ((fail_if_no_progress extract_lets +onlyGivenNames t); refine (?_ : State.Keeps strict s0 t → _) ?_; (on_goal 1 => intro ht; clear_value t); on_goal 2 => try unfold t)
    | fail_if_no_progress extract_lets +onlyGivenNames t | with_reducible apply State.groupTo_keeps
    | with_reducible apply State.laneStop_keeps | with_reducible apply State.modGroup_keeps
    | with_reducible apply State.setWritten_keeps
    | (generalize hu : State.mk .. = u; refine (?_ : State.Keeps strict s0 u → _) (.mk_eq hu ?_); clear hu) | split | dsimp only

theorem writeGroupClear_keeps {strict : Bool} {s0 s : State} (h : s0.Keeps strict s) (g : GroupNo) (v : Nat) :
    s0.Keeps strict (writeGroupClear g v s).2 := by
  unfold writeGroupClear
  repeat' first
    | with_reducible assumption | intro _ | ((fail_if_no_progress extract_lets +onlyGivenNames t); refine (?_ : State.Keeps strict s0 t → _) ?_; (on_goal 1 => intro ht; clear_value t); on_goal 2 => try unfold t)
    | fail_if_no_progress extract_lets +onlyGivenNames t | with_reducible apply State.groupTo_keeps
    | with_reducible apply State.modGroup_keeps
    | (generalize hu : State.mk .. = u; refine (?_ : State.Keeps strict s0 u → _) (.mk_eq hu ?_); clear hu) | split | dsimp only

theorem writeGroupConfig_keeps {strict : Bool} {s0 s : State} (h : s0.Keeps strict s) (g : GroupNo) (sub : Nat) (v : Int) :
    s0.Keeps strict (writeGroupConfig g sub v s).2 := by
  unfold writeGroupConfig
  repeat' first
    | with_reducible assumption | intro _ | ((fail_if_no_progress extract_lets +onlyGivenNames t); refine (?_ : State.Keeps strict s0 t → _) ?_; (on_goal 1 => intro ht; clear_value t); on_goal 2 => try unfold t)
    | fail_if_no_progress extract_lets +onlyGivenNames t | with_reducible apply State.setWritten_keeps
    | (generalize hu : State.mk .. = u; refine (?_ : State.Keeps strict s0 u → _) (.mk_eq hu ?_); clear hu) | split | dsimp only

/-! Machine/Lanes.lean. -/

theorem State.modLane_keeps {strict : Bool} {s0 s : State} (h : s0.Keeps strict s) (l : Lane) (f : LaneUnit → LaneUnit) :
    s0.Keeps strict (State.modLane s l f) := by
  unfold State.modLane
  repeat' first
    | with_reducible assumption | intro _ | ((fail_if_no_progress extract_lets +onlyGivenNames t); refine (?_ : State.Keeps strict s0 t → _) ?_; (on_goal 1 => intro ht; clear_value t); on_goal 2 => try unfold t)
    | fail_if_no_progress extract_lets +onlyGivenNames t | with_reducible apply State.modLanes_keeps
    | (generalize hu : State.mk .. = u; refine (?_ : State.Keeps strict s0 u → _) (.mk_eq hu ?_); clear hu) | split
    | with_reducible refine State.Keeps.of_pair (by assumption) ?_ | with_reducible refine State.Keeps.of_triple (by assumption) ?_
    | dsimp only

theorem State.giveToken_keeps {strict : Bool} {s0 s : State} (h : s0.Keeps strict s) (l : Lane) :
    s0.Keeps strict (State.giveToken l s) := by
  unfold State.giveToken
  repeat' first
    | with_reducible assumption | intro _ | ((fail_if_no_progress extract_lets +onlyGivenNames t); refine (?_ : State.Keeps strict s0 t → _) ?_; (on_goal 1 => intro ht; clear_value t); on_goal 2 => try unfold t)
    | fail_if_no_progress extract_lets +onlyGivenNames t | with_reducible apply State.modLanes_keeps
    | with_reducible apply State.modPins_keeps
    | (generalize hu : State.mk .. = u; refine (?_ : State.Keeps strict s0 u → _) (.mk_eq hu ?_); clear hu) | split | dsimp only

theorem State.retireLane_keeps {strict : Bool} {s0 s : State} (h : s0.Keeps strict s) (l : Lane) (cause : Nat) :
    s0.Keeps strict (State.retireLane l cause s) := by
  unfold State.retireLane
  repeat' first
    | with_reducible assumption | intro _ | ((fail_if_no_progress extract_lets +onlyGivenNames t); refine (?_ : State.Keeps strict s0 t → _) ?_; (on_goal 1 => intro ht; clear_value t); on_goal 2 => try unfold t)
    | fail_if_no_progress extract_lets +onlyGivenNames t | with_reducible apply State.event_keeps
    | with_reducible apply State.modLane_keeps | with_reducible apply State.modLanes_keeps
    | (generalize hu : State.mk .. = u; refine (?_ : State.Keeps strict s0 u → _) (.mk_eq hu ?_); clear hu) | split | dsimp only

theorem State.abandonReturn_keeps {strict : Bool} {s0 s : State} (h : s0.Keeps strict s) :
    s0.Keeps strict (State.abandonReturn s) := by
  unfold State.abandonReturn
  repeat' first
    | with_reducible assumption | intro _ | ((fail_if_no_progress extract_lets +onlyGivenNames t); refine (?_ : State.Keeps strict s0 t → _) ?_; (on_goal 1 => intro ht; clear_value t); on_goal 2 => try unfold t)
    | fail_if_no_progress extract_lets +onlyGivenNames t | with_reducible apply State.modLanes_keeps
    | with_reducible apply State.retireLane_keeps
    | (generalize hu : State.mk .. = u; refine (?_ : State.Keeps strict s0 u → _) (.mk_eq hu ?_); clear hu) | split
    | with_reducible refine State.Keeps.of_pair (by assumption) ?_ | with_reducible refine State.Keeps.of_triple (by assumption) ?_
    | dsimp only

theorem State.enterSafe_keeps {strict : Bool} {s0 s : State} (h : s0.Keeps strict s) (cause : Nat) :
    s0.Keeps strict (State.enterSafe cause s) := by
  unfold State.enterSafe
  repeat' first
    | with_reducible assumption | intro _ | ((fail_if_no_progress extract_lets +onlyGivenNames t); refine (?_ : State.Keeps strict s0 t → _) ?_; (on_goal 1 => intro ht; clear_value t); on_goal 2 => try unfold t)
    | fail_if_no_progress extract_lets +onlyGivenNames t | with_reducible apply State.abandonReturn_keeps
    | with_reducible apply State.emcy_keeps | with_reducible apply State.modLanes_keeps
    | with_reducible refine State.modModes_keeps ?_ _ (fun _ => rfl) | with_reducible apply State.modPins_keeps
    | with_reducible apply State.setSafeAll_keeps
    | (generalize hu : State.mk .. = u; refine (?_ : State.Keeps strict s0 u → _) (.mk_eq hu ?_); clear hu) | split | dsimp only

theorem State.laneMismatch_keeps {strict : Bool} {s0 s : State} (h : s0.Keeps strict s) (kind inst va vs : Nat) :
    s0.Keeps strict (State.laneMismatch kind inst va vs s) := by
  unfold State.laneMismatch
  repeat' first
    | with_reducible assumption | intro _ | ((fail_if_no_progress extract_lets +onlyGivenNames t); refine (?_ : State.Keeps strict s0 t → _) ?_; (on_goal 1 => intro ht; clear_value t); on_goal 2 => try unfold t)
    | fail_if_no_progress extract_lets +onlyGivenNames t | with_reducible apply State.abandonReturn_keeps
    | with_reducible apply State.modLane_keeps | with_reducible apply State.modLanes_keeps
    | (generalize hu : State.mk .. = u; refine (?_ : State.Keeps strict s0 u → _) (.mk_eq hu ?_); clear hu) | split
    | with_reducible refine State.Keeps.of_pair (by assumption) ?_ | with_reducible refine State.Keeps.of_triple (by assumption) ?_
    | dsimp only

theorem execMismatch_keeps {strict : Bool} {s0 s : State} (h : s0.Keeps strict s) (kind inst : Nat) (active standby : BitVec 32) :
    ∃ t, (execMismatch kind inst active standby s) = .next t ∧ s0.Keeps strict t := by
  unfold execMismatch
  repeat' first
    | with_reducible assumption | intro _ | ((fail_if_no_progress extract_lets +onlyGivenNames t); refine (?_ : State.Keeps strict s0 t → _) ?_; (on_goal 1 => intro ht; clear_value t); on_goal 2 => try unfold t)
    | fail_if_no_progress extract_lets +onlyGivenNames t | with_reducible refine ⟨_, rfl, ?_⟩
    | with_reducible apply State.laneMismatch_keeps
    | (generalize hu : State.mk .. = u; refine (?_ : State.Keeps strict s0 u → _) (.mk_eq hu ?_); clear hu) | split
    | with_reducible refine State.Keeps.of_pair (by assumption) ?_ | with_reducible refine State.Keeps.of_triple (by assumption) ?_
    | dsimp only

theorem State.transient_keeps {strict : Bool} {s0 s : State} (h : s0.Keeps strict s) (act : Lane) (boot : Bool) :
    s0.Keeps strict (State.transient act boot s) := by
  unfold State.transient
  repeat' first
    | with_reducible assumption | intro _ | ((fail_if_no_progress extract_lets +onlyGivenNames t); refine (?_ : State.Keeps strict s0 t → _) ?_; (on_goal 1 => intro ht; clear_value t); on_goal 2 => try unfold t)
    | fail_if_no_progress extract_lets +onlyGivenNames t | with_reducible apply State.event_keeps
    | with_reducible apply State.modLane_keeps | with_reducible apply State.modLanes_keeps
    | with_reducible apply State.retireLane_keeps
    | (generalize hu : State.mk .. = u; refine (?_ : State.Keeps strict s0 u → _) (.mk_eq hu ?_); clear hu) | split | dsimp only

theorem State.gapReport_keeps {strict : Bool} {s0 s : State} (h : s0.Keeps strict s) (act : Lane) (outcome gap : Nat) (boot : Bool) :
    s0.Keeps strict (State.gapReport act outcome gap boot s) := by
  unfold State.gapReport
  repeat' first
    | with_reducible assumption | intro _ | ((fail_if_no_progress extract_lets +onlyGivenNames t); refine (?_ : State.Keeps strict s0 t → _) ?_; (on_goal 1 => intro ht; clear_value t); on_goal 2 => try unfold t)
    | fail_if_no_progress extract_lets +onlyGivenNames t | with_reducible apply State.emcy_keeps
    | with_reducible apply State.event_keeps | with_reducible apply State.modLanes_keeps
    | (generalize hu : State.mk .. = u; refine (?_ : State.Keeps strict s0 u → _) (.mk_eq hu ?_); clear hu) | split
    | with_reducible refine State.Keeps.of_pair (by assumption) ?_ | with_reducible refine State.Keeps.of_triple (by assumption) ?_
    | dsimp only

theorem State.decideLanes_keeps {strict : Bool} {s0 s : State} (h : s0.Keeps strict s) (a b : LaneTest) (gapNs : Nat) :
    s0.Keeps strict (State.decideLanes a b gapNs s) := by
  unfold State.decideLanes
  repeat' first
    | with_reducible assumption | intro _ | ((fail_if_no_progress extract_lets +onlyGivenNames t); refine (?_ : State.Keeps strict s0 t → _) ?_; (on_goal 1 => intro ht; clear_value t); on_goal 2 => try unfold t)
    | fail_if_no_progress extract_lets +onlyGivenNames t | with_reducible apply State.each_keeps
    | with_reducible apply State.enterSafe_keeps | with_reducible apply State.event_keeps
    | with_reducible apply State.gapReport_keeps | with_reducible apply State.giveToken_keeps
    | with_reducible apply State.modLane_keeps | with_reducible apply State.modLanes_keeps
    | with_reducible apply State.retireLane_keeps | with_reducible apply State.takeHeld_keeps
    | with_reducible apply State.transient_keeps
    | (generalize hu : State.mk .. = u; refine (?_ : State.Keeps strict s0 u → _) (.mk_eq hu ?_); clear hu) | split
    | with_reducible refine State.Keeps.of_pair (by assumption) ?_ | with_reducible refine State.Keeps.of_triple (by assumption) ?_
    | dsimp only

theorem execSelftestDecision_keeps {strict : Bool} {s0 s : State} (h : s0.Keeps strict s) (a b : LaneTest) (gapNs : Nat) :
    ∃ t, (execSelftestDecision a b gapNs s) = .next t ∧ s0.Keeps strict t := by
  unfold execSelftestDecision
  repeat' first
    | with_reducible assumption | intro _ | ((fail_if_no_progress extract_lets +onlyGivenNames t); refine (?_ : State.Keeps strict s0 t → _) ?_; (on_goal 1 => intro ht; clear_value t); on_goal 2 => try unfold t)
    | fail_if_no_progress extract_lets +onlyGivenNames t | with_reducible apply State.errReset_keeps
    | with_reducible refine ⟨_, rfl, ?_⟩ | with_reducible apply State.decideLanes_keeps | with_reducible apply settle_keeps
    | (generalize hu : State.mk .. = u; refine (?_ : State.Keeps strict s0 u → _) (.mk_eq hu ?_); clear hu) | split | dsimp only

theorem execStandbyInternalError_keeps {strict : Bool} {s0 s : State} (h : s0.Keeps strict s) :
    ∃ t, (execStandbyInternalError s) = .next t ∧ s0.Keeps strict t := by
  unfold execStandbyInternalError
  repeat' first
    | with_reducible assumption | intro _ | ((fail_if_no_progress extract_lets +onlyGivenNames t); refine (?_ : State.Keeps strict s0 t → _) ?_; (on_goal 1 => intro ht; clear_value t); on_goal 2 => try unfold t)
    | fail_if_no_progress extract_lets +onlyGivenNames t | with_reducible apply State.errReset_keeps
    | with_reducible refine ⟨_, rfl, ?_⟩ | with_reducible apply State.modLanes_keeps | with_reducible apply State.retireLane_keeps
    | with_reducible apply settle_keeps
    | (generalize hu : State.mk .. = u; refine (?_ : State.Keeps strict s0 u → _) (.mk_eq hu ?_); clear hu) | split
    | with_reducible refine State.Keeps.of_pair (by assumption) ?_ | with_reducible refine State.Keeps.of_triple (by assumption) ?_
    | dsimp only

theorem execBgSelftestFail_keeps {strict : Bool} {s0 s : State} (h : s0.Keeps strict s) (lane : Lane) (unit : Nat) :
    ∃ t, (execBgSelftestFail lane unit s) = .next t ∧ s0.Keeps strict t := by
  unfold execBgSelftestFail
  repeat' first
    | with_reducible assumption | intro _ | ((fail_if_no_progress extract_lets +onlyGivenNames t); refine (?_ : State.Keeps strict s0 t → _) ?_; (on_goal 1 => intro ht; clear_value t); on_goal 2 => try unfold t)
    | fail_if_no_progress extract_lets +onlyGivenNames t | with_reducible apply State.errReset_keeps
    | with_reducible refine ⟨_, rfl, ?_⟩ | with_reducible apply State.event_keeps | with_reducible apply State.laneMismatch_keeps
    | with_reducible apply State.modLane_keeps | with_reducible apply State.modLanes_keeps
    | with_reducible apply State.retireLane_keeps | with_reducible apply settle_keeps
    | (generalize hu : State.mk .. = u; refine (?_ : State.Keeps strict s0 u → _) (.mk_eq hu ?_); clear hu) | split
    | with_reducible refine State.Keeps.of_pair (by assumption) ?_ | with_reducible refine State.Keeps.of_triple (by assumption) ?_
    | dsimp only

theorem State.laneSynced_keeps {strict : Bool} {s0 s : State} (h : s0.Keeps strict s) (l : Lane) (us : Nat) :
    s0.Keeps strict (State.laneSynced l us s) := by
  unfold State.laneSynced
  repeat' first
    | with_reducible assumption | intro _ | ((fail_if_no_progress extract_lets +onlyGivenNames t); refine (?_ : State.Keeps strict s0 t → _) ?_; (on_goal 1 => intro ht; clear_value t); on_goal 2 => try unfold t)
    | fail_if_no_progress extract_lets +onlyGivenNames t | with_reducible apply State.event_keeps
    | with_reducible apply State.modLane_keeps | with_reducible apply State.modLanes_keeps
    | (generalize hu : State.mk .. = u; refine (?_ : State.Keeps strict s0 u → _) (.mk_eq hu ?_); clear hu) | split | dsimp only

theorem State.copyFails_keeps {strict : Bool} {s0 s : State} (h : s0.Keeps strict s) (l : Lane) :
    s0.Keeps strict (State.copyFails l s) := by
  unfold State.copyFails
  repeat' first
    | with_reducible assumption | intro _ | ((fail_if_no_progress extract_lets +onlyGivenNames t); refine (?_ : State.Keeps strict s0 t → _) ?_; (on_goal 1 => intro ht; clear_value t); on_goal 2 => try unfold t)
    | fail_if_no_progress extract_lets +onlyGivenNames t | with_reducible apply State.event_keeps
    | with_reducible apply State.modLanes_keeps | with_reducible apply State.retireLane_keeps
    | (generalize hu : State.mk .. = u; refine (?_ : State.Keeps strict s0 u → _) (.mk_eq hu ?_); clear hu) | split | dsimp only

theorem execLaneWindow_keeps {strict : Bool} {s0 s : State} (h : s0.Keeps strict s) (test : LaneTest) (copyUs : Nat) :
    ∃ t, (execLaneWindow test copyUs s) = .next t ∧ s0.Keeps strict t := by
  unfold execLaneWindow
  repeat' first
    | with_reducible assumption | intro _ | ((fail_if_no_progress extract_lets +onlyGivenNames t); refine (?_ : State.Keeps strict s0 t → _) ?_; (on_goal 1 => intro ht; clear_value t); on_goal 2 => try unfold t)
    | fail_if_no_progress extract_lets +onlyGivenNames t | with_reducible apply State.errReset_keeps
    | with_reducible refine ⟨_, rfl, ?_⟩ | with_reducible apply State.copyFails_keeps | with_reducible apply State.event_keeps
    | with_reducible apply State.laneSynced_keeps | with_reducible apply State.modLane_keeps
    | with_reducible apply State.modLanes_keeps | with_reducible apply State.retireLane_keeps | with_reducible apply settle_keeps
    | (generalize hu : State.mk .. = u; refine (?_ : State.Keeps strict s0 u → _) (.mk_eq hu ?_); clear hu) | split
    | with_reducible refine State.Keeps.of_pair (by assumption) ?_ | with_reducible refine State.Keeps.of_triple (by assumption) ?_
    | dsimp only

theorem State.beginReturn_keeps {strict : Bool} {s0 s : State} (h : s0.Keeps strict s) (l : Lane) :
    s0.Keeps strict (State.beginReturn l s) := by
  unfold State.beginReturn
  repeat' first
    | with_reducible assumption | intro _ | ((fail_if_no_progress extract_lets +onlyGivenNames t); refine (?_ : State.Keeps strict s0 t → _) ?_; (on_goal 1 => intro ht; clear_value t); on_goal 2 => try unfold t)
    | fail_if_no_progress extract_lets +onlyGivenNames t | with_reducible apply State.modLane_keeps
    | with_reducible apply State.modLanes_keeps
    | (generalize hu : State.mk .. = u; refine (?_ : State.Keeps strict s0 u → _) (.mk_eq hu ?_); clear hu) | split | dsimp only

theorem writeLaneCmd_keeps {strict : Bool} {s0 s : State} (h : s0.Keeps strict s) (v : Nat) :
    s0.Keeps strict (writeLaneCmd v s).2 := by
  unfold writeLaneCmd
  repeat' first
    | with_reducible assumption | intro _ | ((fail_if_no_progress extract_lets +onlyGivenNames t); refine (?_ : State.Keeps strict s0 t → _) ?_; (on_goal 1 => intro ht; clear_value t); on_goal 2 => try unfold t)
    | fail_if_no_progress extract_lets +onlyGivenNames t | with_reducible apply State.beginReturn_keeps
    | with_reducible apply State.modLanes_keeps | with_reducible apply State.retireLane_keeps
    | (generalize hu : State.mk .. = u; refine (?_ : State.Keeps strict s0 u → _) (.mk_eq hu ?_); clear hu) | split
    | with_reducible refine State.Keeps.of_pair (by assumption) ?_ | with_reducible refine State.Keeps.of_triple (by assumption) ?_
    | dsimp only

theorem execAutoReturn_keeps {strict : Bool} {s0 s : State} (h : s0.Keeps strict s) (l : Lane) :
    ∃ t, (execAutoReturn l s) = .next t ∧ s0.Keeps strict t := by
  unfold execAutoReturn
  repeat' first
    | with_reducible assumption | intro _ | ((fail_if_no_progress extract_lets +onlyGivenNames t); refine (?_ : State.Keeps strict s0 t → _) ?_; (on_goal 1 => intro ht; clear_value t); on_goal 2 => try unfold t)
    | fail_if_no_progress extract_lets +onlyGivenNames t | with_reducible refine ⟨_, rfl, ?_⟩
    | with_reducible apply State.beginReturn_keeps | with_reducible apply State.modLane_keeps
    | (generalize hu : State.mk .. = u; refine (?_ : State.Keeps strict s0 u → _) (.mk_eq hu ?_); clear hu) | split | dsimp only

theorem execLaneReturnSelftestDone_keeps {strict : Bool} {s0 s : State} (h : s0.Keeps strict s) (test : LaneTest) :
    ∃ t, (execLaneReturnSelftestDone test s) = .next t ∧ s0.Keeps strict t := by
  unfold execLaneReturnSelftestDone
  repeat' first
    | with_reducible assumption | intro _ | ((fail_if_no_progress extract_lets +onlyGivenNames t); refine (?_ : State.Keeps strict s0 t → _) ?_; (on_goal 1 => intro ht; clear_value t); on_goal 2 => try unfold t)
    | fail_if_no_progress extract_lets +onlyGivenNames t | with_reducible apply State.errReset_keeps
    | with_reducible refine ⟨_, rfl, ?_⟩ | with_reducible apply State.event_keeps | with_reducible apply State.modLane_keeps
    | with_reducible apply State.modLanes_keeps | with_reducible apply State.retireLane_keeps | with_reducible apply settle_keeps
    | (generalize hu : State.mk .. = u; refine (?_ : State.Keeps strict s0 u → _) (.mk_eq hu ?_); clear hu) | split
    | with_reducible refine State.Keeps.of_pair (by assumption) ?_ | with_reducible refine State.Keeps.of_triple (by assumption) ?_
    | dsimp only

theorem execLaneResyncDone_keeps {strict : Bool} {s0 s : State} (h : s0.Keeps strict s) (us : Nat) :
    ∃ t, (execLaneResyncDone us s) = .next t ∧ s0.Keeps strict t := by
  unfold execLaneResyncDone
  repeat' first
    | with_reducible assumption | intro _ | ((fail_if_no_progress extract_lets +onlyGivenNames t); refine (?_ : State.Keeps strict s0 t → _) ?_; (on_goal 1 => intro ht; clear_value t); on_goal 2 => try unfold t)
    | fail_if_no_progress extract_lets +onlyGivenNames t | with_reducible apply State.errReset_keeps
    | with_reducible refine ⟨_, rfl, ?_⟩ | with_reducible apply State.laneSynced_keeps | with_reducible apply settle_keeps
    | (generalize hu : State.mk .. = u; refine (?_ : State.Keeps strict s0 u → _) (.mk_eq hu ?_); clear hu) | split
    | with_reducible refine State.Keeps.of_pair (by assumption) ?_ | with_reducible refine State.Keeps.of_triple (by assumption) ?_
    | dsimp only

theorem execLaneCopyTimeout_keeps {strict : Bool} {s0 s : State} (h : s0.Keeps strict s) :
    ∃ t, (execLaneCopyTimeout s) = .next t ∧ s0.Keeps strict t := by
  unfold execLaneCopyTimeout
  repeat' first
    | with_reducible assumption | intro _ | ((fail_if_no_progress extract_lets +onlyGivenNames t); refine (?_ : State.Keeps strict s0 t → _) ?_; (on_goal 1 => intro ht; clear_value t); on_goal 2 => try unfold t)
    | fail_if_no_progress extract_lets +onlyGivenNames t | with_reducible apply State.errReset_keeps
    | with_reducible refine ⟨_, rfl, ?_⟩ | with_reducible apply State.copyFails_keeps | with_reducible apply settle_keeps
    | (generalize hu : State.mk .. = u; refine (?_ : State.Keeps strict s0 u → _) (.mk_eq hu ?_); clear hu) | split
    | with_reducible refine State.Keeps.of_pair (by assumption) ?_ | with_reducible refine State.Keeps.of_triple (by assumption) ?_
    | dsimp only

theorem State.lanesOff_keeps {strict : Bool} {s0 s : State} (h : s0.Keeps strict s) :
    s0.Keeps strict (State.lanesOff s) := by
  unfold State.lanesOff
  repeat' first
    | with_reducible assumption | intro _ | ((fail_if_no_progress extract_lets +onlyGivenNames t); refine (?_ : State.Keeps strict s0 t → _) ?_; (on_goal 1 => intro ht; clear_value t); on_goal 2 => try unfold t)
    | fail_if_no_progress extract_lets +onlyGivenNames t | with_reducible apply State.abandonReturn_keeps
    | with_reducible apply State.modLanes_keeps
    | (generalize hu : State.mk .. = u; refine (?_ : State.Keeps strict s0 u → _) (.mk_eq hu ?_); clear hu) | split | dsimp only

theorem State.lanesStart_keeps {strict : Bool} {s0 s : State} (h : s0.Keeps strict s) :
    s0.Keeps strict (State.lanesStart s) := by
  unfold State.lanesStart
  repeat' first
    | with_reducible assumption | intro _ | ((fail_if_no_progress extract_lets +onlyGivenNames t); refine (?_ : State.Keeps strict s0 t → _) ?_; (on_goal 1 => intro ht; clear_value t); on_goal 2 => try unfold t)
    | fail_if_no_progress extract_lets +onlyGivenNames t | with_reducible apply State.laneMismatch_keeps
    | (generalize hu : State.mk .. = u; refine (?_ : State.Keeps strict s0 u → _) (.mk_eq hu ?_); clear hu) | split
    | with_reducible refine State.Keeps.of_pair (by assumption) ?_ | with_reducible refine State.Keeps.of_triple (by assumption) ?_
    | dsimp only

/-! Machine/Stages.lean. -/

theorem execPhaseShed_keeps {strict : Bool} {s0 s : State} (h : s0.Keeps strict s) (k : LoopNo) :
    ∃ t, (execPhaseShed k s) = .next t ∧ s0.Keeps strict t := by
  unfold execPhaseShed
  repeat' first
    | with_reducible assumption | intro _ | ((fail_if_no_progress extract_lets +onlyGivenNames t); refine (?_ : State.Keeps strict s0 t → _) ?_; (on_goal 1 => intro ht; clear_value t); on_goal 2 => try unfold t)
    | fail_if_no_progress extract_lets +onlyGivenNames t | with_reducible refine ⟨_, rfl, ?_⟩
    | with_reducible apply State.event_keeps | with_reducible apply State.modCell_keeps | with_reducible apply State.modLoop_keeps
    | (generalize hu : State.mk .. = u; refine (?_ : State.Keeps strict s0 u → _) (.mk_eq hu ?_); clear hu) | split
    | with_reducible refine State.Keeps.of_pair (by assumption) ?_ | with_reducible refine State.Keeps.of_triple (by assumption) ?_
    | dsimp only

theorem State.shedNow_keeps {strict : Bool} {s0 s : State} (h : s0.Keeps strict s) (k : LoopNo) (c : CellNo) :
    s0.Keeps strict (State.shedNow k c s) := by
  unfold State.shedNow
  repeat' first
    | with_reducible assumption | intro _ | ((fail_if_no_progress extract_lets +onlyGivenNames t); refine (?_ : State.Keeps strict s0 t → _) ?_; (on_goal 1 => intro ht; clear_value t); on_goal 2 => try unfold t)
    | fail_if_no_progress extract_lets +onlyGivenNames t | with_reducible apply State.event_keeps
    | with_reducible apply State.modCell_keeps | with_reducible apply State.modLoop_keeps
    | (generalize hu : State.mk .. = u; refine (?_ : State.Keeps strict s0 u → _) (.mk_eq hu ?_); clear hu) | split | dsimp only

theorem execBurstEntry_keeps {strict : Bool} {s0 s : State} (h : s0.Keeps strict s) (k : LoopNo) :
    ∃ t, (execBurstEntry k s) = .next t ∧ s0.Keeps strict t := by
  unfold execBurstEntry
  repeat' first
    | with_reducible assumption | intro _ | ((fail_if_no_progress extract_lets +onlyGivenNames t); refine (?_ : State.Keeps strict s0 t → _) ?_; (on_goal 1 => intro ht; clear_value t); on_goal 2 => try unfold t)
    | fail_if_no_progress extract_lets +onlyGivenNames t | with_reducible refine ⟨_, rfl, ?_⟩
    | with_reducible apply State.event_keeps | with_reducible apply State.modLoop_keeps | with_reducible apply State.over_keeps
    | with_reducible apply State.shedNow_keeps
    | (generalize hu : State.mk .. = u; refine (?_ : State.Keeps strict s0 u → _) (.mk_eq hu ?_); clear hu) | split | dsimp only

theorem execShareRampComplete_keeps {strict : Bool} {s0 s : State} (h : s0.Keeps strict s) (m : CellNo) :
    ∃ t, (execShareRampComplete m s) = .next t ∧ s0.Keeps strict t := by
  unfold execShareRampComplete
  repeat' first
    | with_reducible assumption | intro _ | ((fail_if_no_progress extract_lets +onlyGivenNames t); refine (?_ : State.Keeps strict s0 t → _) ?_; (on_goal 1 => intro ht; clear_value t); on_goal 2 => try unfold t)
    | fail_if_no_progress extract_lets +onlyGivenNames t | with_reducible refine ⟨_, rfl, ?_⟩
    | with_reducible apply State.modCell_keeps | with_reducible apply State.rampDone_keeps
    | (generalize hu : State.mk .. = u; refine (?_ : State.Keeps strict s0 u → _) (.mk_eq hu ?_); clear hu) | split
    | with_reducible refine State.Keeps.of_pair (by assumption) ?_ | with_reducible refine State.Keeps.of_triple (by assumption) ?_
    | dsimp only

theorem State.steer_keeps {strict : Bool} {s0 s : State} (h : s0.Keeps strict s) (k : LoopNo) :
    s0.Keeps strict (State.steer k s) := by
  unfold State.steer
  repeat' first
    | with_reducible assumption | intro _ | ((fail_if_no_progress extract_lets +onlyGivenNames t); refine (?_ : State.Keeps strict s0 t → _) ?_; (on_goal 1 => intro ht; clear_value t); on_goal 2 => try unfold t)
    | fail_if_no_progress extract_lets +onlyGivenNames t | with_reducible apply State.event_keeps
    | with_reducible apply State.modLoop_keeps
    | (generalize hu : State.mk .. = u; refine (?_ : State.Keeps strict s0 u → _) (.mk_eq hu ?_); clear hu) | split
    | with_reducible refine State.Keeps.of_pair (by assumption) ?_ | with_reducible refine State.Keeps.of_triple (by assumption) ?_
    | dsimp only

theorem execSyncinEdge_keeps {strict : Bool} {s0 s : State} (h : s0.Keeps strict s) (stamp : Nat) :
    ∃ t, (execSyncinEdge stamp s) = .next t ∧ s0.Keeps strict t := by
  unfold execSyncinEdge
  repeat' first
    | with_reducible assumption | intro _ | ((fail_if_no_progress extract_lets +onlyGivenNames t); refine (?_ : State.Keeps strict s0 t → _) ?_; (on_goal 1 => intro ht; clear_value t); on_goal 2 => try unfold t)
    | fail_if_no_progress extract_lets +onlyGivenNames t | with_reducible refine ⟨_, rfl, ?_⟩
    | with_reducible apply State.each_keeps | with_reducible apply State.steer_keeps
    | (generalize hu : State.mk .. = u; refine (?_ : State.Keeps strict s0 u → _) (.mk_eq hu ?_); clear hu) | split
    | with_reducible refine State.Keeps.of_pair (by assumption) ?_ | with_reducible refine State.Keeps.of_triple (by assumption) ?_
    | dsimp only

theorem execSyncLocked_keeps {strict : Bool} {s0 s : State} (h : s0.Keeps strict s) (k : LoopNo) :
    ∃ t, (execSyncLocked k s) = .next t ∧ s0.Keeps strict t := by
  unfold execSyncLocked
  repeat' first
    | with_reducible assumption | intro _ | ((fail_if_no_progress extract_lets +onlyGivenNames t); refine (?_ : State.Keeps strict s0 t → _) ?_; (on_goal 1 => intro ht; clear_value t); on_goal 2 => try unfold t)
    | fail_if_no_progress extract_lets +onlyGivenNames t | with_reducible refine ⟨_, rfl, ?_⟩
    | with_reducible apply State.event_keeps | with_reducible apply State.modLoop_keeps
    | (generalize hu : State.mk .. = u; refine (?_ : State.Keeps strict s0 u → _) (.mk_eq hu ?_); clear hu) | split | dsimp only

theorem execSyncLost_keeps {strict : Bool} {s0 s : State} (h : s0.Keeps strict s) :
    ∃ t, (execSyncLost s) = .next t ∧ s0.Keeps strict t := by
  unfold execSyncLost
  repeat' first
    | with_reducible assumption | intro _ | ((fail_if_no_progress extract_lets +onlyGivenNames t); refine (?_ : State.Keeps strict s0 t → _) ?_; (on_goal 1 => intro ht; clear_value t); on_goal 2 => try unfold t)
    | fail_if_no_progress extract_lets +onlyGivenNames t | with_reducible refine ⟨_, rfl, ?_⟩
    | with_reducible apply State.each_keeps | with_reducible apply State.event_keeps | with_reducible apply State.modLoop_keeps
    | (generalize hu : State.mk .. = u; refine (?_ : State.Keeps strict s0 u → _) (.mk_eq hu ?_); clear hu) | split | dsimp only

theorem execSoftStartEnd_keeps {strict : Bool} {s0 s : State} (h : s0.Keeps strict s) (k : LoopNo) :
    ∃ t, (execSoftStartEnd k s) = .next t ∧ s0.Keeps strict t := by
  unfold execSoftStartEnd
  repeat' first
    | with_reducible assumption | intro _ | ((fail_if_no_progress extract_lets +onlyGivenNames t); refine (?_ : State.Keeps strict s0 t → _) ?_; (on_goal 1 => intro ht; clear_value t); on_goal 2 => try unfold t)
    | fail_if_no_progress extract_lets +onlyGivenNames t | with_reducible refine ⟨_, rfl, ?_⟩
    | with_reducible apply State.event_keeps | with_reducible apply State.modLoop_keeps
    | (generalize hu : State.mk .. = u; refine (?_ : State.Keeps strict s0 u → _) (.mk_eq hu ?_); clear hu) | split | dsimp only

theorem execPgRise_keeps {strict : Bool} {s0 s : State} (h : s0.Keeps strict s) (k : LoopNo) :
    ∃ t, (execPgRise k s) = .next t ∧ s0.Keeps strict t := by
  unfold execPgRise
  repeat' first
    | with_reducible assumption | intro _ | ((fail_if_no_progress extract_lets +onlyGivenNames t); refine (?_ : State.Keeps strict s0 t → _) ?_; (on_goal 1 => intro ht; clear_value t); on_goal 2 => try unfold t)
    | fail_if_no_progress extract_lets +onlyGivenNames t | with_reducible refine ⟨_, rfl, ?_⟩
    | with_reducible apply State.modLoop_keeps
    | (generalize hu : State.mk .. = u; refine (?_ : State.Keeps strict s0 u → _) (.mk_eq hu ?_); clear hu) | split | dsimp only

theorem execStartAbort_keeps {strict : Bool} {s0 s : State} (h : s0.Keeps strict s) (k : LoopNo) (cause : AbortCause) :
    ∃ t, (execStartAbort k cause s) = .next t ∧ s0.Keeps strict t := by
  unfold execStartAbort
  repeat' first
    | with_reducible assumption | intro _ | ((fail_if_no_progress extract_lets +onlyGivenNames t); refine (?_ : State.Keeps strict s0 t → _) ?_; (on_goal 1 => intro ht; clear_value t); on_goal 2 => try unfold t)
    | fail_if_no_progress extract_lets +onlyGivenNames t | with_reducible refine ⟨_, rfl, ?_⟩
    | with_reducible apply State.clearStates_keeps | with_reducible apply State.endBrake_keeps
    | with_reducible apply State.event_keeps | with_reducible apply State.membersLow_keeps
    | with_reducible apply State.modLoop_keeps | with_reducible apply State.restartLoop_keeps
    | with_reducible apply State.stopLoop_keeps
    | (generalize hu : State.mk .. = u; refine (?_ : State.Keeps strict s0 u → _) (.mk_eq hu ?_); clear hu) | split | dsimp only

theorem execHiccupRetry_keeps {strict : Bool} {s0 s : State} (h : s0.Keeps strict s) (k : LoopNo) :
    ∃ t, (execHiccupRetry k s) = .next t ∧ s0.Keeps strict t := by
  unfold execHiccupRetry
  repeat' first
    | with_reducible assumption | intro _ | ((fail_if_no_progress extract_lets +onlyGivenNames t); refine (?_ : State.Keeps strict s0 t → _) ?_; (on_goal 1 => intro ht; clear_value t); on_goal 2 => try unfold t)
    | fail_if_no_progress extract_lets +onlyGivenNames t | with_reducible refine ⟨_, rfl, ?_⟩
    | with_reducible apply State.restartLoop_keeps
    | (generalize hu : State.mk .. = u; refine (?_ : State.Keeps strict s0 u → _) (.mk_eq hu ?_); clear hu) | split | dsimp only

theorem execHiccupReload_keeps {strict : Bool} {s0 s : State} (h : s0.Keeps strict s) (k : LoopNo) :
    ∃ t, (execHiccupReload k s) = .next t ∧ s0.Keeps strict t := by
  unfold execHiccupReload
  repeat' first
    | with_reducible assumption | intro _ | ((fail_if_no_progress extract_lets +onlyGivenNames t); refine (?_ : State.Keeps strict s0 t → _) ?_; (on_goal 1 => intro ht; clear_value t); on_goal 2 => try unfold t)
    | fail_if_no_progress extract_lets +onlyGivenNames t | with_reducible refine ⟨_, rfl, ?_⟩
    | with_reducible apply State.modLoop_keeps
    | (generalize hu : State.mk .. = u; refine (?_ : State.Keeps strict s0 u → _) (.mk_eq hu ?_); clear hu) | split | dsimp only

theorem execPhaseDrop_keeps {strict : Bool} {s0 s : State} (h : s0.Keeps strict s) (m : CellNo) (cause : DropCause) :
    ∃ t, (execPhaseDrop m cause s) = .next t ∧ s0.Keeps strict t := by
  unfold execPhaseDrop
  repeat' first
    | with_reducible assumption | intro _ | ((fail_if_no_progress extract_lets +onlyGivenNames t); refine (?_ : State.Keeps strict s0 t → _) ?_; (on_goal 1 => intro ht; clear_value t); on_goal 2 => try unfold t)
    | fail_if_no_progress extract_lets +onlyGivenNames t | with_reducible refine ⟨_, rfl, ?_⟩
    | with_reducible apply State.dropMember_keeps
    | (generalize hu : State.mk .. = u; refine (?_ : State.Keeps strict s0 u → _) (.mk_eq hu ?_); clear hu) | split
    | with_reducible refine State.Keeps.of_pair (by assumption) ?_ | with_reducible refine State.Keeps.of_triple (by assumption) ?_
    | dsimp only

theorem execOverrunStop_keeps {strict : Bool} {s0 s : State} (h : s0.Keeps strict s) (k : LoopNo) :
    ∃ t, (execOverrunStop k s) = .next t ∧ s0.Keeps strict t := by
  unfold execOverrunStop
  repeat' first
    | with_reducible assumption | intro _ | ((fail_if_no_progress extract_lets +onlyGivenNames t); refine (?_ : State.Keeps strict s0 t → _) ?_; (on_goal 1 => intro ht; clear_value t); on_goal 2 => try unfold t)
    | fail_if_no_progress extract_lets +onlyGivenNames t | with_reducible refine ⟨_, rfl, ?_⟩
    | with_reducible apply State.stopLoop_keeps
    | (generalize hu : State.mk .. = u; refine (?_ : State.Keeps strict s0 u → _) (.mk_eq hu ?_); clear hu) | split | dsimp only

theorem execCycleByCycleLimit_keeps {strict : Bool} {s0 s : State} (h : s0.Keeps strict s) (c : CellNo) (step : Nat) (sense : TripSense) :
    ∃ t, (execCycleByCycleLimit c step sense s) = .next t ∧ s0.Keeps strict t := by
  unfold execCycleByCycleLimit
  repeat' first
    | with_reducible assumption | intro _ | ((fail_if_no_progress extract_lets +onlyGivenNames t); refine (?_ : State.Keeps strict s0 t → _) ?_; (on_goal 1 => intro ht; clear_value t); on_goal 2 => try unfold t)
    | fail_if_no_progress extract_lets +onlyGivenNames t | with_reducible refine ⟨_, rfl, ?_⟩
    | with_reducible apply State.modCell_keeps | with_reducible apply State.modLoop_keeps
    | (generalize hu : State.mk .. = u; refine (?_ : State.Keeps strict s0 u → _) (.mk_eq hu ?_); clear hu) | split
    | with_reducible refine State.Keeps.of_pair (by assumption) ?_ | with_reducible refine State.Keeps.of_triple (by assumption) ?_
    | dsimp only

theorem execCoefficientWordLand_keeps {strict : Bool} {s0 s : State} (h : s0.Keeps strict s) (k : LoopNo) :
    ∃ t, (execCoefficientWordLand k s) = .next t ∧ s0.Keeps strict t := by
  unfold execCoefficientWordLand
  repeat' first
    | with_reducible assumption | intro _ | ((fail_if_no_progress extract_lets +onlyGivenNames t); refine (?_ : State.Keeps strict s0 t → _) ?_; (on_goal 1 => intro ht; clear_value t); on_goal 2 => try unfold t)
    | fail_if_no_progress extract_lets +onlyGivenNames t | with_reducible refine ⟨_, rfl, ?_⟩
    | with_reducible apply State.modLoop_keeps | with_reducible apply State.setForce_keeps
    | (generalize hu : State.mk .. = u; refine (?_ : State.Keeps strict s0 u → _) (.mk_eq hu ?_); clear hu) | split
    | with_reducible refine State.Keeps.of_pair (by assumption) ?_ | with_reducible refine State.Keeps.of_triple (by assumption) ?_
    | dsimp only

theorem writeEnable_keeps {strict : Bool} {s0 s : State} (h : s0.Keeps strict s) (k : LoopNo) (v : Nat) :
    s0.Keeps strict (writeEnable k v s).2 := by
  unfold writeEnable
  repeat' first
    | with_reducible assumption | intro _ | ((fail_if_no_progress extract_lets +onlyGivenNames t); refine (?_ : State.Keeps strict s0 t → _) ?_; (on_goal 1 => intro ht; clear_value t); on_goal 2 => try unfold t)
    | fail_if_no_progress extract_lets +onlyGivenNames t | with_reducible apply State.modLoop_keeps
    | with_reducible apply State.recapacity_keeps | with_reducible apply State.scheduleRejected_keeps
    | with_reducible apply State.setWritten_keeps | with_reducible apply State.stopLoop_keeps
    | with_reducible apply State.tryStart_keeps
    | (generalize hu : State.mk .. = u; refine (?_ : State.Keeps strict s0 u → _) (.mk_eq hu ?_); clear hu) | split
    | with_reducible refine State.Keeps.of_pair (by assumption) ?_ | with_reducible refine State.Keeps.of_triple (by assumption) ?_
    | dsimp only

theorem writeMembers_keeps {strict : Bool} {s0 s : State} (h : s0.Keeps strict s) (k : LoopNo) (v : Nat) :
    s0.Keeps strict (writeMembers k v s).2 := by
  unfold writeMembers
  repeat' first
    | with_reducible assumption | intro _ | ((fail_if_no_progress extract_lets +onlyGivenNames t); refine (?_ : State.Keeps strict s0 t → _) ?_; (on_goal 1 => intro ht; clear_value t); on_goal 2 => try unfold t)
    | fail_if_no_progress extract_lets +onlyGivenNames t | with_reducible apply State.recapacity_keeps
    | with_reducible apply State.setWritten_keeps
    | (generalize hu : State.mk .. = u; refine (?_ : State.Keeps strict s0 u → _) (.mk_eq hu ?_); clear hu) | split | dsimp only

theorem writeControlMode_keeps {strict : Bool} {s0 s : State} (h : s0.Keeps strict s) (k : LoopNo) (v : Nat) :
    s0.Keeps strict (writeControlMode k v s).2 := by
  unfold writeControlMode
  repeat' first
    | with_reducible assumption | intro _ | ((fail_if_no_progress extract_lets +onlyGivenNames t); refine (?_ : State.Keeps strict s0 t → _) ?_; (on_goal 1 => intro ht; clear_value t); on_goal 2 => try unfold t)
    | fail_if_no_progress extract_lets +onlyGivenNames t | with_reducible apply State.setWritten_keeps
    | (generalize hu : State.mk .. = u; refine (?_ : State.Keeps strict s0 u → _) (.mk_eq hu ?_); clear hu) | split | dsimp only

theorem writePeriod_keeps {strict : Bool} {s0 s : State} (h : s0.Keeps strict s) (k : LoopNo) (sub : Nat) (v : Int) :
    s0.Keeps strict (writePeriod k sub v s).2 := by
  unfold writePeriod
  repeat' first
    | with_reducible assumption | intro _ | ((fail_if_no_progress extract_lets +onlyGivenNames t); refine (?_ : State.Keeps strict s0 t → _) ?_; (on_goal 1 => intro ht; clear_value t); on_goal 2 => try unfold t)
    | fail_if_no_progress extract_lets +onlyGivenNames t | with_reducible apply State.scheduleRejected_keeps
    | with_reducible apply State.setWritten_keeps
    | (generalize hu : State.mk .. = u; refine (?_ : State.Keeps strict s0 u → _) (.mk_eq hu ?_); clear hu) | split
    | with_reducible refine State.Keeps.of_pair (by assumption) ?_ | with_reducible refine State.Keeps.of_triple (by assumption) ?_
    | dsimp only

theorem writeSamplePoint_keeps {strict : Bool} {s0 s : State} (h : s0.Keeps strict s) (c : CellNo) (v : Int) :
    s0.Keeps strict (writeSamplePoint c v s).2 := by
  unfold writeSamplePoint
  repeat' first
    | with_reducible assumption | intro _ | ((fail_if_no_progress extract_lets +onlyGivenNames t); refine (?_ : State.Keeps strict s0 t → _) ?_; (on_goal 1 => intro ht; clear_value t); on_goal 2 => try unfold t)
    | fail_if_no_progress extract_lets +onlyGivenNames t | with_reducible apply State.scheduleRejected_keeps
    | with_reducible apply State.setWritten_keeps
    | (generalize hu : State.mk .. = u; refine (?_ : State.Keeps strict s0 u → _) (.mk_eq hu ?_); clear hu) | split
    | with_reducible refine State.Keeps.of_pair (by assumption) ?_ | with_reducible refine State.Keeps.of_triple (by assumption) ?_
    | dsimp only

theorem writeBelowPeriod_keeps {strict : Bool} {s0 s : State} (h : s0.Keeps strict s) (k : LoopNo) (sub : Nat) (v : Int) :
    s0.Keeps strict (writeBelowPeriod k sub v s).2 := by
  unfold writeBelowPeriod
  repeat' first
    | with_reducible assumption | intro _ | ((fail_if_no_progress extract_lets +onlyGivenNames t); refine (?_ : State.Keeps strict s0 t → _) ?_; (on_goal 1 => intro ht; clear_value t); on_goal 2 => try unfold t)
    | fail_if_no_progress extract_lets +onlyGivenNames t | with_reducible apply State.setWritten_keeps
    | (generalize hu : State.mk .. = u; refine (?_ : State.Keeps strict s0 u → _) (.mk_eq hu ?_); clear hu) | split | dsimp only

theorem writeActiveSet_keeps {strict : Bool} {s0 s : State} (h : s0.Keeps strict s) (k : LoopNo) (v : Nat) :
    s0.Keeps strict (writeActiveSet k v s).2 := by
  unfold writeActiveSet
  repeat' first
    | with_reducible assumption | intro _ | ((fail_if_no_progress extract_lets +onlyGivenNames t); refine (?_ : State.Keeps strict s0 t → _) ?_; (on_goal 1 => intro ht; clear_value t); on_goal 2 => try unfold t)
    | fail_if_no_progress extract_lets +onlyGivenNames t | with_reducible apply State.modLoop_keeps
    | (generalize hu : State.mk .. = u; refine (?_ : State.Keeps strict s0 u → _) (.mk_eq hu ?_); clear hu) | split | dsimp only

theorem writeSafeLock_keeps {strict : Bool} {s0 s : State} (h : s0.Keeps strict s) (k : LoopNo) (v : Nat) (holder : Bool) :
    s0.Keeps strict (writeSafeLock k v holder s).2 := by
  unfold writeSafeLock
  repeat' first
    | with_reducible assumption | intro _ | ((fail_if_no_progress extract_lets +onlyGivenNames t); refine (?_ : State.Keeps strict s0 t → _) ?_; (on_goal 1 => intro ht; clear_value t); on_goal 2 => try unfold t)
    | fail_if_no_progress extract_lets +onlyGivenNames t | with_reducible apply State.setWritten_keeps
    | (generalize hu : State.mk .. = u; refine (?_ : State.Keeps strict s0 u → _) (.mk_eq hu ?_); clear hu) | split | dsimp only

theorem writeCoefficient_keeps {strict : Bool} {s0 s : State} (h : s0.Keeps strict s) (index sub : Nat) (v : Int) :
    s0.Keeps strict (writeCoefficient index sub v s).2 := by
  unfold writeCoefficient
  repeat' first
    | with_reducible assumption | intro _ | ((fail_if_no_progress extract_lets +onlyGivenNames t); refine (?_ : State.Keeps strict s0 t → _) ?_; (on_goal 1 => intro ht; clear_value t); on_goal 2 => try unfold t)
    | fail_if_no_progress extract_lets +onlyGivenNames t | with_reducible apply State.modLoop_keeps
    | with_reducible apply State.setWritten_keeps
    | (generalize hu : State.mk .. = u; refine (?_ : State.Keeps strict s0 u → _) (.mk_eq hu ?_); clear hu) | split | dsimp only

end Sys2Proof.Machine
end

