-- ==== Sys2Proof/Laws/KeepsLedger.lean ====
section
/-! SUPPORT. Laws/KeepsLedger.lean: what the operations of rails, the bus, the ledger, batteries and maintenance keep (State.Keeps). -/

set_option linter.unreachableTactic false
set_option linter.unusedTactic false
set_option linter.tactic.unusedName false

namespace Sys2Proof.Machine

/-! Machine/Allocator.lean. -/

theorem State.allocate_keeps {strict : Bool} {s0 s : State} (h : s0.Keeps strict s) :
    s0.Keeps strict (State.allocate s) := by
  unfold State.allocate
  repeat' first
    | with_reducible assumption | intro _ | ((fail_if_no_progress extract_lets +onlyGivenNames t); refine (?_ : State.Keeps strict s0 t → _) ?_; (on_goal 1 => intro ht; clear_value t); on_goal 2 => try unfold t)
    | fail_if_no_progress extract_lets +onlyGivenNames t | with_reducible apply State.event_keeps
    | (generalize hu : State.mk .. = u; refine (?_ : State.Keeps strict s0 u → _) (.mk_eq hu ?_); clear hu) | split | dsimp only

/-! Machine/Bus.lean. -/

theorem State.lineInterval_keeps {strict : Bool} {s0 s : State} (h : s0.Keeps strict s) (g : GroupNo) :
    s0.Keeps strict (State.lineInterval g s) := by
  unfold State.lineInterval
  repeat' first
    | with_reducible assumption | intro _ | ((fail_if_no_progress extract_lets +onlyGivenNames t); refine (?_ : State.Keeps strict s0 t → _) ?_; (on_goal 1 => intro ht; clear_value t); on_goal 2 => try unfold t)
    | fail_if_no_progress extract_lets +onlyGivenNames t | with_reducible apply State.idSample_keeps
    | with_reducible apply State.modGroup_keeps
    | (generalize hu : State.mk .. = u; refine (?_ : State.Keeps strict s0 u → _) (.mk_eq hu ?_); clear hu) | split | dsimp only

theorem State.busMeans_keeps {strict : Bool} {s0 s : State} (h : s0.Keeps strict s) :
    s0.Keeps strict (State.busMeans s) := by
  unfold State.busMeans
  repeat' first
    | with_reducible assumption | intro _ | ((fail_if_no_progress extract_lets +onlyGivenNames t); refine (?_ : State.Keeps strict s0 t → _) ?_; (on_goal 1 => intro ht; clear_value t); on_goal 2 => try unfold t)
    | fail_if_no_progress extract_lets +onlyGivenNames t | with_reducible apply State.each_keeps
    | with_reducible apply State.modCell_keeps | with_reducible apply State.modLoop_keeps
    | (generalize hu : State.mk .. = u; refine (?_ : State.Keeps strict s0 u → _) (.mk_eq hu ?_); clear hu) | split | dsimp only

theorem State.busControl_keeps {strict : Bool} {s0 s : State} (h : s0.Keeps strict s) :
    s0.Keeps strict (State.busControl s) := by
  unfold State.busControl
  repeat' first
    | with_reducible assumption | intro _ | ((fail_if_no_progress extract_lets +onlyGivenNames t); refine (?_ : State.Keeps strict s0 t → _) ?_; (on_goal 1 => intro ht; clear_value t); on_goal 2 => try unfold t)
    | fail_if_no_progress extract_lets +onlyGivenNames t | with_reducible apply State.event_keeps
    | with_reducible apply State.modBus_keeps
    | (generalize hu : State.mk .. = u; refine (?_ : State.Keeps strict s0 u → _) (.mk_eq hu ?_); clear hu) | split
    | with_reducible refine State.Keeps.of_pair (by assumption) ?_ | with_reducible refine State.Keeps.of_triple (by assumption) ?_
    | dsimp only

theorem State.groupTarget_keeps {strict : Bool} {s0 s : State} (h : s0.Keeps strict s) (g : GroupNo) :
    s0.Keeps strict (State.groupTarget g s) := by
  unfold State.groupTarget
  repeat' first
    | with_reducible assumption | intro _ | ((fail_if_no_progress extract_lets +onlyGivenNames t); refine (?_ : State.Keeps strict s0 t → _) ?_; (on_goal 1 => intro ht; clear_value t); on_goal 2 => try unfold t)
    | fail_if_no_progress extract_lets +onlyGivenNames t | with_reducible apply State.modCell_keeps
    | with_reducible apply State.modGroup_keeps
    | (generalize hu : State.mk .. = u; refine (?_ : State.Keeps strict s0 u → _) (.mk_eq hu ?_); clear hu) | split
    | with_reducible refine State.Keeps.of_pair (by assumption) ?_ | with_reducible refine State.Keeps.of_triple (by assumption) ?_
    | dsimp only

theorem State.underDelivery_keeps {strict : Bool} {s0 s : State} (h : s0.Keeps strict s) (g : GroupNo) :
    s0.Keeps strict (State.underDelivery g s) := by
  unfold State.underDelivery
  repeat' first
    | with_reducible assumption | intro _ | ((fail_if_no_progress extract_lets +onlyGivenNames t); refine (?_ : State.Keeps strict s0 t → _) ?_; (on_goal 1 => intro ht; clear_value t); on_goal 2 => try unfold t)
    | fail_if_no_progress extract_lets +onlyGivenNames t | with_reducible apply State.abandonId_keeps
    | with_reducible apply State.event_keeps | with_reducible apply State.modGroup_keeps
    | (generalize hu : State.mk .. = u; refine (?_ : State.Keeps strict s0 u → _) (.mk_eq hu ?_); clear hu) | split | dsimp only

theorem State.loopReference_keeps {strict : Bool} {s0 s : State} (h : s0.Keeps strict s) (k : LoopNo) :
    s0.Keeps strict (State.loopReference k s) := by
  unfold State.loopReference
  repeat' first
    | with_reducible assumption | intro _ | ((fail_if_no_progress extract_lets +onlyGivenNames t); refine (?_ : State.Keeps strict s0 t → _) ?_; (on_goal 1 => intro ht; clear_value t); on_goal 2 => try unfold t)
    | fail_if_no_progress extract_lets +onlyGivenNames t | with_reducible apply State.modLoop_keeps
    | (generalize hu : State.mk .. = u; refine (?_ : State.Keeps strict s0 u → _) (.mk_eq hu ?_); clear hu) | split | dsimp only

theorem execBusLoopSample_keeps {strict : Bool} {s0 s : State} (h : s0.Keeps strict s) :
    ∃ t, (execBusLoopSample s) = .next t ∧ s0.Keeps strict t := by
  unfold execBusLoopSample
  repeat' first
    | with_reducible assumption | intro _ | ((fail_if_no_progress extract_lets +onlyGivenNames t); refine (?_ : State.Keeps strict s0 t → _) ?_; (on_goal 1 => intro ht; clear_value t); on_goal 2 => try unfold t)
    | fail_if_no_progress extract_lets +onlyGivenNames t | with_reducible refine ⟨_, rfl, ?_⟩
    | with_reducible apply State.busControl_keeps | with_reducible apply State.busMeans_keeps
    | with_reducible apply State.each_keeps | with_reducible apply State.groupTarget_keeps
    | with_reducible apply State.lineInterval_keeps | with_reducible apply State.loopReference_keeps
    | with_reducible apply State.traceSlow_keeps | with_reducible apply State.underDelivery_keeps
    | (generalize hu : State.mk .. = u; refine (?_ : State.Keeps strict s0 u → _) (.mk_eq hu ?_); clear hu) | split | dsimp only

theorem State.groupTick_keeps {strict : Bool} {s0 s : State} (h : s0.Keeps strict s) (g : GroupNo) :
    s0.Keeps strict (State.groupTick g s) := by
  unfold State.groupTick
  repeat' first
    | with_reducible assumption | intro _ | ((fail_if_no_progress extract_lets +onlyGivenNames t); refine (?_ : State.Keeps strict s0 t → _) ?_; (on_goal 1 => intro ht; clear_value t); on_goal 2 => try unfold t)
    | fail_if_no_progress extract_lets +onlyGivenNames t | with_reducible apply State.event_keeps
    | with_reducible apply State.modGroup_keeps
    | (generalize hu : State.mk .. = u; refine (?_ : State.Keeps strict s0 u → _) (.mk_eq hu ?_); clear hu) | split | dsimp only

/-! Machine/Rails.lean. -/

theorem State.adoptRails_keeps {strict : Bool} {s0 s : State} (h : s0.Keeps strict s) :
    s0.Keeps strict (State.adoptRails s) := by
  unfold State.adoptRails
  repeat' first
    | with_reducible assumption | intro _ | ((fail_if_no_progress extract_lets +onlyGivenNames t); refine (?_ : State.Keeps strict s0 t → _) ?_; (on_goal 1 => intro ht; clear_value t); on_goal 2 => try unfold t)
    | fail_if_no_progress extract_lets +onlyGivenNames t | with_reducible apply State.adoptEntry_keeps
    | with_reducible apply State.each_keeps | with_reducible apply State.over_keeps
    | (generalize hu : State.mk .. = u; refine (?_ : State.Keeps strict s0 u → _) (.mk_eq hu ?_); clear hu) | split | dsimp only

theorem State.setEn_keeps {strict : Bool} {s0 s : State} (h : s0.Keeps strict s) (n : Nat) (high : Bool) :
    s0.Keeps strict (State.setEn n high s) := by
  unfold State.setEn
  repeat' first
    | with_reducible assumption | intro _ | ((fail_if_no_progress extract_lets +onlyGivenNames t); refine (?_ : State.Keeps strict s0 t → _) ?_; (on_goal 1 => intro ht; clear_value t); on_goal 2 => try unfold t)
    | fail_if_no_progress extract_lets +onlyGivenNames t | with_reducible apply State.modPins_keeps
    | (generalize hu : State.mk .. = u; refine (?_ : State.Keeps strict s0 u → _) (.mk_eq hu ?_); clear hu) | split | dsimp only

theorem State.driveRail_keeps {strict : Bool} {s0 s : State} (h : s0.Keeps strict s) (r : RailNo) (on : Bool) :
    s0.Keeps strict (State.driveRail r on s) := by
  unfold State.driveRail
  repeat' first
    | with_reducible assumption | intro _ | ((fail_if_no_progress extract_lets +onlyGivenNames t); refine (?_ : State.Keeps strict s0 t → _) ?_; (on_goal 1 => intro ht; clear_value t); on_goal 2 => try unfold t)
    | fail_if_no_progress extract_lets +onlyGivenNames t | with_reducible apply State.holdFeeder_keeps
    | with_reducible apply State.loopOff_keeps | with_reducible apply State.loopOn_keeps | with_reducible apply State.onFin_keeps
    | with_reducible apply State.setEn_keeps
    | (generalize hu : State.mk .. = u; refine (?_ : State.Keeps strict s0 u → _) (.mk_eq hu ?_); clear hu) | split | dsimp only

theorem State.railOn_keeps {strict : Bool} {s0 s : State} (h : s0.Keeps strict s) (r : RailNo) :
    s0.Keeps strict (State.railOn r s) := by
  unfold State.railOn
  repeat' first
    | with_reducible assumption | intro _ | ((fail_if_no_progress extract_lets +onlyGivenNames t); refine (?_ : State.Keeps strict s0 t → _) ?_; (on_goal 1 => intro ht; clear_value t); on_goal 2 => try unfold t)
    | fail_if_no_progress extract_lets +onlyGivenNames t | with_reducible apply State.driveRail_keeps
    | with_reducible apply State.modRail_keeps
    | (generalize hu : State.mk .. = u; refine (?_ : State.Keeps strict s0 u → _) (.mk_eq hu ?_); clear hu) | split | dsimp only

theorem State.railOff_keeps {strict : Bool} {s0 s : State} (h : s0.Keeps strict s) (st : RailState) (r : RailNo) :
    s0.Keeps strict (State.railOff st r s) := by
  unfold State.railOff
  repeat' first
    | with_reducible assumption | intro _ | ((fail_if_no_progress extract_lets +onlyGivenNames t); refine (?_ : State.Keeps strict s0 t → _) ?_; (on_goal 1 => intro ht; clear_value t); on_goal 2 => try unfold t)
    | fail_if_no_progress extract_lets +onlyGivenNames t | with_reducible apply State.driveRail_keeps
    | with_reducible apply State.modRail_keeps
    | (generalize hu : State.mk .. = u; refine (?_ : State.Keeps strict s0 u → _) (.mk_eq hu ?_); clear hu) | split | dsimp only

theorem State.followers_keeps {strict : Bool} {s0 s : State} (h : s0.Keeps strict s) (st : RailState) (r : RailNo) :
    s0.Keeps strict (State.followers st r s) := by
  unfold State.followers
  repeat' first
    | with_reducible assumption | intro _ | ((fail_if_no_progress extract_lets +onlyGivenNames t); refine (?_ : State.Keeps strict s0 t → _) ?_; (on_goal 1 => intro ht; clear_value t); on_goal 2 => try unfold t)
    | fail_if_no_progress extract_lets +onlyGivenNames t | with_reducible apply State.modRail_keeps
    | with_reducible apply State.over_keeps
    | (generalize hu : State.mk .. = u; refine (?_ : State.Keeps strict s0 u → _) (.mk_eq hu ?_); clear hu) | split | dsimp only

theorem State.offDescendants_keeps {strict : Bool} {s0 s : State} (h : s0.Keeps strict s) (st : RailState) (r : RailNo) :
    s0.Keeps strict (State.offDescendants st r s) := by
  unfold State.offDescendants
  repeat' first
    | with_reducible assumption | intro _ | ((fail_if_no_progress extract_lets +onlyGivenNames t); refine (?_ : State.Keeps strict s0 t → _) ?_; (on_goal 1 => intro ht; clear_value t); on_goal 2 => try unfold t)
    | fail_if_no_progress extract_lets +onlyGivenNames t | with_reducible apply State.over_keeps
    | with_reducible apply State.railOff_keeps
    | (generalize hu : State.mk .. = u; refine (?_ : State.Keeps strict s0 u → _) (.mk_eq hu ?_); clear hu) | split | dsimp only

theorem State.offCheck_keeps {strict : Bool} {s0 s : State} (h : s0.Keeps strict s) :
    s0.Keeps strict (State.offCheck s) := by
  unfold State.offCheck
  repeat' first
    | with_reducible assumption | intro _ | ((fail_if_no_progress extract_lets +onlyGivenNames t); refine (?_ : State.Keeps strict s0 t → _) ?_; (on_goal 1 => intro ht; clear_value t); on_goal 2 => try unfold t)
    | fail_if_no_progress extract_lets +onlyGivenNames t | with_reducible apply State.closeRecs_keeps
    | with_reducible apply State.event_keeps | with_reducible apply State.modSeq_keeps
    | (generalize hu : State.mk .. = u; refine (?_ : State.Keeps strict s0 u → _) (.mk_eq hu ?_); clear hu) | split | dsimp only

theorem execRailSlot_keeps {strict : Bool} {s0 s : State} (h : s0.Keeps strict s) (r : RailNo) :
    ∃ t, (execRailSlot r s) = .next t ∧ s0.Keeps strict t := by
  unfold execRailSlot
  repeat' first
    | with_reducible assumption | intro _ | ((fail_if_no_progress extract_lets +onlyGivenNames t); refine (?_ : State.Keeps strict s0 t → _) ?_; (on_goal 1 => intro ht; clear_value t); on_goal 2 => try unfold t)
    | fail_if_no_progress extract_lets +onlyGivenNames t | with_reducible refine ⟨_, rfl, ?_⟩
    | with_reducible apply State.modRail_keeps | with_reducible apply State.offCheck_keeps
    | with_reducible apply State.railOff_keeps | with_reducible apply State.railOn_keeps
    | (generalize hu : State.mk .. = u; refine (?_ : State.Keeps strict s0 u → _) (.mk_eq hu ?_); clear hu) | split | dsimp only

theorem State.retryRail_keeps {strict : Bool} {s0 s : State} (h : s0.Keeps strict s) (r : RailNo) :
    s0.Keeps strict (State.retryRail r s) := by
  unfold State.retryRail
  repeat' first
    | with_reducible assumption | intro _ | ((fail_if_no_progress extract_lets +onlyGivenNames t); refine (?_ : State.Keeps strict s0 t → _) ?_; (on_goal 1 => intro ht; clear_value t); on_goal 2 => try unfold t)
    | fail_if_no_progress extract_lets +onlyGivenNames t | with_reducible apply State.event_keeps
    | with_reducible apply State.modRail_keeps | with_reducible apply State.offDescendants_keeps
    | with_reducible apply State.over_keeps | with_reducible apply State.railOff_keeps
    | (generalize hu : State.mk .. = u; refine (?_ : State.Keeps strict s0 u → _) (.mk_eq hu ?_); clear hu) | split | dsimp only

theorem execRailPgTimeout_keeps {strict : Bool} {s0 s : State} (h : s0.Keeps strict s) (r : RailNo) :
    ∃ t, (execRailPgTimeout r s) = .next t ∧ s0.Keeps strict t := by
  unfold execRailPgTimeout
  repeat' first
    | with_reducible assumption | intro _ | ((fail_if_no_progress extract_lets +onlyGivenNames t); refine (?_ : State.Keeps strict s0 t → _) ?_; (on_goal 1 => intro ht; clear_value t); on_goal 2 => try unfold t)
    | fail_if_no_progress extract_lets +onlyGivenNames t | with_reducible refine ⟨_, rfl, ?_⟩
    | with_reducible apply State.event_keeps | with_reducible apply State.modRail_keeps | with_reducible apply State.modSeq_keeps
    | with_reducible apply State.retryRail_keeps
    | (generalize hu : State.mk .. = u; refine (?_ : State.Keeps strict s0 u → _) (.mk_eq hu ?_); clear hu) | split | dsimp only

theorem execRailRetry_keeps {strict : Bool} {s0 s : State} (h : s0.Keeps strict s) (r : RailNo) :
    ∃ t, (execRailRetry r s) = .next t ∧ s0.Keeps strict t := by
  unfold execRailRetry
  repeat' first
    | with_reducible assumption | intro _ | ((fail_if_no_progress extract_lets +onlyGivenNames t); refine (?_ : State.Keeps strict s0 t → _) ?_; (on_goal 1 => intro ht; clear_value t); on_goal 2 => try unfold t)
    | fail_if_no_progress extract_lets +onlyGivenNames t | with_reducible refine ⟨_, rfl, ?_⟩
    | with_reducible apply State.followers_keeps | with_reducible apply State.railOn_keeps
    | (generalize hu : State.mk .. = u; refine (?_ : State.Keeps strict s0 u → _) (.mk_eq hu ?_); clear hu) | split | dsimp only

theorem execRailNotOff_keeps {strict : Bool} {s0 s : State} (h : s0.Keeps strict s) (r : RailNo) :
    ∃ t, (execRailNotOff r s) = .next t ∧ s0.Keeps strict t := by
  unfold execRailNotOff
  repeat' first
    | with_reducible assumption | intro _ | ((fail_if_no_progress extract_lets +onlyGivenNames t); refine (?_ : State.Keeps strict s0 t → _) ?_; (on_goal 1 => intro ht; clear_value t); on_goal 2 => try unfold t)
    | fail_if_no_progress extract_lets +onlyGivenNames t | with_reducible refine ⟨_, rfl, ?_⟩
    | with_reducible apply State.event_keeps | with_reducible apply State.modRail_keeps
    | (generalize hu : State.mk .. = u; refine (?_ : State.Keeps strict s0 u → _) (.mk_eq hu ?_); clear hu) | split | dsimp only

theorem State.pgLoss_keeps {strict : Bool} {s0 s : State} (h : s0.Keeps strict s) (r : RailNo) :
    s0.Keeps strict (State.pgLoss r s) := by
  unfold State.pgLoss
  repeat' first
    | with_reducible assumption | intro _ | ((fail_if_no_progress extract_lets +onlyGivenNames t); refine (?_ : State.Keeps strict s0 t → _) ?_; (on_goal 1 => intro ht; clear_value t); on_goal 2 => try unfold t)
    | fail_if_no_progress extract_lets +onlyGivenNames t | with_reducible apply State.event_keeps
    | with_reducible apply State.modRail_keeps | with_reducible apply State.offDescendants_keeps
    | with_reducible apply State.railOff_keeps
    | (generalize hu : State.mk .. = u; refine (?_ : State.Keeps strict s0 u → _) (.mk_eq hu ?_); clear hu) | split | dsimp only

theorem State.judgeRail_keeps {strict : Bool} {s0 s : State} (h : s0.Keeps strict s) (pins : BitVec 16) (r : RailNo) :
    s0.Keeps strict (State.judgeRail pins r s) := by
  unfold State.judgeRail
  repeat' first
    | with_reducible assumption | intro _ | ((fail_if_no_progress extract_lets +onlyGivenNames t); refine (?_ : State.Keeps strict s0 t → _) ?_; (on_goal 1 => intro ht; clear_value t); on_goal 2 => try unfold t)
    | fail_if_no_progress extract_lets +onlyGivenNames t | with_reducible apply State.event_keeps
    | with_reducible apply State.modRail_keeps | with_reducible apply State.pgLoss_keeps
    | (generalize hu : State.mk .. = u; refine (?_ : State.Keeps strict s0 u → _) (.mk_eq hu ?_); clear hu) | split | dsimp only

theorem execPgSample_keeps {strict : Bool} {s0 s : State} (h : s0.Keeps strict s) (pins : BitVec 16) :
    ∃ t, (execPgSample pins s) = .next t ∧ s0.Keeps strict t := by
  unfold execPgSample
  repeat' first
    | with_reducible assumption | intro _ | ((fail_if_no_progress extract_lets +onlyGivenNames t); refine (?_ : State.Keeps strict s0 t → _) ?_; (on_goal 1 => intro ht; clear_value t); on_goal 2 => try unfold t)
    | fail_if_no_progress extract_lets +onlyGivenNames t | with_reducible refine ⟨_, rfl, ?_⟩
    | with_reducible apply State.each_keeps | with_reducible apply State.event_keeps | with_reducible apply State.judgeRail_keeps
    | with_reducible apply State.modPins_keeps | with_reducible apply State.modSeq_keeps
    | (generalize hu : State.mk .. = u; refine (?_ : State.Keeps strict s0 u → _) (.mk_eq hu ?_); clear hu) | split | dsimp only

theorem State.startOn_keeps {strict : Bool} {s0 s : State} (h : s0.Keeps strict s) :
    s0.Keeps strict (State.startOn s) := by
  unfold State.startOn
  repeat' first
    | with_reducible assumption | intro _ | ((fail_if_no_progress extract_lets +onlyGivenNames t); refine (?_ : State.Keeps strict s0 t → _) ?_; (on_goal 1 => intro ht; clear_value t); on_goal 2 => try unfold t)
    | fail_if_no_progress extract_lets +onlyGivenNames t | with_reducible apply State.adoptRails_keeps
    | with_reducible apply State.each_keeps | with_reducible apply State.event_keeps | with_reducible apply State.loopOn_keeps
    | with_reducible apply State.modRail_keeps | with_reducible apply State.modSeq_keeps | with_reducible apply State.over_keeps
    | (generalize hu : State.mk .. = u; refine (?_ : State.Keeps strict s0 u → _) (.mk_eq hu ?_); clear hu) | split | dsimp only

theorem State.startOff_keeps {strict : Bool} {s0 s : State} (h : s0.Keeps strict s) (cause : Nat) :
    s0.Keeps strict (State.startOff cause s) := by
  unfold State.startOff
  repeat' first
    | with_reducible assumption | intro _ | ((fail_if_no_progress extract_lets +onlyGivenNames t); refine (?_ : State.Keeps strict s0 t → _) ?_; (on_goal 1 => intro ht; clear_value t); on_goal 2 => try unfold t)
    | fail_if_no_progress extract_lets +onlyGivenNames t | with_reducible apply State.adoptRails_keeps
    | with_reducible apply State.each_keeps | with_reducible apply State.event_keeps | with_reducible apply State.holdFeeder_keeps
    | with_reducible apply State.loopOff_keeps | with_reducible apply State.modRail_keeps | with_reducible apply State.modSeq_keeps
    | with_reducible apply State.offCheck_keeps | with_reducible apply State.over_keeps
    | (generalize hu : State.mk .. = u; refine (?_ : State.Keeps strict s0 u → _) (.mk_eq hu ?_); clear hu) | split | dsimp only

theorem State.recordLoopsOff_keeps {strict : Bool} {s0 s : State} (h : s0.Keeps strict s) :
    s0.Keeps strict (State.recordLoopsOff s) := by
  unfold State.recordLoopsOff
  repeat' first
    | with_reducible assumption | intro _ | ((fail_if_no_progress extract_lets +onlyGivenNames t); refine (?_ : State.Keeps strict s0 t → _) ?_; (on_goal 1 => intro ht; clear_value t); on_goal 2 => try unfold t)
    | fail_if_no_progress extract_lets +onlyGivenNames t | with_reducible apply State.each_keeps
    | with_reducible apply State.loopOff_keeps | with_reducible apply State.over_keeps | with_reducible apply State.railOff_keeps
    | (generalize hu : State.mk .. = u; refine (?_ : State.Keeps strict s0 u → _) (.mk_eq hu ?_); clear hu) | split | dsimp only

theorem State.shedRail_keeps {strict : Bool} {s0 s : State} (h : s0.Keeps strict s) (r : RailNo) :
    s0.Keeps strict (State.shedRail r s) := by
  unfold State.shedRail
  repeat' first
    | with_reducible assumption | intro _ | ((fail_if_no_progress extract_lets +onlyGivenNames t); refine (?_ : State.Keeps strict s0 t → _) ?_; (on_goal 1 => intro ht; clear_value t); on_goal 2 => try unfold t)
    | fail_if_no_progress extract_lets +onlyGivenNames t | with_reducible apply State.railOff_keeps
    | (generalize hu : State.mk .. = u; refine (?_ : State.Keeps strict s0 u → _) (.mk_eq hu ?_); clear hu) | split | dsimp only

theorem State.restoreRail_keeps {strict : Bool} {s0 s : State} (h : s0.Keeps strict s) (r : RailNo) :
    s0.Keeps strict (State.restoreRail r s) := by
  unfold State.restoreRail
  repeat' first
    | with_reducible assumption | intro _ | ((fail_if_no_progress extract_lets +onlyGivenNames t); refine (?_ : State.Keeps strict s0 t → _) ?_; (on_goal 1 => intro ht; clear_value t); on_goal 2 => try unfold t)
    | fail_if_no_progress extract_lets +onlyGivenNames t | with_reducible apply State.modRail_keeps
    | with_reducible apply State.railOn_keeps
    | (generalize hu : State.mk .. = u; refine (?_ : State.Keeps strict s0 u → _) (.mk_eq hu ?_); clear hu) | split | dsimp only

theorem State.skipRails_keeps {strict : Bool} {s0 s : State} (h : s0.Keeps strict s) (c : CellNo) :
    s0.Keeps strict (State.skipRails c s) := by
  unfold State.skipRails
  repeat' first
    | with_reducible assumption | intro _ | ((fail_if_no_progress extract_lets +onlyGivenNames t); refine (?_ : State.Keeps strict s0 t → _) ?_; (on_goal 1 => intro ht; clear_value t); on_goal 2 => try unfold t)
    | fail_if_no_progress extract_lets +onlyGivenNames t | with_reducible apply State.modRail_keeps
    | with_reducible apply State.over_keeps
    | (generalize hu : State.mk .. = u; refine (?_ : State.Keeps strict s0 u → _) (.mk_eq hu ?_); clear hu) | split | dsimp only

theorem writeRailClear_keeps {strict : Bool} {s0 s : State} (h : s0.Keeps strict s) (r : RailNo) (v : Nat) :
    s0.Keeps strict (writeRailClear r v s).2 := by
  unfold writeRailClear
  repeat' first
    | with_reducible assumption | intro _ | ((fail_if_no_progress extract_lets +onlyGivenNames t); refine (?_ : State.Keeps strict s0 t → _) ?_; (on_goal 1 => intro ht; clear_value t); on_goal 2 => try unfold t)
    | fail_if_no_progress extract_lets +onlyGivenNames t | with_reducible apply State.followers_keeps
    | with_reducible apply State.railOn_keeps
    | (generalize hu : State.mk .. = u; refine (?_ : State.Keeps strict s0 u → _) (.mk_eq hu ?_); clear hu) | split | dsimp only

/-! Machine/Ledger.lean. -/

theorem State.alertPins_keeps {strict : Bool} {s0 s : State} (h : s0.Keeps strict s) :
    s0.Keeps strict (State.alertPins s) := by
  unfold State.alertPins
  repeat' first
    | with_reducible assumption | intro _ | ((fail_if_no_progress extract_lets +onlyGivenNames t); refine (?_ : State.Keeps strict s0 t → _) ?_; (on_goal 1 => intro ht; clear_value t); on_goal 2 => try unfold t)
    | fail_if_no_progress extract_lets +onlyGivenNames t | with_reducible apply State.modPins_keeps
    | (generalize hu : State.mk .. = u; refine (?_ : State.Keeps strict s0 u → _) (.mk_eq hu ?_); clear hu) | split | dsimp only

theorem State.tellThrottle_keeps {strict : Bool} {s0 s : State} (h : s0.Keeps strict s) (x : SinkNo) (cause target : Nat) :
    s0.Keeps strict (State.tellThrottle x cause target s) := by
  unfold State.tellThrottle
  repeat' first
    | with_reducible assumption | intro _ | ((fail_if_no_progress extract_lets +onlyGivenNames t); refine (?_ : State.Keeps strict s0 t → _) ?_; (on_goal 1 => intro ht; clear_value t); on_goal 2 => try unfold t)
    | fail_if_no_progress extract_lets +onlyGivenNames t | with_reducible apply State.emcy_keeps
    | with_reducible apply State.modTw_keeps
    | (generalize hu : State.mk .. = u; refine (?_ : State.Keeps strict s0 u → _) (.mk_eq hu ?_); clear hu) | split
    | with_reducible refine State.Keeps.of_pair (by assumption) ?_ | with_reducible refine State.Keeps.of_triple (by assumption) ?_
    | dsimp only

theorem State.raiseAlert_keeps {strict : Bool} {s0 s : State} (h : s0.Keeps strict s) (x : SinkNo) :
    s0.Keeps strict (State.raiseAlert x s) := by
  unfold State.raiseAlert
  repeat' first
    | with_reducible assumption | intro _ | ((fail_if_no_progress extract_lets +onlyGivenNames t); refine (?_ : State.Keeps strict s0 t → _) ?_; (on_goal 1 => intro ht; clear_value t); on_goal 2 => try unfold t)
    | fail_if_no_progress extract_lets +onlyGivenNames t | with_reducible apply State.modTw_keeps
    | (generalize hu : State.mk .. = u; refine (?_ : State.Keeps strict s0 u → _) (.mk_eq hu ?_); clear hu) | split
    | with_reducible refine State.Keeps.of_pair (by assumption) ?_ | with_reducible refine State.Keeps.of_triple (by assumption) ?_
    | dsimp only

theorem State.throttle_keeps {strict : Bool} {s0 s : State} (h : s0.Keeps strict s) (x : SinkNo) (cause target ms : Nat) :
    s0.Keeps strict (State.throttle x cause target ms s) := by
  unfold State.throttle
  repeat' first
    | with_reducible assumption | intro _ | ((fail_if_no_progress extract_lets +onlyGivenNames t); refine (?_ : State.Keeps strict s0 t → _) ?_; (on_goal 1 => intro ht; clear_value t); on_goal 2 => try unfold t)
    | fail_if_no_progress extract_lets +onlyGivenNames t | with_reducible apply State.alertPins_keeps
    | with_reducible apply State.event_keeps | with_reducible apply State.modLedger_keeps | with_reducible apply State.modSink_keeps
    | with_reducible apply State.raiseAlert_keeps | with_reducible apply State.tellThrottle_keeps
    | (generalize hu : State.mk .. = u; refine (?_ : State.Keeps strict s0 u → _) (.mk_eq hu ?_); clear hu) | split | dsimp only

theorem State.dropThrottle_keeps {strict : Bool} {s0 s : State} (h : s0.Keeps strict s) (x : SinkNo) :
    s0.Keeps strict (State.dropThrottle x s) := by
  unfold State.dropThrottle
  repeat' first
    | with_reducible assumption | intro _ | ((fail_if_no_progress extract_lets +onlyGivenNames t); refine (?_ : State.Keeps strict s0 t → _) ?_; (on_goal 1 => intro ht; clear_value t); on_goal 2 => try unfold t)
    | fail_if_no_progress extract_lets +onlyGivenNames t | with_reducible apply State.alertPins_keeps
    | with_reducible apply State.modSink_keeps
    | (generalize hu : State.mk .. = u; refine (?_ : State.Keeps strict s0 u → _) (.mk_eq hu ?_); clear hu) | split | dsimp only

theorem State.clearThrottle_keeps {strict : Bool} {s0 s : State} (h : s0.Keeps strict s) (x : SinkNo) :
    s0.Keeps strict (State.clearThrottle x s) := by
  unfold State.clearThrottle
  repeat' first
    | with_reducible assumption | intro _ | ((fail_if_no_progress extract_lets +onlyGivenNames t); refine (?_ : State.Keeps strict s0 t → _) ?_; (on_goal 1 => intro ht; clear_value t); on_goal 2 => try unfold t)
    | fail_if_no_progress extract_lets +onlyGivenNames t | with_reducible apply State.dropThrottle_keeps
    | with_reducible apply State.event_keeps | with_reducible apply State.throttle_keeps
    | (generalize hu : State.mk .. = u; refine (?_ : State.Keeps strict s0 u → _) (.mk_eq hu ?_); clear hu) | split | dsimp only

theorem State.shedSink_keeps {strict : Bool} {s0 s : State} (h : s0.Keeps strict s) (x : SinkNo) (cause : Nat) :
    s0.Keeps strict (State.shedSink x cause s) := by
  unfold State.shedSink
  repeat' first
    | with_reducible assumption | intro _ | ((fail_if_no_progress extract_lets +onlyGivenNames t); refine (?_ : State.Keeps strict s0 t → _) ?_; (on_goal 1 => intro ht; clear_value t); on_goal 2 => try unfold t)
    | fail_if_no_progress extract_lets +onlyGivenNames t | with_reducible apply State.event_keeps
    | with_reducible apply State.modLedger_keeps | with_reducible apply State.modSink_keeps
    | with_reducible apply State.shedFeeder_keeps | with_reducible apply State.shedRail_keeps
    | (generalize hu : State.mk .. = u; refine (?_ : State.Keeps strict s0 u → _) (.mk_eq hu ?_); clear hu) | split
    | with_reducible refine State.Keeps.of_pair (by assumption) ?_ | with_reducible refine State.Keeps.of_triple (by assumption) ?_
    | dsimp only

theorem State.restoreSink_keeps {strict : Bool} {s0 s : State} (h : s0.Keeps strict s) (x : SinkNo) :
    s0.Keeps strict (State.restoreSink x s) := by
  unfold State.restoreSink
  repeat' first
    | with_reducible assumption | intro _ | ((fail_if_no_progress extract_lets +onlyGivenNames t); refine (?_ : State.Keeps strict s0 t → _) ?_; (on_goal 1 => intro ht; clear_value t); on_goal 2 => try unfold t)
    | fail_if_no_progress extract_lets +onlyGivenNames t | with_reducible apply State.event_keeps
    | with_reducible apply State.modLedger_keeps | with_reducible apply State.modSink_keeps
    | with_reducible apply State.restoreFeeder_keeps | with_reducible apply State.restoreRail_keeps
    | (generalize hu : State.mk .. = u; refine (?_ : State.Keeps strict s0 u → _) (.mk_eq hu ?_); clear hu) | split
    | with_reducible refine State.Keeps.of_pair (by assumption) ?_ | with_reducible refine State.Keeps.of_triple (by assumption) ?_
    | dsimp only

theorem State.modBoth_keeps {strict : Bool} {s0 s : State} (h : s0.Keeps strict s) (g : GrantNo) (f : Grant → Grant) :
    s0.Keeps strict (State.modBoth s g f) := by
  unfold State.modBoth
  repeat' first
    | with_reducible assumption | intro _ | ((fail_if_no_progress extract_lets +onlyGivenNames t); refine (?_ : State.Keeps strict s0 t → _) ?_; (on_goal 1 => intro ht; clear_value t); on_goal 2 => try unfold t)
    | fail_if_no_progress extract_lets +onlyGivenNames t | with_reducible apply State.modLedger_keeps
    | (generalize hu : State.mk .. = u; refine (?_ : State.Keeps strict s0 u → _) (.mk_eq hu ?_); clear hu) | split | dsimp only

theorem State.capFell_keeps {strict : Bool} {s0 s : State} (h : s0.Keeps strict s) (x : SinkNo) :
    s0.Keeps strict (State.capFell x s) := by
  unfold State.capFell
  repeat' first
    | with_reducible assumption | intro _ | ((fail_if_no_progress extract_lets +onlyGivenNames t); refine (?_ : State.Keeps strict s0 t → _) ?_; (on_goal 1 => intro ht; clear_value t); on_goal 2 => try unfold t)
    | fail_if_no_progress extract_lets +onlyGivenNames t | with_reducible apply State.modSink_keeps
    | with_reducible apply State.throttle_keeps
    | (generalize hu : State.mk .. = u; refine (?_ : State.Keeps strict s0 u → _) (.mk_eq hu ?_); clear hu) | split | dsimp only

theorem State.grantEnded_keeps {strict : Bool} {s0 s : State} (h : s0.Keeps strict s) (g : GrantNo) (q : Grant) (cause : Nat) :
    s0.Keeps strict (State.grantEnded g q cause s) := by
  unfold State.grantEnded
  repeat' first
    | with_reducible assumption | intro _ | ((fail_if_no_progress extract_lets +onlyGivenNames t); refine (?_ : State.Keeps strict s0 t → _) ?_; (on_goal 1 => intro ht; clear_value t); on_goal 2 => try unfold t)
    | fail_if_no_progress extract_lets +onlyGivenNames t | with_reducible apply State.capFell_keeps
    | with_reducible apply State.event_keeps | with_reducible apply State.over_keeps
    | (generalize hu : State.mk .. = u; refine (?_ : State.Keeps strict s0 u → _) (.mk_eq hu ?_); clear hu) | split | dsimp only

theorem State.endGrant_keeps {strict : Bool} {s0 s : State} (h : s0.Keeps strict s) (g : GrantNo) (cause : Nat) :
    s0.Keeps strict (State.endGrant g cause s) := by
  unfold State.endGrant
  repeat' first
    | with_reducible assumption | intro _ | ((fail_if_no_progress extract_lets +onlyGivenNames t); refine (?_ : State.Keeps strict s0 t → _) ?_; (on_goal 1 => intro ht; clear_value t); on_goal 2 => try unfold t)
    | fail_if_no_progress extract_lets +onlyGivenNames t | with_reducible apply State.grantEnded_keeps
    | with_reducible apply State.modBoth_keeps | with_reducible apply State.modLedger_keeps
    | (generalize hu : State.mk .. = u; refine (?_ : State.Keeps strict s0 u → _) (.mk_eq hu ?_); clear hu) | split | dsimp only

theorem State.endGrants_keeps {strict : Bool} {s0 s : State} (h : s0.Keeps strict s) (p : Grant → Bool) (cause : Nat) :
    s0.Keeps strict (State.endGrants p cause s) := by
  unfold State.endGrants
  repeat' first
    | with_reducible assumption | intro _ | ((fail_if_no_progress extract_lets +onlyGivenNames t); refine (?_ : State.Keeps strict s0 t → _) ?_; (on_goal 1 => intro ht; clear_value t); on_goal 2 => try unfold t)
    | fail_if_no_progress extract_lets +onlyGivenNames t | with_reducible apply State.endGrant_keeps
    | with_reducible apply State.over_keeps
    | (generalize hu : State.mk .. = u; refine (?_ : State.Keeps strict s0 u → _) (.mk_eq hu ?_); clear hu) | split | dsimp only

theorem State.breakSink_keeps {strict : Bool} {s0 s : State} (h : s0.Keeps strict s) (x : SinkNo) :
    s0.Keeps strict (State.breakSink x s) := by
  unfold State.breakSink
  repeat' first
    | with_reducible assumption | intro _ | ((fail_if_no_progress extract_lets +onlyGivenNames t); refine (?_ : State.Keeps strict s0 t → _) ?_; (on_goal 1 => intro ht; clear_value t); on_goal 2 => try unfold t)
    | fail_if_no_progress extract_lets +onlyGivenNames t | with_reducible apply State.endGrants_keeps
    | with_reducible apply State.modSink_keeps
    | (generalize hu : State.mk .. = u; refine (?_ : State.Keeps strict s0 u → _) (.mk_eq hu ?_); clear hu) | split | dsimp only

theorem State.releaseGrants_keeps {strict : Bool} {s0 s : State} (h0 : s0.Keeps strict s) (h : HostNo) :
    s0.Keeps strict (State.releaseGrants h s) := by
  unfold State.releaseGrants
  repeat' first
    | with_reducible assumption | intro _ | ((fail_if_no_progress extract_lets +onlyGivenNames t); refine (?_ : State.Keeps strict s0 t → _) ?_; (on_goal 1 => intro ht; clear_value t); on_goal 2 => try unfold t)
    | fail_if_no_progress extract_lets +onlyGivenNames t | with_reducible apply State.each_keeps
    | with_reducible apply State.endGrants_keeps | with_reducible apply State.modBoth_keeps
    | with_reducible apply State.modLedger_keeps
    | (generalize hu : State.mk .. = u; refine (?_ : State.Keeps strict s0 u → _) (.mk_eq hu ?_); clear hu) | split | dsimp only

theorem State.noticeGrant_keeps {strict : Bool} {s0 s : State} (h : s0.Keeps strict s) (g : GrantNo) :
    s0.Keeps strict (State.noticeGrant g s) := by
  unfold State.noticeGrant
  repeat' first
    | with_reducible assumption | intro _ | ((fail_if_no_progress extract_lets +onlyGivenNames t); refine (?_ : State.Keeps strict s0 t → _) ?_; (on_goal 1 => intro ht; clear_value t); on_goal 2 => try unfold t)
    | fail_if_no_progress extract_lets +onlyGivenNames t | with_reducible apply State.event_keeps
    | with_reducible apply State.modBoth_keeps | with_reducible apply State.over_keeps | with_reducible apply State.throttle_keeps
    | (generalize hu : State.mk .. = u; refine (?_ : State.Keeps strict s0 u → _) (.mk_eq hu ?_); clear hu) | split | dsimp only

theorem State.noticeSink_keeps {strict : Bool} {s0 s : State} (h : s0.Keeps strict s) (x : SinkNo) (cause : Nat) :
    s0.Keeps strict (State.noticeSink x cause s) := by
  unfold State.noticeSink
  repeat' first
    | with_reducible assumption | intro _ | ((fail_if_no_progress extract_lets +onlyGivenNames t); refine (?_ : State.Keeps strict s0 t → _) ?_; (on_goal 1 => intro ht; clear_value t); on_goal 2 => try unfold t)
    | fail_if_no_progress extract_lets +onlyGivenNames t | with_reducible apply State.event_keeps
    | with_reducible apply State.modSink_keeps | with_reducible apply State.throttle_keeps
    | (generalize hu : State.mk .. = u; refine (?_ : State.Keeps strict s0 u → _) (.mk_eq hu ?_); clear hu) | split | dsimp only

theorem State.noticeItem_keeps {strict : Bool} {s0 s : State} (h : s0.Keeps strict s) (cause : Nat) (i : NoticeItem) :
    s0.Keeps strict (State.noticeItem cause i s) := by
  unfold State.noticeItem
  repeat' first
    | with_reducible assumption | intro _ | ((fail_if_no_progress extract_lets +onlyGivenNames t); refine (?_ : State.Keeps strict s0 t → _) ?_; (on_goal 1 => intro ht; clear_value t); on_goal 2 => try unfold t)
    | fail_if_no_progress extract_lets +onlyGivenNames t | with_reducible apply State.noticeGrant_keeps
    | with_reducible apply State.noticeSink_keeps
    | (generalize hu : State.mk .. = u; refine (?_ : State.Keeps strict s0 u → _) (.mk_eq hu ?_); clear hu) | split
    | with_reducible refine State.Keeps.of_pair (by assumption) ?_ | with_reducible refine State.Keeps.of_triple (by assumption) ?_
    | dsimp only

theorem State.noticeUntil_keeps (base margin : Int) (is : List NoticeItem) {strict : Bool} {s0 s : State} (h : s0.Keeps strict s) : s0.Keeps strict (State.noticeUntil base margin is s) := by
  induction is generalizing s with
  | nil => exact h
  | cons i r ih =>
    unfold State.noticeUntil
    split
    · exact ih (State.noticeItem_keeps h _ _)
    · exact h

theorem State.withdrawNotices_keeps {strict : Bool} {s0 s : State} (h : s0.Keeps strict s) : s0.Keeps strict s.withdrawNotices := by
  unfold State.withdrawNotices
  split
  · refine State.event_keeps (State.each_keeps (State.each_keeps h fun g t ht => State.modBoth_keeps ht _ _) fun x t ht => ?_) _ _ _ _
    have hu := State.modSink_keeps ht x fun k => { k with notice := 0, noticeMs := 0 }
    split
    · exact ht
    · generalize t.modSink x _ = u at hu ⊢
      dsimp only
      split
      · exact State.dropThrottle_keeps hu _
      · exact hu
  · exact h

theorem State.lifelineRisk_keeps {strict : Bool} {s0 s : State} (h : s0.Keeps strict s) :
    s0.Keeps strict (State.lifelineRisk s) := by
  unfold State.lifelineRisk
  repeat' first
    | with_reducible assumption | intro _ | ((fail_if_no_progress extract_lets +onlyGivenNames t); refine (?_ : State.Keeps strict s0 t → _) ?_; (on_goal 1 => intro ht; clear_value t); on_goal 2 => try unfold t)
    | fail_if_no_progress extract_lets +onlyGivenNames t | with_reducible apply State.emcy_keeps
    | with_reducible apply State.event_keeps | with_reducible apply State.modLedger_keeps
    | (generalize hu : State.mk .. = u; refine (?_ : State.Keeps strict s0 u → _) (.mk_eq hu ?_); clear hu) | split | dsimp only

theorem execGrantExpiry_keeps {strict : Bool} {s0 s : State} (h : s0.Keeps strict s) (g : GrantNo) :
    ∃ t, (execGrantExpiry g s) = .next t ∧ s0.Keeps strict t := by
  unfold execGrantExpiry
  repeat' first
    | with_reducible assumption | intro _ | ((fail_if_no_progress extract_lets +onlyGivenNames t); refine (?_ : State.Keeps strict s0 t → _) ?_; (on_goal 1 => intro ht; clear_value t); on_goal 2 => try unfold t)
    | fail_if_no_progress extract_lets +onlyGivenNames t | with_reducible refine ⟨_, rfl, ?_⟩
    | with_reducible apply State.endGrant_keeps
    | (generalize hu : State.mk .. = u; refine (?_ : State.Keeps strict s0 u → _) (.mk_eq hu ?_); clear hu) | split | dsimp only

theorem execNoticeExpiry_keeps {strict : Bool} {s0 s : State} (h : s0.Keeps strict s) (what : NoticeItem) :
    ∃ t, (execNoticeExpiry what s) = .next t ∧ s0.Keeps strict t := by
  unfold execNoticeExpiry
  repeat' first
    | with_reducible assumption | intro _ | ((fail_if_no_progress extract_lets +onlyGivenNames t); refine (?_ : State.Keeps strict s0 t → _) ?_; (on_goal 1 => intro ht; clear_value t); on_goal 2 => try unfold t)
    | fail_if_no_progress extract_lets +onlyGivenNames t | with_reducible refine ⟨_, rfl, ?_⟩
    | with_reducible apply State.endGrant_keeps | with_reducible apply State.lifelineRisk_keeps
    | with_reducible apply State.over_keeps | with_reducible apply State.shedSink_keeps | with_reducible apply State.throttle_keeps
    | (generalize hu : State.mk .. = u; refine (?_ : State.Keeps strict s0 u → _) (.mk_eq hu ?_); clear hu) | split
    | with_reducible refine State.Keeps.of_pair (by assumption) ?_ | with_reducible refine State.Keeps.of_triple (by assumption) ?_
    | dsimp only

theorem execThrottleOverCap_keeps {strict : Bool} {s0 s : State} (h : s0.Keeps strict s) (x : SinkNo) :
    ∃ t, (execThrottleOverCap x s) = .next t ∧ s0.Keeps strict t := by
  unfold execThrottleOverCap
  repeat' first
    | with_reducible assumption | intro _ | ((fail_if_no_progress extract_lets +onlyGivenNames t); refine (?_ : State.Keeps strict s0 t → _) ?_; (on_goal 1 => intro ht; clear_value t); on_goal 2 => try unfold t)
    | fail_if_no_progress extract_lets +onlyGivenNames t | with_reducible refine ⟨_, rfl, ?_⟩
    | with_reducible apply State.throttle_keeps
    | (generalize hu : State.mk .. = u; refine (?_ : State.Keeps strict s0 u → _) (.mk_eq hu ?_); clear hu) | split | dsimp only

theorem execThrottleEnforce_keeps {strict : Bool} {s0 s : State} (h : s0.Keeps strict s) (x : SinkNo) :
    ∃ t, (execThrottleEnforce x s) = .next t ∧ s0.Keeps strict t := by
  unfold execThrottleEnforce
  repeat' first
    | with_reducible assumption | intro _ | ((fail_if_no_progress extract_lets +onlyGivenNames t); refine (?_ : State.Keeps strict s0 t → _) ?_; (on_goal 1 => intro ht; clear_value t); on_goal 2 => try unfold t)
    | fail_if_no_progress extract_lets +onlyGivenNames t | with_reducible refine ⟨_, rfl, ?_⟩
    | with_reducible apply State.event_keeps | with_reducible apply State.shedSink_keeps | with_reducible apply State.throttle_keeps
    | (generalize hu : State.mk .. = u; refine (?_ : State.Keeps strict s0 u → _) (.mk_eq hu ?_); clear hu) | split | dsimp only

theorem execSinkRestore_keeps {strict : Bool} {s0 s : State} (h : s0.Keeps strict s) (x : SinkNo) :
    ∃ t, (execSinkRestore x s) = .next t ∧ s0.Keeps strict t := by
  unfold execSinkRestore
  repeat' first
    | with_reducible assumption | intro _ | ((fail_if_no_progress extract_lets +onlyGivenNames t); refine (?_ : State.Keeps strict s0 t → _) ?_; (on_goal 1 => intro ht; clear_value t); on_goal 2 => try unfold t)
    | fail_if_no_progress extract_lets +onlyGivenNames t | with_reducible refine ⟨_, rfl, ?_⟩
    | with_reducible apply State.modLedger_keeps | with_reducible apply State.restoreSink_keeps
    | (generalize hu : State.mk .. = u; refine (?_ : State.Keeps strict s0 u → _) (.mk_eq hu ?_); clear hu) | split | dsimp only

theorem writeGrantRequest_keeps {strict : Bool} {s0 s : State} (h0 : s0.Keeps strict s) (h : HostNo) (port : Option TwNo) (b : Bytes) :
    s0.Keeps strict (writeGrantRequest h port b s).2 := by
  unfold writeGrantRequest
  repeat' first
    | with_reducible assumption | intro _ | ((fail_if_no_progress extract_lets +onlyGivenNames t); refine (?_ : State.Keeps strict s0 t → _) ?_; (on_goal 1 => intro ht; clear_value t); on_goal 2 => try unfold t)
    | fail_if_no_progress extract_lets +onlyGivenNames t | with_reducible apply State.fresh_keeps
    | with_reducible apply State.modHost_keeps | with_reducible apply State.modLedger_keeps
    | (generalize hu : State.mk .. = u; refine (?_ : State.Keeps strict s0 u → _) (.mk_eq hu ?_); clear hu) | split
    | with_reducible refine State.Keeps.of_pair (by assumption) ?_ | with_reducible refine State.Keeps.of_triple (by assumption) ?_
    | dsimp only

/-! Machine/LedgerTick.lean. -/

theorem State.install_keeps {strict : Bool} {s0 s : State} (h : s0.Keeps strict s) (g : GrantNo) (fresh : Bool) (q : Latched) :
    s0.Keeps strict (State.install g fresh q s) := by
  unfold State.install
  repeat' first
    | with_reducible assumption | intro _ | ((fail_if_no_progress extract_lets +onlyGivenNames t); refine (?_ : State.Keeps strict s0 t → _) ?_; (on_goal 1 => intro ht; clear_value t); on_goal 2 => try unfold t)
    | fail_if_no_progress extract_lets +onlyGivenNames t | with_reducible apply State.event_keeps
    | with_reducible apply State.modLedger_keeps
    | (generalize hu : State.mk .. = u; refine (?_ : State.Keeps strict s0 u → _) (.mk_eq hu ?_); clear hu) | split | dsimp only

theorem State.cancel_keeps {strict : Bool} {s0 s : State} (h : s0.Keeps strict s) (g : GrantNo) :
    s0.Keeps strict (State.cancel g s) := by
  unfold State.cancel
  repeat' first
    | with_reducible assumption | intro _ | ((fail_if_no_progress extract_lets +onlyGivenNames t); refine (?_ : State.Keeps strict s0 t → _) ?_; (on_goal 1 => intro ht; clear_value t); on_goal 2 => try unfold t)
    | fail_if_no_progress extract_lets +onlyGivenNames t | with_reducible apply State.modLedger_keeps
    | (generalize hu : State.mk .. = u; refine (?_ : State.Keeps strict s0 u → _) (.mk_eq hu ?_); clear hu) | split | dsimp only

theorem State.decideGrant_keeps {strict : Bool} {s0 s : State} (h : s0.Keeps strict s) (q : Latched) (hr : Int) : s0.Keeps strict (State.decideGrant q hr s).2 := by
  unfold State.decideGrant
  extract_lets r no row
  have hn : ∀ a b, s0.Keeps strict (no a b).2 := fun _ _ => h
  clear_value no row
  repeat' first
    | with_reducible exact hn _ _ | with_reducible exact State.endGrant_keeps h _ _ | with_reducible exact State.install_keeps h _ _ _
    | with_reducible exact State.cancel_keeps h _ | (fail_if_no_progress extract_lets) | split | dsimp only

theorem State.decideAll_keeps (qs : List Latched) (hr : Int) {strict : Bool} {s0 s : State} (h : s0.Keeps strict s) : s0.Keeps strict (State.decideAll qs hr s).2 := by
  induction qs generalizing hr s with
  | nil => exact h
  | cons q r ih =>
    unfold State.decideAll
    have hd := State.decideGrant_keeps h q hr
    generalize State.decideGrant q hr s = p at hd ⊢
    obtain ⟨d, t⟩ := p
    dsimp only at hd ⊢
    refine ih _ (State.modLedger_keeps ?_ _)
    split
    · exact hd
    · exact State.event_keeps hd _ _ _ _

theorem State.noticeClass_keeps {strict : Bool} {s0 s : State} (h : s0.Keeps strict s) (c : Nat) :
    s0.Keeps strict (State.noticeClass c s) := by
  unfold State.noticeClass
  repeat' first
    | with_reducible assumption | intro _ | ((fail_if_no_progress extract_lets +onlyGivenNames t); refine (?_ : State.Keeps strict s0 t → _) ?_; (on_goal 1 => intro ht; clear_value t); on_goal 2 => try unfold t)
    | fail_if_no_progress extract_lets +onlyGivenNames t | with_reducible apply State.noticeGrant_keeps
    | with_reducible apply State.noticeSink_keeps | with_reducible apply State.over_keeps
    | (generalize hu : State.mk .. = u; refine (?_ : State.Keeps strict s0 u → _) (.mk_eq hu ?_); clear hu) | split | dsimp only

theorem State.holdupPlan_keeps {strict : Bool} {s0 s : State} (h : s0.Keeps strict s) :
    s0.Keeps strict (State.holdupPlan s) := by
  unfold State.holdupPlan
  repeat' first
    | with_reducible assumption | intro _ | ((fail_if_no_progress extract_lets +onlyGivenNames t); refine (?_ : State.Keeps strict s0 t → _) ?_; (on_goal 1 => intro ht; clear_value t); on_goal 2 => try unfold t)
    | fail_if_no_progress extract_lets +onlyGivenNames t | with_reducible apply State.noticeClass_keeps
    | (generalize hu : State.mk .. = u; refine (?_ : State.Keeps strict s0 u → _) (.mk_eq hu ?_); clear hu) | split
    | with_reducible refine State.Keeps.of_pair (by assumption) ?_ | with_reducible refine State.Keeps.of_triple (by assumption) ?_
    | dsimp only

theorem State.useReservations_keeps {strict : Bool} {s0 s : State} (h : s0.Keeps strict s) :
    s0.Keeps strict (State.useReservations s) := by
  unfold State.useReservations
  repeat' first
    | with_reducible assumption | intro _ | ((fail_if_no_progress extract_lets +onlyGivenNames t); refine (?_ : State.Keeps strict s0 t → _) ?_; (on_goal 1 => intro ht; clear_value t); on_goal 2 => try unfold t)
    | fail_if_no_progress extract_lets +onlyGivenNames t | with_reducible apply State.each_keeps
    | with_reducible apply State.modBoth_keeps
    | (generalize hu : State.mk .. = u; refine (?_ : State.Keeps strict s0 u → _) (.mk_eq hu ?_); clear hu) | split
    | with_reducible refine State.Keeps.of_pair (by assumption) ?_ | with_reducible refine State.Keeps.of_triple (by assumption) ?_
    | dsimp only

theorem State.tickNotices_keeps {strict : Bool} {s0 s : State} (h : s0.Keeps strict s) (base : Int) : s0.Keeps strict (State.tickNotices base s) := by
  unfold State.tickNotices
  extract_lets lifeline ended t u margin
  have ht : s0.Keeps strict t := State.modLedger_keeps h _
  have hu : s0.Keeps strict u := by
    unfold u
    split
    · exact State.withdrawNotices_keeps ht
    · exact ht
  repeat' split
  · exact State.over_keeps hu (fun i v hv => State.noticeItem_keeps hv _ _) _
  · exact State.withdrawNotices_keeps hu
  · exact State.noticeUntil_keeps _ _ _ hu
  · exact hu

theorem State.ledgerClock_keeps {strict : Bool} {s0 s : State} (h : s0.Keeps strict s) :
    s0.Keeps strict (State.ledgerClock s) := by
  unfold State.ledgerClock
  repeat' first
    | with_reducible assumption | intro _ | ((fail_if_no_progress extract_lets +onlyGivenNames t); refine (?_ : State.Keeps strict s0 t → _) ?_; (on_goal 1 => intro ht; clear_value t); on_goal 2 => try unfold t)
    | fail_if_no_progress extract_lets +onlyGivenNames t | with_reducible apply State.modLedger_keeps
    | (generalize hu : State.mk .. = u; refine (?_ : State.Keeps strict s0 u → _) (.mk_eq hu ?_); clear hu) | split | dsimp only

theorem State.swapHalves_keeps {strict : Bool} {s0 s : State} (h : s0.Keeps strict s) :
    s0.Keeps strict (State.swapHalves s) := by
  unfold State.swapHalves
  repeat' first
    | with_reducible assumption | intro _ | ((fail_if_no_progress extract_lets +onlyGivenNames t); refine (?_ : State.Keeps strict s0 t → _) ?_; (on_goal 1 => intro ht; clear_value t); on_goal 2 => try unfold t)
    | fail_if_no_progress extract_lets +onlyGivenNames t | with_reducible apply State.grantEnded_keeps
    | with_reducible apply State.modLedger_keeps | with_reducible apply State.over_keeps
    | (generalize hu : State.mk .. = u; refine (?_ : State.Keeps strict s0 u → _) (.mk_eq hu ?_); clear hu) | split | dsimp only

theorem State.giveResults_keeps {strict : Bool} {s0 s : State} (h : s0.Keeps strict s) :
    s0.Keeps strict (State.giveResults s) := by
  unfold State.giveResults
  repeat' first
    | with_reducible assumption | intro _ | ((fail_if_no_progress extract_lets +onlyGivenNames t); refine (?_ : State.Keeps strict s0 t → _) ?_; (on_goal 1 => intro ht; clear_value t); on_goal 2 => try unfold t)
    | fail_if_no_progress extract_lets +onlyGivenNames t | with_reducible apply State.modHost_keeps
    | with_reducible apply State.modLedger_keeps | with_reducible apply State.modTw_keeps | with_reducible apply State.over_keeps
    | (generalize hu : State.mk .. = u; refine (?_ : State.Keeps strict s0 u → _) (.mk_eq hu ?_); clear hu) | split
    | with_reducible refine State.Keeps.of_pair (by assumption) ?_ | with_reducible refine State.Keeps.of_triple (by assumption) ?_
    | dsimp only

theorem State.bookSinks_keeps {strict : Bool} {s0 s : State} (h : s0.Keeps strict s) :
    s0.Keeps strict (State.bookSinks s) := by
  unfold State.bookSinks
  repeat' first
    | with_reducible assumption | intro _ | ((fail_if_no_progress extract_lets +onlyGivenNames t); refine (?_ : State.Keeps strict s0 t → _) ?_; (on_goal 1 => intro ht; clear_value t); on_goal 2 => try unfold t)
    | fail_if_no_progress extract_lets +onlyGivenNames t | with_reducible apply State.each_keeps
    | with_reducible apply State.modSink_keeps
    | (generalize hu : State.mk .. = u; refine (?_ : State.Keeps strict s0 u → _) (.mk_eq hu ?_); clear hu) | split | dsimp only

theorem State.ownUseCheck_keeps {strict : Bool} {s0 s : State} (h : s0.Keeps strict s) :
    s0.Keeps strict (State.ownUseCheck s) := by
  unfold State.ownUseCheck
  repeat' first
    | with_reducible assumption | intro _ | ((fail_if_no_progress extract_lets +onlyGivenNames t); refine (?_ : State.Keeps strict s0 t → _) ?_; (on_goal 1 => intro ht; clear_value t); on_goal 2 => try unfold t)
    | fail_if_no_progress extract_lets +onlyGivenNames t | with_reducible apply State.event_keeps
    | with_reducible apply State.modLedger_keeps
    | (generalize hu : State.mk .. = u; refine (?_ : State.Keeps strict s0 u → _) (.mk_eq hu ?_); clear hu) | split | dsimp only

theorem State.writeResults_keeps {strict : Bool} {s0 s : State} (h0 : s0.Keeps strict s) (booked h : Int) :
    s0.Keeps strict (State.writeResults booked h s) := by
  unfold State.writeResults
  repeat' first
    | with_reducible assumption | intro _ | ((fail_if_no_progress extract_lets +onlyGivenNames t); refine (?_ : State.Keeps strict s0 t → _) ?_; (on_goal 1 => intro ht; clear_value t); on_goal 2 => try unfold t)
    | fail_if_no_progress extract_lets +onlyGivenNames t | with_reducible apply State.event_keeps
    | with_reducible apply State.modLedger_keeps
    | (generalize hu : State.mk .. = u; refine (?_ : State.Keeps strict s0 u → _) (.mk_eq hu ?_); clear hu) | split | dsimp only

theorem State.decideLatched_keeps {strict : Bool} {s0 s : State} (h0 : s0.Keeps strict s) (h : Int) :
    s0.Keeps strict (State.decideLatched h s).2 := by
  unfold State.decideLatched
  repeat' first
    | with_reducible assumption | intro _ | ((fail_if_no_progress extract_lets +onlyGivenNames t); refine (?_ : State.Keeps strict s0 t → _) ?_; (on_goal 1 => intro ht; clear_value t); on_goal 2 => try unfold t)
    | fail_if_no_progress extract_lets +onlyGivenNames t | with_reducible apply State.decideAll_keeps
    | with_reducible apply State.modLedger_keeps
    | (generalize hu : State.mk .. = u; refine (?_ : State.Keeps strict s0 u → _) (.mk_eq hu ?_); clear hu) | split | dsimp only

theorem State.ledgerWork_keeps {strict : Bool} {s0 s : State} (h : s0.Keeps strict s) :
    s0.Keeps strict (State.ledgerWork s) := by
  unfold State.ledgerWork
  extract_lets t booked hr u r v w
  have hu : s0.Keeps strict u := State.tickNotices_keeps (State.each_keeps (State.bookSinks_keeps h) fun x v hv => State.breakSink_keeps hv x) _
  clear_value u
  have hv : s0.Keeps strict v := by
    unfold v r
    split
    · exact hu
    · exact State.decideLatched_keeps hu _
  clear_value v
  have hw : s0.Keeps strict w := by
    unfold w
    split
    · with_reducible exact State.modLedger_keeps (State.useReservations_keeps (State.lifelineRisk_keeps (State.holdupPlan_keeps hv))) _
    · with_reducible exact hv
  clear_value w
  with_reducible exact State.ownUseCheck_keeps (State.writeResults_keeps (State.each_keeps hw fun x z hz => State.clearThrottle_keeps hz x) _ _)

theorem State.ledgerTick_keeps {strict : Bool} {s0 s : State} (h : s0.Keeps strict s) : s0.Keeps strict s.ledgerTick := by
  unfold State.ledgerTick
  split
  · exact h
  · refine State.modLedger_keeps ?_ _
    split
    · exact State.decideLatched_keeps h _
    · exact State.ledgerWork_keeps h

/-! Machine/Battery.lean. -/

theorem State.setBlvd_keeps {strict : Bool} {s0 s : State} (h : s0.Keeps strict s) (n : StringNo) (high : Bool) :
    s0.Keeps strict (State.setBlvd n high s) := by
  unfold State.setBlvd
  repeat' first
    | with_reducible assumption | intro _ | ((fail_if_no_progress extract_lets +onlyGivenNames t); refine (?_ : State.Keeps strict s0 t → _) ?_; (on_goal 1 => intro ht; clear_value t); on_goal 2 => try unfold t)
    | fail_if_no_progress extract_lets +onlyGivenNames t | with_reducible apply State.modPins_keeps
    | (generalize hu : State.mk .. = u; refine (?_ : State.Keeps strict s0 u → _) (.mk_eq hu ?_); clear hu) | split | dsimp only

theorem State.becomePresent_keeps {strict : Bool} {s0 s : State} (h : s0.Keeps strict s) (n : StringNo) :
    s0.Keeps strict (State.becomePresent n s) := by
  unfold State.becomePresent
  repeat' first
    | with_reducible assumption | intro _ | ((fail_if_no_progress extract_lets +onlyGivenNames t); refine (?_ : State.Keeps strict s0 t → _) ?_; (on_goal 1 => intro ht; clear_value t); on_goal 2 => try unfold t)
    | fail_if_no_progress extract_lets +onlyGivenNames t | with_reducible apply State.event_keeps
    | with_reducible apply State.modString_keeps
    | (generalize hu : State.mk .. = u; refine (?_ : State.Keeps strict s0 u → _) (.mk_eq hu ?_); clear hu) | split | dsimp only

theorem State.becomeGone_keeps {strict : Bool} {s0 s : State} (h : s0.Keeps strict s) (n : StringNo) :
    s0.Keeps strict (State.becomeGone n s) := by
  unfold State.becomeGone
  repeat' first
    | with_reducible assumption | intro _ | ((fail_if_no_progress extract_lets +onlyGivenNames t); refine (?_ : State.Keeps strict s0 t → _) ?_; (on_goal 1 => intro ht; clear_value t); on_goal 2 => try unfold t)
    | fail_if_no_progress extract_lets +onlyGivenNames t | with_reducible apply State.modString_keeps
    | (generalize hu : State.mk .. = u; refine (?_ : State.Keeps strict s0 u → _) (.mk_eq hu ?_); clear hu) | split | dsimp only

theorem State.disconnect_keeps {strict : Bool} {s0 s : State} (h : s0.Keeps strict s) (n : StringNo) (cause : Nat) (st : StringState) :
    s0.Keeps strict (State.disconnect n cause st s) := by
  unfold State.disconnect
  repeat' first
    | with_reducible assumption | intro _ | ((fail_if_no_progress extract_lets +onlyGivenNames t); refine (?_ : State.Keeps strict s0 t → _) ?_; (on_goal 1 => intro ht; clear_value t); on_goal 2 => try unfold t)
    | fail_if_no_progress extract_lets +onlyGivenNames t | with_reducible apply State.event_keeps
    | with_reducible apply State.modString_keeps | with_reducible apply State.setBlvd_keeps
    | (generalize hu : State.mk .. = u; refine (?_ : State.Keeps strict s0 u → _) (.mk_eq hu ?_); clear hu) | split | dsimp only

theorem execStringAbsent_keeps {strict : Bool} {s0 s : State} (h : s0.Keeps strict s) (n : StringNo) :
    ∃ t, (execStringAbsent n s) = .next t ∧ s0.Keeps strict t := by
  unfold execStringAbsent
  repeat' first
    | with_reducible assumption | intro _ | ((fail_if_no_progress extract_lets +onlyGivenNames t); refine (?_ : State.Keeps strict s0 t → _) ?_; (on_goal 1 => intro ht; clear_value t); on_goal 2 => try unfold t)
    | fail_if_no_progress extract_lets +onlyGivenNames t | with_reducible refine ⟨_, rfl, ?_⟩
    | with_reducible apply State.disconnect_keeps | with_reducible apply State.event_keeps
    | with_reducible apply State.modString_keeps
    | (generalize hu : State.mk .. = u; refine (?_ : State.Keeps strict s0 u → _) (.mk_eq hu ?_); clear hu) | split | dsimp only

theorem execStringLvd_keeps {strict : Bool} {s0 s : State} (h : s0.Keeps strict s) (n : StringNo) :
    ∃ t, (execStringLvd n s) = .next t ∧ s0.Keeps strict t := by
  unfold execStringLvd
  repeat' first
    | with_reducible assumption | intro _ | ((fail_if_no_progress extract_lets +onlyGivenNames t); refine (?_ : State.Keeps strict s0 t → _) ?_; (on_goal 1 => intro ht; clear_value t); on_goal 2 => try unfold t)
    | fail_if_no_progress extract_lets +onlyGivenNames t | with_reducible refine ⟨_, rfl, ?_⟩
    | with_reducible apply State.disconnect_keeps
    | (generalize hu : State.mk .. = u; refine (?_ : State.Keeps strict s0 u → _) (.mk_eq hu ?_); clear hu) | split | dsimp only

theorem execStringBlockLimit_keeps {strict : Bool} {s0 s : State} (h : s0.Keeps strict s) (n : StringNo) :
    ∃ t, (execStringBlockLimit n s) = .next t ∧ s0.Keeps strict t := by
  unfold execStringBlockLimit
  repeat' first
    | with_reducible assumption | intro _ | ((fail_if_no_progress extract_lets +onlyGivenNames t); refine (?_ : State.Keeps strict s0 t → _) ?_; (on_goal 1 => intro ht; clear_value t); on_goal 2 => try unfold t)
    | fail_if_no_progress extract_lets +onlyGivenNames t | with_reducible refine ⟨_, rfl, ?_⟩
    | with_reducible apply State.disconnect_keeps | with_reducible apply State.event_keeps
    | (generalize hu : State.mk .. = u; refine (?_ : State.Keeps strict s0 u → _) (.mk_eq hu ?_); clear hu) | split | dsimp only

theorem State.bsvSample_keeps {strict : Bool} {s0 s : State} (h : s0.Keeps strict s) (n : StringNo) (code : BitVec 12) :
    s0.Keeps strict (State.bsvSample n code s) := by
  unfold State.bsvSample
  repeat' first
    | with_reducible assumption | intro _ | ((fail_if_no_progress extract_lets +onlyGivenNames t); refine (?_ : State.Keeps strict s0 t → _) ?_; (on_goal 1 => intro ht; clear_value t); on_goal 2 => try unfold t)
    | fail_if_no_progress extract_lets +onlyGivenNames t | with_reducible apply State.becomeGone_keeps
    | with_reducible apply State.becomePresent_keeps | with_reducible apply State.modString_keeps
    | (generalize hu : State.mk .. = u; refine (?_ : State.Keeps strict s0 u → _) (.mk_eq hu ?_); clear hu) | split | dsimp only

theorem State.stringCurrents_keeps {strict : Bool} {s0 s : State} (h : s0.Keeps strict s) :
    s0.Keeps strict (State.stringCurrents s) := by
  unfold State.stringCurrents
  repeat' first
    | with_reducible assumption | intro _ | ((fail_if_no_progress extract_lets +onlyGivenNames t); refine (?_ : State.Keeps strict s0 t → _) ?_; (on_goal 1 => intro ht; clear_value t); on_goal 2 => try unfold t)
    | fail_if_no_progress extract_lets +onlyGivenNames t | with_reducible apply State.each_keeps
    | with_reducible apply State.modString_keeps
    | (generalize hu : State.mk .. = u; refine (?_ : State.Keeps strict s0 u → _) (.mk_eq hu ?_); clear hu) | split | dsimp only

theorem State.factorEvent_keeps {strict : Bool} {s0 s : State} (h : s0.Keeps strict s) (code : Nat) (n : StringNo) (g : Fin 48) :
    s0.Keeps strict (State.factorEvent code n g s) := by
  unfold State.factorEvent
  repeat' first
    | with_reducible assumption | intro _ | ((fail_if_no_progress extract_lets +onlyGivenNames t); refine (?_ : State.Keeps strict s0 t → _) ?_; (on_goal 1 => intro ht; clear_value t); on_goal 2 => try unfold t)
    | fail_if_no_progress extract_lets +onlyGivenNames t | with_reducible apply State.event_keeps
    | (generalize hu : State.mk .. = u; refine (?_ : State.Keeps strict s0 u → _) (.mk_eq hu ?_); clear hu) | split | dsimp only

theorem State.judgeStep_keeps {strict : Bool} {s0 s : State} (h : s0.Keeps strict s) (n : StringNo) (k : KnownStep) :
    s0.Keeps strict (State.judgeStep n k s) := by
  unfold State.judgeStep
  repeat' first
    | with_reducible assumption | intro _ | ((fail_if_no_progress extract_lets +onlyGivenNames t); refine (?_ : State.Keeps strict s0 t → _) ?_; (on_goal 1 => intro ht; clear_value t); on_goal 2 => try unfold t)
    | fail_if_no_progress extract_lets +onlyGivenNames t | with_reducible apply State.factorEvent_keeps
    | with_reducible apply State.modString_keeps
    | (generalize hu : State.mk .. = u; refine (?_ : State.Keeps strict s0 u → _) (.mk_eq hu ?_); clear hu) | split
    | with_reducible refine State.Keeps.of_pair (by assumption) ?_ | with_reducible refine State.Keeps.of_triple (by assumption) ?_
    | dsimp only

theorem State.stepWindows_keeps {strict : Bool} {s0 s : State} (h : s0.Keeps strict s) (n : StringNo) (due : Bool) :
    s0.Keeps strict (State.stepWindows n due s) := by
  unfold State.stepWindows
  repeat' first
    | with_reducible assumption | intro _ | ((fail_if_no_progress extract_lets +onlyGivenNames t); refine (?_ : State.Keeps strict s0 t → _) ?_; (on_goal 1 => intro ht; clear_value t); on_goal 2 => try unfold t)
    | fail_if_no_progress extract_lets +onlyGivenNames t | with_reducible apply State.judgeStep_keeps
    | with_reducible apply State.modString_keeps | with_reducible apply State.over_keeps
    | (generalize hu : State.mk .. = u; refine (?_ : State.Keeps strict s0 u → _) (.mk_eq hu ?_); clear hu) | split | dsimp only

theorem State.reconnect_keeps {strict : Bool} {s0 s : State} (h : s0.Keeps strict s) (n : StringNo) :
    s0.Keeps strict (State.reconnect n s) := by
  unfold State.reconnect
  repeat' first
    | with_reducible assumption | intro _ | ((fail_if_no_progress extract_lets +onlyGivenNames t); refine (?_ : State.Keeps strict s0 t → _) ?_; (on_goal 1 => intro ht; clear_value t); on_goal 2 => try unfold t)
    | fail_if_no_progress extract_lets +onlyGivenNames t | with_reducible apply State.event_keeps
    | with_reducible apply State.modString_keeps | with_reducible apply State.setBlvd_keeps
    | (generalize hu : State.mk .. = u; refine (?_ : State.Keeps strict s0 u → _) (.mk_eq hu ?_); clear hu) | split | dsimp only

theorem State.stageTo_keeps {strict : Bool} {s0 s : State} (h : s0.Keeps strict s) (n : StringNo) (st : ChargeStage) (why : Nat) :
    s0.Keeps strict (State.stageTo n st why s) := by
  unfold State.stageTo
  repeat' first
    | with_reducible assumption | intro _ | ((fail_if_no_progress extract_lets +onlyGivenNames t); refine (?_ : State.Keeps strict s0 t → _) ?_; (on_goal 1 => intro ht; clear_value t); on_goal 2 => try unfold t)
    | fail_if_no_progress extract_lets +onlyGivenNames t | with_reducible apply State.event_keeps
    | with_reducible apply State.modString_keeps
    | (generalize hu : State.mk .. = u; refine (?_ : State.Keeps strict s0 u → _) (.mk_eq hu ?_); clear hu) | split | dsimp only

theorem State.endAbsorb_keeps {strict : Bool} {s0 s : State} (h : s0.Keeps strict s) (n : StringNo) :
    s0.Keeps strict (State.endAbsorb n s) := by
  unfold State.endAbsorb
  repeat' first
    | with_reducible assumption | intro _ | ((fail_if_no_progress extract_lets +onlyGivenNames t); refine (?_ : State.Keeps strict s0 t → _) ?_; (on_goal 1 => intro ht; clear_value t); on_goal 2 => try unfold t)
    | fail_if_no_progress extract_lets +onlyGivenNames t | with_reducible apply State.stageTo_keeps
    | (generalize hu : State.mk .. = u; refine (?_ : State.Keeps strict s0 u → _) (.mk_eq hu ?_); clear hu) | split | dsimp only

theorem State.chargeStage_keeps {strict : Bool} {s0 s : State} (h : s0.Keeps strict s) (n : StringNo) :
    s0.Keeps strict (State.chargeStage n s) := by
  unfold State.chargeStage
  repeat' first
    | with_reducible assumption | intro _ | ((fail_if_no_progress extract_lets +onlyGivenNames t); refine (?_ : State.Keeps strict s0 t → _) ?_; (on_goal 1 => intro ht; clear_value t); on_goal 2 => try unfold t)
    | fail_if_no_progress extract_lets +onlyGivenNames t | with_reducible apply State.endAbsorb_keeps
    | with_reducible apply State.stageTo_keeps
    | (generalize hu : State.mk .. = u; refine (?_ : State.Keeps strict s0 u → _) (.mk_eq hu ?_); clear hu) | split
    | with_reducible refine State.Keeps.of_pair (by assumption) ?_ | with_reducible refine State.Keeps.of_triple (by assumption) ?_
    | dsimp only

theorem State.steerTick_keeps {strict : Bool} {s0 s : State} (h : s0.Keeps strict s) :
    s0.Keeps strict (State.steerTick s) := by
  unfold State.steerTick
  repeat' first
    | with_reducible assumption | intro _ | ((fail_if_no_progress extract_lets +onlyGivenNames t); refine (?_ : State.Keeps strict s0 t → _) ?_; (on_goal 1 => intro ht; clear_value t); on_goal 2 => try unfold t)
    | fail_if_no_progress extract_lets +onlyGivenNames t | with_reducible apply State.each_keeps
    | with_reducible apply State.modString_keeps
    | (generalize hu : State.mk .. = u; refine (?_ : State.Keeps strict s0 u → _) (.mk_eq hu ?_); clear hu) | split | dsimp only

theorem State.setVoltage_keeps {strict : Bool} {s0 s : State} (h : s0.Keeps strict s) :
    s0.Keeps strict (State.setVoltage s) := by
  unfold State.setVoltage
  repeat' first
    | with_reducible assumption | intro _ | ((fail_if_no_progress extract_lets +onlyGivenNames t); refine (?_ : State.Keeps strict s0 t → _) ?_; (on_goal 1 => intro ht; clear_value t); on_goal 2 => try unfold t)
    | fail_if_no_progress extract_lets +onlyGivenNames t | with_reducible apply State.modBus_keeps
    | with_reducible apply State.modString_keeps
    | (generalize hu : State.mk .. = u; refine (?_ : State.Keeps strict s0 u → _) (.mk_eq hu ?_); clear hu) | split
    | with_reducible refine State.Keeps.of_pair (by assumption) ?_ | with_reducible refine State.Keeps.of_triple (by assumption) ?_
    | dsimp only

theorem State.batteryTick_keeps {strict : Bool} {s0 s : State} (h : s0.Keeps strict s) :
    s0.Keeps strict (State.batteryTick s) := by
  unfold State.batteryTick
  repeat' first
    | with_reducible assumption | intro _ | ((fail_if_no_progress extract_lets +onlyGivenNames t); refine (?_ : State.Keeps strict s0 t → _) ?_; (on_goal 1 => intro ht; clear_value t); on_goal 2 => try unfold t)
    | fail_if_no_progress extract_lets +onlyGivenNames t | with_reducible apply State.chargeStage_keeps
    | with_reducible apply State.each_keeps | with_reducible apply State.modLedger_keeps | with_reducible apply State.over_keeps
    | with_reducible apply State.reconnect_keeps | with_reducible apply State.setVoltage_keeps
    | with_reducible apply State.steerTick_keeps | with_reducible apply State.stepWindows_keeps
    | with_reducible apply State.stringCurrents_keeps
    | (generalize hu : State.mk .. = u; refine (?_ : State.Keeps strict s0 u → _) (.mk_eq hu ?_); clear hu) | split | dsimp only

theorem writeStringEnable_keeps {strict : Bool} {s0 s : State} (h : s0.Keeps strict s) (n : StringNo) (v : Nat) :
    s0.Keeps strict (writeStringEnable n v s).2 := by
  unfold writeStringEnable
  repeat' first
    | with_reducible assumption | intro _ | ((fail_if_no_progress extract_lets +onlyGivenNames t); refine (?_ : State.Keeps strict s0 t → _) ?_; (on_goal 1 => intro ht; clear_value t); on_goal 2 => try unfold t)
    | fail_if_no_progress extract_lets +onlyGivenNames t | with_reducible apply State.disconnect_keeps
    | with_reducible apply State.modString_keeps | with_reducible apply State.setWritten_keeps
    | (generalize hu : State.mk .. = u; refine (?_ : State.Keeps strict s0 u → _) (.mk_eq hu ?_); clear hu) | split | dsimp only

theorem writeStringClear_keeps {strict : Bool} {s0 s : State} (h : s0.Keeps strict s) (n : StringNo) (v : Nat) :
    s0.Keeps strict (writeStringClear n v s).2 := by
  unfold writeStringClear
  repeat' first
    | with_reducible assumption | intro _ | ((fail_if_no_progress extract_lets +onlyGivenNames t); refine (?_ : State.Keeps strict s0 t → _) ?_; (on_goal 1 => intro ht; clear_value t); on_goal 2 => try unfold t)
    | fail_if_no_progress extract_lets +onlyGivenNames t | with_reducible apply State.modString_keeps
    | (generalize hu : State.mk .. = u; refine (?_ : State.Keeps strict s0 u → _) (.mk_eq hu ?_); clear hu) | split | dsimp only

theorem writeRecordReset_keeps {strict : Bool} {s0 s : State} (h : s0.Keeps strict s) (n : StringNo) (v : Nat) :
    s0.Keeps strict (writeRecordReset n v s).2 := by
  unfold writeRecordReset
  repeat' first
    | with_reducible assumption | intro _ | ((fail_if_no_progress extract_lets +onlyGivenNames t); refine (?_ : State.Keeps strict s0 t → _) ?_; (on_goal 1 => intro ht; clear_value t); on_goal 2 => try unfold t)
    | fail_if_no_progress extract_lets +onlyGivenNames t | with_reducible apply State.modString_keeps
    | (generalize hu : State.mk .. = u; refine (?_ : State.Keeps strict s0 u → _) (.mk_eq hu ?_); clear hu) | split | dsimp only

/-! Machine/Estimator.lean. -/

theorem Dict.wf_append {a b : Dict} (n : Nat) (ha : Dict.wf a) (hb : Dict.wf b) (la : ∀ p ∈ a, p.1 < n) (lb : ∀ p ∈ b, n ≤ p.1) :
    Dict.wf (a ++ b) := by
  unfold Dict.wf at *
  rw [List.map_append, List.pairwise_append]
  refine ⟨ha, hb, fun x hx y hy => ?_⟩
  obtain ⟨p, hp, rfl⟩ := List.mem_map.1 hx
  obtain ⟨q, hq, rfl⟩ := List.mem_map.1 hy
  exact (la p hp).trans_le (lb q hq)

theorem State.adoptSpan_keeps {strict : Bool} {s0 s : State} (h : s0.Keeps strict s) (index lo hi : Nat) (hle : lo ≤ hi) : s0.Keeps strict (State.adoptSpan index lo hi s) := by
  unfold State.adoptSpan
  split
  · exact h
  · have hk : keyOf index lo ≤ keyOf index hi := by unfold keyOf; omega
    refine State.modDict_keeps h _ fun d c => ⟨c.1, ?_, c.2.2⟩
    refine Dict.wf_append (keyOf index hi + 1) (Dict.wf_append (keyOf index lo) (Dict.wf_filter _ c.2.1) (Dict.wf_filter _ c.1) ?_ ?_)
      (Dict.wf_filter _ c.2.1) ?_ ?_ <;> intro p hp
    · simpa using (List.mem_filter.1 hp).2
    · have := (List.mem_filter.1 hp).2
      simp only [decide_eq_true_eq] at this
      exact this.1
    · rcases List.mem_append.1 hp with hp | hp <;> have := (List.mem_filter.1 hp).2 <;> simp only [decide_eq_true_eq] at this <;> omega
    · have := (List.mem_filter.1 hp).2
      simp only [decide_eq_true_eq] at this
      omega

theorem State.estimatorAdopt_keeps {strict : Bool} {s0 s : State} (h : s0.Keeps strict s) (n : StringNo) :
    s0.Keeps strict (State.estimatorAdopt n s) := by
  unfold State.estimatorAdopt
  repeat' first
    | with_reducible assumption | intro _ | ((fail_if_no_progress extract_lets +onlyGivenNames t); refine (?_ : State.Keeps strict s0 t → _) ?_; (on_goal 1 => intro ht; clear_value t); on_goal 2 => try unfold t)
    | fail_if_no_progress extract_lets +onlyGivenNames t | with_reducible apply State.adoptSet_keeps
    | with_reducible refine State.adoptSpan_keeps ?_ _ _ _ (by omega) | with_reducible apply State.over_keeps
    | (generalize hu : State.mk .. = u; refine (?_ : State.Keeps strict s0 u → _) (.mk_eq hu ?_); clear hu) | split | dsimp only

theorem State.predict_keeps {strict : Bool} {s0 s : State} (h : s0.Keeps strict s) (n : StringNo) :
    s0.Keeps strict (State.predict n s) := by
  unfold State.predict
  repeat' first
    | with_reducible assumption | intro _ | ((fail_if_no_progress extract_lets +onlyGivenNames t); refine (?_ : State.Keeps strict s0 t → _) ?_; (on_goal 1 => intro ht; clear_value t); on_goal 2 => try unfold t)
    | fail_if_no_progress extract_lets +onlyGivenNames t | with_reducible apply State.modString_keeps
    | (generalize hu : State.mk .. = u; refine (?_ : State.Keeps strict s0 u → _) (.mk_eq hu ?_); clear hu) | split | dsimp only

theorem State.report_keeps {strict : Bool} {s0 s : State} (h : s0.Keeps strict s) (n : StringNo) :
    s0.Keeps strict (State.report n s) := by
  unfold State.report
  repeat' first
    | with_reducible assumption | intro _ | ((fail_if_no_progress extract_lets +onlyGivenNames t); refine (?_ : State.Keeps strict s0 t → _) ?_; (on_goal 1 => intro ht; clear_value t); on_goal 2 => try unfold t)
    | fail_if_no_progress extract_lets +onlyGivenNames t | with_reducible apply State.event_keeps
    | with_reducible apply State.modString_keeps
    | (generalize hu : State.mk .. = u; refine (?_ : State.Keeps strict s0 u → _) (.mk_eq hu ?_); clear hu) | split | dsimp only

theorem State.openWindow_keeps {strict : Bool} {s0 s : State} (h : s0.Keeps strict s) (n : StringNo) :
    s0.Keeps strict (State.openWindow n s) := by
  unfold State.openWindow
  repeat' first
    | with_reducible assumption | intro _ | ((fail_if_no_progress extract_lets +onlyGivenNames t); refine (?_ : State.Keeps strict s0 t → _) ?_; (on_goal 1 => intro ht; clear_value t); on_goal 2 => try unfold t)
    | fail_if_no_progress extract_lets +onlyGivenNames t | with_reducible apply State.event_keeps
    | with_reducible apply State.modString_keeps
    | (generalize hu : State.mk .. = u; refine (?_ : State.Keeps strict s0 u → _) (.mk_eq hu ?_); clear hu) | split | dsimp only

theorem State.windowSecond_keeps {strict : Bool} {s0 s : State} (h : s0.Keeps strict s) (n : StringNo) :
    s0.Keeps strict (State.windowSecond n s) := by
  unfold State.windowSecond
  repeat' first
    | with_reducible assumption | intro _ | ((fail_if_no_progress extract_lets +onlyGivenNames t); refine (?_ : State.Keeps strict s0 t → _) ?_; (on_goal 1 => intro ht; clear_value t); on_goal 2 => try unfold t)
    | fail_if_no_progress extract_lets +onlyGivenNames t | with_reducible apply State.modBus_keeps
    | with_reducible apply State.modString_keeps
    | (generalize hu : State.mk .. = u; refine (?_ : State.Keeps strict s0 u → _) (.mk_eq hu ?_); clear hu) | split | dsimp only

theorem State.updateClocks_keeps {strict : Bool} {s0 s : State} (h : s0.Keeps strict s) (n : StringNo) :
    s0.Keeps strict (State.updateClocks n s) := by
  unfold State.updateClocks
  repeat' first
    | with_reducible assumption | intro _ | ((fail_if_no_progress extract_lets +onlyGivenNames t); refine (?_ : State.Keeps strict s0 t → _) ?_; (on_goal 1 => intro ht; clear_value t); on_goal 2 => try unfold t)
    | fail_if_no_progress extract_lets +onlyGivenNames t | with_reducible apply State.modString_keeps
    | (generalize hu : State.mk .. = u; refine (?_ : State.Keeps strict s0 u → _) (.mk_eq hu ?_); clear hu) | split | dsimp only

theorem execEstimatorUpdate_keeps {strict : Bool} {s0 s : State} (h : s0.Keeps strict s) (n : StringNo) :
    ∃ t, (execEstimatorUpdate n s) = .next t ∧ s0.Keeps strict t := by
  unfold execEstimatorUpdate
  repeat' first
    | with_reducible assumption | intro _ | ((fail_if_no_progress extract_lets +onlyGivenNames t); refine (?_ : State.Keeps strict s0 t → _) ?_; (on_goal 1 => intro ht; clear_value t); on_goal 2 => try unfold t)
    | fail_if_no_progress extract_lets +onlyGivenNames t | with_reducible refine ⟨_, rfl, ?_⟩
    | with_reducible apply State.estimatorAdopt_keeps | with_reducible apply State.modString_keeps
    | with_reducible apply State.openWindow_keeps | with_reducible apply State.predict_keeps
    | with_reducible apply State.report_keeps | with_reducible apply State.updateClocks_keeps
    | with_reducible apply State.windowSecond_keeps
    | (generalize hu : State.mk .. = u; refine (?_ : State.Keeps strict s0 u → _) (.mk_eq hu ?_); clear hu) | split | dsimp only

theorem State.endWindow_keeps {strict : Bool} {s0 s : State} (h : s0.Keeps strict s) (n : StringNo) (cause : Nat) :
    s0.Keeps strict (State.endWindow n cause s) := by
  unfold State.endWindow
  repeat' first
    | with_reducible assumption | intro _ | ((fail_if_no_progress extract_lets +onlyGivenNames t); refine (?_ : State.Keeps strict s0 t → _) ?_; (on_goal 1 => intro ht; clear_value t); on_goal 2 => try unfold t)
    | fail_if_no_progress extract_lets +onlyGivenNames t | with_reducible apply State.event_keeps
    | with_reducible apply State.modString_keeps
    | (generalize hu : State.mk .. = u; refine (?_ : State.Keeps strict s0 u → _) (.mk_eq hu ?_); clear hu) | split | dsimp only

theorem execRestWindowEnd_keeps {strict : Bool} {s0 s : State} (h : s0.Keeps strict s) (n : StringNo) (cause : WindowEnd) :
    ∃ t, (execRestWindowEnd n cause s) = .next t ∧ s0.Keeps strict t := by
  unfold execRestWindowEnd
  repeat' first
    | with_reducible assumption | intro _ | ((fail_if_no_progress extract_lets +onlyGivenNames t); refine (?_ : State.Keeps strict s0 t → _) ?_; (on_goal 1 => intro ht; clear_value t); on_goal 2 => try unfold t)
    | fail_if_no_progress extract_lets +onlyGivenNames t | with_reducible refine ⟨_, rfl, ?_⟩
    | with_reducible apply State.endWindow_keeps
    | (generalize hu : State.mk .. = u; refine (?_ : State.Keeps strict s0 u → _) (.mk_eq hu ?_); clear hu) | split
    | with_reducible refine State.Keeps.of_pair (by assumption) ?_ | with_reducible refine State.Keeps.of_triple (by assumption) ?_
    | dsimp only

theorem State.learnCapacity_keeps {strict : Bool} {s0 s : State} (h : s0.Keeps strict s) (n : StringNo) (bias : Rat) :
    s0.Keeps strict (State.learnCapacity n bias s) := by
  unfold State.learnCapacity
  repeat' first
    | with_reducible assumption | intro _ | ((fail_if_no_progress extract_lets +onlyGivenNames t); refine (?_ : State.Keeps strict s0 t → _) ?_; (on_goal 1 => intro ht; clear_value t); on_goal 2 => try unfold t)
    | fail_if_no_progress extract_lets +onlyGivenNames t | with_reducible apply State.event_keeps
    | with_reducible apply State.factorEvent_keeps | with_reducible apply State.modString_keeps
    | (generalize hu : State.mk .. = u; refine (?_ : State.Keeps strict s0 u → _) (.mk_eq hu ?_); clear hu) | split
    | with_reducible refine State.Keeps.of_pair (by assumption) ?_ | with_reducible refine State.Keeps.of_triple (by assumption) ?_
    | dsimp only

theorem State.anchored_keeps {strict : Bool} {s0 s : State} (h : s0.Keeps strict s) (n : StringNo) (kind : Nat) (bias : Rat) :
    s0.Keeps strict (State.anchored n kind bias s) := by
  unfold State.anchored
  repeat' first
    | with_reducible assumption | intro _ | ((fail_if_no_progress extract_lets +onlyGivenNames t); refine (?_ : State.Keeps strict s0 t → _) ?_; (on_goal 1 => intro ht; clear_value t); on_goal 2 => try unfold t)
    | fail_if_no_progress extract_lets +onlyGivenNames t | with_reducible apply State.event_keeps
    | with_reducible apply State.learnCapacity_keeps | with_reducible apply State.modString_keeps
    | (generalize hu : State.mk .. = u; refine (?_ : State.Keeps strict s0 u → _) (.mk_eq hu ?_); clear hu) | split | dsimp only

theorem State.anchorUpdate_keeps {strict : Bool} {s0 s : State} (h : s0.Keeps strict s) (n : StringNo) (z : Rat) :
    s0.Keeps strict (State.anchorUpdate n z s) := by
  unfold State.anchorUpdate
  repeat' first
    | with_reducible assumption | intro _ | ((fail_if_no_progress extract_lets +onlyGivenNames t); refine (?_ : State.Keeps strict s0 t → _) ?_; (on_goal 1 => intro ht; clear_value t); on_goal 2 => try unfold t)
    | fail_if_no_progress extract_lets +onlyGivenNames t | with_reducible apply State.modString_keeps
    | (generalize hu : State.mk .. = u; refine (?_ : State.Keeps strict s0 u → _) (.mk_eq hu ?_); clear hu) | split | dsimp only

theorem execRestAnchor_keeps {strict : Bool} {s0 s : State} (h : s0.Keeps strict s) (n : StringNo) :
    ∃ t, (execRestAnchor n s) = .next t ∧ s0.Keeps strict t := by
  unfold execRestAnchor
  repeat' first
    | with_reducible assumption | intro _ | ((fail_if_no_progress extract_lets +onlyGivenNames t); refine (?_ : State.Keeps strict s0 t → _) ?_; (on_goal 1 => intro ht; clear_value t); on_goal 2 => try unfold t)
    | fail_if_no_progress extract_lets +onlyGivenNames t | with_reducible refine ⟨_, rfl, ?_⟩
    | with_reducible apply State.anchorUpdate_keeps | with_reducible apply State.anchored_keeps
    | with_reducible apply State.endWindow_keeps
    | (generalize hu : State.mk .. = u; refine (?_ : State.Keeps strict s0 u → _) (.mk_eq hu ?_); clear hu) | split | dsimp only

theorem execFullAnchor_keeps {strict : Bool} {s0 s : State} (h : s0.Keeps strict s) (n : StringNo) :
    ∃ t, (execFullAnchor n s) = .next t ∧ s0.Keeps strict t := by
  unfold execFullAnchor
  repeat' first
    | with_reducible assumption | intro _ | ((fail_if_no_progress extract_lets +onlyGivenNames t); refine (?_ : State.Keeps strict s0 t → _) ?_; (on_goal 1 => intro ht; clear_value t); on_goal 2 => try unfold t)
    | fail_if_no_progress extract_lets +onlyGivenNames t | with_reducible refine ⟨_, rfl, ?_⟩
    | with_reducible apply State.anchored_keeps | with_reducible apply State.endAbsorb_keeps
    | with_reducible apply State.modString_keeps
    | (generalize hu : State.mk .. = u; refine (?_ : State.Keeps strict s0 u → _) (.mk_eq hu ?_); clear hu) | split | dsimp only

theorem execAbsorbTimeout_keeps {strict : Bool} {s0 s : State} (h : s0.Keeps strict s) (n : StringNo) :
    ∃ t, (execAbsorbTimeout n s) = .next t ∧ s0.Keeps strict t := by
  unfold execAbsorbTimeout
  repeat' first
    | with_reducible assumption | intro _ | ((fail_if_no_progress extract_lets +onlyGivenNames t); refine (?_ : State.Keeps strict s0 t → _) ?_; (on_goal 1 => intro ht; clear_value t); on_goal 2 => try unfold t)
    | fail_if_no_progress extract_lets +onlyGivenNames t | with_reducible refine ⟨_, rfl, ?_⟩
    | with_reducible apply State.endAbsorb_keeps
    | (generalize hu : State.mk .. = u; refine (?_ : State.Keeps strict s0 u → _) (.mk_eq hu ?_); clear hu) | split | dsimp only

theorem execImpedanceRcUpdate_keeps {strict : Bool} {s0 s : State} (h : s0.Keeps strict s) (n : StringNo) :
    ∃ t, (execImpedanceRcUpdate n s) = .next t ∧ s0.Keeps strict t := by
  unfold execImpedanceRcUpdate
  repeat' first
    | with_reducible assumption | intro _ | ((fail_if_no_progress extract_lets +onlyGivenNames t); refine (?_ : State.Keeps strict s0 t → _) ?_; (on_goal 1 => intro ht; clear_value t); on_goal 2 => try unfold t)
    | fail_if_no_progress extract_lets +onlyGivenNames t | with_reducible refine ⟨_, rfl, ?_⟩
    | with_reducible apply State.factorEvent_keeps | with_reducible apply State.modString_keeps
    | (generalize hu : State.mk .. = u; refine (?_ : State.Keeps strict s0 u → _) (.mk_eq hu ?_); clear hu) | split
    | with_reducible refine State.Keeps.of_pair (by assumption) ?_ | with_reducible refine State.Keeps.of_triple (by assumption) ?_
    | dsimp only

theorem State.blockPoll_keeps {strict : Bool} {s0 s : State} (h : s0.Keeps strict s) (n : StringNo) (ds : List (Tries × Tries)) :
    s0.Keeps strict (State.blockPoll n ds s) := by
  unfold State.blockPoll
  repeat' first
    | with_reducible assumption | intro _ | ((fail_if_no_progress extract_lets +onlyGivenNames t); refine (?_ : State.Keeps strict s0 t → _) ?_; (on_goal 1 => intro ht; clear_value t); on_goal 2 => try unfold t)
    | fail_if_no_progress extract_lets +onlyGivenNames t | with_reducible apply State.becomePresent_keeps
    | with_reducible apply State.modString_keeps
    | (generalize hu : State.mk .. = u; refine (?_ : State.Keeps strict s0 u → _) (.mk_eq hu ?_); clear hu) | split
    | with_reducible refine State.Keeps.of_pair (by assumption) ?_ | with_reducible refine State.Keeps.of_triple (by assumption) ?_
    | dsimp only

theorem State.tempPoll_keeps {strict : Bool} {s0 s : State} (h : s0.Keeps strict s) (n : StringNo) (t : Tries) :
    s0.Keeps strict (State.tempPoll n t s) := by
  unfold State.tempPoll
  repeat' first
    | with_reducible assumption | intro _ | ((fail_if_no_progress extract_lets +onlyGivenNames t); refine (?_ : State.Keeps strict s0 t → _) ?_; (on_goal 1 => intro ht; clear_value t); on_goal 2 => try unfold t)
    | fail_if_no_progress extract_lets +onlyGivenNames t | with_reducible apply State.becomePresent_keeps
    | with_reducible apply State.modString_keeps
    | (generalize hu : State.mk .. = u; refine (?_ : State.Keeps strict s0 u → _) (.mk_eq hu ?_); clear hu) | split
    | with_reducible refine State.Keeps.of_pair (by assumption) ?_ | with_reducible refine State.Keeps.of_triple (by assumption) ?_
    | dsimp only

theorem execPackPoll_keeps {strict : Bool} {s0 s : State} (h : s0.Keeps strict s) (n : StringNo) (poll : PackPoll) :
    ∃ t, (execPackPoll n poll s) = .next t ∧ s0.Keeps strict t := by
  unfold execPackPoll
  extract_lets pif now ran done
  have hd : ∀ t, s0.Keeps strict t → s0.Keeps strict (done t) := by
    intro t ht
    unfold done
    split
    · exact State.becomeGone_keeps ht n
    · exact ht
  have hr : s0.Keeps strict ran := State.twRan_keeps h _
  clear_value done ran
  repeat' split
  all_goals first
    | exact ⟨_, rfl, h⟩
    | exact ⟨_, rfl, hd _ (State.blockPoll_keeps (State.modString_keeps hr _ _) _ _)⟩
    | exact ⟨_, rfl, hd _ (State.tempPoll_keeps (State.modString_keeps hr _ _) _ _)⟩

theorem State.readSlot_keeps {strict : Bool} {s0 s : State} (h : s0.Keeps strict s) (n : StringNo) (p : PackSlot) : s0.Keeps strict (State.readSlot n p s) := by
  have one : ∀ (t : State) (r : Option Bytes), s0.Keeps strict t → s0.Keeps strict (match r with
      | some b => if recordOk b then t else t.event srcLedger 0x6031 n (byte n ++ le 4 (recordSeq b))
      | none => t) := by
    intro t r ht
    split
    · split
      · exact ht
      · exact State.event_keeps ht _ _ _ _
    · exact ht
  exact one _ _ (one _ _ h)

theorem State.seePack_keeps {strict : Bool} {s0 s : State} (h : s0.Keeps strict s) (id : Bytes) :
    s0.Keeps strict (State.seePack id s) := by
  unfold State.seePack
  repeat' first
    | with_reducible assumption | intro _ | ((fail_if_no_progress extract_lets +onlyGivenNames t); refine (?_ : State.Keeps strict s0 t → _) ?_; (on_goal 1 => intro ht; clear_value t); on_goal 2 => try unfold t)
    | fail_if_no_progress extract_lets +onlyGivenNames t
    | (generalize hu : State.mk .. = u; refine (?_ : State.Keeps strict s0 u → _) (.mk_eq hu ?_); clear hu) | split | dsimp only

theorem State.startDefaults_keeps {strict : Bool} {s0 s : State} (h : s0.Keeps strict s) (n : StringNo) (unverified : Bool) :
    s0.Keeps strict (State.startDefaults n unverified s) := by
  unfold State.startDefaults
  repeat' first
    | with_reducible assumption | intro _ | ((fail_if_no_progress extract_lets +onlyGivenNames t); refine (?_ : State.Keeps strict s0 t → _) ?_; (on_goal 1 => intro ht; clear_value t); on_goal 2 => try unfold t)
    | fail_if_no_progress extract_lets +onlyGivenNames t | with_reducible apply State.modString_keeps
    | (generalize hu : State.mk .. = u; refine (?_ : State.Keeps strict s0 u → _) (.mk_eq hu ?_); clear hu) | split | dsimp only

theorem State.resume_keeps {strict : Bool} {s0 s : State} (h : s0.Keeps strict s) (n : StringNo) (r : Bytes) :
    s0.Keeps strict (State.resume n r s) := by
  unfold State.resume
  repeat' first
    | with_reducible assumption | intro _ | ((fail_if_no_progress extract_lets +onlyGivenNames t); refine (?_ : State.Keeps strict s0 t → _) ?_; (on_goal 1 => intro ht; clear_value t); on_goal 2 => try unfold t)
    | fail_if_no_progress extract_lets +onlyGivenNames t | with_reducible apply State.modString_keeps
    | (generalize hu : State.mk .. = u; refine (?_ : State.Keeps strict s0 u → _) (.mk_eq hu ?_); clear hu) | split | dsimp only

theorem State.startHistory_keeps {strict : Bool} {s0 s : State} (h0 : s0.Keeps strict s) (n : StringNo) (h : Bytes) :
    s0.Keeps strict (State.startHistory n h s) := by
  unfold State.startHistory
  repeat' first
    | with_reducible assumption | intro _ | ((fail_if_no_progress extract_lets +onlyGivenNames t); refine (?_ : State.Keeps strict s0 t → _) ?_; (on_goal 1 => intro ht; clear_value t); on_goal 2 => try unfold t)
    | fail_if_no_progress extract_lets +onlyGivenNames t | with_reducible apply State.modString_keeps
    | (generalize hu : State.mk .. = u; refine (?_ : State.Keeps strict s0 u → _) (.mk_eq hu ?_); clear hu) | split | dsimp only

theorem State.startPack_keeps {strict : Bool} {s0 s : State} (h : s0.Keeps strict s) (n : StringNo) (id : Bytes) (history : Option Bytes) :
    s0.Keeps strict (State.startPack n id history s) := by
  unfold State.startPack
  generalize s.slotOf id = slot
  have hu : s0.Keeps strict (State.seePack id (match slot with
      | some p => s.readSlot n p
      | none => s)) := by
    refine State.seePack_keeps ?_ _
    split
    · exact State.readSlot_keeps h _ _
    · exact h
  dsimp only
  generalize State.seePack id _ = u at hu ⊢
  repeat' first
    | with_reducible exact State.resume_keeps hu _ _ | with_reducible exact State.startDefaults_keeps hu _ _
    | with_reducible exact State.event_keeps (State.startHistory_keeps hu _ _) _ _ _ _
    | with_reducible exact State.event_keeps (State.startDefaults_keeps hu _ _) _ _ _ _ | split

theorem State.authEnds_keeps {strict : Bool} {s0 s : State} (h : s0.Keeps strict s) (n : StringNo) (result : Nat) (st : StringState) :
    s0.Keeps strict (State.authEnds n result st s) := by
  unfold State.authEnds
  repeat' first
    | with_reducible assumption | intro _ | ((fail_if_no_progress extract_lets +onlyGivenNames t); refine (?_ : State.Keeps strict s0 t → _) ?_; (on_goal 1 => intro ht; clear_value t); on_goal 2 => try unfold t)
    | fail_if_no_progress extract_lets +onlyGivenNames t | with_reducible apply State.modString_keeps
    | (generalize hu : State.mk .. = u; refine (?_ : State.Keeps strict s0 u → _) (.mk_eq hu ?_); clear hu) | split | dsimp only

theorem State.authFails_keeps {strict : Bool} {s0 s : State} (h : s0.Keeps strict s) (n : StringNo) :
    s0.Keeps strict (State.authFails n s) := by
  unfold State.authFails
  repeat' first
    | with_reducible assumption | intro _ | ((fail_if_no_progress extract_lets +onlyGivenNames t); refine (?_ : State.Keeps strict s0 t → _) ?_; (on_goal 1 => intro ht; clear_value t); on_goal 2 => try unfold t)
    | fail_if_no_progress extract_lets +onlyGivenNames t | with_reducible apply State.authEnds_keeps
    | with_reducible apply State.event_keeps | with_reducible apply State.startDefaults_keeps
    | (generalize hu : State.mk .. = u; refine (?_ : State.Keeps strict s0 u → _) (.mk_eq hu ?_); clear hu) | split | dsimp only

theorem State.challengePack_keeps {strict : Bool} {s0 s : State} (h : s0.Keeps strict s) (n : StringNo) (id : Bytes) (x : PackAnswer) :
    s0.Keeps strict (State.challengePack n id x s) := by
  unfold State.challengePack
  repeat' first
    | with_reducible assumption | intro _ | ((fail_if_no_progress extract_lets +onlyGivenNames t); refine (?_ : State.Keeps strict s0 t → _) ?_; (on_goal 1 => intro ht; clear_value t); on_goal 2 => try unfold t)
    | fail_if_no_progress extract_lets +onlyGivenNames t | with_reducible apply State.authEnds_keeps
    | with_reducible apply State.authFails_keeps | with_reducible apply State.event_keeps
    | with_reducible apply State.modString_keeps | with_reducible apply State.startPack_keeps
    | (generalize hu : State.mk .. = u; refine (?_ : State.Keeps strict s0 u → _) (.mk_eq hu ?_); clear hu) | split | dsimp only

theorem execStringAuthenticate_keeps {strict : Bool} {s0 s : State} (h : s0.Keeps strict s) (n : StringNo) (x : PackAnswer) :
    ∃ t, (execStringAuthenticate n x s) = .next t ∧ s0.Keeps strict t := by
  unfold execStringAuthenticate
  repeat' first
    | with_reducible assumption | intro _ | ((fail_if_no_progress extract_lets +onlyGivenNames t); refine (?_ : State.Keeps strict s0 t → _) ?_; (on_goal 1 => intro ht; clear_value t); on_goal 2 => try unfold t)
    | fail_if_no_progress extract_lets +onlyGivenNames t | with_reducible refine ⟨_, rfl, ?_⟩
    | with_reducible apply State.authEnds_keeps | with_reducible apply State.authFails_keeps
    | with_reducible apply State.challengePack_keeps | with_reducible apply State.event_keeps
    | with_reducible apply State.modString_keeps | with_reducible apply State.startPack_keeps
    | (generalize hu : State.mk .. = u; refine (?_ : State.Keeps strict s0 u → _) (.mk_eq hu ?_); clear hu) | split
    | with_reducible refine State.Keeps.of_pair (by assumption) ?_ | with_reducible refine State.Keeps.of_triple (by assumption) ?_
    | dsimp only

theorem State.resetLearned_keeps {strict : Bool} {s0 s : State} (h : s0.Keeps strict s) (n : StringNo) :
    s0.Keeps strict (State.resetLearned n s) := by
  unfold State.resetLearned
  repeat' first
    | with_reducible assumption | intro _ | ((fail_if_no_progress extract_lets +onlyGivenNames t); refine (?_ : State.Keeps strict s0 t → _) ?_; (on_goal 1 => intro ht; clear_value t); on_goal 2 => try unfold t)
    | fail_if_no_progress extract_lets +onlyGivenNames t | with_reducible apply State.modString_keeps
    | (generalize hu : State.mk .. = u; refine (?_ : State.Keeps strict s0 u → _) (.mk_eq hu ?_); clear hu) | split | dsimp only

theorem execRecordWriteback_keeps {strict : Bool} {s0 s : State} (h : s0.Keeps strict s) (n : StringNo) :
    ∃ t, (execRecordWriteback n s) = .next t ∧ s0.Keeps strict t := by
  unfold execRecordWriteback
  repeat' first
    | with_reducible assumption | intro _ | ((fail_if_no_progress extract_lets +onlyGivenNames t); refine (?_ : State.Keeps strict s0 t → _) ?_; (on_goal 1 => intro ht; clear_value t); on_goal 2 => try unfold t)
    | fail_if_no_progress extract_lets +onlyGivenNames t | with_reducible refine ⟨_, rfl, ?_⟩
    | with_reducible apply State.event_keeps | with_reducible apply State.modString_keeps
    | with_reducible apply State.resetLearned_keeps
    | (generalize hu : State.mk .. = u; refine (?_ : State.Keeps strict s0 u → _) (.mk_eq hu ?_); clear hu) | split
    | with_reducible refine State.Keeps.of_pair (by assumption) ?_ | with_reducible refine State.Keeps.of_triple (by assumption) ?_
    | dsimp only

/-! Machine/Maintenance.lean. -/

theorem writeMaintCmd_keeps {strict : Bool} {s0 s : State} (h : s0.Keeps strict s) (c : CellNo) (m : MaintCmd) :
    s0.Keeps strict (writeMaintCmd c m s).2 := by
  unfold writeMaintCmd
  repeat' first
    | with_reducible assumption | intro _ | ((fail_if_no_progress extract_lets +onlyGivenNames t); refine (?_ : State.Keeps strict s0 t → _) ?_; (on_goal 1 => intro ht; clear_value t); on_goal 2 => try unfold t)
    | fail_if_no_progress extract_lets +onlyGivenNames t | with_reducible apply State.modCell_keeps
    | (generalize hu : State.mk .. = u; refine (?_ : State.Keeps strict s0 u → _) (.mk_eq hu ?_); clear hu) | split | dsimp only

theorem State.applyRole_keeps {strict : Bool} {s0 s : State} (h : s0.Keeps strict s) (c : CellNo) :
    s0.Keeps strict (State.applyRole c s) := by
  unfold State.applyRole
  repeat' first
    | with_reducible assumption | intro _ | ((fail_if_no_progress extract_lets +onlyGivenNames t); refine (?_ : State.Keeps strict s0 t → _) ?_; (on_goal 1 => intro ht; clear_value t); on_goal 2 => try unfold t)
    | fail_if_no_progress extract_lets +onlyGivenNames t | with_reducible apply State.adoptSet_keeps
    | with_reducible apply State.calCheck_keeps | with_reducible apply State.modCell_keeps
    | (generalize hu : State.mk .. = u; refine (?_ : State.Keeps strict s0 u → _) (.mk_eq hu ?_); clear hu) | split | dsimp only

theorem State.commitCell_keeps {strict : Bool} {s0 s : State} (h : s0.Keeps strict s) (c : CellNo) :
    s0.Keeps strict (State.commitCell c s) := by
  unfold State.commitCell
  repeat' first
    | with_reducible assumption | intro _ | ((fail_if_no_progress extract_lets +onlyGivenNames t); refine (?_ : State.Keeps strict s0 t → _) ?_; (on_goal 1 => intro ht; clear_value t); on_goal 2 => try unfold t)
    | fail_if_no_progress extract_lets +onlyGivenNames t | with_reducible apply State.applyRole_keeps
    | with_reducible apply State.modCell_keeps
    | (generalize hu : State.mk .. = u; refine (?_ : State.Keeps strict s0 u → _) (.mk_eq hu ?_); clear hu) | split | dsimp only

theorem State.cellInService_keeps {strict : Bool} {s0 s : State} (h : s0.Keeps strict s) (c : CellNo) :
    s0.Keeps strict (State.cellInService c s) := by
  unfold State.cellInService
  repeat' first
    | with_reducible assumption | intro _ | ((fail_if_no_progress extract_lets +onlyGivenNames t); refine (?_ : State.Keeps strict s0 t → _) ?_; (on_goal 1 => intro ht; clear_value t); on_goal 2 => try unfold t)
    | fail_if_no_progress extract_lets +onlyGivenNames t | with_reducible apply State.modCell_keeps
    | (generalize hu : State.mk .. = u; refine (?_ : State.Keeps strict s0 u → _) (.mk_eq hu ?_); clear hu) | split | dsimp only

theorem State.startRole_keeps {strict : Bool} {s0 s : State} (h : s0.Keeps strict s) (c : CellNo) :
    s0.Keeps strict (State.startRole c s) := by
  unfold State.startRole
  repeat' first
    | with_reducible assumption | intro _ | ((fail_if_no_progress extract_lets +onlyGivenNames t); refine (?_ : State.Keeps strict s0 t → _) ?_; (on_goal 1 => intro ht; clear_value t); on_goal 2 => try unfold t)
    | fail_if_no_progress extract_lets +onlyGivenNames t | with_reducible apply State.cellInService_keeps
    | with_reducible apply State.driveGroup_keeps | with_reducible apply State.groupTo_keeps
    | with_reducible apply State.modCell_keeps | with_reducible apply State.modFeeder_keeps
    | with_reducible apply State.modLoop_keeps | with_reducible apply State.modOring_keeps
    | with_reducible apply State.recapacity_keeps | with_reducible apply State.releaseSafe_keeps
    | with_reducible apply State.restoreSink_keeps | with_reducible apply State.takeHeld_keeps
    | with_reducible apply State.tryStart_keeps
    | (generalize hu : State.mk .. = u; refine (?_ : State.Keeps strict s0 u → _) (.mk_eq hu ?_); clear hu) | split
    | with_reducible refine State.Keeps.of_pair (by assumption) ?_ | with_reducible refine State.Keeps.of_triple (by assumption) ?_
    | dsimp only

theorem State.showDrained_keeps {strict : Bool} {s0 s : State} (h : s0.Keeps strict s) (c : CellNo) (result : Nat) :
    s0.Keeps strict (State.showDrained c result s) := by
  unfold State.showDrained
  repeat' first
    | with_reducible assumption | intro _ | ((fail_if_no_progress extract_lets +onlyGivenNames t); refine (?_ : State.Keeps strict s0 t → _) ?_; (on_goal 1 => intro ht; clear_value t); on_goal 2 => try unfold t)
    | fail_if_no_progress extract_lets +onlyGivenNames t | with_reducible apply State.modCell_keeps
    | with_reducible apply State.recapacity_keeps
    | (generalize hu : State.mk .. = u; refine (?_ : State.Keeps strict s0 u → _) (.mk_eq hu ?_); clear hu) | split
    | with_reducible refine State.Keeps.of_pair (by assumption) ?_ | with_reducible refine State.Keeps.of_triple (by assumption) ?_
    | dsimp only

theorem State.drainAside_keeps {strict : Bool} {s0 s : State} (h : s0.Keeps strict s) (k : LoopNo) (c : CellNo) :
    s0.Keeps strict (State.drainAside k c s) := by
  unfold State.drainAside
  repeat' first
    | with_reducible assumption | intro _ | ((fail_if_no_progress extract_lets +onlyGivenNames t); refine (?_ : State.Keeps strict s0 t → _) ?_; (on_goal 1 => intro ht; clear_value t); on_goal 2 => try unfold t)
    | fail_if_no_progress extract_lets +onlyGivenNames t | with_reducible apply State.modCell_keeps
    | with_reducible apply State.modLoop_keeps | with_reducible apply State.showDrained_keeps
    | (generalize hu : State.mk .. = u; refine (?_ : State.Keeps strict s0 u → _) (.mk_eq hu ?_); clear hu) | split | dsimp only

theorem State.beginDrain_keeps {strict : Bool} {s0 s : State} (h : s0.Keeps strict s) (c : CellNo) (force : Bool) :
    s0.Keeps strict (State.beginDrain c force s) := by
  unfold State.beginDrain
  repeat' first
    | with_reducible assumption | intro _ | ((fail_if_no_progress extract_lets +onlyGivenNames t); refine (?_ : State.Keeps strict s0 t → _) ?_; (on_goal 1 => intro ht; clear_value t); on_goal 2 => try unfold t)
    | fail_if_no_progress extract_lets +onlyGivenNames t | with_reducible apply State.abandonId_keeps
    | with_reducible apply State.drainAside_keeps | with_reducible apply State.groupTo_keeps
    | with_reducible apply State.modCell_keeps | with_reducible apply State.modFeeder_keeps
    | with_reducible apply State.modGroup_keeps | with_reducible apply State.modSink_keeps
    | with_reducible apply State.noticeSink_keeps | with_reducible apply State.orBlock_keeps
    | with_reducible apply State.shedSink_keeps | with_reducible apply State.showDrained_keeps
    | with_reducible apply State.skipRails_keeps | with_reducible apply State.stopLoop_keeps
    | (generalize hu : State.mk .. = u; refine (?_ : State.Keeps strict s0 u → _) (.mk_eq hu ?_); clear hu) | split
    | with_reducible refine State.Keeps.of_pair (by assumption) ?_ | with_reducible refine State.Keeps.of_triple (by assumption) ?_
    | dsimp only

theorem State.resetCauses_keeps {strict : Bool} {s0 s : State} (h : s0.Keeps strict s) (c : CellNo) :
    s0.Keeps strict (State.resetCauses c s) := by
  unfold State.resetCauses
  repeat' first
    | with_reducible assumption | intro _ | ((fail_if_no_progress extract_lets +onlyGivenNames t); refine (?_ : State.Keeps strict s0 t → _) ?_; (on_goal 1 => intro ht; clear_value t); on_goal 2 => try unfold t)
    | fail_if_no_progress extract_lets +onlyGivenNames t | with_reducible apply State.over_keeps
    | with_reducible apply State.setFault_keeps
    | (generalize hu : State.mk .. = u; refine (?_ : State.Keeps strict s0 u → _) (.mk_eq hu ?_); clear hu) | split | dsimp only

theorem State.beginRepair_keeps {strict : Bool} {s0 s : State} (h : s0.Keeps strict s) (c : CellNo) :
    s0.Keeps strict (State.beginRepair c s) := by
  unfold State.beginRepair
  repeat' first
    | with_reducible assumption | intro _ | ((fail_if_no_progress extract_lets +onlyGivenNames t); refine (?_ : State.Keeps strict s0 t → _) ?_; (on_goal 1 => intro ht; clear_value t); on_goal 2 => try unfold t)
    | fail_if_no_progress extract_lets +onlyGivenNames t | with_reducible apply State.clearFault_keeps
    | with_reducible apply State.modCell_keeps
    | (generalize hu : State.mk .. = u; refine (?_ : State.Keeps strict s0 u → _) (.mk_eq hu ?_); clear hu) | split | dsimp only

theorem State.discardRole_keeps {strict : Bool} {s0 s : State} (h : s0.Keeps strict s) (c : CellNo) :
    s0.Keeps strict (State.discardRole c s) := by
  unfold State.discardRole
  repeat' first
    | with_reducible assumption | intro _ | ((fail_if_no_progress extract_lets +onlyGivenNames t); refine (?_ : State.Keeps strict s0 t → _) ?_; (on_goal 1 => intro ht; clear_value t); on_goal 2 => try unfold t)
    | fail_if_no_progress extract_lets +onlyGivenNames t | with_reducible apply State.modCell_keeps
    | with_reducible apply State.setWritten_keeps | with_reducible apply State.testSet_keeps
    | (generalize hu : State.mk .. = u; refine (?_ : State.Keeps strict s0 u → _) (.mk_eq hu ?_); clear hu) | split | dsimp only

theorem State.abandonCell_keeps {strict : Bool} {s0 s : State} (h : s0.Keeps strict s) (c : CellNo) (result : Nat) :
    s0.Keeps strict (State.abandonCell c result s) := by
  unfold State.abandonCell
  repeat' first
    | with_reducible assumption | intro _ | ((fail_if_no_progress extract_lets +onlyGivenNames t); refine (?_ : State.Keeps strict s0 t → _) ?_; (on_goal 1 => intro ht; clear_value t); on_goal 2 => try unfold t)
    | fail_if_no_progress extract_lets +onlyGivenNames t | with_reducible apply State.discardRole_keeps
    | with_reducible apply State.dropThrottle_keeps | with_reducible apply State.modCell_keeps
    | with_reducible apply State.modSink_keeps | with_reducible apply State.startRole_keeps
    | with_reducible apply State.throttle_keeps
    | (generalize hu : State.mk .. = u; refine (?_ : State.Keeps strict s0 u → _) (.mk_eq hu ?_); clear hu) | split
    | with_reducible refine State.Keeps.of_pair (by assumption) ?_ | with_reducible refine State.Keeps.of_triple (by assumption) ?_
    | dsimp only

theorem State.interruptCell_keeps {strict : Bool} {s0 s : State} (h : s0.Keeps strict s) (c : CellNo) :
    s0.Keeps strict (State.interruptCell c s) := by
  unfold State.interruptCell
  repeat' first
    | with_reducible assumption | intro _ | ((fail_if_no_progress extract_lets +onlyGivenNames t); refine (?_ : State.Keeps strict s0 t → _) ?_; (on_goal 1 => intro ht; clear_value t); on_goal 2 => try unfold t)
    | fail_if_no_progress extract_lets +onlyGivenNames t | with_reducible apply State.abandonCell_keeps
    | (generalize hu : State.mk .. = u; refine (?_ : State.Keeps strict s0 u → _) (.mk_eq hu ?_); clear hu) | split | dsimp only

theorem State.startMaint_keeps {strict : Bool} {s0 s : State} (h : s0.Keeps strict s) (c : CellNo) (m : MaintCmd) :
    s0.Keeps strict (State.startMaint c m s) := by
  unfold State.startMaint
  repeat' first
    | with_reducible assumption | intro _ | ((fail_if_no_progress extract_lets +onlyGivenNames t); refine (?_ : State.Keeps strict s0 t → _) ?_; (on_goal 1 => intro ht; clear_value t); on_goal 2 => try unfold t)
    | fail_if_no_progress extract_lets +onlyGivenNames t | with_reducible apply State.abandonCell_keeps
    | with_reducible apply State.beginDrain_keeps | with_reducible apply State.beginRepair_keeps
    | with_reducible apply State.commitCell_keeps | with_reducible apply State.modCell_keeps
    | with_reducible apply State.startRole_keeps
    | (generalize hu : State.mk .. = u; refine (?_ : State.Keeps strict s0 u → _) (.mk_eq hu ?_); clear hu) | split
    | with_reducible refine State.Keeps.of_pair (by assumption) ?_ | with_reducible refine State.Keeps.of_triple (by assumption) ?_
    | dsimp only

theorem execMaintCmdStart_keeps {strict : Bool} {s0 s : State} (h : s0.Keeps strict s) (c : CellNo) :
    ∃ t, (execMaintCmdStart c s) = .next t ∧ s0.Keeps strict t := by
  unfold execMaintCmdStart
  repeat' first
    | with_reducible assumption | intro _ | ((fail_if_no_progress extract_lets +onlyGivenNames t); refine (?_ : State.Keeps strict s0 t → _) ?_; (on_goal 1 => intro ht; clear_value t); on_goal 2 => try unfold t)
    | fail_if_no_progress extract_lets +onlyGivenNames t | with_reducible refine ⟨_, rfl, ?_⟩
    | with_reducible apply State.modCell_keeps | with_reducible apply State.over_keeps | with_reducible apply State.startMaint_keeps
    | (generalize hu : State.mk .. = u; refine (?_ : State.Keeps strict s0 u → _) (.mk_eq hu ?_); clear hu) | split | dsimp only

theorem execDrainComplete_keeps {strict : Bool} {s0 s : State} (h : s0.Keeps strict s) (c : CellNo) :
    ∃ t, (execDrainComplete c s) = .next t ∧ s0.Keeps strict t := by
  unfold execDrainComplete
  repeat' first
    | with_reducible assumption | intro _ | ((fail_if_no_progress extract_lets +onlyGivenNames t); refine (?_ : State.Keeps strict s0 t → _) ?_; (on_goal 1 => intro ht; clear_value t); on_goal 2 => try unfold t)
    | fail_if_no_progress extract_lets +onlyGivenNames t | with_reducible refine ⟨_, rfl, ?_⟩
    | with_reducible apply State.modSink_keeps | with_reducible apply State.showDrained_keeps
    | (generalize hu : State.mk .. = u; refine (?_ : State.Keeps strict s0 u → _) (.mk_eq hu ?_); clear hu) | split | dsimp only

theorem execDrainTimeout_keeps {strict : Bool} {s0 s : State} (h : s0.Keeps strict s) (c : CellNo) :
    ∃ t, (execDrainTimeout c s) = .next t ∧ s0.Keeps strict t := by
  unfold execDrainTimeout
  repeat' first
    | with_reducible assumption | intro _ | ((fail_if_no_progress extract_lets +onlyGivenNames t); refine (?_ : State.Keeps strict s0 t → _) ?_; (on_goal 1 => intro ht; clear_value t); on_goal 2 => try unfold t)
    | fail_if_no_progress extract_lets +onlyGivenNames t | with_reducible refine ⟨_, rfl, ?_⟩
    | with_reducible apply State.event_keeps | with_reducible apply State.showDrained_keeps
    | (generalize hu : State.mk .. = u; refine (?_ : State.Keeps strict s0 u → _) (.mk_eq hu ?_); clear hu) | split | dsimp only

theorem State.repairEnds_keeps {strict : Bool} {s0 s : State} (h : s0.Keeps strict s) (c : CellNo) (result : Nat) :
    s0.Keeps strict (State.repairEnds c result s) := by
  unfold State.repairEnds
  repeat' first
    | with_reducible assumption | intro _ | ((fail_if_no_progress extract_lets +onlyGivenNames t); refine (?_ : State.Keeps strict s0 t → _) ?_; (on_goal 1 => intro ht; clear_value t); on_goal 2 => try unfold t)
    | fail_if_no_progress extract_lets +onlyGivenNames t | with_reducible apply State.calCheck_keeps
    | with_reducible apply State.modCell_keeps | with_reducible apply State.resetCauses_keeps
    | (generalize hu : State.mk .. = u; refine (?_ : State.Keeps strict s0 u → _) (.mk_eq hu ?_); clear hu) | split | dsimp only

theorem State.writeRepair_keeps {strict : Bool} {s0 s : State} (h : s0.Keeps strict s) (c : CellNo) (ps : List CalPoint) (written : Nat) :
    s0.Keeps strict (State.writeRepair c ps written s) := by
  unfold State.writeRepair
  repeat' first
    | with_reducible assumption | intro _ | ((fail_if_no_progress extract_lets +onlyGivenNames t); refine (?_ : State.Keeps strict s0 t → _) ?_; (on_goal 1 => intro ht; clear_value t); on_goal 2 => try unfold t)
    | fail_if_no_progress extract_lets +onlyGivenNames t | with_reducible apply State.modCell_keeps
    | (generalize hu : State.mk .. = u; refine (?_ : State.Keeps strict s0 u → _) (.mk_eq hu ?_); clear hu) | split | dsimp only

theorem execRepairDone_keeps {strict : Bool} {s0 s : State} (h : s0.Keeps strict s) (c : CellNo) (f : RepairFinding) :
    ∃ t, (execRepairDone c f s) = .next t ∧ s0.Keeps strict t := by
  unfold execRepairDone
  repeat' first
    | with_reducible assumption | intro _ | ((fail_if_no_progress extract_lets +onlyGivenNames t); refine (?_ : State.Keeps strict s0 t → _) ?_; (on_goal 1 => intro ht; clear_value t); on_goal 2 => try unfold t)
    | fail_if_no_progress extract_lets +onlyGivenNames t | with_reducible refine ⟨_, rfl, ?_⟩
    | with_reducible apply State.event_keeps | with_reducible apply State.modCell_keeps
    | with_reducible apply State.releaseSafe_keeps | with_reducible apply State.repairEnds_keeps
    | with_reducible apply State.setFault_keeps | with_reducible apply State.setSafe_keeps
    | with_reducible apply State.writeRepair_keeps
    | (generalize hu : State.mk .. = u; refine (?_ : State.Keeps strict s0 u → _) (.mk_eq hu ?_); clear hu) | split | dsimp only

theorem execCellStartComplete_keeps {strict : Bool} {s0 s : State} (h : s0.Keeps strict s) (c : CellNo) :
    ∃ t, (execCellStartComplete c s) = .next t ∧ s0.Keeps strict t := by
  unfold execCellStartComplete
  repeat' first
    | with_reducible assumption | intro _ | ((fail_if_no_progress extract_lets +onlyGivenNames t); refine (?_ : State.Keeps strict s0 t → _) ?_; (on_goal 1 => intro ht; clear_value t); on_goal 2 => try unfold t)
    | fail_if_no_progress extract_lets +onlyGivenNames t | with_reducible refine ⟨_, rfl, ?_⟩
    | with_reducible apply State.cellInService_keeps | with_reducible apply State.modCell_keeps
    | (generalize hu : State.mk .. = u; refine (?_ : State.Keeps strict s0 u → _) (.mk_eq hu ?_); clear hu) | split
    | with_reducible refine State.Keeps.of_pair (by assumption) ?_ | with_reducible refine State.Keeps.of_triple (by assumption) ?_
    | dsimp only

end Sys2Proof.Machine
end

