-- ==== Sys2Proof/Laws/KeepsHosts.lean ====
section
/-! SUPPORT. Laws/KeepsHosts.lean: what the operations of hosts, modes, holdup, thermal inputs, frames and accesses keep (State.Keeps). -/

set_option linter.unreachableTactic false
set_option linter.unusedTactic false
set_option linter.tactic.unusedName false

namespace Sys2Proof.Machine

/-! Machine/Hosts.lean. -/

theorem State.endLock_keeps {strict : Bool} {s0 s : State} (h : s0.Keeps strict s) (cause : Nat) :
    s0.Keeps strict (State.endLock cause s) := by
  unfold State.endLock
  repeat' first
    | with_reducible assumption | intro _ | ((fail_if_no_progress extract_lets +onlyGivenNames t); refine (?_ : State.Keeps strict s0 t → _) ?_; (on_goal 1 => intro ht; clear_value t); on_goal 2 => try unfold t)
    | fail_if_no_progress extract_lets +onlyGivenNames t | with_reducible apply State.event_keeps
    | (generalize hu : State.mk .. = u; refine (?_ : State.Keeps strict s0 u → _) (.mk_eq hu ?_); clear hu) | split
    | with_reducible refine State.Keeps.of_pair (by assumption) ?_ | with_reducible refine State.Keeps.of_triple (by assumption) ?_
    | dsimp only

theorem State.takeLock_keeps {strict : Bool} {s0 s : State} (h0 : s0.Keeps strict s) (h : HostNo) :
    s0.Keeps strict (State.takeLock h s) := by
  unfold State.takeLock
  repeat' first
    | with_reducible assumption | intro _ | ((fail_if_no_progress extract_lets +onlyGivenNames t); refine (?_ : State.Keeps strict s0 t → _) ?_; (on_goal 1 => intro ht; clear_value t); on_goal 2 => try unfold t)
    | fail_if_no_progress extract_lets +onlyGivenNames t | with_reducible apply State.event_keeps
    | (generalize hu : State.mk .. = u; refine (?_ : State.Keeps strict s0 u → _) (.mk_eq hu ?_); clear hu) | split | dsimp only

theorem writeLockCmd_keeps {strict : Bool} {s0 s : State} (h0 : s0.Keeps strict s) (h : HostNo) (v : Nat) :
    s0.Keeps strict (writeLockCmd h v s).2 := by
  unfold writeLockCmd
  repeat' first
    | with_reducible assumption | intro _ | ((fail_if_no_progress extract_lets +onlyGivenNames t); refine (?_ : State.Keeps strict s0 t → _) ?_; (on_goal 1 => intro ht; clear_value t); on_goal 2 => try unfold t)
    | fail_if_no_progress extract_lets +onlyGivenNames t | with_reducible apply State.endLock_keeps
    | with_reducible apply State.takeLock_keeps
    | (generalize hu : State.mk .. = u; refine (?_ : State.Keeps strict s0 u → _) (.mk_eq hu ?_); clear hu) | split | dsimp only

theorem execLockLeaseExpiry_keeps {strict : Bool} {s0 s : State} (h : s0.Keeps strict s) :
    ∃ t, (execLockLeaseExpiry s) = .next t ∧ s0.Keeps strict t := by
  unfold execLockLeaseExpiry
  repeat' first
    | with_reducible assumption | intro _ | ((fail_if_no_progress extract_lets +onlyGivenNames t); refine (?_ : State.Keeps strict s0 t → _) ?_; (on_goal 1 => intro ht; clear_value t); on_goal 2 => try unfold t)
    | fail_if_no_progress extract_lets +onlyGivenNames t | with_reducible refine ⟨_, rfl, ?_⟩
    | with_reducible apply State.endLock_keeps
    | (generalize hu : State.mk .. = u; refine (?_ : State.Keeps strict s0 u → _) (.mk_eq hu ?_); clear hu) | split | dsimp only

theorem State.toCocoon_keeps {strict : Bool} {s0 s : State} (h : s0.Keeps strict s) : s0.Keeps strict s.toCocoon := by
  unfold State.toCocoon
  extract_lets deep t u
  have ht : s0.Keeps strict t := .same h rfl rfl rfl rfl rfl rfl
  have hu : s0.Keeps strict u := State.modFw_keeps ht _ (fun _ => rfl) (fun _ => rfl)
  split
  · refine State.modRec_keeps hu _ fun q c => ?_
    simp only [Recorder.bounded] at c ⊢
    exact ⟨Nat.zero_le _, c.2⟩
  · exact hu

theorem State.cocoonCheck_keeps {strict : Bool} {s0 s : State} (h : s0.Keeps strict s) :
    s0.Keeps strict (State.cocoonCheck s) := by
  unfold State.cocoonCheck
  repeat' first
    | with_reducible assumption | intro _ | ((fail_if_no_progress extract_lets +onlyGivenNames t); refine (?_ : State.Keeps strict s0 t → _) ?_; (on_goal 1 => intro ht; clear_value t); on_goal 2 => try unfold t)
    | fail_if_no_progress extract_lets +onlyGivenNames t | with_reducible apply State.toCocoon_keeps
    | (generalize hu : State.mk .. = u; refine (?_ : State.Keeps strict s0 u → _) (.mk_eq hu ?_); clear hu) | split | dsimp only

theorem State.releaseHost_keeps {strict : Bool} {s0 s : State} (h0 : s0.Keeps strict s) (cause : Nat) (h : HostNo) :
    s0.Keeps strict (State.releaseHost cause h s) := by
  unfold State.releaseHost
  repeat' first
    | with_reducible assumption | intro _ | ((fail_if_no_progress extract_lets +onlyGivenNames t); refine (?_ : State.Keeps strict s0 t → _) ?_; (on_goal 1 => intro ht; clear_value t); on_goal 2 => try unfold t)
    | fail_if_no_progress extract_lets +onlyGivenNames t | with_reducible apply State.endLock_keeps
    | with_reducible apply State.event_keeps | with_reducible apply State.modDap_keeps | with_reducible apply State.modHost_keeps
    | with_reducible apply State.modLedger_keeps | with_reducible apply State.onFin_keeps
    | with_reducible apply State.releaseGrants_keeps
    | (generalize hu : State.mk .. = u; refine (?_ : State.Keeps strict s0 u → _) (.mk_eq hu ?_); clear hu) | split
    | with_reducible refine State.Keeps.of_pair (by assumption) ?_ | with_reducible refine State.Keeps.of_triple (by assumption) ?_
    | dsimp only

theorem State.cutChannels_keeps {strict : Bool} {s0 s : State} (h : s0.Keeps strict s) :
    s0.Keeps strict (State.cutChannels s) := by
  unfold State.cutChannels
  repeat' first
    | with_reducible assumption | intro _ | ((fail_if_no_progress extract_lets +onlyGivenNames t); refine (?_ : State.Keeps strict s0 t → _) ?_; (on_goal 1 => intro ht; clear_value t); on_goal 2 => try unfold t)
    | fail_if_no_progress extract_lets +onlyGivenNames t
    | (generalize hu : State.mk .. = u; refine (?_ : State.Keeps strict s0 u → _) (.mk_eq hu ?_); clear hu) | split | dsimp only

theorem State.allocateHost_keeps {strict : Bool} {s0 s : State} (h0 : s0.Keeps strict s) (k : Key) (h : HostNo) :
    s0.Keeps strict (State.allocateHost k h s) := by
  unfold State.allocateHost
  repeat' first
    | with_reducible assumption | intro _ | ((fail_if_no_progress extract_lets +onlyGivenNames t); refine (?_ : State.Keeps strict s0 t → _) ?_; (on_goal 1 => intro ht; clear_value t); on_goal 2 => try unfold t)
    | fail_if_no_progress extract_lets +onlyGivenNames t | with_reducible apply State.event_keeps
    | with_reducible apply State.modHost_keeps
    | (generalize hu : State.mk .. = u; refine (?_ : State.Keeps strict s0 u → _) (.mk_eq hu ?_); clear hu) | split
    | with_reducible refine State.Keeps.of_pair (by assumption) ?_ | with_reducible refine State.Keeps.of_triple (by assumption) ?_
    | dsimp only

theorem State.newHost_keeps {strict : Bool} {s0 s : State} (h : s0.Keeps strict s) (k : Key) :
    s0.Keeps strict (State.newHost k s).2 := by
  unfold State.newHost
  repeat' first
    | with_reducible assumption | intro _ | ((fail_if_no_progress extract_lets +onlyGivenNames t); refine (?_ : State.Keeps strict s0 t → _) ?_; (on_goal 1 => intro ht; clear_value t); on_goal 2 => try unfold t)
    | fail_if_no_progress extract_lets +onlyGivenNames t | with_reducible apply State.allocateHost_keeps
    | with_reducible apply State.event_keeps | with_reducible apply State.releaseHost_keeps
    | (generalize hu : State.mk .. = u; refine (?_ : State.Keeps strict s0 u → _) (.mk_eq hu ?_); clear hu) | split
    | with_reducible refine State.Keeps.of_pair (by assumption) ?_ | with_reducible refine State.Keeps.of_triple (by assumption) ?_
    | dsimp only

theorem State.touch_keeps {strict : Bool} {s0 s : State} (h0 : s0.Keeps strict s) (h : HostNo) :
    s0.Keeps strict (State.touch h s) := by
  unfold State.touch
  repeat' first
    | with_reducible assumption | intro _ | ((fail_if_no_progress extract_lets +onlyGivenNames t); refine (?_ : State.Keeps strict s0 t → _) ?_; (on_goal 1 => intro ht; clear_value t); on_goal 2 => try unfold t)
    | fail_if_no_progress extract_lets +onlyGivenNames t | with_reducible apply State.modHost_keeps
    | (generalize hu : State.mk .. = u; refine (?_ : State.Keeps strict s0 u → _) (.mk_eq hu ?_); clear hu) | split | dsimp only

theorem State.contact_keeps {strict : Bool} {s0 s : State} (h : s0.Keeps strict s) (k : Key) :
    s0.Keeps strict (State.contact k s).2 := by
  unfold State.contact
  repeat' first
    | with_reducible assumption | intro _ | ((fail_if_no_progress extract_lets +onlyGivenNames t); refine (?_ : State.Keeps strict s0 t → _) ?_; (on_goal 1 => intro ht; clear_value t); on_goal 2 => try unfold t)
    | fail_if_no_progress extract_lets +onlyGivenNames t | with_reducible apply State.newHost_keeps
    | with_reducible apply State.touch_keeps
    | (generalize hu : State.mk .. = u; refine (?_ : State.Keeps strict s0 u → _) (.mk_eq hu ?_); clear hu) | split
    | with_reducible refine State.Keeps.of_pair (by assumption) ?_ | with_reducible refine State.Keeps.of_triple (by assumption) ?_
    | dsimp only

theorem execLingerExpiry_keeps {strict : Bool} {s0 s : State} (h0 : s0.Keeps strict s) (h : HostNo) :
    ∃ t, (execLingerExpiry h s) = .next t ∧ s0.Keeps strict t := by
  unfold execLingerExpiry
  repeat' first
    | with_reducible assumption | intro _ | ((fail_if_no_progress extract_lets +onlyGivenNames t); refine (?_ : State.Keeps strict s0 t → _) ?_; (on_goal 1 => intro ht; clear_value t); on_goal 2 => try unfold t)
    | fail_if_no_progress extract_lets +onlyGivenNames t | with_reducible apply State.errReset_keeps
    | with_reducible refine ⟨_, rfl, ?_⟩ | with_reducible apply State.cocoonCheck_keeps
    | with_reducible apply State.releaseHost_keeps | with_reducible apply settle_keeps
    | (generalize hu : State.mk .. = u; refine (?_ : State.Keeps strict s0 u → _) (.mk_eq hu ?_); clear hu) | split | dsimp only

theorem execUnseat50ms_keeps {strict : Bool} {s0 s : State} (h : s0.Keeps strict s) (c : CellNo) :
    ∃ t, (execUnseat50ms c s) = .next t ∧ s0.Keeps strict t := by
  unfold execUnseat50ms
  repeat' first
    | with_reducible assumption | intro _ | ((fail_if_no_progress extract_lets +onlyGivenNames t); refine (?_ : State.Keeps strict s0 t → _) ?_; (on_goal 1 => intro ht; clear_value t); on_goal 2 => try unfold t)
    | fail_if_no_progress extract_lets +onlyGivenNames t | with_reducible apply State.errReset_keeps
    | with_reducible refine ⟨_, rfl, ?_⟩ | with_reducible apply State.cocoonCheck_keeps | with_reducible apply State.modSink_keeps
    | with_reducible apply State.over_keeps | with_reducible apply State.releaseHost_keeps
    | with_reducible apply State.unseated50_keeps | with_reducible apply settle_keeps
    | (generalize hu : State.mk .. = u; refine (?_ : State.Keeps strict s0 u → _) (.mk_eq hu ?_); clear hu) | split | dsimp only

/-! Machine/Modes.lean. -/

theorem State.chooseRequest_keeps {strict : Bool} {s0 s : State} (h : s0.Keeps strict s) :
    s0.Keeps strict (State.chooseRequest s) := by
  unfold State.chooseRequest
  repeat' first
    | with_reducible assumption | intro _ | ((fail_if_no_progress extract_lets +onlyGivenNames t); refine (?_ : State.Keeps strict s0 t → _) ?_; (on_goal 1 => intro ht; clear_value t); on_goal 2 => try unfold t)
    | fail_if_no_progress extract_lets +onlyGivenNames t | with_reducible refine State.modModes_keeps ?_ _ (fun _ => rfl)
    | (generalize hu : State.mk .. = u; refine (?_ : State.Keeps strict s0 u → _) (.mk_eq hu ?_); clear hu) | split
    | with_reducible refine State.Keeps.of_pair (by assumption) ?_ | with_reducible refine State.Keeps.of_triple (by assumption) ?_
    | dsimp only

theorem State.placeRequest_keeps {strict : Bool} {s0 s : State} (h0 : s0.Keeps strict s) (h : HostNo) (rank r : Nat) :
    s0.Keeps strict (State.placeRequest h rank r s) := by
  unfold State.placeRequest
  repeat' first
    | with_reducible assumption | intro _ | ((fail_if_no_progress extract_lets +onlyGivenNames t); refine (?_ : State.Keeps strict s0 t → _) ?_; (on_goal 1 => intro ht; clear_value t); on_goal 2 => try unfold t)
    | fail_if_no_progress extract_lets +onlyGivenNames t | with_reducible apply State.chooseRequest_keeps
    | with_reducible apply State.modHost_keeps | with_reducible refine State.modModes_keeps ?_ _ (fun _ => rfl)
    | (generalize hu : State.mk .. = u; refine (?_ : State.Keeps strict s0 u → _) (.mk_eq hu ?_); clear hu) | split | dsimp only

theorem writeModeRequest_keeps {strict : Bool} {s0 s : State} (h0 : s0.Keeps strict s) (h : HostNo) (v : Nat) :
    s0.Keeps strict (writeModeRequest h v s).2 := by
  unfold writeModeRequest
  repeat' first
    | with_reducible assumption | intro _ | ((fail_if_no_progress extract_lets +onlyGivenNames t); refine (?_ : State.Keeps strict s0 t → _) ?_; (on_goal 1 => intro ht; clear_value t); on_goal 2 => try unfold t)
    | fail_if_no_progress extract_lets +onlyGivenNames t | with_reducible apply State.placeRequest_keeps
    | (generalize hu : State.mk .. = u; refine (?_ : State.Keeps strict s0 u → _) (.mk_eq hu ?_); clear hu) | split | dsimp only

theorem State.releaseAll_keeps {strict : Bool} {s0 s : State} (h : s0.Keeps strict s) :
    s0.Keeps strict (State.releaseAll s) := by
  unfold State.releaseAll
  repeat' first
    | with_reducible assumption | intro _ | ((fail_if_no_progress extract_lets +onlyGivenNames t); refine (?_ : State.Keeps strict s0 t → _) ?_; (on_goal 1 => intro ht; clear_value t); on_goal 2 => try unfold t)
    | fail_if_no_progress extract_lets +onlyGivenNames t | with_reducible apply State.each_keeps
    | with_reducible apply State.endGrants_keeps | with_reducible apply State.releaseHost_keeps
    | (generalize hu : State.mk .. = u; refine (?_ : State.Keeps strict s0 u → _) (.mk_eq hu ?_); clear hu) | split | dsimp only

theorem State.dormantCell_keeps {strict : Bool} {s0 s : State} (h : s0.Keeps strict s) (c : CellNo) :
    s0.Keeps strict (State.dormantCell c s) := by
  unfold State.dormantCell
  repeat' first
    | with_reducible assumption | intro _ | ((fail_if_no_progress extract_lets +onlyGivenNames t); refine (?_ : State.Keeps strict s0 t → _) ?_; (on_goal 1 => intro ht; clear_value t); on_goal 2 => try unfold t)
    | fail_if_no_progress extract_lets +onlyGivenNames t | with_reducible apply State.holdFeeder_keeps
    | with_reducible apply State.laneStop_keeps | with_reducible apply State.modCell_keeps
    | with_reducible apply State.orBlock_keeps
    | (generalize hu : State.mk .. = u; refine (?_ : State.Keeps strict s0 u → _) (.mk_eq hu ?_); clear hu) | split
    | with_reducible refine State.Keeps.of_pair (by assumption) ?_ | with_reducible refine State.Keeps.of_triple (by assumption) ?_
    | dsimp only

theorem State.enterDormant_keeps {strict : Bool} {s0 s : State} (h : s0.Keeps strict s) :
    s0.Keeps strict (State.enterDormant s) := by
  unfold State.enterDormant
  repeat' first
    | with_reducible assumption | intro _ | ((fail_if_no_progress extract_lets +onlyGivenNames t); refine (?_ : State.Keeps strict s0 t → _) ?_; (on_goal 1 => intro ht; clear_value t); on_goal 2 => try unfold t)
    | fail_if_no_progress extract_lets +onlyGivenNames t | with_reducible apply State.cocoonCheck_keeps
    | with_reducible apply State.disconnect_keeps | with_reducible apply State.dormantCell_keeps
    | with_reducible apply State.each_keeps | with_reducible apply State.lanesOff_keeps
    | with_reducible refine State.modModes_keeps ?_ _ (fun _ => rfl) | with_reducible apply State.modPins_keeps
    | with_reducible apply State.modSeq_keeps | with_reducible apply State.releaseAll_keeps
    | (generalize hu : State.mk .. = u; refine (?_ : State.Keeps strict s0 u → _) (.mk_eq hu ?_); clear hu) | split | dsimp only

theorem State.startCores_keeps {strict : Bool} {s0 s : State} (h : s0.Keeps strict s) :
    s0.Keeps strict (State.startCores s) := by
  unfold State.startCores
  repeat' first
    | with_reducible assumption | intro _ | ((fail_if_no_progress extract_lets +onlyGivenNames t); refine (?_ : State.Keeps strict s0 t → _) ?_; (on_goal 1 => intro ht; clear_value t); on_goal 2 => try unfold t)
    | fail_if_no_progress extract_lets +onlyGivenNames t
    | (generalize hu : State.mk .. = u; refine (?_ : State.Keeps strict s0 u → _) (.mk_eq hu ?_); clear hu) | split | dsimp only

theorem State.wakeManage_keeps {strict : Bool} {s0 s : State} (h : s0.Keeps strict s) :
    s0.Keeps strict (State.wakeManage s) := by
  unfold State.wakeManage
  repeat' first
    | with_reducible assumption | intro _ | ((fail_if_no_progress extract_lets +onlyGivenNames t); refine (?_ : State.Keeps strict s0 t → _) ?_; (on_goal 1 => intro ht; clear_value t); on_goal 2 => try unfold t)
    | fail_if_no_progress extract_lets +onlyGivenNames t | with_reducible apply State.drainQueue_keeps
    | with_reducible apply State.each_keeps | with_reducible apply State.modClk_keeps | with_reducible apply State.rejoin_keeps
    | with_reducible apply State.resume_keeps | with_reducible apply State.startCores_keeps
    | (generalize hu : State.mk .. = u; refine (?_ : State.Keeps strict s0 u → _) (.mk_eq hu ?_); clear hu) | split | dsimp only

theorem State.enterRising_keeps {strict : Bool} {s0 s : State} (h : s0.Keeps strict s) (old : Option Mode) :
    s0.Keeps strict (State.enterRising old s) := by
  unfold State.enterRising
  repeat' first
    | with_reducible assumption | intro _ | ((fail_if_no_progress extract_lets +onlyGivenNames t); refine (?_ : State.Keeps strict s0 t → _) ?_; (on_goal 1 => intro ht; clear_value t); on_goal 2 => try unfold t)
    | fail_if_no_progress extract_lets +onlyGivenNames t | with_reducible apply State.alertPins_keeps
    | with_reducible apply State.armWatchdog_keeps | with_reducible apply State.each_keeps
    | with_reducible apply State.lanesStart_keeps | with_reducible apply State.modCell_keeps
    | with_reducible apply State.startOn_keeps | with_reducible apply State.wakeManage_keeps
    | (generalize hu : State.mk .. = u; refine (?_ : State.Keeps strict s0 u → _) (.mk_eq hu ?_); clear hu) | split | dsimp only

theorem State.modeBegins_keeps {strict : Bool} {s0 s : State} (h : s0.Keeps strict s) (old : Option Mode) (m : Mode) (cause : Nat) :
    s0.Keeps strict (State.modeBegins old m cause s) := by
  unfold State.modeBegins
  repeat' first
    | with_reducible assumption | intro _ | ((fail_if_no_progress extract_lets +onlyGivenNames t); refine (?_ : State.Keeps strict s0 t → _) ?_; (on_goal 1 => intro ht; clear_value t); on_goal 2 => try unfold t)
    | fail_if_no_progress extract_lets +onlyGivenNames t | with_reducible apply State.each_keeps
    | with_reducible apply State.enterDormant_keeps | with_reducible apply State.enterRising_keeps
    | with_reducible apply State.modLedger_keeps | with_reducible apply State.modString_keeps
    | with_reducible apply State.startOff_keeps
    | (generalize hu : State.mk .. = u; refine (?_ : State.Keeps strict s0 u → _) (.mk_eq hu ?_); clear hu) | split
    | with_reducible refine State.Keeps.of_pair (by assumption) ?_ | with_reducible refine State.Keeps.of_triple (by assumption) ?_
    | dsimp only

theorem State.showMode_keeps {strict : Bool} {s0 s : State} (h : s0.Keeps strict s) (m : Mode) (cause : Nat) :
    s0.Keeps false (State.showMode m cause s) := by
  replace h := h.loose
  unfold State.showMode
  have ht : s0.Keeps false (s.modModes fun x => { x with mode := some m, lastCause := cause }) :=
    h.trans ⟨rfl, fun e => Bool.noConfusion e, id, id, s.fw.guards_refl⟩
  generalize s.modModes _ = t at ht ⊢
  exact State.emcy_keeps (State.event_keeps ht _ _ _ _) _ _

theorem State.enterMode_keeps {strict : Bool} {s0 s : State} (h : s0.Keeps strict s) (x : Mode) (cause : Nat) : s0.Keeps false (State.enterMode x cause s) := by
  unfold State.enterMode
  extract_lets old t u v
  have ht : s0.Keeps false t := State.abandonAny_keeps (State.showMode_keeps h x cause)
  clear_value t
  have hu : s0.Keeps false u := by
    unfold u
    split
    · exact State.each_keeps ht fun c w hw => State.interruptCell_keeps hw c
    · exact ht
  clear_value u
  have hv : s0.Keeps false v := State.modeBegins_keeps hu old x cause
  clear_value v
  split
  · exact State.each_keeps hv fun k w hk => State.tryStart_keeps hk k
  · exact hv

theorem State.arbitrate_keeps {strict : Bool} {s0 s : State} (h : s0.Keeps strict s) :
    s0.Keeps false (State.arbitrate s) := by
  unfold State.arbitrate
  replace h := h.loose
  repeat' first
    | with_reducible assumption | intro _ | ((fail_if_no_progress extract_lets +onlyGivenNames t); refine (?_ : State.Keeps false s0 t → _) ?_; (on_goal 1 => intro ht; clear_value t); on_goal 2 => try unfold t)
    | fail_if_no_progress extract_lets +onlyGivenNames t | with_reducible apply State.chooseRequest_keeps
    | with_reducible apply State.enterMode_keeps | with_reducible refine State.modModes_keeps ?_ _ (fun _ => rfl)
    | with_reducible apply State.modSeq_keeps
    | (generalize hu : State.mk .. = u; refine (?_ : State.Keeps false s0 u → _) (.mk_eq hu ?_); clear hu) | split
    | with_reducible refine State.Keeps.of_pair (by assumption) ?_ | with_reducible refine State.Keeps.of_triple (by assumption) ?_
    | dsimp only

theorem State.dormantWake_keeps {strict : Bool} {s0 s : State} (h : s0.Keeps strict s) :
    s0.Keeps false (State.dormantWake s) := by
  unfold State.dormantWake
  replace h := h.loose
  repeat' first
    | with_reducible assumption | intro _ | ((fail_if_no_progress extract_lets +onlyGivenNames t); refine (?_ : State.Keeps false s0 t → _) ?_; (on_goal 1 => intro ht; clear_value t); on_goal 2 => try unfold t)
    | fail_if_no_progress extract_lets +onlyGivenNames t | with_reducible apply State.enterMode_keeps
    | (generalize hu : State.mk .. = u; refine (?_ : State.Keeps false s0 u → _) (.mk_eq hu ?_); clear hu) | split | dsimp only

theorem State.adoptProfile_keeps {strict : Bool} {s0 s : State} (h : s0.Keeps strict s) :
    s0.Keeps strict (State.adoptProfile s) := by
  unfold State.adoptProfile
  repeat' first
    | with_reducible assumption | intro _ | ((fail_if_no_progress extract_lets +onlyGivenNames t); refine (?_ : State.Keeps strict s0 t → _) ?_; (on_goal 1 => intro ht; clear_value t); on_goal 2 => try unfold t)
    | fail_if_no_progress extract_lets +onlyGivenNames t | with_reducible apply State.each_keeps
    | with_reducible apply State.modLoop_keeps | with_reducible refine State.modModes_keeps ?_ _ (fun _ => rfl)
    | (generalize hu : State.mk .. = u; refine (?_ : State.Keeps strict s0 u → _) (.mk_eq hu ?_); clear hu) | split | dsimp only

theorem execBootComplete_keeps {strict : Bool} {s0 s : State} (h : s0.Keeps strict s) : ∃ t, execBootComplete s = .next t ∧ s0.Keeps false t := by
  replace h := h.loose
  unfold execBootComplete
  split
  · have ht : s0.Keeps false { s with phase := .running } :=
      h.trans ⟨rfl, fun e => Bool.noConfusion e, id, id, s.fw.guards_refl⟩
    refine settle_keeps ?_ _
    generalize State.mk .. = t at ht ⊢
    split
    · exact State.enterMode_keeps ht _ _
    · exact State.enterMode_keeps ht _ _
  · exact ⟨_, rfl, h⟩

/-! Machine/Reads.lean. -/

theorem State.readWindow_keeps {strict : Bool} {s0 s : State} (h0 : s0.Keeps strict s) (h : HostNo) :
    s0.Keeps strict (State.readWindow h s).2 := by
  unfold State.readWindow
  repeat' first
    | with_reducible assumption | intro _ | ((fail_if_no_progress extract_lets +onlyGivenNames t); refine (?_ : State.Keeps strict s0 t → _) ?_; (on_goal 1 => intro ht; clear_value t); on_goal 2 => try unfold t)
    | fail_if_no_progress extract_lets +onlyGivenNames t | with_reducible apply State.closeRecs_keeps
    | with_reducible apply State.modHost_keeps
    | (generalize hu : State.mk .. = u; refine (?_ : State.Keeps strict s0 u → _) (.mk_eq hu ?_); clear hu) | split | dsimp only

theorem State.readPeatWindow_keeps {strict : Bool} {s0 s : State} (h0 : s0.Keeps strict s) (h : HostNo) :
    s0.Keeps strict (State.readPeatWindow h s).2 := by
  unfold State.readPeatWindow
  repeat' first
    | with_reducible assumption | intro _ | ((fail_if_no_progress extract_lets +onlyGivenNames t); refine (?_ : State.Keeps strict s0 t → _) ?_; (on_goal 1 => intro ht; clear_value t); on_goal 2 => try unfold t)
    | fail_if_no_progress extract_lets +onlyGivenNames t | with_reducible apply State.modHost_keeps
    | (generalize hu : State.mk .. = u; refine (?_ : State.Keeps strict s0 u → _) (.mk_eq hu ?_); clear hu) | split | dsimp only

theorem State.content_keeps {strict : Bool} {s0 s : State} (h0 : s0.Keeps strict s) (h : HostNo) (index sub : Nat) :
    s0.Keeps strict (State.content h index sub s).2 := by
  unfold State.content
  repeat' first
    | with_reducible assumption | intro _ | ((fail_if_no_progress extract_lets +onlyGivenNames t); refine (?_ : State.Keeps strict s0 t → _) ?_; (on_goal 1 => intro ht; clear_value t); on_goal 2 => try unfold t)
    | fail_if_no_progress extract_lets +onlyGivenNames t | with_reducible apply State.readPeatWindow_keeps
    | with_reducible apply State.readWindow_keeps
    | (generalize hu : State.mk .. = u; refine (?_ : State.Keeps strict s0 u → _) (.mk_eq hu ?_); clear hu) | split
    | with_reducible refine State.Keeps.of_pair (by assumption) ?_ | with_reducible refine State.Keeps.of_triple (by assumption) ?_
    | dsimp only

/-! Machine/Access.lean. -/

theorem State.newImage_wf (s : State) (scope : Nat) (c : s.dict.canonical) : Dict.wf (s.newImage scope).vals := by
  have fold : ∀ (l : List (Nat × Int)) (d : Dict), Dict.wf d → Dict.wf (l.foldl (fun d p => Dict.put d p.1 p.2) d) := by
    intro l
    induction l with
    | nil => exact fun _ h => h
    | cons p r ih => exact fun d h => ih _ (Dict.wf_put _ _ h)
  refine fold _ _ ?_
  split
  next i hi =>
    refine Dict.wf_filter _ (c.2.2 i ?_)
    simp [DictState.images, hi]
  · exact List.Pairwise.nil

theorem writeStore_keeps {strict : Bool} {s0 s : State} (h : s0.Keeps strict s) (c : HostNo) (sub v : Nat) : s0.Keeps strict (writeStore c sub v s).2 := by
  unfold writeStore
  split
  · exact h
  · split
    · exact h
    · refine h.trans ⟨rfl, fun _ => ⟨rfl, rfl⟩, fun d => ⟨d.1, d.2.1, fun i hi => ?_⟩, id, s.fw.guards_refl⟩
      simp only [DictState.images, List.mem_append] at hi
      rcases hi with hi | hi
      · exact d.2.2 i (by simp only [DictState.images, List.mem_append]; exact .inl hi)
      · have e : i = s.newImage sub := by simpa [State.modDict] using hi
        exact e ▸ State.newImage_wf s sub d

theorem writeRestore_keeps {strict : Bool} {s0 s : State} (h : s0.Keeps strict s) (sub v : Nat) :
    s0.Keeps strict (writeRestore sub v s).2 := by
  unfold writeRestore
  repeat' first
    | with_reducible assumption | intro _ | ((fail_if_no_progress extract_lets +onlyGivenNames t); refine (?_ : State.Keeps strict s0 t → _) ?_; (on_goal 1 => intro ht; clear_value t); on_goal 2 => try unfold t)
    | fail_if_no_progress extract_lets +onlyGivenNames t
    | with_reducible refine State.modDict_keeps_same ?_ _ (fun _ => rfl) (fun _ => rfl) (fun _ => rfl)
    | (generalize hu : State.mk .. = u; refine (?_ : State.Keeps strict s0 u → _) (.mk_eq hu ?_); clear hu) | split | dsimp only

theorem writeCursor_keeps {strict : Bool} {s0 s : State} (h0 : s0.Keeps strict s) (h : HostNo) (v : Nat) :
    s0.Keeps strict (writeCursor h v s).2 := by
  unfold writeCursor
  repeat' first
    | with_reducible assumption | intro _ | ((fail_if_no_progress extract_lets +onlyGivenNames t); refine (?_ : State.Keeps strict s0 t → _) ?_; (on_goal 1 => intro ht; clear_value t); on_goal 2 => try unfold t)
    | fail_if_no_progress extract_lets +onlyGivenNames t | with_reducible apply State.modHost_keeps
    | (generalize hu : State.mk .. = u; refine (?_ : State.Keeps strict s0 u → _) (.mk_eq hu ?_); clear hu) | split
    | with_reducible refine State.Keeps.of_pair (by assumption) ?_ | with_reducible refine State.Keeps.of_triple (by assumption) ?_
    | dsimp only

theorem writePeatCursor_keeps {strict : Bool} {s0 s : State} (h0 : s0.Keeps strict s) (h : HostNo) (v : Nat) :
    s0.Keeps strict (writePeatCursor h v s).2 := by
  unfold writePeatCursor
  repeat' first
    | with_reducible assumption | intro _ | ((fail_if_no_progress extract_lets +onlyGivenNames t); refine (?_ : State.Keeps strict s0 t → _) ?_; (on_goal 1 => intro ht; clear_value t); on_goal 2 => try unfold t)
    | fail_if_no_progress extract_lets +onlyGivenNames t | with_reducible apply State.modHost_keeps
    | (generalize hu : State.mk .. = u; refine (?_ : State.Keeps strict s0 u → _) (.mk_eq hu ?_); clear hu) | split
    | with_reducible refine State.Keeps.of_pair (by assumption) ?_ | with_reducible refine State.Keeps.of_triple (by assumption) ?_
    | dsimp only

theorem writeRingRetire_keeps {strict : Bool} {s0 s : State} (h : s0.Keeps strict s) (c : HostNo) (v : Nat) : s0.Keeps strict (writeRingRetire c v s).2 := by
  unfold writeRingRetire
  dsimp only
  split
  · exact h
  · split
    · exact h
    · with_reducible apply State.event_keeps
      with_reducible apply State.modRec_keeps h
      intro q c
      simp only [Recorder.bounded] at c ⊢
      exact ⟨(totalBy_filter _ _ _).trans c.1, c.2⟩

theorem writePeatRetire_keeps {strict : Bool} {s0 s : State} (h : s0.Keeps strict s) (c : HostNo) (v : Nat) : s0.Keeps strict (writePeatRetire c v s).2 := by
  unfold writePeatRetire
  dsimp only
  split
  · exact h
  · split
    · exact h
    · with_reducible apply State.event_keeps
      with_reducible apply State.modRec_keeps h
      intro q c
      simp only [Recorder.bounded] at c ⊢
      exact ⟨c.1, (totalBy_filter _ _ _).trans c.2.1, c.2.2⟩

theorem writeGaspClear_keeps {strict : Bool} {s0 s : State} (h : s0.Keeps strict s) (v : Nat) : s0.Keeps strict (writeGaspClear v s).2 := by
  unfold writeGaspClear
  dsimp only
  split
  · refine State.modRec_keeps h _ fun q c => ?_
    simp only [Recorder.bounded] at c ⊢
    exact ⟨c.1, c.2.1, c.2.2.1, Nat.zero_le _⟩
  · exact h

theorem writeShutdownLatch_keeps {strict : Bool} {s0 s : State} (h : s0.Keeps strict s) :
    s0.Keeps strict (writeShutdownLatch s).2 := by
  unfold writeShutdownLatch
  repeat' first
    | with_reducible assumption | intro _ | ((fail_if_no_progress extract_lets +onlyGivenNames t); refine (?_ : State.Keeps strict s0 t → _) ?_; (on_goal 1 => intro ht; clear_value t); on_goal 2 => try unfold t)
    | fail_if_no_progress extract_lets +onlyGivenNames t | with_reducible refine State.modModes_keeps ?_ _ (fun _ => rfl)
    | (generalize hu : State.mk .. = u; refine (?_ : State.Keeps strict s0 u → _) (.mk_eq hu ?_); clear hu) | split | dsimp only

theorem writePeak_keeps {strict : Bool} {s0 s : State} (h : s0.Keeps strict s) :
    s0.Keeps strict (writePeak s).2 := by
  unfold writePeak
  repeat' first
    | with_reducible assumption | intro _ | ((fail_if_no_progress extract_lets +onlyGivenNames t); refine (?_ : State.Keeps strict s0 t → _) ?_; (on_goal 1 => intro ht; clear_value t); on_goal 2 => try unfold t)
    | fail_if_no_progress extract_lets +onlyGivenNames t
    | (generalize hu : State.mk .. = u; refine (?_ : State.Keeps strict s0 u → _) (.mk_eq hu ?_); clear hu) | split | dsimp only

theorem writeBudget_keeps {strict : Bool} {s0 s : State} (h0 : s0.Keeps strict s) (h : HostNo) (b : Fin 4) (v : Nat) :
    s0.Keeps strict (writeBudget h b v s).2 := by
  unfold writeBudget
  repeat' first
    | with_reducible assumption | intro _ | ((fail_if_no_progress extract_lets +onlyGivenNames t); refine (?_ : State.Keeps strict s0 t → _) ?_; (on_goal 1 => intro ht; clear_value t); on_goal 2 => try unfold t)
    | fail_if_no_progress extract_lets +onlyGivenNames t | with_reducible apply State.modHost_keeps
    | (generalize hu : State.mk .. = u; refine (?_ : State.Keeps strict s0 u → _) (.mk_eq hu ?_); clear hu) | split | dsimp only

theorem writeAppConfirm_keeps {strict : Bool} {s0 s : State} (h0 : s0.Keeps strict s) (h : HostNo) (v : Nat) :
    s0.Keeps strict (writeAppConfirm h v s).2 := by
  unfold writeAppConfirm
  repeat' first
    | with_reducible assumption | intro _ | ((fail_if_no_progress extract_lets +onlyGivenNames t); refine (?_ : State.Keeps strict s0 t → _) ?_; (on_goal 1 => intro ht; clear_value t); on_goal 2 => try unfold t)
    | fail_if_no_progress extract_lets +onlyGivenNames t
    | with_reducible refine State.modFw_keeps ?_ _ (fun _ => rfl) (fun _ => rfl)
    | (generalize hu : State.mk .. = u; refine (?_ : State.Keeps strict s0 u → _) (.mk_eq hu ?_); clear hu) | split | dsimp only

theorem writeRollback_keeps {strict : Bool} {s0 s : State} (h : s0.Keeps strict s) (v : Nat) :
    s0.Keeps strict (writeRollback v s).2 := by
  unfold writeRollback
  repeat' first
    | with_reducible assumption | intro _ | ((fail_if_no_progress extract_lets +onlyGivenNames t); refine (?_ : State.Keeps strict s0 t → _) ?_; (on_goal 1 => intro ht; clear_value t); on_goal 2 => try unfold t)
    | fail_if_no_progress extract_lets +onlyGivenNames t
    | with_reducible refine State.modFw_keeps ?_ _ (fun _ => rfl) (fun _ => rfl)
    | (generalize hu : State.mk .. = u; refine (?_ : State.Keeps strict s0 u → _) (.mk_eq hu ?_); clear hu) | split | dsimp only

theorem State.commitAfter_keeps {strict : Bool} {s0 s : State} (h : s0.Keeps strict s) (c : CellNo) :
    s0.Keeps strict (State.commitAfter c s) := by
  unfold State.commitAfter
  repeat' first
    | with_reducible assumption | intro _ | ((fail_if_no_progress extract_lets +onlyGivenNames t); refine (?_ : State.Keeps strict s0 t → _) ?_; (on_goal 1 => intro ht; clear_value t); on_goal 2 => try unfold t)
    | fail_if_no_progress extract_lets +onlyGivenNames t | with_reducible apply State.applyRole_keeps
    | with_reducible apply State.modCell_keeps
    | (generalize hu : State.mk .. = u; refine (?_ : State.Keeps strict s0 u → _) (.mk_eq hu ?_); clear hu) | split | dsimp only

theorem writeComm_keeps {strict : Bool} {s0 s : State} (h0 : s0.Keeps strict s) (h : HostNo) (index sub : Nat) (v : Int) :
    s0.Keeps strict (writeComm h index sub v s).2 := by
  unfold writeComm
  repeat' first
    | with_reducible assumption | intro _ | ((fail_if_no_progress extract_lets +onlyGivenNames t); refine (?_ : State.Keeps strict s0 t → _) ?_; (on_goal 1 => intro ht; clear_value t); on_goal 2 => try unfold t)
    | fail_if_no_progress extract_lets +onlyGivenNames t | with_reducible apply State.setWritten_keeps
    | with_reducible apply writeBudget_keeps | with_reducible apply writeLockCmd_keeps | with_reducible apply writeModeRequest_keeps
    | with_reducible apply writePeak_keeps | with_reducible apply writeRestore_keeps | with_reducible apply writeShutdownLatch_keeps
    | with_reducible apply writeStore_keeps
    | (generalize hu : State.mk .. = u; refine (?_ : State.Keeps strict s0 u → _) (.mk_eq hu ?_); clear hu) | split
    | with_reducible refine State.Keeps.of_pair (by assumption) ?_ | with_reducible refine State.Keeps.of_triple (by assumption) ?_
    | dsimp only

theorem writeShelf_keeps {strict : Bool} {s0 s : State} (h0 : s0.Keeps strict s) (h : HostNo) (index sub : Nat) (v : Int) :
    s0.Keeps strict (writeShelf h index sub v s).2 := by
  unfold writeShelf
  repeat' first
    | with_reducible assumption | intro _ | ((fail_if_no_progress extract_lets +onlyGivenNames t); refine (?_ : State.Keeps strict s0 t → _) ?_; (on_goal 1 => intro ht; clear_value t); on_goal 2 => try unfold t)
    | fail_if_no_progress extract_lets +onlyGivenNames t | with_reducible apply State.alertPins_keeps
    | with_reducible apply State.setWritten_keeps | with_reducible apply writeAppConfirm_keeps
    | with_reducible apply writeCursor_keeps | with_reducible apply writeGaspClear_keeps | with_reducible apply writeLaneCmd_keeps
    | with_reducible apply writePeatCursor_keeps | with_reducible apply writePeatRetire_keeps
    | with_reducible apply writeRailClear_keeps | with_reducible apply writeRingRetire_keeps
    | with_reducible apply writeRollback_keeps | with_reducible apply writeTraceCommand_keeps
    | with_reducible apply writeTraceConfig_keeps
    | (generalize hu : State.mk .. = u; refine (?_ : State.Keeps strict s0 u → _) (.mk_eq hu ?_); clear hu) | split
    | with_reducible refine State.Keeps.of_pair (by assumption) ?_ | with_reducible refine State.Keeps.of_triple (by assumption) ?_
    | dsimp only

theorem writeCell_keeps {strict : Bool} {s0 s : State} (h0 : s0.Keeps strict s) (h : HostNo) (c : CellNo) (sub : Nat) (v : Int) :
    s0.Keeps strict (writeCell h c sub v s).2 := by
  unfold writeCell
  repeat' first
    | with_reducible assumption | intro _ | ((fail_if_no_progress extract_lets +onlyGivenNames t); refine (?_ : State.Keeps strict s0 t → _) ?_; (on_goal 1 => intro ht; clear_value t); on_goal 2 => try unfold t)
    | fail_if_no_progress extract_lets +onlyGivenNames t | with_reducible apply State.setWritten_keeps
    | with_reducible apply writeFaultLatch_keeps | with_reducible apply writeFeedEnable_keeps
    | with_reducible apply writeFeederClear_keeps | with_reducible apply writeMaintCmd_keeps
    | with_reducible apply writeOrClear_keeps | with_reducible apply writeOrEnable_keeps
    | with_reducible apply writeSafeAction_keeps | with_reducible apply writeSamplePoint_keeps
    | with_reducible apply writeSlotBinding_keeps
    | (generalize hu : State.mk .. = u; refine (?_ : State.Keeps strict s0 u → _) (.mk_eq hu ?_); clear hu) | split
    | with_reducible refine State.Keeps.of_pair (by assumption) ?_ | with_reducible refine State.Keeps.of_triple (by assumption) ?_
    | dsimp only

theorem writeLoop_keeps {strict : Bool} {s0 s : State} (h0 : s0.Keeps strict s) (h : HostNo) (k : LoopNo) (sub : Nat) (v : Int) :
    s0.Keeps strict (writeLoop h k sub v s).2 := by
  unfold writeLoop
  repeat' first
    | with_reducible assumption | intro _ | ((fail_if_no_progress extract_lets +onlyGivenNames t); refine (?_ : State.Keeps strict s0 t → _) ?_; (on_goal 1 => intro ht; clear_value t); on_goal 2 => try unfold t)
    | fail_if_no_progress extract_lets +onlyGivenNames t | with_reducible apply State.recapacity_keeps
    | with_reducible apply State.setWritten_keeps | with_reducible apply writeActiveSet_keeps
    | with_reducible apply writeBelowPeriod_keeps | with_reducible apply writeControlMode_keeps
    | with_reducible apply writeEnable_keeps | with_reducible apply writeMembers_keeps | with_reducible apply writePeriod_keeps
    | with_reducible apply writeSafeLock_keeps
    | (generalize hu : State.mk .. = u; refine (?_ : State.Keeps strict s0 u → _) (.mk_eq hu ?_); clear hu) | split | dsimp only

theorem writeString_keeps {strict : Bool} {s0 s : State} (h : s0.Keeps strict s) (n : StringNo) (sub : Nat) (v : Int) :
    s0.Keeps strict (writeString n sub v s).2 := by
  unfold writeString
  repeat' first
    | with_reducible assumption | intro _ | ((fail_if_no_progress extract_lets +onlyGivenNames t); refine (?_ : State.Keeps strict s0 t → _) ?_; (on_goal 1 => intro ht; clear_value t); on_goal 2 => try unfold t)
    | fail_if_no_progress extract_lets +onlyGivenNames t | with_reducible apply State.setWritten_keeps
    | with_reducible apply writeStringClear_keeps | with_reducible apply writeStringEnable_keeps
    | (generalize hu : State.mk .. = u; refine (?_ : State.Keeps strict s0 u → _) (.mk_eq hu ?_); clear hu) | split | dsimp only

theorem writeValue_keeps {strict : Bool} {s0 s : State} (h0 : s0.Keeps strict s) (h : HostNo) (index sub : Nat) (v : Int) :
    s0.Keeps strict (writeValue h index sub v s).2 := by
  unfold writeValue
  repeat' first
    | with_reducible assumption | intro _ | ((fail_if_no_progress extract_lets +onlyGivenNames t); refine (?_ : State.Keeps strict s0 t → _) ?_; (on_goal 1 => intro ht; clear_value t); on_goal 2 => try unfold t)
    | fail_if_no_progress extract_lets +onlyGivenNames t | with_reducible apply State.setWritten_keeps
    | with_reducible apply writeCell_keeps | with_reducible apply writeCoefficient_keeps | with_reducible apply writeComm_keeps
    | with_reducible apply writeGroupClear_keeps | with_reducible apply writeGroupConfig_keeps
    | with_reducible apply writeGroupEnable_keeps | with_reducible apply writeLoop_keeps
    | with_reducible apply writeRecordReset_keeps | with_reducible apply writeShelf_keeps | with_reducible apply writeString_keeps
    | (generalize hu : State.mk .. = u; refine (?_ : State.Keeps strict s0 u → _) (.mk_eq hu ?_); clear hu) | split
    | with_reducible refine State.Keeps.of_pair (by assumption) ?_ | with_reducible refine State.Keeps.of_triple (by assumption) ?_
    | dsimp only

theorem writeDomain_keeps {strict : Bool} {s0 s : State} (h0 : s0.Keeps strict s) (h : HostNo) (index : Nat) (data : Bytes) :
    s0.Keeps strict (writeDomain h index data s).2 := by
  unfold writeDomain
  repeat' first
    | with_reducible assumption | intro _ | ((fail_if_no_progress extract_lets +onlyGivenNames t); refine (?_ : State.Keeps strict s0 t → _) ?_; (on_goal 1 => intro ht; clear_value t); on_goal 2 => try unfold t)
    | fail_if_no_progress extract_lets +onlyGivenNames t | with_reducible apply writeCalRecord_keeps
    | with_reducible apply writeGrantRequest_keeps
    | (generalize hu : State.mk .. = u; refine (?_ : State.Keeps strict s0 u → _) (.mk_eq hu ?_); clear hu) | split
    | with_reducible refine State.Keeps.of_pair (by assumption) ?_ | with_reducible refine State.Keeps.of_triple (by assumption) ?_
    | dsimp only

theorem State.writeEntry_keeps {strict : Bool} {s0 s : State} (h0 : s0.Keeps strict s) (h : HostNo) (index sub : Nat) (data : Bytes) :
    s0.Keeps strict (State.writeEntry h index sub data s).2 := by
  unfold State.writeEntry
  repeat' first
    | with_reducible assumption | intro _ | ((fail_if_no_progress extract_lets +onlyGivenNames t); refine (?_ : State.Keeps strict s0 t → _) ?_; (on_goal 1 => intro ht; clear_value t); on_goal 2 => try unfold t)
    | fail_if_no_progress extract_lets +onlyGivenNames t | with_reducible apply writeDomain_keeps
    | with_reducible apply writeValue_keeps
    | (generalize hu : State.mk .. = u; refine (?_ : State.Keeps strict s0 u → _) (.mk_eq hu ?_); clear hu) | split
    | with_reducible refine State.Keeps.of_pair (by assumption) ?_ | with_reducible refine State.Keeps.of_triple (by assumption) ?_
    | dsimp only

theorem State.afterWrite_keeps {strict : Bool} {s0 s : State} (h : s0.Keeps strict s) (index sub : Nat) :
    s0.Keeps strict (State.afterWrite index sub s) := by
  unfold State.afterWrite
  repeat' first
    | with_reducible assumption | intro _ | ((fail_if_no_progress extract_lets +onlyGivenNames t); refine (?_ : State.Keeps strict s0 t → _) ?_; (on_goal 1 => intro ht; clear_value t); on_goal 2 => try unfold t)
    | fail_if_no_progress extract_lets +onlyGivenNames t | with_reducible apply State.commitAfter_keeps
    | with_reducible apply State.onFin_keeps | with_reducible apply State.testEntry_keeps
    | (generalize hu : State.mk .. = u; refine (?_ : State.Keeps strict s0 u → _) (.mk_eq hu ?_); clear hu) | split | dsimp only

theorem multiApply_keeps (c : HostNo) (is : List MultiItem) (r : MultiResult) {strict : Bool} {s0 s : State} (h : s0.Keeps strict s) : s0.Keeps strict (multiApply c is r s).2 := by
  induction is generalizing r s with
  | nil => exact h
  | cons i rest ih =>
    have hp : s0.Keeps strict (if i.index = 0x2104 ∧ i.sub = 1 then (0x08000022, s) else s.writeEntry c i.index i.sub i.data : Nat × State).2 := by
      split
      · exact h
      · exact State.writeEntry_keeps h _ _ _ _
    unfold multiApply
    generalize (if i.index = 0x2104 ∧ i.sub = 1 then (0x08000022, s) else s.writeEntry c i.index i.sub i.data : Nat × State) = p at hp ⊢
    obtain ⟨code, t⟩ := p
    dsimp only at hp ⊢
    split
    · exact hp
    · exact ih _ hp

theorem writeMulti_keeps {strict : Bool} {s0 s : State} (h : s0.Keeps strict s) (c : HostNo) (b : Bytes) : s0.Keeps strict (writeMulti c b s).2 := by
  unfold writeMulti
  dsimp only
  split
  · exact h
  · split
    · exact h
    · split
      · exact h
      · have hm := fun is => multiApply_keeps c is { applied := 0, code := 0, index := 0, sub := 0, touched := [] } h
        dsimp only
        exact State.modHost_keeps (State.over_keeps (hm _) (fun p t ht => State.afterWrite_keeps ht _ _) _) _ _

theorem State.write_keeps {strict : Bool} {s0 s : State} (h0 : s0.Keeps strict s) (h : HostNo) (index sub : Nat) (data : Bytes) :
    s0.Keeps strict (State.write h index sub data s).2 := by
  unfold State.write
  repeat' first
    | with_reducible assumption | intro _ | ((fail_if_no_progress extract_lets +onlyGivenNames t); refine (?_ : State.Keeps strict s0 t → _) ?_; (on_goal 1 => intro ht; clear_value t); on_goal 2 => try unfold t)
    | fail_if_no_progress extract_lets +onlyGivenNames t | with_reducible apply State.afterWrite_keeps
    | with_reducible apply State.writeEntry_keeps | with_reducible apply writeMulti_keeps
    | (generalize hu : State.mk .. = u; refine (?_ : State.Keeps strict s0 u → _) (.mk_eq hu ?_); clear hu) | split
    | with_reducible refine State.Keeps.of_pair (by assumption) ?_ | with_reducible refine State.Keeps.of_triple (by assumption) ?_
    | dsimp only

theorem State.read_keeps {strict : Bool} {s0 s : State} (h0 : s0.Keeps strict s) (h : HostNo) (index sub : Nat) :
    s0.Keeps strict (State.read h index sub s).2.2 := by
  unfold State.read
  repeat' first
    | with_reducible assumption | intro _ | ((fail_if_no_progress extract_lets +onlyGivenNames t); refine (?_ : State.Keeps strict s0 t → _) ?_; (on_goal 1 => intro ht; clear_value t); on_goal 2 => try unfold t)
    | fail_if_no_progress extract_lets +onlyGivenNames t | with_reducible apply State.content_keeps
    | (generalize hu : State.mk .. = u; refine (?_ : State.Keeps strict s0 u → _) (.mk_eq hu ?_); clear hu) | split
    | with_reducible refine State.Keeps.of_pair (by assumption) ?_ | with_reducible refine State.Keeps.of_triple (by assumption) ?_
    | dsimp only

/-! Machine/Frames.lean. -/

theorem execLineQualified_keeps {strict : Bool} {s0 s : State} (h : s0.Keeps strict s) (g : GroupNo) :
    ∃ t, (execLineQualified g s) = .next t ∧ s0.Keeps false t := by
  unfold execLineQualified
  replace h := h.loose
  repeat' first
    | with_reducible assumption | intro _ | ((fail_if_no_progress extract_lets +onlyGivenNames t); refine (?_ : State.Keeps false s0 t → _) ?_; (on_goal 1 => intro ht; clear_value t); on_goal 2 => try unfold t)
    | fail_if_no_progress extract_lets +onlyGivenNames t | with_reducible apply State.errReset_keeps
    | with_reducible refine ⟨_, rfl, ?_⟩ | with_reducible apply State.dormantWake_keeps | with_reducible apply State.qualify_keeps
    | with_reducible apply settle_keeps
    | (generalize hu : State.mk .. = u; refine (?_ : State.Keeps false s0 u → _) (.mk_eq hu ?_); clear hu) | split | dsimp only

theorem execStartInputQualified_keeps {strict : Bool} {s0 s : State} (h : s0.Keeps strict s) (k : LoopNo) :
    ∃ t, (execStartInputQualified k s) = .next t ∧ s0.Keeps false t := by
  unfold execStartInputQualified
  replace h := h.loose
  repeat' first
    | with_reducible assumption | intro _ | ((fail_if_no_progress extract_lets +onlyGivenNames t); refine (?_ : State.Keeps false s0 t → _) ?_; (on_goal 1 => intro ht; clear_value t); on_goal 2 => try unfold t)
    | fail_if_no_progress extract_lets +onlyGivenNames t | with_reducible apply State.errReset_keeps
    | with_reducible refine ⟨_, rfl, ?_⟩ | with_reducible apply State.dormantWake_keeps | with_reducible apply State.modLoop_keeps
    | with_reducible apply State.tryStart_keeps | with_reducible apply settle_keeps
    | (generalize hu : State.mk .. = u; refine (?_ : State.Keeps false s0 u → _) (.mk_eq hu ?_); clear hu) | split | dsimp only

theorem State.startWindow_keeps {strict : Bool} {s0 s : State} (h : s0.Keeps strict s) (b : BlockNo) (k : LoopNo) :
    s0.Keeps strict (State.startWindow b k s) := by
  unfold State.startWindow
  repeat' first
    | with_reducible assumption | intro _ | ((fail_if_no_progress extract_lets +onlyGivenNames t); refine (?_ : State.Keeps strict s0 t → _) ?_; (on_goal 1 => intro ht; clear_value t); on_goal 2 => try unfold t)
    | fail_if_no_progress extract_lets +onlyGivenNames t | with_reducible apply State.modLoop_keeps
    | (generalize hu : State.mk .. = u; refine (?_ : State.Keeps strict s0 u → _) (.mk_eq hu ?_); clear hu) | split
    | with_reducible refine State.Keeps.of_pair (by assumption) ?_ | with_reducible refine State.Keeps.of_triple (by assumption) ?_
    | dsimp only

theorem State.auxSample_keeps {strict : Bool} {s0 s : State} (h : s0.Keeps strict s) (c : CellNo) (code : BitVec 12) :
    s0.Keeps strict (State.auxSample c code s) := by
  unfold State.auxSample
  repeat' first
    | with_reducible assumption | intro _ | ((fail_if_no_progress extract_lets +onlyGivenNames t); refine (?_ : State.Keeps strict s0 t → _) ?_; (on_goal 1 => intro ht; clear_value t); on_goal 2 => try unfold t)
    | fail_if_no_progress extract_lets +onlyGivenNames t | with_reducible apply State.modCell_keeps
    | with_reducible apply State.modOring_keeps
    | (generalize hu : State.mk .. = u; refine (?_ : State.Keeps strict s0 u → _) (.mk_eq hu ?_); clear hu) | split | dsimp only

theorem State.slotSample_keeps {strict : Bool} {s0 s : State} (h : s0.Keeps strict s) (u : SlotUse) (code : BitVec 12) :
    s0.Keeps strict (State.slotSample u code s) := by
  unfold State.slotSample
  repeat' first
    | with_reducible assumption | intro _ | ((fail_if_no_progress extract_lets +onlyGivenNames t); refine (?_ : State.Keeps strict s0 t → _) ?_; (on_goal 1 => intro ht; clear_value t); on_goal 2 => try unfold t)
    | fail_if_no_progress extract_lets +onlyGivenNames t | with_reducible apply State.auxSample_keeps
    | with_reducible apply State.bsvSample_keeps | with_reducible apply State.modThermal_keeps
    | (generalize hu : State.mk .. = u; refine (?_ : State.Keeps strict s0 u → _) (.mk_eq hu ?_); clear hu) | split
    | with_reducible refine State.Keeps.of_pair (by assumption) ?_ | with_reducible refine State.Keeps.of_triple (by assumption) ?_
    | dsimp only

theorem execBlockAdcFrame_keeps {strict : Bool} {s0 s : State} (h : s0.Keeps strict s) (b : BlockNo) (frame : AdcFrame) :
    ∃ t, (execBlockAdcFrame b frame s) = .next t ∧ s0.Keeps false t := by
  unfold execBlockAdcFrame
  replace h := h.loose
  repeat' first
    | with_reducible assumption | intro _ | ((fail_if_no_progress extract_lets +onlyGivenNames t); refine (?_ : State.Keeps false s0 t → _) ?_; (on_goal 1 => intro ht; clear_value t); on_goal 2 => try unfold t)
    | fail_if_no_progress extract_lets +onlyGivenNames t | with_reducible apply State.errReset_keeps
    | with_reducible refine ⟨_, rfl, ?_⟩ | with_reducible apply State.adoptSet_keeps | with_reducible apply State.dormantWake_keeps
    | with_reducible apply State.each_keeps | with_reducible apply State.event_keeps | with_reducible apply State.over_keeps
    | with_reducible apply State.slotSample_keeps | with_reducible apply State.startWindow_keeps | with_reducible apply settle_keeps
    | (generalize hu : State.mk .. = u; refine (?_ : State.Keeps false s0 u → _) (.mk_eq hu ?_); clear hu) | split
    | with_reducible refine State.Keeps.of_pair (by assumption) ?_ | with_reducible refine State.Keeps.of_triple (by assumption) ?_
    | dsimp only

theorem execSlotCrcFail_keeps {strict : Bool} {s0 s : State} (h : s0.Keeps strict s) (what : SlotKind) :
    ∃ t, (execSlotCrcFail what s) = .next t ∧ s0.Keeps strict t := by
  unfold execSlotCrcFail
  repeat' first
    | with_reducible assumption | intro _ | ((fail_if_no_progress extract_lets +onlyGivenNames t); refine (?_ : State.Keeps strict s0 t → _) ?_; (on_goal 1 => intro ht; clear_value t); on_goal 2 => try unfold t)
    | fail_if_no_progress extract_lets +onlyGivenNames t | with_reducible refine ⟨_, rfl, ?_⟩
    | with_reducible apply State.modCell_keeps | with_reducible apply State.modClk_keeps
    | (generalize hu : State.mk .. = u; refine (?_ : State.Keeps strict s0 u → _) (.mk_eq hu ?_); clear hu) | split
    | with_reducible refine State.Keeps.of_pair (by assumption) ?_ | with_reducible refine State.Keeps.of_triple (by assumption) ?_
    | dsimp only

theorem execLinkLoss_keeps {strict : Bool} {s0 s : State} (h : s0.Keeps strict s) (die : Die) :
    ∃ t, (execLinkLoss die s) = .next t ∧ s0.Keeps strict t := by
  unfold execLinkLoss
  repeat' first
    | with_reducible assumption | intro _ | ((fail_if_no_progress extract_lets +onlyGivenNames t); refine (?_ : State.Keeps strict s0 t → _) ?_; (on_goal 1 => intro ht; clear_value t); on_goal 2 => try unfold t)
    | fail_if_no_progress extract_lets +onlyGivenNames t | with_reducible apply State.errReset_keeps
    | with_reducible refine ⟨_, rfl, ?_⟩ | with_reducible apply State.enterSafe_keeps | with_reducible apply State.modPins_keeps
    | with_reducible apply State.setSafeAll_keeps | with_reducible apply settle_keeps
    | (generalize hu : State.mk .. = u; refine (?_ : State.Keeps strict s0 u → _) (.mk_eq hu ?_); clear hu) | split
    | with_reducible refine State.Keeps.of_pair (by assumption) ?_ | with_reducible refine State.Keeps.of_triple (by assumption) ?_
    | dsimp only

theorem execLclkLoss_keeps {strict : Bool} {s0 s : State} (h : s0.Keeps strict s) :
    ∃ t, (execLclkLoss s) = .next t ∧ s0.Keeps strict t := by
  unfold execLclkLoss
  repeat' first
    | with_reducible assumption | intro _ | ((fail_if_no_progress extract_lets +onlyGivenNames t); refine (?_ : State.Keeps strict s0 t → _) ?_; (on_goal 1 => intro ht; clear_value t); on_goal 2 => try unfold t)
    | fail_if_no_progress extract_lets +onlyGivenNames t | with_reducible apply State.errReset_keeps
    | with_reducible refine ⟨_, rfl, ?_⟩ | with_reducible apply State.enterSafe_keeps | with_reducible apply settle_keeps
    | (generalize hu : State.mk .. = u; refine (?_ : State.Keeps strict s0 u → _) (.mk_eq hu ?_); clear hu) | split | dsimp only

theorem State.resetBlock_keeps {strict : Bool} {s0 s : State} (h : s0.Keeps strict s) (b : BlockNo) :
    s0.Keeps strict (State.resetBlock b s) := by
  unfold State.resetBlock
  repeat' first
    | with_reducible assumption | intro _ | ((fail_if_no_progress extract_lets +onlyGivenNames t); refine (?_ : State.Keeps strict s0 t → _) ?_; (on_goal 1 => intro ht; clear_value t); on_goal 2 => try unfold t)
    | fail_if_no_progress extract_lets +onlyGivenNames t | with_reducible apply State.calCheck_keeps
    | with_reducible apply State.each_keeps | with_reducible apply State.modCell_keeps
    | (generalize hu : State.mk .. = u; refine (?_ : State.Keeps strict s0 u → _) (.mk_eq hu ?_); clear hu) | split | dsimp only

theorem execBlockLocalReset_keeps {strict : Bool} {s0 s : State} (h : s0.Keeps strict s) (block : BlockId) (firstOk secondOk : Bool) :
    ∃ t, (execBlockLocalReset block firstOk secondOk s) = .next t ∧ s0.Keeps strict t := by
  unfold execBlockLocalReset
  repeat' first
    | with_reducible assumption | intro _ | ((fail_if_no_progress extract_lets +onlyGivenNames t); refine (?_ : State.Keeps strict s0 t → _) ?_; (on_goal 1 => intro ht; clear_value t); on_goal 2 => try unfold t)
    | fail_if_no_progress extract_lets +onlyGivenNames t | with_reducible apply State.errReset_keeps
    | with_reducible refine ⟨_, rfl, ?_⟩ | with_reducible apply State.each_keeps | with_reducible apply State.resetBlock_keeps
    | with_reducible apply State.setSafe_keeps | with_reducible apply settle_keeps
    | (generalize hu : State.mk .. = u; refine (?_ : State.Keeps strict s0 u → _) (.mk_eq hu ?_); clear hu) | split
    | with_reducible refine State.Keeps.of_pair (by assumption) ?_ | with_reducible refine State.Keeps.of_triple (by assumption) ?_
    | dsimp only

/-! Machine/Holdup.lean. -/

theorem State.enterRecordMode_keeps {strict : Bool} {s0 s : State} (h : s0.Keeps strict s) :
    s0.Keeps strict (State.enterRecordMode s) := by
  unfold State.enterRecordMode
  repeat' first
    | with_reducible assumption | intro _ | ((fail_if_no_progress extract_lets +onlyGivenNames t); refine (?_ : State.Keeps strict s0 t → _) ?_; (on_goal 1 => intro ht; clear_value t); on_goal 2 => try unfold t)
    | fail_if_no_progress extract_lets +onlyGivenNames t | with_reducible apply State.cutChannels_keeps
    | with_reducible apply State.each_keeps | with_reducible apply State.laneStop_keeps | with_reducible apply State.modSeq_keeps
    | with_reducible apply State.modSession_keeps | with_reducible apply State.recordLoopsOff_keeps
    | (generalize hu : State.mk .. = u; refine (?_ : State.Keeps strict s0 u → _) (.mk_eq hu ?_); clear hu) | split | dsimp only

theorem execPfiAssert_keeps {strict : Bool} {s0 s : State} (h : s0.Keeps strict s) :
    ∃ t, (execPfiAssert s) = .next t ∧ s0.Keeps false t := by
  unfold execPfiAssert
  replace h := h.loose
  repeat' first
    | with_reducible assumption | intro _ | ((fail_if_no_progress extract_lets +onlyGivenNames t); refine (?_ : State.Keeps false s0 t → _) ?_; (on_goal 1 => intro ht; clear_value t); on_goal 2 => try unfold t)
    | fail_if_no_progress extract_lets +onlyGivenNames t | with_reducible apply State.errReset_keeps
    | with_reducible refine ⟨_, rfl, ?_⟩ | with_reducible apply State.closeRecs_keeps | with_reducible apply State.enterMode_keeps
    | with_reducible apply State.enterRecordMode_keeps | with_reducible apply State.event_keeps
    | with_reducible apply State.modSeq_keeps | with_reducible apply State.showMode_keeps | with_reducible apply settle_keeps
    | (generalize hu : State.mk .. = u; refine (?_ : State.Keeps false s0 u → _) (.mk_eq hu ?_); clear hu) | split
    | with_reducible refine State.Keeps.of_pair (by assumption) ?_ | with_reducible refine State.Keeps.of_triple (by assumption) ?_
    | dsimp only

theorem State.commitSlot_keeps {strict : Bool} {s0 s : State} (h : s0.Keeps strict s) (r : Bytes) : s0.Keeps strict (State.commitSlot r s) := by
  refine State.modRec_keeps h _ fun q c => ?_
  simp only [Recorder.bounded] at c ⊢
  exact ⟨c.1, c.2.1, c.2.2.1, List.length_take_le _ _⟩

theorem State.committed_keeps {strict : Bool} {s0 s : State} (h : s0.Keeps strict s) :
    s0.Keeps strict (State.committed s) := by
  unfold State.committed
  repeat' first
    | with_reducible assumption | intro _ | ((fail_if_no_progress extract_lets +onlyGivenNames t); refine (?_ : State.Keeps strict s0 t → _) ?_; (on_goal 1 => intro ht; clear_value t); on_goal 2 => try unfold t)
    | fail_if_no_progress extract_lets +onlyGivenNames t | with_reducible apply State.modSeq_keeps
    | (generalize hu : State.mk .. = u; refine (?_ : State.Keeps strict s0 u → _) (.mk_eq hu ?_); clear hu) | split | dsimp only

theorem execLastgaspCommitted_keeps {strict : Bool} {s0 s : State} (h : s0.Keeps strict s) (us : Nat) :
    ∃ t, (execLastgaspCommitted us s) = .next t ∧ s0.Keeps strict t := by
  unfold execLastgaspCommitted
  repeat' first
    | with_reducible assumption | intro _ | ((fail_if_no_progress extract_lets +onlyGivenNames t); refine (?_ : State.Keeps strict s0 t → _) ?_; (on_goal 1 => intro ht; clear_value t); on_goal 2 => try unfold t)
    | fail_if_no_progress extract_lets +onlyGivenNames t | with_reducible refine ⟨_, rfl, ?_⟩
    | with_reducible apply State.commitSlot_keeps | with_reducible apply State.committed_keeps
    | with_reducible apply State.event_keeps | with_reducible apply State.modSeq_keeps
    | (generalize hu : State.mk .. = u; refine (?_ : State.Keeps strict s0 u → _) (.mk_eq hu ?_); clear hu) | split
    | with_reducible refine State.Keeps.of_pair (by assumption) ?_ | with_reducible refine State.Keeps.of_triple (by assumption) ?_
    | dsimp only

theorem execSettleCommitted_keeps {strict : Bool} {s0 s : State} (h : s0.Keeps strict s) :
    ∃ t, (execSettleCommitted s) = .next t ∧ s0.Keeps strict t := by
  unfold execSettleCommitted
  repeat' first
    | with_reducible assumption | intro _ | ((fail_if_no_progress extract_lets +onlyGivenNames t); refine (?_ : State.Keeps strict s0 t → _) ?_; (on_goal 1 => intro ht; clear_value t); on_goal 2 => try unfold t)
    | fail_if_no_progress extract_lets +onlyGivenNames t | with_reducible refine ⟨_, rfl, ?_⟩
    | with_reducible apply State.commitSlot_keeps | with_reducible apply State.committed_keeps
    | with_reducible apply State.event_keeps | with_reducible apply State.modSeq_keeps
    | (generalize hu : State.mk .. = u; refine (?_ : State.Keeps strict s0 u → _) (.mk_eq hu ?_); clear hu) | split
    | with_reducible refine State.Keeps.of_pair (by assumption) ?_ | with_reducible refine State.Keeps.of_triple (by assumption) ?_
    | dsimp only

theorem execRestartDelayEnd_keeps {strict : Bool} {s0 s : State} (h : s0.Keeps strict s) :
    ∃ t, (execRestartDelayEnd s) = .next t ∧ s0.Keeps strict t := by
  unfold execRestartDelayEnd
  repeat' first
    | with_reducible assumption | intro _ | ((fail_if_no_progress extract_lets +onlyGivenNames t); refine (?_ : State.Keeps strict s0 t → _) ?_; (on_goal 1 => intro ht; clear_value t); on_goal 2 => try unfold t)
    | fail_if_no_progress extract_lets +onlyGivenNames t | with_reducible refine ⟨_, rfl, ?_⟩
    | with_reducible apply State.committed_keeps | with_reducible apply State.modSeq_keeps
    | (generalize hu : State.mk .. = u; refine (?_ : State.Keeps strict s0 u → _) (.mk_eq hu ?_); clear hu) | split | dsimp only

theorem execPfiRelease_keeps {strict : Bool} {s0 s : State} (h : s0.Keeps strict s) :
    ∃ t, (execPfiRelease s) = .next t ∧ s0.Keeps strict t := by
  unfold execPfiRelease
  repeat' first
    | with_reducible assumption | intro _ | ((fail_if_no_progress extract_lets +onlyGivenNames t); refine (?_ : State.Keeps strict s0 t → _) ?_; (on_goal 1 => intro ht; clear_value t); on_goal 2 => try unfold t)
    | fail_if_no_progress extract_lets +onlyGivenNames t | with_reducible apply State.errReset_keeps
    | with_reducible refine ⟨_, rfl, ?_⟩ | with_reducible apply State.armWatchdog_keeps
    | with_reducible apply State.drainQueue_keeps | with_reducible apply State.each_keeps | with_reducible apply State.event_keeps
    | with_reducible apply State.modSeq_keeps | with_reducible apply State.rejoin_keeps | with_reducible apply settle_keeps
    | (generalize hu : State.mk .. = u; refine (?_ : State.Keeps strict s0 u → _) (.mk_eq hu ?_); clear hu) | split | dsimp only

/-! Machine/Serve.lean. -/

theorem State.serve_keeps {strict : Bool} {s0 s : State} {f : HostNo → State → State} (h : s0.Keeps strict s) (k : Key)
    (hf : ∀ c t, s0.Keeps strict t → s0.Keeps strict (f c t)) : ∃ t, s.serve k f = .next t ∧ s0.Keeps strict t := by
  unfold State.serve
  split
  · exact ⟨_, rfl, h⟩
  · have hc := State.contact_keeps h k
    generalize s.contact k = p at hc ⊢
    obtain ⟨_ | c, t⟩ := p
    · exact settle_keeps (State.answer_keeps hc _ _ _) _
    · exact settle_keeps (hf _ _ hc) _

theorem State.answerWrite_keeps {strict : Bool} {s0 s : State} (h0 : s0.Keeps strict s) (k : Key) (index sub : Nat) (data : Bytes) (h : HostNo) :
    s0.Keeps strict (State.answerWrite k index sub data h s) := by
  unfold State.answerWrite
  repeat' first
    | with_reducible assumption | intro _ | ((fail_if_no_progress extract_lets +onlyGivenNames t); refine (?_ : State.Keeps strict s0 t → _) ?_; (on_goal 1 => intro ht; clear_value t); on_goal 2 => try unfold t)
    | fail_if_no_progress extract_lets +onlyGivenNames t | with_reducible apply State.answer_keeps
    | with_reducible apply State.write_keeps
    | (generalize hu : State.mk .. = u; refine (?_ : State.Keeps strict s0 u → _) (.mk_eq hu ?_); clear hu) | split
    | with_reducible refine State.Keeps.of_pair (by assumption) ?_ | with_reducible refine State.Keeps.of_triple (by assumption) ?_
    | dsimp only

theorem State.hostWrite_keeps {strict : Bool} {s0 s : State} (h : s0.Keeps strict s) (k : Key) (index sub : Nat) (data : Bytes) :
    ∃ t, (State.hostWrite s k index sub data) = .next t ∧ s0.Keeps strict t := by
  unfold State.hostWrite
  repeat' first
    | with_reducible assumption | intro _ | ((fail_if_no_progress extract_lets +onlyGivenNames t); refine (?_ : State.Keeps strict s0 t → _) ?_; (on_goal 1 => intro ht; clear_value t); on_goal 2 => try unfold t)
    | fail_if_no_progress extract_lets +onlyGivenNames t | with_reducible refine ⟨_, rfl, ?_⟩
    | with_reducible apply State.answerWrite_keeps | with_reducible apply State.serve_keeps
    | (generalize hu : State.mk .. = u; refine (?_ : State.Keeps strict s0 u → _) (.mk_eq hu ?_); clear hu) | split | dsimp only

theorem State.setSessions_keeps {strict : Bool} {s0 s : State} (h0 : s0.Keeps strict s) (h : HostNo) (ts : List Transfer) :
    s0.Keeps strict (State.setSessions s h ts) := by
  unfold State.setSessions
  repeat' first
    | with_reducible assumption | intro _ | ((fail_if_no_progress extract_lets +onlyGivenNames t); refine (?_ : State.Keeps strict s0 t → _) ?_; (on_goal 1 => intro ht; clear_value t); on_goal 2 => try unfold t)
    | fail_if_no_progress extract_lets +onlyGivenNames t | with_reducible apply State.modHost_keeps
    | (generalize hu : State.mk .. = u; refine (?_ : State.Keeps strict s0 u → _) (.mk_eq hu ?_); clear hu) | split | dsimp only

theorem State.answerRead_keeps {strict : Bool} {s0 s : State} (h0 : s0.Keeps strict s) (k : Key) (index sub offset : Nat) (h : HostNo) :
    s0.Keeps strict (State.answerRead k index sub offset h s) := by
  unfold State.answerRead
  repeat' first
    | with_reducible assumption | intro _ | ((fail_if_no_progress extract_lets +onlyGivenNames t); refine (?_ : State.Keeps strict s0 t → _) ?_; (on_goal 1 => intro ht; clear_value t); on_goal 2 => try unfold t)
    | fail_if_no_progress extract_lets +onlyGivenNames t | with_reducible apply State.answer_keeps
    | with_reducible apply State.content_keeps | with_reducible apply State.read_keeps
    | with_reducible apply State.setSessions_keeps
    | (generalize hu : State.mk .. = u; refine (?_ : State.Keeps strict s0 u → _) (.mk_eq hu ?_); clear hu) | split
    | with_reducible refine State.Keeps.of_pair (by assumption) ?_ | with_reducible refine State.Keeps.of_triple (by assumption) ?_
    | dsimp only

theorem execUsdoRequest_keeps {strict : Bool} {s0 s : State} (h : s0.Keeps strict s) (who : Key) (access : Access) :
    ∃ t, (execUsdoRequest who access s) = .next t ∧ s0.Keeps strict t := by
  unfold execUsdoRequest
  repeat' first
    | with_reducible assumption | intro _ | ((fail_if_no_progress extract_lets +onlyGivenNames t); refine (?_ : State.Keeps strict s0 t → _) ?_; (on_goal 1 => intro ht; clear_value t); on_goal 2 => try unfold t)
    | fail_if_no_progress extract_lets +onlyGivenNames t | with_reducible refine ⟨_, rfl, ?_⟩
    | with_reducible apply State.answerRead_keeps | with_reducible apply State.hostWrite_keeps
    | with_reducible apply State.read_keeps | with_reducible apply State.serve_keeps | with_reducible apply State.write_keeps
    | (generalize hu : State.mk .. = u; refine (?_ : State.Keeps strict s0 u → _) (.mk_eq hu ?_); clear hu) | split
    | with_reducible refine State.Keeps.of_pair (by assumption) ?_ | with_reducible refine State.Keeps.of_triple (by assumption) ?_
    | dsimp only

theorem execSegmentedTransferTimeout_keeps {strict : Bool} {s0 s : State} (h : s0.Keeps strict s) (who : Key) :
    ∃ t, (execSegmentedTransferTimeout who s) = .next t ∧ s0.Keeps strict t := by
  unfold execSegmentedTransferTimeout
  repeat' first
    | with_reducible assumption | intro _ | ((fail_if_no_progress extract_lets +onlyGivenNames t); refine (?_ : State.Keeps strict s0 t → _) ?_; (on_goal 1 => intro ht; clear_value t); on_goal 2 => try unfold t)
    | fail_if_no_progress extract_lets +onlyGivenNames t | with_reducible refine ⟨_, rfl, ?_⟩
    | with_reducible apply State.answer_keeps | with_reducible apply State.setSessions_keeps
    | (generalize hu : State.mk .. = u; refine (?_ : State.Keeps strict s0 u → _) (.mk_eq hu ?_); clear hu) | split
    | with_reducible refine State.Keeps.of_pair (by assumption) ?_ | with_reducible refine State.Keeps.of_triple (by assumption) ?_
    | dsimp only

theorem execWindow_keeps {strict : Bool} {s0 s : State} (h : s0.Keeps strict s) (who : Key) (store : Store) :
    ∃ t, (execWindow who store s) = .next t ∧ s0.Keeps strict t := by
  unfold execWindow
  repeat' first
    | with_reducible assumption | intro _ | ((fail_if_no_progress extract_lets +onlyGivenNames t); refine (?_ : State.Keeps strict s0 t → _) ?_; (on_goal 1 => intro ht; clear_value t); on_goal 2 => try unfold t)
    | fail_if_no_progress extract_lets +onlyGivenNames t | with_reducible refine ⟨_, rfl, ?_⟩
    | with_reducible apply State.answerRead_keeps | with_reducible apply State.serve_keeps
    | (generalize hu : State.mk .. = u; refine (?_ : State.Keeps strict s0 u → _) (.mk_eq hu ?_); clear hu) | split
    | with_reducible refine State.Keeps.of_pair (by assumption) ?_ | with_reducible refine State.Keeps.of_triple (by assumption) ?_
    | dsimp only

theorem execCursor_keeps {strict : Bool} {s0 s : State} (h : s0.Keeps strict s) (who : Key) (store : Store) (data : Bytes) :
    ∃ t, (execCursor who store data s) = .next t ∧ s0.Keeps strict t := by
  unfold execCursor
  repeat' first
    | with_reducible assumption | intro _ | ((fail_if_no_progress extract_lets +onlyGivenNames t); refine (?_ : State.Keeps strict s0 t → _) ?_; (on_goal 1 => intro ht; clear_value t); on_goal 2 => try unfold t)
    | fail_if_no_progress extract_lets +onlyGivenNames t | with_reducible refine ⟨_, rfl, ?_⟩
    | with_reducible apply State.hostWrite_keeps
    | (generalize hu : State.mk .. = u; refine (?_ : State.Keeps strict s0 u → _) (.mk_eq hu ?_); clear hu) | split
    | with_reducible refine State.Keeps.of_pair (by assumption) ?_ | with_reducible refine State.Keeps.of_triple (by assumption) ?_
    | dsimp only

theorem execRingRetire_keeps {strict : Bool} {s0 s : State} (h : s0.Keeps strict s) (who : Key) (store : Store) (data : Bytes) :
    ∃ t, (execRingRetire who store data s) = .next t ∧ s0.Keeps strict t := by
  unfold execRingRetire
  repeat' first
    | with_reducible assumption | intro _ | ((fail_if_no_progress extract_lets +onlyGivenNames t); refine (?_ : State.Keeps strict s0 t → _) ?_; (on_goal 1 => intro ht; clear_value t); on_goal 2 => try unfold t)
    | fail_if_no_progress extract_lets +onlyGivenNames t | with_reducible refine ⟨_, rfl, ?_⟩
    | with_reducible apply State.hostWrite_keeps
    | (generalize hu : State.mk .. = u; refine (?_ : State.Keeps strict s0 u → _) (.mk_eq hu ?_); clear hu) | split
    | with_reducible refine State.Keeps.of_pair (by assumption) ?_ | with_reducible refine State.Keeps.of_triple (by assumption) ?_
    | dsimp only

theorem execModeRequest_keeps {strict : Bool} {s0 s : State} (h : s0.Keeps strict s) (who : Key) (data : Bytes) :
    ∃ t, (execModeRequest who data s) = .next t ∧ s0.Keeps strict t := by
  unfold execModeRequest
  repeat' first
    | with_reducible assumption | intro _ | ((fail_if_no_progress extract_lets +onlyGivenNames t); refine (?_ : State.Keeps strict s0 t → _) ?_; (on_goal 1 => intro ht; clear_value t); on_goal 2 => try unfold t)
    | fail_if_no_progress extract_lets +onlyGivenNames t | with_reducible refine ⟨_, rfl, ?_⟩
    | with_reducible apply State.hostWrite_keeps
    | (generalize hu : State.mk .. = u; refine (?_ : State.Keeps strict s0 u → _) (.mk_eq hu ?_); clear hu) | split | dsimp only

theorem execShutdownLatchClear_keeps {strict : Bool} {s0 s : State} (h : s0.Keeps strict s) (who : Key) (data : Bytes) :
    ∃ t, (execShutdownLatchClear who data s) = .next t ∧ s0.Keeps strict t := by
  unfold execShutdownLatchClear
  repeat' first
    | with_reducible assumption | intro _ | ((fail_if_no_progress extract_lets +onlyGivenNames t); refine (?_ : State.Keeps strict s0 t → _) ?_; (on_goal 1 => intro ht; clear_value t); on_goal 2 => try unfold t)
    | fail_if_no_progress extract_lets +onlyGivenNames t | with_reducible refine ⟨_, rfl, ?_⟩
    | with_reducible apply State.hostWrite_keeps
    | (generalize hu : State.mk .. = u; refine (?_ : State.Keeps strict s0 u → _) (.mk_eq hu ?_); clear hu) | split | dsimp only

theorem execProfileSelect_keeps {strict : Bool} {s0 s : State} (h : s0.Keeps strict s) (who : Key) (data : Bytes) :
    ∃ t, (execProfileSelect who data s) = .next t ∧ s0.Keeps strict t := by
  unfold execProfileSelect
  repeat' first
    | with_reducible assumption | intro _ | ((fail_if_no_progress extract_lets +onlyGivenNames t); refine (?_ : State.Keeps strict s0 t → _) ?_; (on_goal 1 => intro ht; clear_value t); on_goal 2 => try unfold t)
    | fail_if_no_progress extract_lets +onlyGivenNames t | with_reducible refine ⟨_, rfl, ?_⟩
    | with_reducible apply State.hostWrite_keeps
    | (generalize hu : State.mk .. = u; refine (?_ : State.Keeps strict s0 u → _) (.mk_eq hu ?_); clear hu) | split | dsimp only

theorem execLatencyBudgetWrite_keeps {strict : Bool} {s0 s : State} (h : s0.Keeps strict s) (who : Key) (budget : Fin 4) (data : Bytes) :
    ∃ t, (execLatencyBudgetWrite who budget data s) = .next t ∧ s0.Keeps strict t := by
  unfold execLatencyBudgetWrite
  repeat' first
    | with_reducible assumption | intro _ | ((fail_if_no_progress extract_lets +onlyGivenNames t); refine (?_ : State.Keeps strict s0 t → _) ?_; (on_goal 1 => intro ht; clear_value t); on_goal 2 => try unfold t)
    | fail_if_no_progress extract_lets +onlyGivenNames t | with_reducible refine ⟨_, rfl, ?_⟩
    | with_reducible apply State.hostWrite_keeps
    | (generalize hu : State.mk .. = u; refine (?_ : State.Keeps strict s0 u → _) (.mk_eq hu ?_); clear hu) | split | dsimp only

theorem execOwnPowerPeakClear_keeps {strict : Bool} {s0 s : State} (h : s0.Keeps strict s) (who : Key) (data : Bytes) :
    ∃ t, (execOwnPowerPeakClear who data s) = .next t ∧ s0.Keeps strict t := by
  unfold execOwnPowerPeakClear
  repeat' first
    | with_reducible assumption | intro _ | ((fail_if_no_progress extract_lets +onlyGivenNames t); refine (?_ : State.Keeps strict s0 t → _) ?_; (on_goal 1 => intro ht; clear_value t); on_goal 2 => try unfold t)
    | fail_if_no_progress extract_lets +onlyGivenNames t | with_reducible refine ⟨_, rfl, ?_⟩
    | with_reducible apply State.hostWrite_keeps
    | (generalize hu : State.mk .. = u; refine (?_ : State.Keeps strict s0 u → _) (.mk_eq hu ?_); clear hu) | split | dsimp only

theorem execLoopEnable_keeps {strict : Bool} {s0 s : State} (h : s0.Keeps strict s) (who : Key) (k : LoopNo) (data : Bytes) :
    ∃ t, (execLoopEnable who k data s) = .next t ∧ s0.Keeps strict t := by
  unfold execLoopEnable
  repeat' first
    | with_reducible assumption | intro _ | ((fail_if_no_progress extract_lets +onlyGivenNames t); refine (?_ : State.Keeps strict s0 t → _) ?_; (on_goal 1 => intro ht; clear_value t); on_goal 2 => try unfold t)
    | fail_if_no_progress extract_lets +onlyGivenNames t | with_reducible refine ⟨_, rfl, ?_⟩
    | with_reducible apply State.hostWrite_keeps
    | (generalize hu : State.mk .. = u; refine (?_ : State.Keeps strict s0 u → _) (.mk_eq hu ?_); clear hu) | split | dsimp only

theorem execActiveSetWrite_keeps {strict : Bool} {s0 s : State} (h : s0.Keeps strict s) (who : Key) (k : LoopNo) (data : Bytes) :
    ∃ t, (execActiveSetWrite who k data s) = .next t ∧ s0.Keeps strict t := by
  unfold execActiveSetWrite
  repeat' first
    | with_reducible assumption | intro _ | ((fail_if_no_progress extract_lets +onlyGivenNames t); refine (?_ : State.Keeps strict s0 t → _) ?_; (on_goal 1 => intro ht; clear_value t); on_goal 2 => try unfold t)
    | fail_if_no_progress extract_lets +onlyGivenNames t | with_reducible refine ⟨_, rfl, ?_⟩
    | with_reducible apply State.hostWrite_keeps
    | (generalize hu : State.mk .. = u; refine (?_ : State.Keeps strict s0 u → _) (.mk_eq hu ?_); clear hu) | split | dsimp only

theorem execSafeLockWrite_keeps {strict : Bool} {s0 s : State} (h : s0.Keeps strict s) (who : Key) (k : LoopNo) (data : Bytes) :
    ∃ t, (execSafeLockWrite who k data s) = .next t ∧ s0.Keeps strict t := by
  unfold execSafeLockWrite
  repeat' first
    | with_reducible assumption | intro _ | ((fail_if_no_progress extract_lets +onlyGivenNames t); refine (?_ : State.Keeps strict s0 t → _) ?_; (on_goal 1 => intro ht; clear_value t); on_goal 2 => try unfold t)
    | fail_if_no_progress extract_lets +onlyGivenNames t | with_reducible refine ⟨_, rfl, ?_⟩
    | with_reducible apply State.hostWrite_keeps
    | (generalize hu : State.mk .. = u; refine (?_ : State.Keeps strict s0 u → _) (.mk_eq hu ?_); clear hu) | split | dsimp only

theorem execArm_keeps {strict : Bool} {s0 s : State} (h : s0.Keeps strict s) (who : Key) (u : TraceNo) :
    ∃ t, (execArm who u s) = .next t ∧ s0.Keeps strict t := by
  unfold execArm
  repeat' first
    | with_reducible assumption | intro _ | ((fail_if_no_progress extract_lets +onlyGivenNames t); refine (?_ : State.Keeps strict s0 t → _) ?_; (on_goal 1 => intro ht; clear_value t); on_goal 2 => try unfold t)
    | fail_if_no_progress extract_lets +onlyGivenNames t | with_reducible refine ⟨_, rfl, ?_⟩
    | with_reducible apply State.hostWrite_keeps
    | (generalize hu : State.mk .. = u; refine (?_ : State.Keeps strict s0 u → _) (.mk_eq hu ?_); clear hu) | split | dsimp only

theorem execForceTrigger_keeps {strict : Bool} {s0 s : State} (h : s0.Keeps strict s) (who : Key) (u : TraceNo) :
    ∃ t, (execForceTrigger who u s) = .next t ∧ s0.Keeps strict t := by
  unfold execForceTrigger
  repeat' first
    | with_reducible assumption | intro _ | ((fail_if_no_progress extract_lets +onlyGivenNames t); refine (?_ : State.Keeps strict s0 t → _) ?_; (on_goal 1 => intro ht; clear_value t); on_goal 2 => try unfold t)
    | fail_if_no_progress extract_lets +onlyGivenNames t | with_reducible refine ⟨_, rfl, ?_⟩
    | with_reducible apply State.hostWrite_keeps
    | (generalize hu : State.mk .. = u; refine (?_ : State.Keeps strict s0 u → _) (.mk_eq hu ?_); clear hu) | split | dsimp only

theorem execDisarm_keeps {strict : Bool} {s0 s : State} (h : s0.Keeps strict s) (who : Key) (u : TraceNo) :
    ∃ t, (execDisarm who u s) = .next t ∧ s0.Keeps strict t := by
  unfold execDisarm
  repeat' first
    | with_reducible assumption | intro _ | ((fail_if_no_progress extract_lets +onlyGivenNames t); refine (?_ : State.Keeps strict s0 t → _) ?_; (on_goal 1 => intro ht; clear_value t); on_goal 2 => try unfold t)
    | fail_if_no_progress extract_lets +onlyGivenNames t | with_reducible refine ⟨_, rfl, ?_⟩
    | with_reducible apply State.hostWrite_keeps
    | (generalize hu : State.mk .. = u; refine (?_ : State.Keeps strict s0 u → _) (.mk_eq hu ?_); clear hu) | split | dsimp only

theorem execFaultLatchClear_keeps {strict : Bool} {s0 s : State} (h : s0.Keeps strict s) (who : Key) (c : CellNo) (data : Bytes) :
    ∃ t, (execFaultLatchClear who c data s) = .next t ∧ s0.Keeps strict t := by
  unfold execFaultLatchClear
  repeat' first
    | with_reducible assumption | intro _ | ((fail_if_no_progress extract_lets +onlyGivenNames t); refine (?_ : State.Keeps strict s0 t → _) ?_; (on_goal 1 => intro ht; clear_value t); on_goal 2 => try unfold t)
    | fail_if_no_progress extract_lets +onlyGivenNames t | with_reducible refine ⟨_, rfl, ?_⟩
    | with_reducible apply State.hostWrite_keeps
    | (generalize hu : State.mk .. = u; refine (?_ : State.Keeps strict s0 u → _) (.mk_eq hu ?_); clear hu) | split | dsimp only

theorem execSafeActionWrite_keeps {strict : Bool} {s0 s : State} (h : s0.Keeps strict s) (who : Key) (c : CellNo) (data : Bytes) :
    ∃ t, (execSafeActionWrite who c data s) = .next t ∧ s0.Keeps strict t := by
  unfold execSafeActionWrite
  repeat' first
    | with_reducible assumption | intro _ | ((fail_if_no_progress extract_lets +onlyGivenNames t); refine (?_ : State.Keeps strict s0 t → _) ?_; (on_goal 1 => intro ht; clear_value t); on_goal 2 => try unfold t)
    | fail_if_no_progress extract_lets +onlyGivenNames t | with_reducible refine ⟨_, rfl, ?_⟩
    | with_reducible apply State.hostWrite_keeps
    | (generalize hu : State.mk .. = u; refine (?_ : State.Keeps strict s0 u → _) (.mk_eq hu ?_); clear hu) | split | dsimp only

theorem execCalRecordWrite_keeps {strict : Bool} {s0 s : State} (h : s0.Keeps strict s) (who : Key) (c : CellNo) (data : Bytes) :
    ∃ t, (execCalRecordWrite who c data s) = .next t ∧ s0.Keeps strict t := by
  unfold execCalRecordWrite
  repeat' first
    | with_reducible assumption | intro _ | ((fail_if_no_progress extract_lets +onlyGivenNames t); refine (?_ : State.Keeps strict s0 t → _) ?_; (on_goal 1 => intro ht; clear_value t); on_goal 2 => try unfold t)
    | fail_if_no_progress extract_lets +onlyGivenNames t | with_reducible refine ⟨_, rfl, ?_⟩
    | with_reducible apply State.hostWrite_keeps
    | (generalize hu : State.mk .. = u; refine (?_ : State.Keeps strict s0 u → _) (.mk_eq hu ?_); clear hu) | split | dsimp only

theorem execDrain_keeps {strict : Bool} {s0 s : State} (h : s0.Keeps strict s) (who : Key) (c : CellNo) :
    ∃ t, (execDrain who c s) = .next t ∧ s0.Keeps strict t := by
  unfold execDrain
  repeat' first
    | with_reducible assumption | intro _ | ((fail_if_no_progress extract_lets +onlyGivenNames t); refine (?_ : State.Keeps strict s0 t → _) ?_; (on_goal 1 => intro ht; clear_value t); on_goal 2 => try unfold t)
    | fail_if_no_progress extract_lets +onlyGivenNames t | with_reducible refine ⟨_, rfl, ?_⟩
    | with_reducible apply State.hostWrite_keeps
    | (generalize hu : State.mk .. = u; refine (?_ : State.Keeps strict s0 u → _) (.mk_eq hu ?_); clear hu) | split | dsimp only

theorem execDrainForce_keeps {strict : Bool} {s0 s : State} (h : s0.Keeps strict s) (who : Key) (c : CellNo) :
    ∃ t, (execDrainForce who c s) = .next t ∧ s0.Keeps strict t := by
  unfold execDrainForce
  repeat' first
    | with_reducible assumption | intro _ | ((fail_if_no_progress extract_lets +onlyGivenNames t); refine (?_ : State.Keeps strict s0 t → _) ?_; (on_goal 1 => intro ht; clear_value t); on_goal 2 => try unfold t)
    | fail_if_no_progress extract_lets +onlyGivenNames t | with_reducible refine ⟨_, rfl, ?_⟩
    | with_reducible apply State.hostWrite_keeps
    | (generalize hu : State.mk .. = u; refine (?_ : State.Keeps strict s0 u → _) (.mk_eq hu ?_); clear hu) | split | dsimp only

theorem execCommit_keeps {strict : Bool} {s0 s : State} (h : s0.Keeps strict s) (who : Key) (c : CellNo) :
    ∃ t, (execCommit who c s) = .next t ∧ s0.Keeps strict t := by
  unfold execCommit
  repeat' first
    | with_reducible assumption | intro _ | ((fail_if_no_progress extract_lets +onlyGivenNames t); refine (?_ : State.Keeps strict s0 t → _) ?_; (on_goal 1 => intro ht; clear_value t); on_goal 2 => try unfold t)
    | fail_if_no_progress extract_lets +onlyGivenNames t | with_reducible refine ⟨_, rfl, ?_⟩
    | with_reducible apply State.hostWrite_keeps
    | (generalize hu : State.mk .. = u; refine (?_ : State.Keeps strict s0 u → _) (.mk_eq hu ?_); clear hu) | split | dsimp only

theorem execRepair_keeps {strict : Bool} {s0 s : State} (h : s0.Keeps strict s) (who : Key) (c : CellNo) :
    ∃ t, (execRepair who c s) = .next t ∧ s0.Keeps strict t := by
  unfold execRepair
  repeat' first
    | with_reducible assumption | intro _ | ((fail_if_no_progress extract_lets +onlyGivenNames t); refine (?_ : State.Keeps strict s0 t → _) ?_; (on_goal 1 => intro ht; clear_value t); on_goal 2 => try unfold t)
    | fail_if_no_progress extract_lets +onlyGivenNames t | with_reducible refine ⟨_, rfl, ?_⟩
    | with_reducible apply State.hostWrite_keeps
    | (generalize hu : State.mk .. = u; refine (?_ : State.Keeps strict s0 u → _) (.mk_eq hu ?_); clear hu) | split | dsimp only

theorem execRelease_keeps {strict : Bool} {s0 s : State} (h : s0.Keeps strict s) (who : Key) (c : CellNo) :
    ∃ t, (execRelease who c s) = .next t ∧ s0.Keeps strict t := by
  unfold execRelease
  repeat' first
    | with_reducible assumption | intro _ | ((fail_if_no_progress extract_lets +onlyGivenNames t); refine (?_ : State.Keeps strict s0 t → _) ?_; (on_goal 1 => intro ht; clear_value t); on_goal 2 => try unfold t)
    | fail_if_no_progress extract_lets +onlyGivenNames t | with_reducible refine ⟨_, rfl, ?_⟩
    | with_reducible apply State.hostWrite_keeps
    | (generalize hu : State.mk .. = u; refine (?_ : State.Keeps strict s0 u → _) (.mk_eq hu ?_); clear hu) | split | dsimp only

theorem execAbandon_keeps {strict : Bool} {s0 s : State} (h : s0.Keeps strict s) (who : Key) (c : CellNo) :
    ∃ t, (execAbandon who c s) = .next t ∧ s0.Keeps strict t := by
  unfold execAbandon
  repeat' first
    | with_reducible assumption | intro _ | ((fail_if_no_progress extract_lets +onlyGivenNames t); refine (?_ : State.Keeps strict s0 t → _) ?_; (on_goal 1 => intro ht; clear_value t); on_goal 2 => try unfold t)
    | fail_if_no_progress extract_lets +onlyGivenNames t | with_reducible refine ⟨_, rfl, ?_⟩
    | with_reducible apply State.hostWrite_keeps
    | (generalize hu : State.mk .. = u; refine (?_ : State.Keeps strict s0 u → _) (.mk_eq hu ?_); clear hu) | split | dsimp only

theorem execGroupEnable_keeps {strict : Bool} {s0 s : State} (h : s0.Keeps strict s) (who : Key) (g : GroupNo) (data : Bytes) :
    ∃ t, (execGroupEnable who g data s) = .next t ∧ s0.Keeps strict t := by
  unfold execGroupEnable
  repeat' first
    | with_reducible assumption | intro _ | ((fail_if_no_progress extract_lets +onlyGivenNames t); refine (?_ : State.Keeps strict s0 t → _) ?_; (on_goal 1 => intro ht; clear_value t); on_goal 2 => try unfold t)
    | fail_if_no_progress extract_lets +onlyGivenNames t | with_reducible refine ⟨_, rfl, ?_⟩
    | with_reducible apply State.hostWrite_keeps
    | (generalize hu : State.mk .. = u; refine (?_ : State.Keeps strict s0 u → _) (.mk_eq hu ?_); clear hu) | split | dsimp only

theorem execGroupClear_keeps {strict : Bool} {s0 s : State} (h : s0.Keeps strict s) (who : Key) (g : GroupNo) (data : Bytes) :
    ∃ t, (execGroupClear who g data s) = .next t ∧ s0.Keeps strict t := by
  unfold execGroupClear
  repeat' first
    | with_reducible assumption | intro _ | ((fail_if_no_progress extract_lets +onlyGivenNames t); refine (?_ : State.Keeps strict s0 t → _) ?_; (on_goal 1 => intro ht; clear_value t); on_goal 2 => try unfold t)
    | fail_if_no_progress extract_lets +onlyGivenNames t | with_reducible refine ⟨_, rfl, ?_⟩
    | with_reducible apply State.hostWrite_keeps
    | (generalize hu : State.mk .. = u; refine (?_ : State.Keeps strict s0 u → _) (.mk_eq hu ?_); clear hu) | split | dsimp only

theorem execFeederClear_keeps {strict : Bool} {s0 s : State} (h : s0.Keeps strict s) (who : Key) (c : CellNo) (data : Bytes) :
    ∃ t, (execFeederClear who c data s) = .next t ∧ s0.Keeps strict t := by
  unfold execFeederClear
  repeat' first
    | with_reducible assumption | intro _ | ((fail_if_no_progress extract_lets +onlyGivenNames t); refine (?_ : State.Keeps strict s0 t → _) ?_; (on_goal 1 => intro ht; clear_value t); on_goal 2 => try unfold t)
    | fail_if_no_progress extract_lets +onlyGivenNames t | with_reducible refine ⟨_, rfl, ?_⟩
    | with_reducible apply State.hostWrite_keeps
    | (generalize hu : State.mk .. = u; refine (?_ : State.Keeps strict s0 u → _) (.mk_eq hu ?_); clear hu) | split | dsimp only

theorem execFeedEnable_keeps {strict : Bool} {s0 s : State} (h : s0.Keeps strict s) (who : Key) (c : CellNo) (data : Bytes) :
    ∃ t, (execFeedEnable who c data s) = .next t ∧ s0.Keeps strict t := by
  unfold execFeedEnable
  repeat' first
    | with_reducible assumption | intro _ | ((fail_if_no_progress extract_lets +onlyGivenNames t); refine (?_ : State.Keeps strict s0 t → _) ?_; (on_goal 1 => intro ht; clear_value t); on_goal 2 => try unfold t)
    | fail_if_no_progress extract_lets +onlyGivenNames t | with_reducible refine ⟨_, rfl, ?_⟩
    | with_reducible apply State.hostWrite_keeps
    | (generalize hu : State.mk .. = u; refine (?_ : State.Keeps strict s0 u → _) (.mk_eq hu ?_); clear hu) | split | dsimp only

theorem execOrClear_keeps {strict : Bool} {s0 s : State} (h : s0.Keeps strict s) (who : Key) (c : CellNo) (data : Bytes) :
    ∃ t, (execOrClear who c data s) = .next t ∧ s0.Keeps strict t := by
  unfold execOrClear
  repeat' first
    | with_reducible assumption | intro _ | ((fail_if_no_progress extract_lets +onlyGivenNames t); refine (?_ : State.Keeps strict s0 t → _) ?_; (on_goal 1 => intro ht; clear_value t); on_goal 2 => try unfold t)
    | fail_if_no_progress extract_lets +onlyGivenNames t | with_reducible refine ⟨_, rfl, ?_⟩
    | with_reducible apply State.hostWrite_keeps
    | (generalize hu : State.mk .. = u; refine (?_ : State.Keeps strict s0 u → _) (.mk_eq hu ?_); clear hu) | split | dsimp only

theorem execOrEnable_keeps {strict : Bool} {s0 s : State} (h : s0.Keeps strict s) (who : Key) (c : CellNo) (data : Bytes) :
    ∃ t, (execOrEnable who c data s) = .next t ∧ s0.Keeps strict t := by
  unfold execOrEnable
  repeat' first
    | with_reducible assumption | intro _ | ((fail_if_no_progress extract_lets +onlyGivenNames t); refine (?_ : State.Keeps strict s0 t → _) ?_; (on_goal 1 => intro ht; clear_value t); on_goal 2 => try unfold t)
    | fail_if_no_progress extract_lets +onlyGivenNames t | with_reducible refine ⟨_, rfl, ?_⟩
    | with_reducible apply State.hostWrite_keeps
    | (generalize hu : State.mk .. = u; refine (?_ : State.Keeps strict s0 u → _) (.mk_eq hu ?_); clear hu) | split | dsimp only

theorem execGrantRequest_keeps {strict : Bool} {s0 s : State} (h : s0.Keeps strict s) (who : Key) (data : Bytes) :
    ∃ t, (execGrantRequest who data s) = .next t ∧ s0.Keeps strict t := by
  unfold execGrantRequest
  repeat' first
    | with_reducible assumption | intro _ | ((fail_if_no_progress extract_lets +onlyGivenNames t); refine (?_ : State.Keeps strict s0 t → _) ?_; (on_goal 1 => intro ht; clear_value t); on_goal 2 => try unfold t)
    | fail_if_no_progress extract_lets +onlyGivenNames t | with_reducible refine ⟨_, rfl, ?_⟩
    | with_reducible apply State.hostWrite_keeps
    | (generalize hu : State.mk .. = u; refine (?_ : State.Keeps strict s0 u → _) (.mk_eq hu ?_); clear hu) | split | dsimp only

theorem execStringEnable_keeps {strict : Bool} {s0 s : State} (h : s0.Keeps strict s) (who : Key) (n : StringNo) (data : Bytes) :
    ∃ t, (execStringEnable who n data s) = .next t ∧ s0.Keeps strict t := by
  unfold execStringEnable
  repeat' first
    | with_reducible assumption | intro _ | ((fail_if_no_progress extract_lets +onlyGivenNames t); refine (?_ : State.Keeps strict s0 t → _) ?_; (on_goal 1 => intro ht; clear_value t); on_goal 2 => try unfold t)
    | fail_if_no_progress extract_lets +onlyGivenNames t | with_reducible refine ⟨_, rfl, ?_⟩
    | with_reducible apply State.hostWrite_keeps
    | (generalize hu : State.mk .. = u; refine (?_ : State.Keeps strict s0 u → _) (.mk_eq hu ?_); clear hu) | split | dsimp only

theorem execStringClear_keeps {strict : Bool} {s0 s : State} (h : s0.Keeps strict s) (who : Key) (n : StringNo) (data : Bytes) :
    ∃ t, (execStringClear who n data s) = .next t ∧ s0.Keeps strict t := by
  unfold execStringClear
  repeat' first
    | with_reducible assumption | intro _ | ((fail_if_no_progress extract_lets +onlyGivenNames t); refine (?_ : State.Keeps strict s0 t → _) ?_; (on_goal 1 => intro ht; clear_value t); on_goal 2 => try unfold t)
    | fail_if_no_progress extract_lets +onlyGivenNames t | with_reducible refine ⟨_, rfl, ?_⟩
    | with_reducible apply State.hostWrite_keeps
    | (generalize hu : State.mk .. = u; refine (?_ : State.Keeps strict s0 u → _) (.mk_eq hu ?_); clear hu) | split | dsimp only

theorem execRecordReset_keeps {strict : Bool} {s0 s : State} (h : s0.Keeps strict s) (who : Key) (n : StringNo) (data : Bytes) :
    ∃ t, (execRecordReset who n data s) = .next t ∧ s0.Keeps strict t := by
  unfold execRecordReset
  repeat' first
    | with_reducible assumption | intro _ | ((fail_if_no_progress extract_lets +onlyGivenNames t); refine (?_ : State.Keeps strict s0 t → _) ?_; (on_goal 1 => intro ht; clear_value t); on_goal 2 => try unfold t)
    | fail_if_no_progress extract_lets +onlyGivenNames t | with_reducible refine ⟨_, rfl, ?_⟩
    | with_reducible apply State.hostWrite_keeps
    | (generalize hu : State.mk .. = u; refine (?_ : State.Keeps strict s0 u → _) (.mk_eq hu ?_); clear hu) | split | dsimp only

theorem execRailClear_keeps {strict : Bool} {s0 s : State} (h : s0.Keeps strict s) (who : Key) (r : RailNo) (data : Bytes) :
    ∃ t, (execRailClear who r data s) = .next t ∧ s0.Keeps strict t := by
  unfold execRailClear
  repeat' first
    | with_reducible assumption | intro _ | ((fail_if_no_progress extract_lets +onlyGivenNames t); refine (?_ : State.Keeps strict s0 t → _) ?_; (on_goal 1 => intro ht; clear_value t); on_goal 2 => try unfold t)
    | fail_if_no_progress extract_lets +onlyGivenNames t | with_reducible refine ⟨_, rfl, ?_⟩
    | with_reducible apply State.hostWrite_keeps
    | (generalize hu : State.mk .. = u; refine (?_ : State.Keeps strict s0 u → _) (.mk_eq hu ?_); clear hu) | split | dsimp only

theorem execReturnA_keeps {strict : Bool} {s0 s : State} (h : s0.Keeps strict s) (who : Key) :
    ∃ t, (execReturnA who s) = .next t ∧ s0.Keeps strict t := by
  unfold execReturnA
  repeat' first
    | with_reducible assumption | intro _ | ((fail_if_no_progress extract_lets +onlyGivenNames t); refine (?_ : State.Keeps strict s0 t → _) ?_; (on_goal 1 => intro ht; clear_value t); on_goal 2 => try unfold t)
    | fail_if_no_progress extract_lets +onlyGivenNames t | with_reducible refine ⟨_, rfl, ?_⟩
    | with_reducible apply State.hostWrite_keeps
    | (generalize hu : State.mk .. = u; refine (?_ : State.Keeps strict s0 u → _) (.mk_eq hu ?_); clear hu) | split | dsimp only

theorem execReturnB_keeps {strict : Bool} {s0 s : State} (h : s0.Keeps strict s) (who : Key) :
    ∃ t, (execReturnB who s) = .next t ∧ s0.Keeps strict t := by
  unfold execReturnB
  repeat' first
    | with_reducible assumption | intro _ | ((fail_if_no_progress extract_lets +onlyGivenNames t); refine (?_ : State.Keeps strict s0 t → _) ?_; (on_goal 1 => intro ht; clear_value t); on_goal 2 => try unfold t)
    | fail_if_no_progress extract_lets +onlyGivenNames t | with_reducible refine ⟨_, rfl, ?_⟩
    | with_reducible apply State.hostWrite_keeps
    | (generalize hu : State.mk .. = u; refine (?_ : State.Keeps strict s0 u → _) (.mk_eq hu ?_); clear hu) | split | dsimp only

theorem execRetireStandby_keeps {strict : Bool} {s0 s : State} (h : s0.Keeps strict s) (who : Key) :
    ∃ t, (execRetireStandby who s) = .next t ∧ s0.Keeps strict t := by
  unfold execRetireStandby
  repeat' first
    | with_reducible assumption | intro _ | ((fail_if_no_progress extract_lets +onlyGivenNames t); refine (?_ : State.Keeps strict s0 t → _) ?_; (on_goal 1 => intro ht; clear_value t); on_goal 2 => try unfold t)
    | fail_if_no_progress extract_lets +onlyGivenNames t | with_reducible refine ⟨_, rfl, ?_⟩
    | with_reducible apply State.hostWrite_keeps
    | (generalize hu : State.mk .. = u; refine (?_ : State.Keeps strict s0 u → _) (.mk_eq hu ?_); clear hu) | split | dsimp only

theorem execDictWrite_keeps {strict : Bool} {s0 s : State} (h : s0.Keeps strict s) (who : Key) (index sub : Nat) (data : Bytes) :
    ∃ t, (execDictWrite who index sub data s) = .next t ∧ s0.Keeps strict t := by
  unfold execDictWrite
  repeat' first
    | with_reducible assumption | intro _ | ((fail_if_no_progress extract_lets +onlyGivenNames t); refine (?_ : State.Keeps strict s0 t → _) ?_; (on_goal 1 => intro ht; clear_value t); on_goal 2 => try unfold t)
    | fail_if_no_progress extract_lets +onlyGivenNames t | with_reducible refine ⟨_, rfl, ?_⟩
    | with_reducible apply State.hostWrite_keeps
    | (generalize hu : State.mk .. = u; refine (?_ : State.Keeps strict s0 u → _) (.mk_eq hu ?_); clear hu) | split | dsimp only

theorem execMultiWrite_keeps {strict : Bool} {s0 s : State} (h : s0.Keeps strict s) (who : Key) (data : Bytes) :
    ∃ t, (execMultiWrite who data s) = .next t ∧ s0.Keeps strict t := by
  unfold execMultiWrite
  repeat' first
    | with_reducible assumption | intro _ | ((fail_if_no_progress extract_lets +onlyGivenNames t); refine (?_ : State.Keeps strict s0 t → _) ?_; (on_goal 1 => intro ht; clear_value t); on_goal 2 => try unfold t)
    | fail_if_no_progress extract_lets +onlyGivenNames t | with_reducible refine ⟨_, rfl, ?_⟩
    | with_reducible apply State.hostWrite_keeps
    | (generalize hu : State.mk .. = u; refine (?_ : State.Keeps strict s0 u → _) (.mk_eq hu ?_); clear hu) | split | dsimp only

theorem execLockCmd_keeps {strict : Bool} {s0 s : State} (h : s0.Keeps strict s) (who : Key) (data : Bytes) :
    ∃ t, (execLockCmd who data s) = .next t ∧ s0.Keeps strict t := by
  unfold execLockCmd
  repeat' first
    | with_reducible assumption | intro _ | ((fail_if_no_progress extract_lets +onlyGivenNames t); refine (?_ : State.Keeps strict s0 t → _) ?_; (on_goal 1 => intro ht; clear_value t); on_goal 2 => try unfold t)
    | fail_if_no_progress extract_lets +onlyGivenNames t | with_reducible refine ⟨_, rfl, ?_⟩
    | with_reducible apply State.hostWrite_keeps
    | (generalize hu : State.mk .. = u; refine (?_ : State.Keeps strict s0 u → _) (.mk_eq hu ?_); clear hu) | split | dsimp only

theorem execStoreSave_keeps {strict : Bool} {s0 s : State} (h : s0.Keeps strict s) (who : Key) (sub : Nat) (data : Bytes) :
    ∃ t, (execStoreSave who sub data s) = .next t ∧ s0.Keeps strict t := by
  unfold execStoreSave
  repeat' first
    | with_reducible assumption | intro _ | ((fail_if_no_progress extract_lets +onlyGivenNames t); refine (?_ : State.Keeps strict s0 t → _) ?_; (on_goal 1 => intro ht; clear_value t); on_goal 2 => try unfold t)
    | fail_if_no_progress extract_lets +onlyGivenNames t | with_reducible refine ⟨_, rfl, ?_⟩
    | with_reducible apply State.hostWrite_keeps
    | (generalize hu : State.mk .. = u; refine (?_ : State.Keeps strict s0 u → _) (.mk_eq hu ?_); clear hu) | split | dsimp only

theorem execRestoreLoad_keeps {strict : Bool} {s0 s : State} (h : s0.Keeps strict s) (who : Key) (sub : Nat) (data : Bytes) :
    ∃ t, (execRestoreLoad who sub data s) = .next t ∧ s0.Keeps strict t := by
  unfold execRestoreLoad
  repeat' first
    | with_reducible assumption | intro _ | ((fail_if_no_progress extract_lets +onlyGivenNames t); refine (?_ : State.Keeps strict s0 t → _) ?_; (on_goal 1 => intro ht; clear_value t); on_goal 2 => try unfold t)
    | fail_if_no_progress extract_lets +onlyGivenNames t | with_reducible refine ⟨_, rfl, ?_⟩
    | with_reducible apply State.hostWrite_keeps
    | (generalize hu : State.mk .. = u; refine (?_ : State.Keeps strict s0 u → _) (.mk_eq hu ?_); clear hu) | split | dsimp only

theorem execGaspClear_keeps {strict : Bool} {s0 s : State} (h : s0.Keeps strict s) (who : Key) (data : Bytes) :
    ∃ t, (execGaspClear who data s) = .next t ∧ s0.Keeps strict t := by
  unfold execGaspClear
  repeat' first
    | with_reducible assumption | intro _ | ((fail_if_no_progress extract_lets +onlyGivenNames t); refine (?_ : State.Keeps strict s0 t → _) ?_; (on_goal 1 => intro ht; clear_value t); on_goal 2 => try unfold t)
    | fail_if_no_progress extract_lets +onlyGivenNames t | with_reducible refine ⟨_, rfl, ?_⟩
    | with_reducible apply State.hostWrite_keeps
    | (generalize hu : State.mk .. = u; refine (?_ : State.Keeps strict s0 u → _) (.mk_eq hu ?_); clear hu) | split | dsimp only

theorem execRollback_keeps {strict : Bool} {s0 s : State} (h : s0.Keeps strict s) (who : Key) (data : Bytes) :
    ∃ t, (execRollback who data s) = .next t ∧ s0.Keeps strict t := by
  unfold execRollback
  repeat' first
    | with_reducible assumption | intro _ | ((fail_if_no_progress extract_lets +onlyGivenNames t); refine (?_ : State.Keeps strict s0 t → _) ?_; (on_goal 1 => intro ht; clear_value t); on_goal 2 => try unfold t)
    | fail_if_no_progress extract_lets +onlyGivenNames t | with_reducible refine ⟨_, rfl, ?_⟩
    | with_reducible apply State.hostWrite_keeps
    | (generalize hu : State.mk .. = u; refine (?_ : State.Keeps strict s0 u → _) (.mk_eq hu ?_); clear hu) | split | dsimp only

theorem execAppConfirm_keeps {strict : Bool} {s0 s : State} (h : s0.Keeps strict s) (d : DapNo) (data : Bytes) :
    ∃ t, (execAppConfirm d data s) = .next t ∧ s0.Keeps strict t := by
  unfold execAppConfirm
  repeat' first
    | with_reducible assumption | intro _ | ((fail_if_no_progress extract_lets +onlyGivenNames t); refine (?_ : State.Keeps strict s0 t → _) ?_; (on_goal 1 => intro ht; clear_value t); on_goal 2 => try unfold t)
    | fail_if_no_progress extract_lets +onlyGivenNames t | with_reducible refine ⟨_, rfl, ?_⟩
    | with_reducible apply State.hostWrite_keeps
    | (generalize hu : State.mk .. = u; refine (?_ : State.Keeps strict s0 u → _) (.mk_eq hu ?_); clear hu) | split | dsimp only

/-! Machine/Thermal.lean. -/

theorem State.thermalEvent_keeps {strict : Bool} {s0 s : State} (h : s0.Keeps strict s) (code : Nat) (i : InputNo) :
    s0.Keeps strict (State.thermalEvent code i s) := by
  unfold State.thermalEvent
  repeat' first
    | with_reducible assumption | intro _ | ((fail_if_no_progress extract_lets +onlyGivenNames t); refine (?_ : State.Keeps strict s0 t → _) ?_; (on_goal 1 => intro ht; clear_value t); on_goal 2 => try unfold t)
    | fail_if_no_progress extract_lets +onlyGivenNames t | with_reducible apply State.event_keeps
    | (generalize hu : State.mk .. = u; refine (?_ : State.Keeps strict s0 u → _) (.mk_eq hu ?_); clear hu) | split | dsimp only

theorem State.setDerate_keeps {strict : Bool} {s0 s : State} (h : s0.Keeps strict s) (k : LoopNo) (n : Nat) :
    s0.Keeps strict (State.setDerate k n s) := by
  unfold State.setDerate
  repeat' first
    | with_reducible assumption | intro _ | ((fail_if_no_progress extract_lets +onlyGivenNames t); refine (?_ : State.Keeps strict s0 t → _) ?_; (on_goal 1 => intro ht; clear_value t); on_goal 2 => try unfold t)
    | fail_if_no_progress extract_lets +onlyGivenNames t | with_reducible apply State.event_keeps
    | with_reducible apply State.modLoop_keeps | with_reducible apply State.recapacity_keeps
    | (generalize hu : State.mk .. = u; refine (?_ : State.Keeps strict s0 u → _) (.mk_eq hu ?_); clear hu) | split | dsimp only

theorem State.derateTimers_keeps {strict : Bool} {s0 s : State} (h : s0.Keeps strict s) (i : InputNo) :
    s0.Keeps strict (State.derateTimers i s) := by
  unfold State.derateTimers
  repeat' first
    | with_reducible assumption | intro _ | ((fail_if_no_progress extract_lets +onlyGivenNames t); refine (?_ : State.Keeps strict s0 t → _) ?_; (on_goal 1 => intro ht; clear_value t); on_goal 2 => try unfold t)
    | fail_if_no_progress extract_lets +onlyGivenNames t | with_reducible apply State.each_keeps
    | with_reducible apply State.modLoop_keeps
    | (generalize hu : State.mk .. = u; refine (?_ : State.Keeps strict s0 u → _) (.mk_eq hu ?_); clear hu) | split | dsimp only

theorem State.enterThrottle_keeps {strict : Bool} {s0 s : State} (h : s0.Keeps strict s) (i : InputNo) :
    s0.Keeps strict (State.enterThrottle i s) := by
  unfold State.enterThrottle
  repeat' first
    | with_reducible assumption | intro _ | ((fail_if_no_progress extract_lets +onlyGivenNames t); refine (?_ : State.Keeps strict s0 t → _) ?_; (on_goal 1 => intro ht; clear_value t); on_goal 2 => try unfold t)
    | fail_if_no_progress extract_lets +onlyGivenNames t | with_reducible apply State.derateTimers_keeps
    | with_reducible apply State.each_keeps | with_reducible apply State.modThermal_keeps
    | with_reducible apply State.setDerate_keeps | with_reducible apply State.thermalEvent_keeps
    | with_reducible apply State.throttle_keeps
    | (generalize hu : State.mk .. = u; refine (?_ : State.Keeps strict s0 u → _) (.mk_eq hu ?_); clear hu) | split | dsimp only

theorem State.releaseCaps_keeps {strict : Bool} {s0 s : State} (h : s0.Keeps strict s) (i : InputNo) :
    s0.Keeps strict (State.releaseCaps i s) := by
  unfold State.releaseCaps
  repeat' first
    | with_reducible assumption | intro _ | ((fail_if_no_progress extract_lets +onlyGivenNames t); refine (?_ : State.Keeps strict s0 t → _) ?_; (on_goal 1 => intro ht; clear_value t); on_goal 2 => try unfold t)
    | fail_if_no_progress extract_lets +onlyGivenNames t | with_reducible apply State.derateTimers_keeps
    | with_reducible apply State.dropThrottle_keeps | with_reducible apply State.event_keeps
    | with_reducible apply State.modThermal_keeps | with_reducible apply State.over_keeps
    | with_reducible apply State.throttle_keeps
    | (generalize hu : State.mk .. = u; refine (?_ : State.Keeps strict s0 u → _) (.mk_eq hu ?_); clear hu) | split | dsimp only

theorem State.toWarnOrNormal_keeps {strict : Bool} {s0 s : State} (h : s0.Keeps strict s) (i : InputNo) :
    s0.Keeps strict (State.toWarnOrNormal i s) := by
  unfold State.toWarnOrNormal
  repeat' first
    | with_reducible assumption | intro _ | ((fail_if_no_progress extract_lets +onlyGivenNames t); refine (?_ : State.Keeps strict s0 t → _) ?_; (on_goal 1 => intro ht; clear_value t); on_goal 2 => try unfold t)
    | fail_if_no_progress extract_lets +onlyGivenNames t | with_reducible apply State.modThermal_keeps
    | with_reducible apply State.thermalEvent_keeps
    | (generalize hu : State.mk .. = u; refine (?_ : State.Keeps strict s0 u → _) (.mk_eq hu ?_); clear hu) | split | dsimp only

theorem State.thermalStep_keeps {strict : Bool} {s0 s : State} (h : s0.Keeps strict s) (i : InputNo) :
    s0.Keeps strict (State.thermalStep i s) := by
  unfold State.thermalStep
  repeat' first
    | with_reducible assumption | intro _ | ((fail_if_no_progress extract_lets +onlyGivenNames t); refine (?_ : State.Keeps strict s0 t → _) ?_; (on_goal 1 => intro ht; clear_value t); on_goal 2 => try unfold t)
    | fail_if_no_progress extract_lets +onlyGivenNames t | with_reducible apply State.enterThrottle_keeps
    | with_reducible apply State.modThermal_keeps | with_reducible apply State.thermalEvent_keeps
    | with_reducible apply State.throttle_keeps | with_reducible apply State.toWarnOrNormal_keeps
    | (generalize hu : State.mk .. = u; refine (?_ : State.Keeps strict s0 u → _) (.mk_eq hu ?_); clear hu) | split
    | with_reducible refine State.Keeps.of_pair (by assumption) ?_ | with_reducible refine State.Keeps.of_triple (by assumption) ?_
    | dsimp only

theorem State.thermalRequests_keeps {strict : Bool} {s0 s : State} (h : s0.Keeps strict s) : s0.Keeps strict s.thermalRequests := by
  refine State.each_keeps h fun x t ht => ?_
  generalize hc : List.map Prod.snd _ = caps
  dsimp only
  split
  · exact ht
  · split
    · exact State.throttle_keeps ht _ _ _ _
    · exact ht

theorem State.cellBand_keeps {strict : Bool} {s0 s : State} (h : s0.Keeps strict s) (c : CellNo) (b : Nat) :
    s0.Keeps strict (State.cellBand c b s) := by
  unfold State.cellBand
  repeat' first
    | with_reducible assumption | intro _ | ((fail_if_no_progress extract_lets +onlyGivenNames t); refine (?_ : State.Keeps strict s0 t → _) ?_; (on_goal 1 => intro ht; clear_value t); on_goal 2 => try unfold t)
    | fail_if_no_progress extract_lets +onlyGivenNames t | with_reducible apply State.calCheck_keeps
    | with_reducible apply State.modCell_keeps
    | (generalize hu : State.mk .. = u; refine (?_ : State.Keeps strict s0 u → _) (.mk_eq hu ?_); clear hu) | split | dsimp only

theorem State.moveBand_keeps {strict : Bool} {s0 s : State} (h : s0.Keeps strict s) (i : InputNo) :
    s0.Keeps strict (State.moveBand i s) := by
  unfold State.moveBand
  repeat' first
    | with_reducible assumption | intro _ | ((fail_if_no_progress extract_lets +onlyGivenNames t); refine (?_ : State.Keeps strict s0 t → _) ?_; (on_goal 1 => intro ht; clear_value t); on_goal 2 => try unfold t)
    | fail_if_no_progress extract_lets +onlyGivenNames t | with_reducible apply State.cellBand_keeps
    | with_reducible apply State.each_keeps | with_reducible apply State.event_keeps | with_reducible apply State.modThermal_keeps
    | (generalize hu : State.mk .. = u; refine (?_ : State.Keeps strict s0 u → _) (.mk_eq hu ?_); clear hu) | split | dsimp only

theorem State.inputInvalid_keeps {strict : Bool} {s0 s : State} (h : s0.Keeps strict s) (i : InputNo) :
    s0.Keeps strict (State.inputInvalid i s) := by
  unfold State.inputInvalid
  repeat' first
    | with_reducible assumption | intro _ | ((fail_if_no_progress extract_lets +onlyGivenNames t); refine (?_ : State.Keeps strict s0 t → _) ?_; (on_goal 1 => intro ht; clear_value t); on_goal 2 => try unfold t)
    | fail_if_no_progress extract_lets +onlyGivenNames t | with_reducible apply State.event_keeps
    | with_reducible apply State.modThermal_keeps
    | (generalize hu : State.mk .. = u; refine (?_ : State.Keeps strict s0 u → _) (.mk_eq hu ?_); clear hu) | split | dsimp only

theorem State.validMean_keeps {strict : Bool} {s0 s : State} (h : s0.Keeps strict s) (i : InputNo) (mean : Rat) :
    s0.Keeps strict (State.validMean i mean s) := by
  unfold State.validMean
  repeat' first
    | with_reducible assumption | intro _ | ((fail_if_no_progress extract_lets +onlyGivenNames t); refine (?_ : State.Keeps strict s0 t → _) ?_; (on_goal 1 => intro ht; clear_value t); on_goal 2 => try unfold t)
    | fail_if_no_progress extract_lets +onlyGivenNames t | with_reducible apply State.event_keeps
    | with_reducible apply State.modThermal_keeps | with_reducible apply State.moveBand_keeps
    | with_reducible apply State.thermalStep_keeps
    | (generalize hu : State.mk .. = u; refine (?_ : State.Keeps strict s0 u → _) (.mk_eq hu ?_); clear hu) | split | dsimp only

theorem execThermalEvaluation_keeps {strict : Bool} {s0 s : State} (h : s0.Keeps strict s) (i : InputNo) (die : Option Rat) :
    ∃ t, (execThermalEvaluation i die s) = .next t ∧ s0.Keeps strict t := by
  unfold execThermalEvaluation
  split
  · extract_lets mean t u
    have hu : s0.Keeps strict u := State.modThermal_keeps (State.adoptSet_keeps (State.adoptSet_keeps h _) _) _ _
    clear_value u mean
    refine settle_keeps ?_ s
    repeat' first
      | with_reducible exact State.validMean_keeps hu _ _ | with_reducible exact State.inputInvalid_keeps hu _
      | with_reducible exact State.modThermal_keeps (State.releaseCaps_keeps hu _) _ _ | with_reducible exact State.modThermal_keeps hu _ _
      | with_reducible exact State.releaseCaps_keeps hu _ | with_reducible exact hu | with_reducible apply State.modThermal_keeps | split
  · exact ⟨_, rfl, h⟩

theorem State.dieDifference_keeps {strict : Bool} {s0 s : State} (h : s0.Keeps strict s) :
    s0.Keeps strict (State.dieDifference s) := by
  unfold State.dieDifference
  repeat' first
    | with_reducible assumption | intro _ | ((fail_if_no_progress extract_lets +onlyGivenNames t); refine (?_ : State.Keeps strict s0 t → _) ?_; (on_goal 1 => intro ht; clear_value t); on_goal 2 => try unfold t)
    | fail_if_no_progress extract_lets +onlyGivenNames t | with_reducible apply State.event_keeps
    | with_reducible apply State.modClk_keeps
    | (generalize hu : State.mk .. = u; refine (?_ : State.Keeps strict s0 u → _) (.mk_eq hu ?_); clear hu) | split | dsimp only

theorem execThermalRateEvaluation_keeps {strict : Bool} {s0 s : State} (h : s0.Keeps strict s) (i : InputNo) :
    ∃ t, (execThermalRateEvaluation i s) = .next t ∧ s0.Keeps strict t := by
  unfold execThermalRateEvaluation
  repeat' first
    | with_reducible assumption | intro _ | ((fail_if_no_progress extract_lets +onlyGivenNames t); refine (?_ : State.Keeps strict s0 t → _) ?_; (on_goal 1 => intro ht; clear_value t); on_goal 2 => try unfold t)
    | fail_if_no_progress extract_lets +onlyGivenNames t | with_reducible apply State.errReset_keeps
    | with_reducible refine ⟨_, rfl, ?_⟩ | with_reducible apply State.dieDifference_keeps
    | with_reducible apply State.modThermal_keeps | with_reducible apply State.thermalStep_keeps | with_reducible apply settle_keeps
    | (generalize hu : State.mk .. = u; refine (?_ : State.Keeps strict s0 u → _) (.mk_eq hu ?_); clear hu) | split | dsimp only

theorem execThermalRelease_keeps {strict : Bool} {s0 s : State} (h : s0.Keeps strict s) (i : InputNo) :
    ∃ t, (execThermalRelease i s) = .next t ∧ s0.Keeps strict t := by
  unfold execThermalRelease
  repeat' first
    | with_reducible assumption | intro _ | ((fail_if_no_progress extract_lets +onlyGivenNames t); refine (?_ : State.Keeps strict s0 t → _) ?_; (on_goal 1 => intro ht; clear_value t); on_goal 2 => try unfold t)
    | fail_if_no_progress extract_lets +onlyGivenNames t | with_reducible apply State.errReset_keeps
    | with_reducible refine ⟨_, rfl, ?_⟩ | with_reducible apply State.releaseCaps_keeps
    | with_reducible apply State.thermalEvent_keeps | with_reducible apply State.throttle_keeps
    | with_reducible apply State.toWarnOrNormal_keeps | with_reducible apply settle_keeps
    | (generalize hu : State.mk .. = u; refine (?_ : State.Keeps strict s0 u → _) (.mk_eq hu ?_); clear hu) | split | dsimp only

theorem execDerateStep_keeps {strict : Bool} {s0 s : State} (h : s0.Keeps strict s) (k : LoopNo) :
    ∃ t, (execDerateStep k s) = .next t ∧ s0.Keeps strict t := by
  unfold execDerateStep
  repeat' first
    | with_reducible assumption | intro _ | ((fail_if_no_progress extract_lets +onlyGivenNames t); refine (?_ : State.Keeps strict s0 t → _) ?_; (on_goal 1 => intro ht; clear_value t); on_goal 2 => try unfold t)
    | fail_if_no_progress extract_lets +onlyGivenNames t | with_reducible refine ⟨_, rfl, ?_⟩
    | with_reducible apply State.modLoop_keeps | with_reducible apply State.setDerate_keeps
    | (generalize hu : State.mk .. = u; refine (?_ : State.Keeps strict s0 u → _) (.mk_eq hu ?_); clear hu) | split | dsimp only

theorem execRegionDiffClear_keeps {strict : Bool} {s0 s : State} (h : s0.Keeps strict s) :
    ∃ t, (execRegionDiffClear s) = .next t ∧ s0.Keeps strict t := by
  unfold execRegionDiffClear
  repeat' first
    | with_reducible assumption | intro _ | ((fail_if_no_progress extract_lets +onlyGivenNames t); refine (?_ : State.Keeps strict s0 t → _) ?_; (on_goal 1 => intro ht; clear_value t); on_goal 2 => try unfold t)
    | fail_if_no_progress extract_lets +onlyGivenNames t | with_reducible refine ⟨_, rfl, ?_⟩
    | with_reducible apply State.event_keeps | with_reducible apply State.modClk_keeps
    | (generalize hu : State.mk .. = u; refine (?_ : State.Keeps strict s0 u → _) (.mk_eq hu ?_); clear hu) | split | dsimp only

end Sys2Proof.Machine
end

