-- ==== Sys2Proof/Laws/KeepsCores.lean ====
section
/-! SUPPORT. Laws/KeepsCores.lean: what the operations of interrupts, DAP ports, stores, images and resets keep (State.Keeps). -/

set_option linter.unreachableTactic false
set_option linter.unusedTactic false
set_option linter.tactic.unusedName false

namespace Sys2Proof.Machine

/-! Machine/Icu.lean. -/

theorem State.wakeCore_keeps {strict : Bool} {s0 s : State} (h : s0.Keeps strict s) (c : CoreNo) :
    s0.Keeps strict (State.wakeCore c s) := by
  unfold State.wakeCore
  repeat' first
    | with_reducible assumption | intro _ | ((fail_if_no_progress extract_lets +onlyGivenNames t); refine (?_ : State.Keeps strict s0 t → _) ?_; (on_goal 1 => intro ht; clear_value t); on_goal 2 => try unfold t)
    | fail_if_no_progress extract_lets +onlyGivenNames t | with_reducible apply State.modCore_keeps
    | (generalize hu : State.mk .. = u; refine (?_ : State.Keeps strict s0 u → _) (.mk_eq hu ?_); clear hu) | split | dsimp only

theorem State.refreshSrc_keeps {strict : Bool} {s0 s : State} (h : s0.Keeps strict s) (n : SharedNo) :
    s0.Keeps strict (State.refreshSrc n s) := by
  unfold State.refreshSrc
  repeat' first
    | with_reducible assumption | intro _ | ((fail_if_no_progress extract_lets +onlyGivenNames t); refine (?_ : State.Keeps strict s0 t → _) ?_; (on_goal 1 => intro ht; clear_value t); on_goal 2 => try unfold t)
    | fail_if_no_progress extract_lets +onlyGivenNames t | with_reducible apply State.modSrc_keeps
    | with_reducible apply State.wakeCore_keeps
    | (generalize hu : State.mk .. = u; refine (?_ : State.Keeps strict s0 u → _) (.mk_eq hu ?_); clear hu) | split | dsimp only

theorem State.accrue_keeps {strict : Bool} {s0 s : State} (h : s0.Keeps strict s) (n : SharedNo) :
    s0.Keeps strict (State.accrue n s) := by
  unfold State.accrue
  repeat' first
    | with_reducible assumption | intro _ | ((fail_if_no_progress extract_lets +onlyGivenNames t); refine (?_ : State.Keeps strict s0 t → _) ?_; (on_goal 1 => intro ht; clear_value t); on_goal 2 => try unfold t)
    | fail_if_no_progress extract_lets +onlyGivenNames t | with_reducible apply State.event_keeps
    | with_reducible apply State.modSrc_keeps
    | (generalize hu : State.mk .. = u; refine (?_ : State.Keeps strict s0 u → _) (.mk_eq hu ?_); clear hu) | split | dsimp only

theorem State.irqEvent_keeps {strict : Bool} {s0 s : State} (h : s0.Keeps strict s) (n : SharedNo) :
    s0.Keeps strict (State.irqEvent n s) := by
  unfold State.irqEvent
  repeat' first
    | with_reducible assumption | intro _ | ((fail_if_no_progress extract_lets +onlyGivenNames t); refine (?_ : State.Keeps strict s0 t → _) ?_; (on_goal 1 => intro ht; clear_value t); on_goal 2 => try unfold t)
    | fail_if_no_progress extract_lets +onlyGivenNames t | with_reducible apply State.accrue_keeps
    | with_reducible apply State.modSrc_keeps | with_reducible apply State.refreshSrc_keeps
    | (generalize hu : State.mk .. = u; refine (?_ : State.Keeps strict s0 u → _) (.mk_eq hu ?_); clear hu) | split | dsimp only

theorem State.privSet_keeps {strict : Bool} {s0 s : State} (h : s0.Keeps strict s) (c : CoreNo) (p : Fin 32) (high : Bool) :
    s0.Keeps strict (State.privSet c p high s) := by
  unfold State.privSet
  repeat' first
    | with_reducible assumption | intro _ | ((fail_if_no_progress extract_lets +onlyGivenNames t); refine (?_ : State.Keeps strict s0 t → _) ?_; (on_goal 1 => intro ht; clear_value t); on_goal 2 => try unfold t)
    | fail_if_no_progress extract_lets +onlyGivenNames t | with_reducible apply State.modCore_keeps
    | with_reducible apply State.wakeCore_keeps
    | (generalize hu : State.mk .. = u; refine (?_ : State.Keeps strict s0 u → _) (.mk_eq hu ?_); clear hu) | split | dsimp only

theorem execIcuSourceEvent_keeps {strict : Bool} {s0 s : State} (h : s0.Keeps strict s) (src : IrqSource) :
    ∃ t, (execIcuSourceEvent src s) = .next t ∧ s0.Keeps strict t := by
  unfold execIcuSourceEvent
  repeat' first
    | with_reducible assumption | intro _ | ((fail_if_no_progress extract_lets +onlyGivenNames t); refine (?_ : State.Keeps strict s0 t → _) ?_; (on_goal 1 => intro ht; clear_value t); on_goal 2 => try unfold t)
    | fail_if_no_progress extract_lets +onlyGivenNames t | with_reducible refine ⟨_, rfl, ?_⟩
    | with_reducible apply State.irqEvent_keeps | with_reducible apply State.wakeCore_keeps
    | (generalize hu : State.mk .. = u; refine (?_ : State.Keeps strict s0 u → _) (.mk_eq hu ?_); clear hu) | split
    | with_reducible refine State.Keeps.of_pair (by assumption) ?_ | with_reducible refine State.Keeps.of_triple (by assumption) ?_
    | dsimp only

theorem execSwset_keeps {strict : Bool} {s0 s : State} (h : s0.Keeps strict s) (c : CoreNo) (mask : BitVec 8) :
    ∃ t, (execSwset c mask s) = .next t ∧ s0.Keeps strict t := by
  unfold execSwset
  repeat' first
    | with_reducible assumption | intro _ | ((fail_if_no_progress extract_lets +onlyGivenNames t); refine (?_ : State.Keeps strict s0 t → _) ?_; (on_goal 1 => intro ht; clear_value t); on_goal 2 => try unfold t)
    | fail_if_no_progress extract_lets +onlyGivenNames t | with_reducible refine ⟨_, rfl, ?_⟩
    | with_reducible apply State.each_keeps | with_reducible apply State.irqEvent_keeps
    | (generalize hu : State.mk .. = u; refine (?_ : State.Keeps strict s0 u → _) (.mk_eq hu ?_); clear hu) | split | dsimp only

theorem execModerationRelease_keeps {strict : Bool} {s0 s : State} (h : s0.Keeps strict s) (n : SharedNo) :
    ∃ t, (execModerationRelease n s) = .next t ∧ s0.Keeps strict t := by
  unfold execModerationRelease
  repeat' first
    | with_reducible assumption | intro _ | ((fail_if_no_progress extract_lets +onlyGivenNames t); refine (?_ : State.Keeps strict s0 t → _) ?_; (on_goal 1 => intro ht; clear_value t); on_goal 2 => try unfold t)
    | fail_if_no_progress extract_lets +onlyGivenNames t | with_reducible refine ⟨_, rfl, ?_⟩
    | with_reducible apply State.modSrc_keeps | with_reducible apply State.wakeCore_keeps
    | (generalize hu : State.mk .. = u; refine (?_ : State.Keeps strict s0 u → _) (.mk_eq hu ?_); clear hu) | split | dsimp only

theorem execCoreWfi_keeps {strict : Bool} {s0 s : State} (h : s0.Keeps strict s) (c : CoreNo) :
    ∃ t, (execCoreWfi c s) = .next t ∧ s0.Keeps strict t := by
  unfold execCoreWfi
  repeat' first
    | with_reducible assumption | intro _ | ((fail_if_no_progress extract_lets +onlyGivenNames t); refine (?_ : State.Keeps strict s0 t → _) ?_; (on_goal 1 => intro ht; clear_value t); on_goal 2 => try unfold t)
    | fail_if_no_progress extract_lets +onlyGivenNames t | with_reducible refine ⟨_, rfl, ?_⟩
    | with_reducible apply State.each_keeps | with_reducible apply State.modCore_keeps | with_reducible apply State.refreshSrc_keeps
    | with_reducible apply State.wakeCore_keeps
    | (generalize hu : State.mk .. = u; refine (?_ : State.Keeps strict s0 u → _) (.mk_eq hu ?_); clear hu) | split | dsimp only

theorem State.claimSource_keeps {strict : Bool} {s0 s : State} (h : s0.Keeps strict s) (c : CoreNo) (src : IrqSource) :
    s0.Keeps strict (State.claimSource c src s) := by
  unfold State.claimSource
  repeat' first
    | with_reducible assumption | intro _ | ((fail_if_no_progress extract_lets +onlyGivenNames t); refine (?_ : State.Keeps strict s0 t → _) ?_; (on_goal 1 => intro ht; clear_value t); on_goal 2 => try unfold t)
    | fail_if_no_progress extract_lets +onlyGivenNames t | with_reducible apply State.modCore_keeps
    | with_reducible apply State.modSrc_keeps
    | (generalize hu : State.mk .. = u; refine (?_ : State.Keeps strict s0 u → _) (.mk_eq hu ?_); clear hu) | split
    | with_reducible refine State.Keeps.of_pair (by assumption) ?_ | with_reducible refine State.Keeps.of_triple (by assumption) ?_
    | dsimp only

theorem execClaim_keeps {strict : Bool} {s0 s : State} (h : s0.Keeps strict s) (c : CoreNo) :
    ∃ t, (execClaim c s) = .next t ∧ s0.Keeps strict t := by
  unfold execClaim
  repeat' first
    | with_reducible assumption | intro _ | ((fail_if_no_progress extract_lets +onlyGivenNames t); refine (?_ : State.Keeps strict s0 t → _) ?_; (on_goal 1 => intro ht; clear_value t); on_goal 2 => try unfold t)
    | fail_if_no_progress extract_lets +onlyGivenNames t | with_reducible refine ⟨_, rfl, ?_⟩
    | with_reducible apply State.answer_keeps | with_reducible apply State.claimSource_keeps
    | (generalize hu : State.mk .. = u; refine (?_ : State.Keeps strict s0 u → _) (.mk_eq hu ?_); clear hu) | split
    | with_reducible refine State.Keeps.of_pair (by assumption) ?_ | with_reducible refine State.Keeps.of_triple (by assumption) ?_
    | dsimp only

theorem execComplete_keeps {strict : Bool} {s0 s : State} (h : s0.Keeps strict s) (c : CoreNo) (id : BitVec 8) :
    ∃ t, (execComplete c id s) = .next t ∧ s0.Keeps strict t := by
  unfold execComplete
  repeat' first
    | with_reducible assumption | intro _ | ((fail_if_no_progress extract_lets +onlyGivenNames t); refine (?_ : State.Keeps strict s0 t → _) ?_; (on_goal 1 => intro ht; clear_value t); on_goal 2 => try unfold t)
    | fail_if_no_progress extract_lets +onlyGivenNames t | with_reducible refine ⟨_, rfl, ?_⟩
    | with_reducible apply State.modCore_keeps | with_reducible apply State.modSrc_keeps
    | with_reducible apply State.refreshSrc_keeps
    | (generalize hu : State.mk .. = u; refine (?_ : State.Keeps strict s0 u → _) (.mk_eq hu ?_); clear hu) | split
    | with_reducible refine State.Keeps.of_pair (by assumption) ?_ | with_reducible refine State.Keeps.of_triple (by assumption) ?_
    | dsimp only

theorem State.writeSrcCfg_keeps {strict : Bool} {s0 s : State} (h : s0.Keeps strict s) (n : SharedNo) (word : BitVec 32) :
    s0.Keeps strict (State.writeSrcCfg n word s) := by
  unfold State.writeSrcCfg
  repeat' first
    | with_reducible assumption | intro _ | ((fail_if_no_progress extract_lets +onlyGivenNames t); refine (?_ : State.Keeps strict s0 t → _) ?_; (on_goal 1 => intro ht; clear_value t); on_goal 2 => try unfold t)
    | fail_if_no_progress extract_lets +onlyGivenNames t | with_reducible apply State.modSrc_keeps
    | with_reducible apply State.refreshSrc_keeps
    | (generalize hu : State.mk .. = u; refine (?_ : State.Keeps strict s0 u → _) (.mk_eq hu ?_); clear hu) | split | dsimp only

theorem execTargetWrite_keeps {strict : Bool} {s0 s : State} (h : s0.Keeps strict s) (c : CoreNo) (n : SharedNo) (word : BitVec 32) :
    ∃ t, (execTargetWrite c n word s) = .next t ∧ s0.Keeps strict t := by
  unfold execTargetWrite
  repeat' first
    | with_reducible assumption | intro _ | ((fail_if_no_progress extract_lets +onlyGivenNames t); refine (?_ : State.Keeps strict s0 t → _) ?_; (on_goal 1 => intro ht; clear_value t); on_goal 2 => try unfold t)
    | fail_if_no_progress extract_lets +onlyGivenNames t | with_reducible refine ⟨_, rfl, ?_⟩
    | with_reducible apply State.writeSrcCfg_keeps
    | (generalize hu : State.mk .. = u; refine (?_ : State.Keeps strict s0 u → _) (.mk_eq hu ?_); clear hu) | split | dsimp only

theorem execPrioWrite_keeps {strict : Bool} {s0 s : State} (h : s0.Keeps strict s) (c : CoreNo) (reg : PrioReg) (word : BitVec 32) :
    ∃ t, (execPrioWrite c reg word s) = .next t ∧ s0.Keeps strict t := by
  unfold execPrioWrite
  repeat' first
    | with_reducible assumption | intro _ | ((fail_if_no_progress extract_lets +onlyGivenNames t); refine (?_ : State.Keeps strict s0 t → _) ?_; (on_goal 1 => intro ht; clear_value t); on_goal 2 => try unfold t)
    | fail_if_no_progress extract_lets +onlyGivenNames t | with_reducible refine ⟨_, rfl, ?_⟩
    | with_reducible apply State.modCore_keeps | with_reducible apply State.wakeCore_keeps
    | with_reducible apply State.writeSrcCfg_keeps
    | (generalize hu : State.mk .. = u; refine (?_ : State.Keeps strict s0 u → _) (.mk_eq hu ?_); clear hu) | split
    | with_reducible refine State.Keeps.of_pair (by assumption) ?_ | with_reducible refine State.Keeps.of_triple (by assumption) ?_
    | dsimp only

theorem execThresholdWrite_keeps {strict : Bool} {s0 s : State} (h : s0.Keeps strict s) (c : CoreNo) (threshold : Fin 16) :
    ∃ t, (execThresholdWrite c threshold s) = .next t ∧ s0.Keeps strict t := by
  unfold execThresholdWrite
  repeat' first
    | with_reducible assumption | intro _ | ((fail_if_no_progress extract_lets +onlyGivenNames t); refine (?_ : State.Keeps strict s0 t → _) ?_; (on_goal 1 => intro ht; clear_value t); on_goal 2 => try unfold t)
    | fail_if_no_progress extract_lets +onlyGivenNames t | with_reducible refine ⟨_, rfl, ?_⟩
    | with_reducible apply State.modCore_keeps
    | (generalize hu : State.mk .. = u; refine (?_ : State.Keeps strict s0 u → _) (.mk_eq hu ?_); clear hu) | split | dsimp only

theorem execTimerCompareWrite_keeps {strict : Bool} {s0 s : State} (h : s0.Keeps strict s) (c : CoreNo) (n : Fin 4) (hi : BitVec 16) (lo : BitVec 32) :
    ∃ t, (execTimerCompareWrite c n hi lo s) = .next t ∧ s0.Keeps strict t := by
  unfold execTimerCompareWrite
  repeat' first
    | with_reducible assumption | intro _ | ((fail_if_no_progress extract_lets +onlyGivenNames t); refine (?_ : State.Keeps strict s0 t → _) ?_; (on_goal 1 => intro ht; clear_value t); on_goal 2 => try unfold t)
    | fail_if_no_progress extract_lets +onlyGivenNames t | with_reducible refine ⟨_, rfl, ?_⟩
    | with_reducible apply State.modCore_keeps
    | (generalize hu : State.mk .. = u; refine (?_ : State.Keeps strict s0 u → _) (.mk_eq hu ?_); clear hu) | split | dsimp only

theorem execTimerCompareMatch_keeps {strict : Bool} {s0 s : State} (h : s0.Keeps strict s) (c : CoreNo) (n : Fin 4) :
    ∃ t, (execTimerCompareMatch c n s) = .next t ∧ s0.Keeps strict t := by
  unfold execTimerCompareMatch
  repeat' first
    | with_reducible assumption | intro _ | ((fail_if_no_progress extract_lets +onlyGivenNames t); refine (?_ : State.Keeps strict s0 t → _) ?_; (on_goal 1 => intro ht; clear_value t); on_goal 2 => try unfold t)
    | fail_if_no_progress extract_lets +onlyGivenNames t | with_reducible refine ⟨_, rfl, ?_⟩
    | with_reducible apply State.wakeCore_keeps
    | (generalize hu : State.mk .. = u; refine (?_ : State.Keeps strict s0 u → _) (.mk_eq hu ?_); clear hu) | split | dsimp only

theorem execTimeLoRead_keeps {strict : Bool} {s0 s : State} (h : s0.Keeps strict s) (c : CoreNo) :
    ∃ t, (execTimeLoRead c s) = .next t ∧ s0.Keeps strict t := by
  unfold execTimeLoRead
  repeat' first
    | with_reducible assumption | intro _ | ((fail_if_no_progress extract_lets +onlyGivenNames t); refine (?_ : State.Keeps strict s0 t → _) ?_; (on_goal 1 => intro ht; clear_value t); on_goal 2 => try unfold t)
    | fail_if_no_progress extract_lets +onlyGivenNames t | with_reducible refine ⟨_, rfl, ?_⟩
    | with_reducible apply State.answer_keeps | with_reducible apply State.modCore_keeps
    | (generalize hu : State.mk .. = u; refine (?_ : State.Keeps strict s0 u → _) (.mk_eq hu ?_); clear hu) | split | dsimp only

theorem execEccCorrected_keeps {strict : Bool} {s0 s : State} (h : s0.Keeps strict s) (mem : Sys2Proof.Memory) (addr : BitVec 32) (_requester : Fin 12) :
    ∃ t, (execEccCorrected mem addr _requester s) = .next t ∧ s0.Keeps strict t := by
  unfold execEccCorrected
  repeat' first
    | with_reducible assumption | intro _ | ((fail_if_no_progress extract_lets +onlyGivenNames t); refine (?_ : State.Keeps strict s0 t → _) ?_; (on_goal 1 => intro ht; clear_value t); on_goal 2 => try unfold t)
    | fail_if_no_progress extract_lets +onlyGivenNames t | with_reducible refine ⟨_, rfl, ?_⟩
    | with_reducible apply State.event_keeps | with_reducible apply State.irqEvent_keeps
    | (generalize hu : State.mk .. = u; refine (?_ : State.Keeps strict s0 u → _) (.mk_eq hu ?_); clear hu) | split | dsimp only

theorem State.scrubLevel_keeps {strict : Bool} {s0 s : State} (h : s0.Keeps strict s) (c : CoreNo) :
    s0.Keeps strict (State.scrubLevel c s) := by
  unfold State.scrubLevel
  repeat' first
    | with_reducible assumption | intro _ | ((fail_if_no_progress extract_lets +onlyGivenNames t); refine (?_ : State.Keeps strict s0 t → _) ?_; (on_goal 1 => intro ht; clear_value t); on_goal 2 => try unfold t)
    | fail_if_no_progress extract_lets +onlyGivenNames t | with_reducible apply State.privSet_keeps
    | (generalize hu : State.mk .. = u; refine (?_ : State.Keeps strict s0 u → _) (.mk_eq hu ?_); clear hu) | split | dsimp only

theorem State.storeScrub_keeps {strict : Bool} {s0 s : State} (h : s0.Keeps strict s) (c : CoreNo) (w : BitVec 12 × BitVec 32) :
    s0.Keeps strict (State.storeScrub c w s) := by
  unfold State.storeScrub
  repeat' first
    | with_reducible assumption | intro _ | ((fail_if_no_progress extract_lets +onlyGivenNames t); refine (?_ : State.Keeps strict s0 t → _) ?_; (on_goal 1 => intro ht; clear_value t); on_goal 2 => try unfold t)
    | fail_if_no_progress extract_lets +onlyGivenNames t | with_reducible apply State.modCore_keeps
    | with_reducible apply State.scrubLevel_keeps
    | (generalize hu : State.mk .. = u; refine (?_ : State.Keeps strict s0 u → _) (.mk_eq hu ?_); clear hu) | split | dsimp only

theorem State.nextScrub_keeps {strict : Bool} {s0 s : State} (h : s0.Keeps strict s) :
    s0.Keeps strict (State.nextScrub s) := by
  unfold State.nextScrub
  repeat' first
    | with_reducible assumption | intro _ | ((fail_if_no_progress extract_lets +onlyGivenNames t); refine (?_ : State.Keeps strict s0 t → _) ?_; (on_goal 1 => intro ht; clear_value t); on_goal 2 => try unfold t)
    | fail_if_no_progress extract_lets +onlyGivenNames t | with_reducible apply State.modCore_keeps
    | (generalize hu : State.mk .. = u; refine (?_ : State.Keeps strict s0 u → _) (.mk_eq hu ?_); clear hu) | split
    | with_reducible refine State.Keeps.of_pair (by assumption) ?_ | with_reducible refine State.Keeps.of_triple (by assumption) ?_
    | dsimp only

theorem State.endScrub_keeps {strict : Bool} {s0 s : State} (h : s0.Keeps strict s) (c : CoreNo) (aborted : Bool) (corr uncorr : Nat) (bad : BitVec 32) :
    s0.Keeps strict (State.endScrub c aborted corr uncorr bad s) := by
  unfold State.endScrub
  repeat' first
    | with_reducible assumption | intro _ | ((fail_if_no_progress extract_lets +onlyGivenNames t); refine (?_ : State.Keeps strict s0 t → _) ?_; (on_goal 1 => intro ht; clear_value t); on_goal 2 => try unfold t)
    | fail_if_no_progress extract_lets +onlyGivenNames t | with_reducible apply State.event_keeps
    | with_reducible apply State.irqEvent_keeps | with_reducible apply State.modCore_keeps
    | with_reducible apply State.nextScrub_keeps | with_reducible apply State.scrubLevel_keeps
    | (generalize hu : State.mk .. = u; refine (?_ : State.Keeps strict s0 u → _) (.mk_eq hu ?_); clear hu) | split | dsimp only

theorem execScrubGo_keeps {strict : Bool} {s0 s : State} (h : s0.Keeps strict s) (c : CoreNo) (stores : Stores) (machineMode : Bool) (start words : Nat) :
    ∃ t, (execScrubGo c stores machineMode start words s) = .next t ∧ s0.Keeps strict t := by
  unfold execScrubGo
  repeat' first
    | with_reducible assumption | intro _ | ((fail_if_no_progress extract_lets +onlyGivenNames t); refine (?_ : State.Keeps strict s0 t → _) ?_; (on_goal 1 => intro ht; clear_value t); on_goal 2 => try unfold t)
    | fail_if_no_progress extract_lets +onlyGivenNames t | with_reducible refine ⟨_, rfl, ?_⟩
    | with_reducible apply State.modCore_keeps | with_reducible apply State.nextScrub_keeps | with_reducible apply State.over_keeps
    | with_reducible apply State.scrubLevel_keeps | with_reducible apply State.storeScrub_keeps
    | (generalize hu : State.mk .. = u; refine (?_ : State.Keeps strict s0 u → _) (.mk_eq hu ?_); clear hu) | split | dsimp only

theorem execScrubAbort_keeps {strict : Bool} {s0 s : State} (h : s0.Keeps strict s) (c : CoreNo) (atWord : Bool) (corr uncorr : Nat) (firstBad : BitVec 32) :
    ∃ t, (execScrubAbort c atWord corr uncorr firstBad s) = .next t ∧ s0.Keeps strict t := by
  unfold execScrubAbort
  repeat' first
    | with_reducible assumption | intro _ | ((fail_if_no_progress extract_lets +onlyGivenNames t); refine (?_ : State.Keeps strict s0 t → _) ?_; (on_goal 1 => intro ht; clear_value t); on_goal 2 => try unfold t)
    | fail_if_no_progress extract_lets +onlyGivenNames t | with_reducible refine ⟨_, rfl, ?_⟩
    | with_reducible apply State.endScrub_keeps | with_reducible apply State.modCore_keeps
    | (generalize hu : State.mk .. = u; refine (?_ : State.Keeps strict s0 u → _) (.mk_eq hu ?_); clear hu) | split | dsimp only

theorem execScrubDone_keeps {strict : Bool} {s0 s : State} (h : s0.Keeps strict s) (c : CoreNo) (corr uncorr : Nat) (firstBad : BitVec 32) :
    ∃ t, (execScrubDone c corr uncorr firstBad s) = .next t ∧ s0.Keeps strict t := by
  unfold execScrubDone
  repeat' first
    | with_reducible assumption | intro _ | ((fail_if_no_progress extract_lets +onlyGivenNames t); refine (?_ : State.Keeps strict s0 t → _) ?_; (on_goal 1 => intro ht; clear_value t); on_goal 2 => try unfold t)
    | fail_if_no_progress extract_lets +onlyGivenNames t | with_reducible refine ⟨_, rfl, ?_⟩
    | with_reducible apply State.endScrub_keeps
    | (generalize hu : State.mk .. = u; refine (?_ : State.Keeps strict s0 u → _) (.mk_eq hu ?_); clear hu) | split | dsimp only

theorem State.resetCoreUnits_keeps {strict : Bool} {s0 s : State} (h : s0.Keeps strict s) (c : CoreNo) :
    s0.Keeps strict (State.resetCoreUnits c s) := by
  unfold State.resetCoreUnits
  repeat' first
    | with_reducible assumption | intro _ | ((fail_if_no_progress extract_lets +onlyGivenNames t); refine (?_ : State.Keeps strict s0 t → _) ?_; (on_goal 1 => intro ht; clear_value t); on_goal 2 => try unfold t)
    | fail_if_no_progress extract_lets +onlyGivenNames t | with_reducible apply State.each_keeps
    | with_reducible apply State.modCore_keeps | with_reducible apply State.modSrc_keeps
    | with_reducible apply State.nextScrub_keeps | with_reducible apply State.refreshSrc_keeps
    | (generalize hu : State.mk .. = u; refine (?_ : State.Keeps strict s0 u → _) (.mk_eq hu ?_); clear hu) | split | dsimp only

theorem State.appFault_keeps {strict : Bool} {s0 s : State} (h : s0.Keeps strict s) (c : CoreNo) (mcause mtval : Nat) :
    s0.Keeps strict (State.appFault c mcause mtval s) := by
  unfold State.appFault
  repeat' first
    | with_reducible assumption | intro _ | ((fail_if_no_progress extract_lets +onlyGivenNames t); refine (?_ : State.Keeps strict s0 t → _) ?_; (on_goal 1 => intro ht; clear_value t); on_goal 2 => try unfold t)
    | fail_if_no_progress extract_lets +onlyGivenNames t | with_reducible apply State.event_keeps
    | with_reducible apply State.modCore_keeps | with_reducible refine State.modFw_keeps ?_ _ (fun _ => rfl) (fun _ => rfl)
    | with_reducible apply State.resetCoreUnits_keeps
    | (generalize hu : State.mk .. = u; refine (?_ : State.Keeps strict s0 u → _) (.mk_eq hu ?_); clear hu) | split | dsimp only

theorem execAppFault_keeps {strict : Bool} {s0 s : State} (h : s0.Keeps strict s) (c : CoreNo) (mcause mtval : BitVec 32) :
    ∃ t, (execAppFault c mcause mtval s) = .next t ∧ s0.Keeps strict t := by
  unfold execAppFault
  repeat' first
    | with_reducible assumption | intro _ | ((fail_if_no_progress extract_lets +onlyGivenNames t); refine (?_ : State.Keeps strict s0 t → _) ?_; (on_goal 1 => intro ht; clear_value t); on_goal 2 => try unfold t)
    | fail_if_no_progress extract_lets +onlyGivenNames t | with_reducible refine ⟨_, rfl, ?_⟩
    | with_reducible apply State.appFault_keeps
    | (generalize hu : State.mk .. = u; refine (?_ : State.Keeps strict s0 u → _) (.mk_eq hu ?_); clear hu) | split | dsimp only

/-! Machine/Dap.lean. -/

theorem State.dapLevel_keeps {strict : Bool} {s0 s : State} (h : s0.Keeps strict s) (d : DapNo) :
    s0.Keeps strict (State.dapLevel d s) := by
  unfold State.dapLevel
  repeat' first
    | with_reducible assumption | intro _ | ((fail_if_no_progress extract_lets +onlyGivenNames t); refine (?_ : State.Keeps strict s0 t → _) ?_; (on_goal 1 => intro ht; clear_value t); on_goal 2 => try unfold t)
    | fail_if_no_progress extract_lets +onlyGivenNames t | with_reducible apply State.privSet_keeps
    | (generalize hu : State.mk .. = u; refine (?_ : State.Keeps strict s0 u → _) (.mk_eq hu ?_); clear hu) | split | dsimp only

theorem State.endDap_keeps {strict : Bool} {s0 s : State} (h : s0.Keeps strict s) (d : DapNo) (code : Nat) :
    s0.Keeps strict (State.endDap d code s) := by
  unfold State.endDap
  repeat' first
    | with_reducible assumption | intro _ | ((fail_if_no_progress extract_lets +onlyGivenNames t); refine (?_ : State.Keeps strict s0 t → _) ?_; (on_goal 1 => intro ht; clear_value t); on_goal 2 => try unfold t)
    | fail_if_no_progress extract_lets +onlyGivenNames t | with_reducible apply State.dapLevel_keeps
    | with_reducible apply State.modDap_keeps
    | (generalize hu : State.mk .. = u; refine (?_ : State.Keeps strict s0 u → _) (.mk_eq hu ?_); clear hu) | split | dsimp only

theorem State.storeDap_keeps {strict : Bool} {s0 s : State} (h : s0.Keeps strict s) (d : DapNo) (w : BitVec 12 × BitVec 32) :
    s0.Keeps strict (State.storeDap d w s) := by
  unfold State.storeDap
  repeat' first
    | with_reducible assumption | intro _ | ((fail_if_no_progress extract_lets +onlyGivenNames t); refine (?_ : State.Keeps strict s0 t → _) ?_; (on_goal 1 => intro ht; clear_value t); on_goal 2 => try unfold t)
    | fail_if_no_progress extract_lets +onlyGivenNames t | with_reducible apply State.dapLevel_keeps
    | with_reducible apply State.modDap_keeps
    | (generalize hu : State.mk .. = u; refine (?_ : State.Keeps strict s0 u → _) (.mk_eq hu ?_); clear hu) | split | dsimp only

theorem State.dapGo_keeps {strict : Bool} {s0 s : State} (h : s0.Keeps strict s) (d : DapNo) (stores : Stores) (r : DapReq) :
    ∃ t, s.dapGo d stores r = .next t ∧ s0.Keeps strict t := by
  unfold State.dapGo
  split
  · extract_lets t u
    have ht : s0.Keeps strict t := State.over_keeps h (fun w v hv => State.storeDap_keeps hv d w) _
    clear_value t
    have hu : s0.Keeps strict u := State.modDap_keeps ht _ _
    clear_value u
    split
    · exact ⟨_, rfl, ht⟩
    · have hc := State.contact_keeps hu (dapKey d)
      generalize u.contact (dapKey d) = p at hc ⊢
      obtain ⟨_ | c, v⟩ := p
      · exact settle_keeps (State.endDap_keeps hc _ _) _
      · dsimp only
        split
        · exact settle_keeps (State.dapLevel_keeps (State.modDap_keeps hc _ _) _) _
        · exact settle_keeps (State.endDap_keeps hc _ _) _
  · exact ⟨_, rfl, h⟩

theorem execDapRead_keeps {strict : Bool} {s0 s : State} (h : s0.Keeps strict s) (d : DapNo) (stores : Stores) (index sub offset : Nat) :
    ∃ t, (execDapRead d stores index sub offset s) = .next t ∧ s0.Keeps strict t := by
  unfold execDapRead
  repeat' first
    | with_reducible assumption | intro _ | ((fail_if_no_progress extract_lets +onlyGivenNames t); refine (?_ : State.Keeps strict s0 t → _) ?_; (on_goal 1 => intro ht; clear_value t); on_goal 2 => try unfold t)
    | fail_if_no_progress extract_lets +onlyGivenNames t | with_reducible refine ⟨_, rfl, ?_⟩
    | with_reducible apply State.dapGo_keeps | with_reducible apply State.read_keeps
    | (generalize hu : State.mk .. = u; refine (?_ : State.Keeps strict s0 u → _) (.mk_eq hu ?_); clear hu) | split | dsimp only

theorem execDapWrite_keeps {strict : Bool} {s0 s : State} (h : s0.Keeps strict s) (d : DapNo) (stores : Stores) (index sub : Nat) (data : Bytes) :
    ∃ t, (execDapWrite d stores index sub data s) = .next t ∧ s0.Keeps strict t := by
  unfold execDapWrite
  repeat' first
    | with_reducible assumption | intro _ | ((fail_if_no_progress extract_lets +onlyGivenNames t); refine (?_ : State.Keeps strict s0 t → _) ?_; (on_goal 1 => intro ht; clear_value t); on_goal 2 => try unfold t)
    | fail_if_no_progress extract_lets +onlyGivenNames t | with_reducible refine ⟨_, rfl, ?_⟩
    | with_reducible apply State.dapGo_keeps | with_reducible apply State.write_keeps
    | (generalize hu : State.mk .. = u; refine (?_ : State.Keeps strict s0 u → _) (.mk_eq hu ?_); clear hu) | split | dsimp only

theorem execDapMultiWrite_keeps {strict : Bool} {s0 s : State} (h : s0.Keeps strict s) (d : DapNo) (stores : Stores) (data : Bytes) :
    ∃ t, (execDapMultiWrite d stores data s) = .next t ∧ s0.Keeps strict t := by
  unfold execDapMultiWrite
  repeat' first
    | with_reducible assumption | intro _ | ((fail_if_no_progress extract_lets +onlyGivenNames t); refine (?_ : State.Keeps strict s0 t → _) ?_; (on_goal 1 => intro ht; clear_value t); on_goal 2 => try unfold t)
    | fail_if_no_progress extract_lets +onlyGivenNames t | with_reducible refine ⟨_, rfl, ?_⟩
    | with_reducible apply State.dapGo_keeps
    | (generalize hu : State.mk .. = u; refine (?_ : State.Keeps strict s0 u → _) (.mk_eq hu ?_); clear hu) | split | dsimp only

theorem execDapAbort_keeps {strict : Bool} {s0 s : State} (h : s0.Keeps strict s) (d : DapNo) :
    ∃ t, (execDapAbort d s) = .next t ∧ s0.Keeps strict t := by
  unfold execDapAbort
  repeat' first
    | with_reducible assumption | intro _ | ((fail_if_no_progress extract_lets +onlyGivenNames t); refine (?_ : State.Keeps strict s0 t → _) ?_; (on_goal 1 => intro ht; clear_value t); on_goal 2 => try unfold t)
    | fail_if_no_progress extract_lets +onlyGivenNames t | with_reducible refine ⟨_, rfl, ?_⟩
    | with_reducible apply State.endDap_keeps
    | (generalize hu : State.mk .. = u; refine (?_ : State.Keeps strict s0 u → _) (.mk_eq hu ?_); clear hu) | split | dsimp only

theorem State.dapReadEnd_keeps {strict : Bool} {s0 s : State} (h0 : s0.Keeps strict s) (d : DapNo) (h : HostNo) (index sub offset : Nat) :
    s0.Keeps strict (State.dapReadEnd d h index sub offset s) := by
  unfold State.dapReadEnd
  repeat' first
    | with_reducible assumption | intro _ | ((fail_if_no_progress extract_lets +onlyGivenNames t); refine (?_ : State.Keeps strict s0 t → _) ?_; (on_goal 1 => intro ht; clear_value t); on_goal 2 => try unfold t)
    | fail_if_no_progress extract_lets +onlyGivenNames t | with_reducible apply State.endDap_keeps
    | with_reducible apply State.modDap_keeps | with_reducible apply State.read_keeps
    | (generalize hu : State.mk .. = u; refine (?_ : State.Keeps strict s0 u → _) (.mk_eq hu ?_); clear hu) | split
    | with_reducible refine State.Keeps.of_pair (by assumption) ?_ | with_reducible refine State.Keeps.of_triple (by assumption) ?_
    | dsimp only

theorem execDapRequestEnd_keeps {strict : Bool} {s0 s : State} (h : s0.Keeps strict s) (d : DapNo) : ∃ t, execDapRequestEnd d s = .next t ∧ s0.Keeps strict t := by
  unfold execDapRequestEnd
  split
  · split
    · exact settle_keeps (State.dapReadEnd_keeps h _ _ _ _ _) _
    next i n b c _ _ =>
      have hc := State.write_keeps h c i n b
      generalize s.write c i n b = p at hc ⊢
      obtain ⟨code, t⟩ := p
      dsimp only at hc ⊢
      refine settle_keeps ?_ _
      split
      · exact hc
      · exact State.endDap_keeps hc _ _
    next b c _ _ =>
      have hc := State.write_keeps h c 0x2104 1 b
      generalize s.write c 0x2104 1 b = p at hc ⊢
      obtain ⟨code, t⟩ := p
      exact settle_keeps (State.endDap_keeps hc _ _) _
    · exact ⟨_, rfl, h⟩
  · exact ⟨_, rfl, h⟩

/-! Machine/Images.lean. -/

theorem State.modSlot_keeps {strict : Bool} {s0 s : State} (h : s0.Keeps strict s) (i : FwSlot) (f : Fw → Fw) :
    s0.Keeps strict (State.modSlot s i f) := by
  unfold State.modSlot
  repeat' first
    | with_reducible assumption | intro _ | ((fail_if_no_progress extract_lets +onlyGivenNames t); refine (?_ : State.Keeps strict s0 t → _) ?_; (on_goal 1 => intro ht; clear_value t); on_goal 2 => try unfold t)
    | fail_if_no_progress extract_lets +onlyGivenNames t
    | with_reducible refine State.modFw_keeps ?_ _ (fun _ => rfl) (fun _ => rfl)
    | (generalize hu : State.mk .. = u; refine (?_ : State.Keeps strict s0 u → _) (.mk_eq hu ?_); clear hu) | split | dsimp only

theorem State.withdrawTending_keeps {strict : Bool} {s0 s : State} (h : s0.Keeps strict s) :
    s0.Keeps strict (State.withdrawTending s) := by
  unfold State.withdrawTending
  repeat' first
    | with_reducible assumption | intro _ | ((fail_if_no_progress extract_lets +onlyGivenNames t); refine (?_ : State.Keeps strict s0 t → _) ?_; (on_goal 1 => intro ht; clear_value t); on_goal 2 => try unfold t)
    | fail_if_no_progress extract_lets +onlyGivenNames t | with_reducible apply State.chooseRequest_keeps
    | with_reducible refine State.modFw_keeps ?_ _ (fun _ => rfl) (fun _ => rfl)
    | (generalize hu : State.mk .. = u; refine (?_ : State.Keeps strict s0 u → _) (.mk_eq hu ?_); clear hu) | split | dsimp only

theorem State.failTrial_keeps {strict : Bool} {s0 s : State} (h : s0.Keeps strict s) (cause : Nat) (i : FwSlot) :
    s0.Keeps strict (State.failTrial cause i s) := by
  unfold State.failTrial
  repeat' first
    | with_reducible assumption | intro _ | ((fail_if_no_progress extract_lets +onlyGivenNames t); refine (?_ : State.Keeps strict s0 t → _) ?_; (on_goal 1 => intro ht; clear_value t); on_goal 2 => try unfold t)
    | fail_if_no_progress extract_lets +onlyGivenNames t | with_reducible apply State.event_keeps
    | with_reducible refine State.modFw_keeps ?_ _ (fun _ => rfl) (fun _ => rfl) | with_reducible apply State.modSlot_keeps
    | with_reducible apply State.withdrawTending_keeps
    | (generalize hu : State.mk .. = u; refine (?_ : State.Keeps strict s0 u → _) (.mk_eq hu ?_); clear hu) | split | dsimp only

theorem State.beginTrial_keeps {strict : Bool} {s0 s : State} (h : s0.Keeps strict s) (i : FwSlot) :
    s0.Keeps strict (State.beginTrial i s) := by
  unfold State.beginTrial
  repeat' first
    | with_reducible assumption | intro _ | ((fail_if_no_progress extract_lets +onlyGivenNames t); refine (?_ : State.Keeps strict s0 t → _) ?_; (on_goal 1 => intro ht; clear_value t); on_goal 2 => try unfold t)
    | fail_if_no_progress extract_lets +onlyGivenNames t | with_reducible apply State.event_keeps
    | with_reducible refine State.modFw_keeps ?_ _ (fun _ => rfl) (fun _ => rfl) | with_reducible apply State.modSlot_keeps
    | (generalize hu : State.mk .. = u; refine (?_ : State.Keeps strict s0 u → _) (.mk_eq hu ?_); clear hu) | split | dsimp only

theorem State.endSession_keeps {strict : Bool} {s0 s : State} (h : s0.Keeps strict s) :
    s0.Keeps strict (State.endSession s) := by
  unfold State.endSession
  repeat' first
    | with_reducible assumption | intro _ | ((fail_if_no_progress extract_lets +onlyGivenNames t); refine (?_ : State.Keeps strict s0 t → _) ?_; (on_goal 1 => intro ht; clear_value t); on_goal 2 => try unfold t)
    | fail_if_no_progress extract_lets +onlyGivenNames t | with_reducible apply State.modSession_keeps
    | with_reducible apply State.releaseHost_keeps
    | (generalize hu : State.mk .. = u; refine (?_ : State.Keeps strict s0 u → _) (.mk_eq hu ?_); clear hu) | split
    | with_reducible refine State.Keeps.of_pair (by assumption) ?_ | with_reducible refine State.Keeps.of_triple (by assumption) ?_
    | dsimp only

/-! Machine/TwoWire.lean. -/

theorem State.modCtx_keeps {strict : Bool} {s0 s : State} (h0 : s0.Keeps strict s) (h : HostNo) (f : TwCtx → TwCtx) :
    s0.Keeps strict (State.modCtx s h f) := by
  unfold State.modCtx
  repeat' first
    | with_reducible assumption | intro _ | ((fail_if_no_progress extract_lets +onlyGivenNames t); refine (?_ : State.Keeps strict s0 t → _) ?_; (on_goal 1 => intro ht; clear_value t); on_goal 2 => try unfold t)
    | fail_if_no_progress extract_lets +onlyGivenNames t | with_reducible apply State.modHost_keeps
    | (generalize hu : State.mk .. = u; refine (?_ : State.Keeps strict s0 u → _) (.mk_eq hu ?_); clear hu) | split | dsimp only

theorem State.twFrame_keeps {strict : Bool} {s0 s : State} {f : HostNo → State → State} (h : s0.Keeps strict s) (p : TwNo) (src : BitVec 7)
    (hf : ∀ c t, s0.Keeps strict t → s0.Keeps strict (f c t)) : ∃ t, s.twFrame p src f = .next t ∧ s0.Keeps strict t := by
  unfold State.twFrame
  split
  · extract_lets u
    have hc := State.contact_keeps (State.modTw_keeps h p _ : s0.Keeps strict u) (twKey p src)
    generalize State.contact _ u = q at hc ⊢
    obtain ⟨_ | c, t⟩ := q
    · exact settle_keeps hc _
    · exact settle_keeps (hf _ _ hc) _
  · exact ⟨_, rfl, h⟩

theorem State.frameFault_keeps {strict : Bool} {s0 s : State} (h0 : s0.Keeps strict s) (p : TwNo) (h : HostNo) (n : Nat) :
    s0.Keeps strict (State.frameFault p h n s) := by
  unfold State.frameFault
  repeat' first
    | with_reducible assumption | intro _ | ((fail_if_no_progress extract_lets +onlyGivenNames t); refine (?_ : State.Keeps strict s0 t → _) ?_; (on_goal 1 => intro ht; clear_value t); on_goal 2 => try unfold t)
    | fail_if_no_progress extract_lets +onlyGivenNames t | with_reducible apply State.modCtx_keeps
    | with_reducible apply State.modTw_keeps
    | (generalize hu : State.mk .. = u; refine (?_ : State.Keeps strict s0 u → _) (.mk_eq hu ?_); clear hu) | split | dsimp only

theorem State.twWrite_keeps {strict : Bool} {s0 s : State} {f : Bytes → HostNo → State → State} (h : s0.Keeps strict s) (p : TwNo)
    (src : BitVec 7) (cmd : Nat) (parsed : Option (Bytes × Option Byte)) (hf : ∀ b c t, s0.Keeps strict t → s0.Keeps strict (f b c t)) :
    ∃ t, s.twWrite p src cmd parsed f = .next t ∧ s0.Keeps strict t := by
  refine State.twFrame_keeps h p src fun c t ht => ?_
  cases parsed with
  | none => exact State.frameFault_keeps ht _ _ _
  | some x =>
    dsimp only
    repeat' split
    all_goals first | exact hf _ _ _ ht | exact State.frameFault_keeps ht _ _ _

theorem State.twRead_keeps {strict : Bool} {s0 s : State} {data : HostNo → State → Bytes × State} {done : HostNo → State → State}
    (h : s0.Keeps strict s) (p : TwNo) (src : BitVec 7) (cmd : Nat) (r : TwRead)
    (hd : ∀ c t, s0.Keeps strict t → s0.Keeps strict (data c t).2) (hf : ∀ c t, s0.Keeps strict t → s0.Keeps strict (done c t)) :
    ∃ t, s.twRead p src cmd r data done = .next t ∧ s0.Keeps strict t := by
  refine State.twFrame_keeps h p src fun c t ht => ?_
  cases r with
  | stop => exact ht
  | extra => exact State.frameFault_keeps ht _ _ _
  | clocked n =>
    have hu := State.answer_keeps (hd c t ht)
    dsimp only
    split
    · exact hf _ _ (hu _ _ _)
    · exact hu _ _ _

theorem State.twShow_keeps {strict : Bool} {s0 s : State} (h : s0.Keeps strict s) (p : TwNo) (src : BitVec 7) (cmd : Nat) (r : TwRead)
    (data : HostNo → State → Bytes) : ∃ t, s.twShow p src cmd r data = .next t ∧ s0.Keeps strict t :=
  State.twRead_keeps h p src cmd r (fun _ _ ht => ht) fun _ _ ht => ht

theorem execTwStatus_keeps {strict : Bool} {s0 s : State} (h : s0.Keeps strict s) (p : TwNo) (src : BitVec 7) (r : TwRead) :
    ∃ t, (execTwStatus p src r s) = .next t ∧ s0.Keeps strict t := by
  unfold execTwStatus
  repeat' first
    | with_reducible assumption | intro _ | ((fail_if_no_progress extract_lets +onlyGivenNames t); refine (?_ : State.Keeps strict s0 t → _) ?_; (on_goal 1 => intro ht; clear_value t); on_goal 2 => try unfold t)
    | fail_if_no_progress extract_lets +onlyGivenNames t | with_reducible refine ⟨_, rfl, ?_⟩
    | with_reducible apply State.modCtx_keeps | with_reducible apply State.twRead_keeps
    | (generalize hu : State.mk .. = u; refine (?_ : State.Keeps strict s0 u → _) (.mk_eq hu ?_); clear hu) | split | dsimp only

theorem State.selectRead_keeps {strict : Bool} {s0 s : State} (h0 : s0.Keeps strict s) (h : HostNo) (index sub offset : Nat) :
    s0.Keeps strict (State.selectRead h index sub offset s) := by
  unfold State.selectRead
  repeat' first
    | with_reducible assumption | intro _ | ((fail_if_no_progress extract_lets +onlyGivenNames t); refine (?_ : State.Keeps strict s0 t → _) ?_; (on_goal 1 => intro ht; clear_value t); on_goal 2 => try unfold t)
    | fail_if_no_progress extract_lets +onlyGivenNames t | with_reducible apply State.modCtx_keeps
    | with_reducible apply State.read_keeps | with_reducible apply State.report_keeps
    | (generalize hu : State.mk .. = u; refine (?_ : State.Keeps strict s0 u → _) (.mk_eq hu ?_); clear hu) | split
    | with_reducible refine State.Keeps.of_pair (by assumption) ?_ | with_reducible refine State.Keeps.of_triple (by assumption) ?_
    | dsimp only

theorem State.dictSelect_keeps {strict : Bool} {s0 s : State} (h0 : s0.Keeps strict s) (p : TwNo) (b : Bytes) (h : HostNo) :
    s0.Keeps strict (State.dictSelect p b h s) := by
  unfold State.dictSelect
  repeat' first
    | with_reducible assumption | intro _ | ((fail_if_no_progress extract_lets +onlyGivenNames t); refine (?_ : State.Keeps strict s0 t → _) ?_; (on_goal 1 => intro ht; clear_value t); on_goal 2 => try unfold t)
    | fail_if_no_progress extract_lets +onlyGivenNames t | with_reducible apply State.frameFault_keeps
    | with_reducible apply State.modCtx_keeps | with_reducible apply State.report_keeps
    | with_reducible apply State.selectRead_keeps
    | (generalize hu : State.mk .. = u; refine (?_ : State.Keeps strict s0 u → _) (.mk_eq hu ?_); clear hu) | split | dsimp only

theorem execDictSelect_keeps {strict : Bool} {s0 s : State} (h : s0.Keeps strict s) (p : TwNo) (src : BitVec 7) (bytes : Bytes) :
    ∃ t, (execDictSelect p src bytes s) = .next t ∧ s0.Keeps strict t := by
  unfold execDictSelect
  repeat' first
    | with_reducible assumption | intro _ | ((fail_if_no_progress extract_lets +onlyGivenNames t); refine (?_ : State.Keeps strict s0 t → _) ?_; (on_goal 1 => intro ht; clear_value t); on_goal 2 => try unfold t)
    | fail_if_no_progress extract_lets +onlyGivenNames t | with_reducible refine ⟨_, rfl, ?_⟩
    | with_reducible apply State.dictSelect_keeps | with_reducible apply State.twWrite_keeps
    | (generalize hu : State.mk .. = u; refine (?_ : State.Keeps strict s0 u → _) (.mk_eq hu ?_); clear hu) | split | dsimp only

theorem State.dictRead_keeps {strict : Bool} {s0 s : State} (h : s0.Keeps strict s) (p : TwNo) (src : BitVec 7) (r : TwRead) :
    ∃ t, (State.dictRead s p src r) = .next t ∧ s0.Keeps strict t := by
  unfold State.dictRead
  repeat' first
    | with_reducible assumption | intro _ | ((fail_if_no_progress extract_lets +onlyGivenNames t); refine (?_ : State.Keeps strict s0 t → _) ?_; (on_goal 1 => intro ht; clear_value t); on_goal 2 => try unfold t)
    | fail_if_no_progress extract_lets +onlyGivenNames t | with_reducible refine ⟨_, rfl, ?_⟩
    | with_reducible apply State.modCtx_keeps | with_reducible apply State.twRead_keeps
    | (generalize hu : State.mk .. = u; refine (?_ : State.Keeps strict s0 u → _) (.mk_eq hu ?_); clear hu) | split | dsimp only

theorem execTwDictRead_keeps {strict : Bool} {s0 s : State} (h : s0.Keeps strict s) (p : TwNo) (src : BitVec 7) (r : TwRead) :
    ∃ t, (execTwDictRead p src r s) = .next t ∧ s0.Keeps strict t := by
  unfold execTwDictRead
  repeat' first
    | with_reducible assumption | intro _ | ((fail_if_no_progress extract_lets +onlyGivenNames t); refine (?_ : State.Keeps strict s0 t → _) ?_; (on_goal 1 => intro ht; clear_value t); on_goal 2 => try unfold t)
    | fail_if_no_progress extract_lets +onlyGivenNames t | with_reducible refine ⟨_, rfl, ?_⟩
    | with_reducible apply State.dictRead_keeps | with_reducible apply State.modTw_keeps
    | (generalize hu : State.mk .. = u; refine (?_ : State.Keeps strict s0 u → _) (.mk_eq hu ?_); clear hu) | split | dsimp only

theorem State.applyLast_keeps {strict : Bool} {s0 s : State} (h0 : s0.Keeps strict s) (h : HostNo) (index sub : Nat) :
    s0.Keeps strict (State.applyLast h index sub s) := by
  unfold State.applyLast
  repeat' first
    | with_reducible assumption | intro _ | ((fail_if_no_progress extract_lets +onlyGivenNames t); refine (?_ : State.Keeps strict s0 t → _) ?_; (on_goal 1 => intro ht; clear_value t); on_goal 2 => try unfold t)
    | fail_if_no_progress extract_lets +onlyGivenNames t | with_reducible apply State.modCtx_keeps
    | with_reducible apply State.report_keeps | with_reducible apply State.write_keeps
    | (generalize hu : State.mk .. = u; refine (?_ : State.Keeps strict s0 u → _) (.mk_eq hu ?_); clear hu) | split
    | with_reducible refine State.Keeps.of_pair (by assumption) ?_ | with_reducible refine State.Keeps.of_triple (by assumption) ?_
    | dsimp only

theorem State.dictWrite_keeps {strict : Bool} {s0 s : State} (h0 : s0.Keeps strict s) (p : TwNo) (b : Bytes) (h : HostNo) :
    s0.Keeps strict (State.dictWrite p b h s) := by
  unfold State.dictWrite
  repeat' first
    | with_reducible assumption | intro _ | ((fail_if_no_progress extract_lets +onlyGivenNames t); refine (?_ : State.Keeps strict s0 t → _) ?_; (on_goal 1 => intro ht; clear_value t); on_goal 2 => try unfold t)
    | fail_if_no_progress extract_lets +onlyGivenNames t | with_reducible apply State.applyLast_keeps
    | with_reducible apply State.frameFault_keeps | with_reducible apply State.modCtx_keeps
    | (generalize hu : State.mk .. = u; refine (?_ : State.Keeps strict s0 u → _) (.mk_eq hu ?_); clear hu) | split
    | with_reducible refine State.Keeps.of_pair (by assumption) ?_ | with_reducible refine State.Keeps.of_triple (by assumption) ?_
    | dsimp only

theorem execTwDictWrite_keeps {strict : Bool} {s0 s : State} (h : s0.Keeps strict s) (p : TwNo) (src : BitVec 7) (bytes : Bytes) :
    ∃ t, (execTwDictWrite p src bytes s) = .next t ∧ s0.Keeps strict t := by
  unfold execTwDictWrite
  repeat' first
    | with_reducible assumption | intro _ | ((fail_if_no_progress extract_lets +onlyGivenNames t); refine (?_ : State.Keeps strict s0 t → _) ?_; (on_goal 1 => intro ht; clear_value t); on_goal 2 => try unfold t)
    | fail_if_no_progress extract_lets +onlyGivenNames t | with_reducible refine ⟨_, rfl, ?_⟩
    | with_reducible apply State.dictWrite_keeps | with_reducible apply State.twWrite_keeps
    | (generalize hu : State.mk .. = u; refine (?_ : State.Keeps strict s0 u → _) (.mk_eq hu ?_); clear hu) | split | dsimp only

theorem execDictResult_keeps {strict : Bool} {s0 s : State} (h : s0.Keeps strict s) (p : TwNo) (src : BitVec 7) (r : TwRead) :
    ∃ t, (execDictResult p src r s) = .next t ∧ s0.Keeps strict t := by
  unfold execDictResult
  repeat' first
    | with_reducible assumption | intro _ | ((fail_if_no_progress extract_lets +onlyGivenNames t); refine (?_ : State.Keeps strict s0 t → _) ?_; (on_goal 1 => intro ht; clear_value t); on_goal 2 => try unfold t)
    | fail_if_no_progress extract_lets +onlyGivenNames t | with_reducible refine ⟨_, rfl, ?_⟩
    | with_reducible apply State.twShow_keeps
    | (generalize hu : State.mk .. = u; refine (?_ : State.Keeps strict s0 u → _) (.mk_eq hu ?_); clear hu) | split | dsimp only

theorem State.eventCursor_keeps {strict : Bool} {s0 s : State} (h0 : s0.Keeps strict s) (p : TwNo) (b : Bytes) (h : HostNo) :
    s0.Keeps strict (State.eventCursor p b h s) := by
  unfold State.eventCursor
  repeat' first
    | with_reducible assumption | intro _ | ((fail_if_no_progress extract_lets +onlyGivenNames t); refine (?_ : State.Keeps strict s0 t → _) ?_; (on_goal 1 => intro ht; clear_value t); on_goal 2 => try unfold t)
    | fail_if_no_progress extract_lets +onlyGivenNames t | with_reducible apply State.frameFault_keeps
    | with_reducible apply writeCursor_keeps
    | (generalize hu : State.mk .. = u; refine (?_ : State.Keeps strict s0 u → _) (.mk_eq hu ?_); clear hu) | split
    | with_reducible refine State.Keeps.of_pair (by assumption) ?_ | with_reducible refine State.Keeps.of_triple (by assumption) ?_
    | dsimp only

theorem execEventCursor_keeps {strict : Bool} {s0 s : State} (h : s0.Keeps strict s) (p : TwNo) (src : BitVec 7) (bytes : Bytes) :
    ∃ t, (execEventCursor p src bytes s) = .next t ∧ s0.Keeps strict t := by
  unfold execEventCursor
  repeat' first
    | with_reducible assumption | intro _ | ((fail_if_no_progress extract_lets +onlyGivenNames t); refine (?_ : State.Keeps strict s0 t → _) ?_; (on_goal 1 => intro ht; clear_value t); on_goal 2 => try unfold t)
    | fail_if_no_progress extract_lets +onlyGivenNames t | with_reducible refine ⟨_, rfl, ?_⟩
    | with_reducible apply State.eventCursor_keeps | with_reducible apply State.twWrite_keeps
    | (generalize hu : State.mk .. = u; refine (?_ : State.Keeps strict s0 u → _) (.mk_eq hu ?_); clear hu) | split | dsimp only

theorem State.closeWindow_keeps {strict : Bool} {s0 s : State} (h0 : s0.Keeps strict s) (h : HostNo) :
    s0.Keeps strict (State.closeWindow h s) := by
  unfold State.closeWindow
  repeat' first
    | with_reducible assumption | intro _ | ((fail_if_no_progress extract_lets +onlyGivenNames t); refine (?_ : State.Keeps strict s0 t → _) ?_; (on_goal 1 => intro ht; clear_value t); on_goal 2 => try unfold t)
    | fail_if_no_progress extract_lets +onlyGivenNames t | with_reducible apply State.closeRecs_keeps
    | (generalize hu : State.mk .. = u; refine (?_ : State.Keeps strict s0 u → _) (.mk_eq hu ?_); clear hu) | split | dsimp only

theorem execEventWindow_keeps {strict : Bool} {s0 s : State} (h : s0.Keeps strict s) (p : TwNo) (src : BitVec 7) (r : TwRead) :
    ∃ t, (execEventWindow p src r s) = .next t ∧ s0.Keeps strict t := by
  unfold execEventWindow
  repeat' first
    | with_reducible assumption | intro _ | ((fail_if_no_progress extract_lets +onlyGivenNames t); refine (?_ : State.Keeps strict s0 t → _) ?_; (on_goal 1 => intro ht; clear_value t); on_goal 2 => try unfold t)
    | fail_if_no_progress extract_lets +onlyGivenNames t | with_reducible refine ⟨_, rfl, ?_⟩
    | with_reducible apply State.closeWindow_keeps | with_reducible apply State.modHost_keeps
    | with_reducible apply State.twRead_keeps
    | (generalize hu : State.mk .. = u; refine (?_ : State.Keeps strict s0 u → _) (.mk_eq hu ?_); clear hu) | split
    | with_reducible refine State.Keeps.of_pair (by assumption) ?_ | with_reducible refine State.Keeps.of_triple (by assumption) ?_
    | dsimp only

theorem State.submitGrant_keeps {strict : Bool} {s0 s : State} (h0 : s0.Keeps strict s) (b : Bytes) (h : HostNo) :
    s0.Keeps strict (State.submitGrant b h s) := by
  unfold State.submitGrant
  repeat' first
    | with_reducible assumption | intro _ | ((fail_if_no_progress extract_lets +onlyGivenNames t); refine (?_ : State.Keeps strict s0 t → _) ?_; (on_goal 1 => intro ht; clear_value t); on_goal 2 => try unfold t)
    | fail_if_no_progress extract_lets +onlyGivenNames t | with_reducible apply State.modCtx_keeps
    | with_reducible apply State.report_keeps | with_reducible apply State.write_keeps
    | (generalize hu : State.mk .. = u; refine (?_ : State.Keeps strict s0 u → _) (.mk_eq hu ?_); clear hu) | split
    | with_reducible refine State.Keeps.of_pair (by assumption) ?_ | with_reducible refine State.Keeps.of_triple (by assumption) ?_
    | dsimp only

theorem execTwGrantRequest_keeps {strict : Bool} {s0 s : State} (h : s0.Keeps strict s) (p : TwNo) (src : BitVec 7) (bytes : Bytes) :
    ∃ t, (execTwGrantRequest p src bytes s) = .next t ∧ s0.Keeps strict t := by
  unfold execTwGrantRequest
  repeat' first
    | with_reducible assumption | intro _ | ((fail_if_no_progress extract_lets +onlyGivenNames t); refine (?_ : State.Keeps strict s0 t → _) ?_; (on_goal 1 => intro ht; clear_value t); on_goal 2 => try unfold t)
    | fail_if_no_progress extract_lets +onlyGivenNames t | with_reducible refine ⟨_, rfl, ?_⟩
    | with_reducible apply State.submitGrant_keeps | with_reducible apply State.twWrite_keeps
    | (generalize hu : State.mk .. = u; refine (?_ : State.Keeps strict s0 u → _) (.mk_eq hu ?_); clear hu) | split | dsimp only

theorem execGrantState_keeps {strict : Bool} {s0 s : State} (h : s0.Keeps strict s) (p : TwNo) (src : BitVec 7) (r : TwRead) :
    ∃ t, (execGrantState p src r s) = .next t ∧ s0.Keeps strict t := by
  unfold execGrantState
  repeat' first
    | with_reducible assumption | intro _ | ((fail_if_no_progress extract_lets +onlyGivenNames t); refine (?_ : State.Keeps strict s0 t → _) ?_; (on_goal 1 => intro ht; clear_value t); on_goal 2 => try unfold t)
    | fail_if_no_progress extract_lets +onlyGivenNames t | with_reducible refine ⟨_, rfl, ?_⟩
    | with_reducible apply State.twShow_keeps
    | (generalize hu : State.mk .. = u; refine (?_ : State.Keeps strict s0 u → _) (.mk_eq hu ?_); clear hu) | split | dsimp only

theorem execAlertCause_keeps {strict : Bool} {s0 s : State} (h : s0.Keeps strict s) (p : TwNo) (src : BitVec 7) (r : TwRead) :
    ∃ t, (execAlertCause p src r s) = .next t ∧ s0.Keeps strict t := by
  unfold execAlertCause
  repeat' first
    | with_reducible assumption | intro _ | ((fail_if_no_progress extract_lets +onlyGivenNames t); refine (?_ : State.Keeps strict s0 t → _) ?_; (on_goal 1 => intro ht; clear_value t); on_goal 2 => try unfold t)
    | fail_if_no_progress extract_lets +onlyGivenNames t | with_reducible refine ⟨_, rfl, ?_⟩
    | with_reducible apply State.throttle_keeps | with_reducible apply State.twShow_keeps
    | (generalize hu : State.mk .. = u; refine (?_ : State.Keeps strict s0 u → _) (.mk_eq hu ?_); clear hu) | split
    | with_reducible refine State.Keeps.of_pair (by assumption) ?_ | with_reducible refine State.Keeps.of_triple (by assumption) ?_
    | dsimp only

theorem execPortInfo_keeps {strict : Bool} {s0 s : State} (h : s0.Keeps strict s) (p : TwNo) (src : BitVec 7) (r : TwRead) :
    ∃ t, (execPortInfo p src r s) = .next t ∧ s0.Keeps strict t := by
  unfold execPortInfo
  repeat' first
    | with_reducible assumption | intro _ | ((fail_if_no_progress extract_lets +onlyGivenNames t); refine (?_ : State.Keeps strict s0 t → _) ?_; (on_goal 1 => intro ht; clear_value t); on_goal 2 => try unfold t)
    | fail_if_no_progress extract_lets +onlyGivenNames t | with_reducible refine ⟨_, rfl, ?_⟩
    | with_reducible apply State.twShow_keeps
    | (generalize hu : State.mk .. = u; refine (?_ : State.Keeps strict s0 u → _) (.mk_eq hu ?_); clear hu) | split | dsimp only

theorem execQuickCommand_keeps {strict : Bool} {s0 s : State} (h : s0.Keeps strict s) (p : TwNo) :
    ∃ t, (execQuickCommand p s) = .next t ∧ s0.Keeps strict t := by
  unfold execQuickCommand
  repeat' first
    | with_reducible assumption | intro _ | ((fail_if_no_progress extract_lets +onlyGivenNames t); refine (?_ : State.Keeps strict s0 t → _) ?_; (on_goal 1 => intro ht; clear_value t); on_goal 2 => try unfold t)
    | fail_if_no_progress extract_lets +onlyGivenNames t | with_reducible refine ⟨_, rfl, ?_⟩
    | with_reducible apply State.modTw_keeps
    | (generalize hu : State.mk .. = u; refine (?_ : State.Keeps strict s0 u → _) (.mk_eq hu ?_); clear hu) | split | dsimp only

theorem execAlertResponse_keeps {strict : Bool} {s0 s : State} (h : s0.Keeps strict s) (p : TwNo) (rival : Option (BitVec 7)) (pec : Bool) :
    ∃ t, (execAlertResponse p rival pec s) = .next t ∧ s0.Keeps strict t := by
  unfold execAlertResponse
  repeat' first
    | with_reducible assumption | intro _ | ((fail_if_no_progress extract_lets +onlyGivenNames t); refine (?_ : State.Keeps strict s0 t → _) ?_; (on_goal 1 => intro ht; clear_value t); on_goal 2 => try unfold t)
    | fail_if_no_progress extract_lets +onlyGivenNames t | with_reducible refine ⟨_, rfl, ?_⟩
    | with_reducible apply State.answer_keeps | with_reducible apply State.modTw_keeps
    | (generalize hu : State.mk .. = u; refine (?_ : State.Keeps strict s0 u → _) (.mk_eq hu ?_); clear hu) | split
    | with_reducible refine State.Keeps.of_pair (by assumption) ?_ | with_reducible refine State.Keeps.of_triple (by assumption) ?_
    | dsimp only

theorem execErrCmd_keeps {strict : Bool} {s0 s : State} (h : s0.Keeps strict s) (p : TwNo) :
    ∃ t, (execErrCmd p s) = .next t ∧ s0.Keeps strict t := by
  unfold execErrCmd
  repeat' first
    | with_reducible assumption | intro _ | ((fail_if_no_progress extract_lets +onlyGivenNames t); refine (?_ : State.Keeps strict s0 t → _) ?_; (on_goal 1 => intro ht; clear_value t); on_goal 2 => try unfold t)
    | fail_if_no_progress extract_lets +onlyGivenNames t | with_reducible refine ⟨_, rfl, ?_⟩
    | with_reducible apply State.modTw_keeps
    | (generalize hu : State.mk .. = u; refine (?_ : State.Keeps strict s0 u → _) (.mk_eq hu ?_); clear hu) | split | dsimp only

theorem execTwBusError_keeps {strict : Bool} {s0 s : State} (h : s0.Keeps strict s) (p : TwNo) (src : Option (BitVec 7)) :
    ∃ t, (execTwBusError p src s) = .next t ∧ s0.Keeps strict t := by
  unfold execTwBusError
  repeat' first
    | with_reducible assumption | intro _ | ((fail_if_no_progress extract_lets +onlyGivenNames t); refine (?_ : State.Keeps strict s0 t → _) ?_; (on_goal 1 => intro ht; clear_value t); on_goal 2 => try unfold t)
    | fail_if_no_progress extract_lets +onlyGivenNames t | with_reducible refine ⟨_, rfl, ?_⟩
    | with_reducible apply State.frameFault_keeps | with_reducible apply State.modTw_keeps
    | (generalize hu : State.mk .. = u; refine (?_ : State.Keeps strict s0 u → _) (.mk_eq hu ?_); clear hu) | split
    | with_reducible refine State.Keeps.of_pair (by assumption) ?_ | with_reducible refine State.Keeps.of_triple (by assumption) ?_
    | dsimp only

theorem execStretchLimit_keeps {strict : Bool} {s0 s : State} (h : s0.Keeps strict s) (p : TwNo) :
    ∃ t, (execStretchLimit p s) = .next t ∧ s0.Keeps strict t := by
  unfold execStretchLimit
  repeat' first
    | with_reducible assumption | intro _ | ((fail_if_no_progress extract_lets +onlyGivenNames t); refine (?_ : State.Keeps strict s0 t → _) ?_; (on_goal 1 => intro ht; clear_value t); on_goal 2 => try unfold t)
    | fail_if_no_progress extract_lets +onlyGivenNames t | with_reducible refine ⟨_, rfl, ?_⟩
    | with_reducible apply State.modTw_keeps
    | (generalize hu : State.mk .. = u; refine (?_ : State.Keeps strict s0 u → _) (.mk_eq hu ?_); clear hu) | split
    | with_reducible refine State.Keeps.of_pair (by assumption) ?_ | with_reducible refine State.Keeps.of_triple (by assumption) ?_
    | dsimp only

theorem execPortSleep_keeps {strict : Bool} {s0 s : State} (h : s0.Keeps strict s) (p : TwNo) :
    ∃ t, (execPortSleep p s) = .next t ∧ s0.Keeps strict t := by
  unfold execPortSleep
  repeat' first
    | with_reducible assumption | intro _ | ((fail_if_no_progress extract_lets +onlyGivenNames t); refine (?_ : State.Keeps strict s0 t → _) ?_; (on_goal 1 => intro ht; clear_value t); on_goal 2 => try unfold t)
    | fail_if_no_progress extract_lets +onlyGivenNames t | with_reducible refine ⟨_, rfl, ?_⟩
    | with_reducible apply State.modTw_keeps
    | (generalize hu : State.mk .. = u; refine (?_ : State.Keeps strict s0 u → _) (.mk_eq hu ?_); clear hu) | split | dsimp only

theorem execAddressRecognisedAsleep_keeps {strict : Bool} {s0 s : State} (h : s0.Keeps strict s) (p : TwNo) :
    ∃ t, (execAddressRecognisedAsleep p s) = .next t ∧ s0.Keeps strict t := by
  unfold execAddressRecognisedAsleep
  repeat' first
    | with_reducible assumption | intro _ | ((fail_if_no_progress extract_lets +onlyGivenNames t); refine (?_ : State.Keeps strict s0 t → _) ?_; (on_goal 1 => intro ht; clear_value t); on_goal 2 => try unfold t)
    | fail_if_no_progress extract_lets +onlyGivenNames t | with_reducible refine ⟨_, rfl, ?_⟩
    | with_reducible apply State.modTw_keeps
    | (generalize hu : State.mk .. = u; refine (?_ : State.Keeps strict s0 u → _) (.mk_eq hu ?_); clear hu) | split | dsimp only

theorem State.notifyNack_keeps {strict : Bool} {s0 s : State} (h : s0.Keeps strict s) (p : TwNo) :
    s0.Keeps strict (State.notifyNack p s) := by
  unfold State.notifyNack
  repeat' first
    | with_reducible assumption | intro _ | ((fail_if_no_progress extract_lets +onlyGivenNames t); refine (?_ : State.Keeps strict s0 t → _) ?_; (on_goal 1 => intro ht; clear_value t); on_goal 2 => try unfold t)
    | fail_if_no_progress extract_lets +onlyGivenNames t | with_reducible apply State.event_keeps
    | with_reducible apply State.modTw_keeps
    | (generalize hu : State.mk .. = u; refine (?_ : State.Keeps strict s0 u → _) (.mk_eq hu ?_); clear hu) | split
    | with_reducible refine State.Keeps.of_pair (by assumption) ?_ | with_reducible refine State.Keeps.of_triple (by assumption) ?_
    | dsimp only

theorem State.sendNotify_keeps {strict : Bool} {s0 s : State} (h : s0.Keeps strict s) (p : TwNo) (acked : Bool) :
    s0.Keeps strict (State.sendNotify p acked s) := by
  unfold State.sendNotify
  repeat' first
    | with_reducible assumption | intro _ | ((fail_if_no_progress extract_lets +onlyGivenNames t); refine (?_ : State.Keeps strict s0 t → _) ?_; (on_goal 1 => intro ht; clear_value t); on_goal 2 => try unfold t)
    | fail_if_no_progress extract_lets +onlyGivenNames t | with_reducible apply State.modTw_keeps
    | with_reducible apply State.notifyNack_keeps | with_reducible apply State.send_keeps | with_reducible apply State.twRan_keeps
    | (generalize hu : State.mk .. = u; refine (?_ : State.Keeps strict s0 u → _) (.mk_eq hu ?_); clear hu) | split
    | with_reducible refine State.Keeps.of_pair (by assumption) ?_ | with_reducible refine State.Keeps.of_triple (by assumption) ?_
    | dsimp only

theorem execHostNotify_keeps {strict : Bool} {s0 s : State} (h : s0.Keeps strict s) (p : TwNo) (acked : Bool) :
    ∃ t, (execHostNotify p acked s) = .next t ∧ s0.Keeps strict t := by
  unfold execHostNotify
  repeat' first
    | with_reducible assumption | intro _ | ((fail_if_no_progress extract_lets +onlyGivenNames t); refine (?_ : State.Keeps strict s0 t → _) ?_; (on_goal 1 => intro ht; clear_value t); on_goal 2 => try unfold t)
    | fail_if_no_progress extract_lets +onlyGivenNames t | with_reducible refine ⟨_, rfl, ?_⟩
    | with_reducible apply State.sendNotify_keeps
    | (generalize hu : State.mk .. = u; refine (?_ : State.Keeps strict s0 u → _) (.mk_eq hu ?_); clear hu) | split | dsimp only

theorem execHostNotifyRetry_keeps {strict : Bool} {s0 s : State} (h : s0.Keeps strict s) (p : TwNo) (acked : Bool) :
    ∃ t, (execHostNotifyRetry p acked s) = .next t ∧ s0.Keeps strict t := by
  unfold execHostNotifyRetry
  repeat' first
    | with_reducible assumption | intro _ | ((fail_if_no_progress extract_lets +onlyGivenNames t); refine (?_ : State.Keeps strict s0 t → _) ?_; (on_goal 1 => intro ht; clear_value t); on_goal 2 => try unfold t)
    | fail_if_no_progress extract_lets +onlyGivenNames t | with_reducible refine ⟨_, rfl, ?_⟩
    | with_reducible apply State.sendNotify_keeps
    | (generalize hu : State.mk .. = u; refine (?_ : State.Keeps strict s0 u → _) (.mk_eq hu ?_); clear hu) | split | dsimp only

theorem execTwTimeout_keeps {strict : Bool} {s0 s : State} (h : s0.Keeps strict s) (p : TwNo) (controller : Bool) :
    ∃ t, (execTwTimeout p controller s) = .next t ∧ s0.Keeps strict t := by
  unfold execTwTimeout
  repeat' first
    | with_reducible assumption | intro _ | ((fail_if_no_progress extract_lets +onlyGivenNames t); refine (?_ : State.Keeps strict s0 t → _) ?_; (on_goal 1 => intro ht; clear_value t); on_goal 2 => try unfold t)
    | fail_if_no_progress extract_lets +onlyGivenNames t | with_reducible refine ⟨_, rfl, ?_⟩
    | with_reducible apply State.event_keeps | with_reducible apply State.modTw_keeps
    | (generalize hu : State.mk .. = u; refine (?_ : State.Keeps strict s0 u → _) (.mk_eq hu ?_); clear hu) | split | dsimp only

theorem execBusRecovery_keeps {strict : Bool} {s0 s : State} (h : s0.Keeps strict s) (p : TwNo) (sda : List Bool) :
    ∃ t, (execBusRecovery p sda s) = .next t ∧ s0.Keeps strict t := by
  unfold execBusRecovery
  repeat' first
    | with_reducible assumption | intro _ | ((fail_if_no_progress extract_lets +onlyGivenNames t); refine (?_ : State.Keeps strict s0 t → _) ?_; (on_goal 1 => intro ht; clear_value t); on_goal 2 => try unfold t)
    | fail_if_no_progress extract_lets +onlyGivenNames t | with_reducible refine ⟨_, rfl, ?_⟩
    | with_reducible apply State.event_keeps | with_reducible apply State.modTw_keeps
    | (generalize hu : State.mk .. = u; refine (?_ : State.Keeps strict s0 u → _) (.mk_eq hu ?_); clear hu) | split | dsimp only

theorem execPortFaultCheck_keeps {strict : Bool} {s0 s : State} (h : s0.Keeps strict s) (p : TwNo) (linesHigh : Bool) :
    ∃ t, (execPortFaultCheck p linesHigh s) = .next t ∧ s0.Keeps strict t := by
  unfold execPortFaultCheck
  repeat' first
    | with_reducible assumption | intro _ | ((fail_if_no_progress extract_lets +onlyGivenNames t); refine (?_ : State.Keeps strict s0 t → _) ?_; (on_goal 1 => intro ht; clear_value t); on_goal 2 => try unfold t)
    | fail_if_no_progress extract_lets +onlyGivenNames t | with_reducible refine ⟨_, rfl, ?_⟩
    | with_reducible apply State.event_keeps | with_reducible apply State.modTw_keeps
    | (generalize hu : State.mk .. = u; refine (?_ : State.Keeps strict s0 u → _) (.mk_eq hu ?_); clear hu) | split | dsimp only

theorem State.modReg_keeps {strict : Bool} {s0 s : State} (h : s0.Keeps strict s) (r : Fin 256) (f : Reg → Reg) :
    s0.Keeps strict (State.modReg s r f) := by
  unfold State.modReg
  repeat' first
    | with_reducible assumption | intro _ | ((fail_if_no_progress extract_lets +onlyGivenNames t); refine (?_ : State.Keeps strict s0 t → _) ?_; (on_goal 1 => intro ht; clear_value t); on_goal 2 => try unfold t)
    | fail_if_no_progress extract_lets +onlyGivenNames t
    | (generalize hu : State.mk .. = u; refine (?_ : State.Keeps strict s0 u → _) (.mk_eq hu ?_); clear hu) | split | dsimp only

theorem State.pollFailed_keeps {strict : Bool} {s0 s : State} (h : s0.Keeps strict s) (r : Fin 256) :
    s0.Keeps strict (State.pollFailed r s) := by
  unfold State.pollFailed
  repeat' first
    | with_reducible assumption | intro _ | ((fail_if_no_progress extract_lets +onlyGivenNames t); refine (?_ : State.Keeps strict s0 t → _) ?_; (on_goal 1 => intro ht; clear_value t); on_goal 2 => try unfold t)
    | fail_if_no_progress extract_lets +onlyGivenNames t | with_reducible apply State.event_keeps
    | with_reducible apply State.modReg_keeps
    | (generalize hu : State.mk .. = u; refine (?_ : State.Keeps strict s0 u → _) (.mk_eq hu ?_); clear hu) | split | dsimp only

theorem State.pollKnown_keeps {strict : Bool} {s0 s : State} (h : s0.Keeps strict s) (r : Fin 256) (a : RegAnswer) (first : Bool) :
    s0.Keeps strict (State.pollKnown r a first s) := by
  unfold State.pollKnown
  repeat' first
    | with_reducible assumption | intro _ | ((fail_if_no_progress extract_lets +onlyGivenNames t); refine (?_ : State.Keeps strict s0 t → _) ?_; (on_goal 1 => intro ht; clear_value t); on_goal 2 => try unfold t)
    | fail_if_no_progress extract_lets +onlyGivenNames t | with_reducible apply State.event_keeps
    | with_reducible apply State.modReg_keeps | with_reducible apply State.pollFailed_keeps
    | (generalize hu : State.mk .. = u; refine (?_ : State.Keeps strict s0 u → _) (.mk_eq hu ?_); clear hu) | split
    | with_reducible refine State.Keeps.of_pair (by assumption) ?_ | with_reducible refine State.Keeps.of_triple (by assumption) ?_
    | dsimp only

theorem State.discover_keeps {strict : Bool} {s0 s : State} (h : s0.Keeps strict s) (c : CellNo) (p : TwNo) (a : RegAnswer) :
    s0.Keeps strict (State.discover c p a s) := by
  unfold State.discover
  repeat' first
    | with_reducible assumption | intro _ | ((fail_if_no_progress extract_lets +onlyGivenNames t); refine (?_ : State.Keeps strict s0 t → _) ?_; (on_goal 1 => intro ht; clear_value t); on_goal 2 => try unfold t)
    | fail_if_no_progress extract_lets +onlyGivenNames t | with_reducible apply State.event_keeps
    | with_reducible apply State.modReg_keeps | with_reducible apply State.pollKnown_keeps
    | (generalize hu : State.mk .. = u; refine (?_ : State.Keeps strict s0 u → _) (.mk_eq hu ?_); clear hu) | split
    | with_reducible refine State.Keeps.of_pair (by assumption) ?_ | with_reducible refine State.Keeps.of_triple (by assumption) ?_
    | dsimp only

theorem State.pollReg_keeps {strict : Bool} {s0 s : State} (h : s0.Keeps strict s) (c : CellNo) (p : TwNo) (answers : List RegAnswer) (addr : Nat) :
    s0.Keeps strict (State.pollReg c p answers addr s) := by
  unfold State.pollReg
  repeat' first
    | with_reducible assumption | intro _ | ((fail_if_no_progress extract_lets +onlyGivenNames t); refine (?_ : State.Keeps strict s0 t → _) ?_; (on_goal 1 => intro ht; clear_value t); on_goal 2 => try unfold t)
    | fail_if_no_progress extract_lets +onlyGivenNames t | with_reducible apply State.discover_keeps
    | with_reducible apply State.pollFailed_keeps | with_reducible apply State.pollKnown_keeps
    | (generalize hu : State.mk .. = u; refine (?_ : State.Keeps strict s0 u → _) (.mk_eq hu ?_); clear hu) | split
    | with_reducible refine State.Keeps.of_pair (by assumption) ?_ | with_reducible refine State.Keeps.of_triple (by assumption) ?_
    | dsimp only

theorem execRegulatorPoll_keeps {strict : Bool} {s0 s : State} (h : s0.Keeps strict s) (c : CellNo) (answers : List RegAnswer) :
    ∃ t, (execRegulatorPoll c answers s) = .next t ∧ s0.Keeps strict t := by
  unfold execRegulatorPoll
  repeat' first
    | with_reducible assumption | intro _ | ((fail_if_no_progress extract_lets +onlyGivenNames t); refine (?_ : State.Keeps strict s0 t → _) ?_; (on_goal 1 => intro ht; clear_value t); on_goal 2 => try unfold t)
    | fail_if_no_progress extract_lets +onlyGivenNames t | with_reducible refine ⟨_, rfl, ?_⟩
    | with_reducible apply State.modCell_keeps | with_reducible apply State.over_keeps | with_reducible apply State.pollReg_keeps
    | with_reducible apply State.twRan_keeps
    | (generalize hu : State.mk .. = u; refine (?_ : State.Keeps strict s0 u → _) (.mk_eq hu ?_); clear hu) | split
    | with_reducible refine State.Keeps.of_pair (by assumption) ?_ | with_reducible refine State.Keeps.of_triple (by assumption) ?_
    | dsimp only

theorem execArbitrationLost_keeps {strict : Bool} {s0 s : State} (h : s0.Keeps strict s) (p : TwNo) (own : OwnFrame) :
    ∃ t, (execArbitrationLost p own s) = .next t ∧ s0.Keeps strict t := by
  unfold execArbitrationLost
  repeat' first
    | with_reducible assumption | intro _ | ((fail_if_no_progress extract_lets +onlyGivenNames t); refine (?_ : State.Keeps strict s0 t → _) ?_; (on_goal 1 => intro ht; clear_value t); on_goal 2 => try unfold t)
    | fail_if_no_progress extract_lets +onlyGivenNames t | with_reducible refine ⟨_, rfl, ?_⟩
    | with_reducible apply State.modTw_keeps | with_reducible apply State.notifyNack_keeps
    | with_reducible apply State.pollFailed_keeps
    | (generalize hu : State.mk .. = u; refine (?_ : State.Keeps strict s0 u → _) (.mk_eq hu ?_); clear hu) | split
    | with_reducible refine State.Keeps.of_pair (by assumption) ?_ | with_reducible refine State.Keeps.of_triple (by assumption) ?_
    | dsimp only

/-! Machine/Store.lean. -/

theorem State.storeEvent_keeps {strict : Bool} {s0 s : State} (h : s0.Keeps strict s) (scope : Nat) (i : Image) :
    s0.Keeps strict (State.storeEvent scope i s) := by
  unfold State.storeEvent
  repeat' first
    | with_reducible assumption | intro _ | ((fail_if_no_progress extract_lets +onlyGivenNames t); refine (?_ : State.Keeps strict s0 t → _) ?_; (on_goal 1 => intro ht; clear_value t); on_goal 2 => try unfold t)
    | fail_if_no_progress extract_lets +onlyGivenNames t | with_reducible apply State.event_keeps
    | (generalize hu : State.mk .. = u; refine (?_ : State.Keeps strict s0 u → _) (.mk_eq hu ?_); clear hu) | split | dsimp only

theorem State.endStretch_keeps {strict : Bool} {s0 s : State} (h : s0.Keeps strict s) (k : Key) :
    s0.Keeps strict (State.endStretch k s) := by
  refine State.onFin_keeps h fun p t ht => ?_
  split
  · split
    · exact ht
    · rename_i src r _ _ _
      obtain ⟨u, hu, ku⟩ := State.dictRead_keeps (State.modTw_keeps ht p fun x => { x with stretch := none }) p src r
      dsimp only
      rw [hu]
      exact ku
  · exact ht

theorem State.answerStore_keeps {strict : Bool} {s0 s : State} (h : s0.Keeps strict s) (k : Key) :
    s0.Keeps strict (State.answerStore k s) := by
  unfold State.answerStore
  repeat' first
    | with_reducible assumption | intro _ | ((fail_if_no_progress extract_lets +onlyGivenNames t); refine (?_ : State.Keeps strict s0 t → _) ?_; (on_goal 1 => intro ht; clear_value t); on_goal 2 => try unfold t)
    | fail_if_no_progress extract_lets +onlyGivenNames t | with_reducible apply State.answer_keeps
    | with_reducible apply State.endDap_keeps | with_reducible apply State.endStretch_keeps
    | with_reducible apply State.modCtx_keeps | with_reducible apply State.modSession_keeps | with_reducible apply State.onFin_keeps
    | (generalize hu : State.mk .. = u; refine (?_ : State.Keeps strict s0 u → _) (.mk_eq hu ?_); clear hu) | split
    | with_reducible refine State.Keeps.of_pair (by assumption) ?_ | with_reducible refine State.Keeps.of_triple (by assumption) ?_
    | dsimp only

theorem DictState.commitImage_images {i x : Image} {d : DictState} (hx : x ∈ (d.commitImage i).images) : x = i ∨ x ∈ d.images := by
  unfold DictState.commitImage at hx
  simp only [DictState.images, List.mem_append] at hx ⊢
  split at hx <;> simp only [Option.toList_some, List.mem_singleton] at hx <;> tauto

theorem DictState.commitImage_canonical {i : Image} {d : DictState} (hi : Dict.wf i.vals) (c : d.canonical) :
    (d.commitImage i).canonical := by
  have hw : (d.commitImage i).written = d.written := by unfold DictState.commitImage; split <;> rfl
  have hf : (d.commitImage i).force = d.force := by unfold DictState.commitImage; split <;> rfl
  refine ⟨hw ▸ c.1, hf ▸ c.2.1, fun x hx => ?_⟩
  rcases DictState.commitImage_images hx with rfl | hx
  · exact hi
  · exact c.2.2 x hx

theorem execStoreWritten_keeps {strict : Bool} {s0 s : State} (h : s0.Keeps strict s) (ms : Nat) : ∃ t, execStoreWritten ms s = .next t ∧ s0.Keeps strict t := by
  unfold execStoreWritten
  split
  · split
    next scope i k hs =>
      refine ⟨_, rfl, State.answerStore_keeps (State.storeEvent_keeps ?_ _ _) _⟩
      refine h.trans ⟨rfl, fun _ => ⟨rfl, rfl⟩, fun d => ?_, id, s.fw.guards_refl⟩
      have hi : i ∈ s.dict.images := by simp [DictState.images, hs]
      have c := DictState.commitImage_canonical (d.2.2 i hi) d
      refine ⟨c.1, c.2.1, fun x hx => c.2.2 x ?_⟩
      simp only [State.modDict, DictState.images, List.mem_append, Option.map_none, Option.toList_none, List.not_mem_nil, or_false] at hx ⊢
      exact .inl hx
    · exact ⟨_, rfl, h⟩
  · exact ⟨_, rfl, h⟩

theorem execAgreementAdoption_keeps {strict : Bool} {s0 s : State} (h : s0.Keeps strict s) (set inst band : Nat) :
    ∃ t, (execAgreementAdoption set inst band s) = .next t ∧ s0.Keeps strict t := by
  unfold execAgreementAdoption
  repeat' first
    | with_reducible assumption | intro _ | ((fail_if_no_progress extract_lets +onlyGivenNames t); refine (?_ : State.Keeps strict s0 t → _) ?_; (on_goal 1 => intro ht; clear_value t); on_goal 2 => try unfold t)
    | fail_if_no_progress extract_lets +onlyGivenNames t | with_reducible refine ⟨_, rfl, ?_⟩
    | with_reducible apply State.adoptSet_keeps | with_reducible apply State.feederAdopt_keeps
    | with_reducible apply State.onFin_keeps
    | (generalize hu : State.mk .. = u; refine (?_ : State.Keeps strict s0 u → _) (.mk_eq hu ?_); clear hu) | split | dsimp only

/-! Machine/Reset.lean. -/

theorem DictState.tear_canonical {d : DictState} (c : d.canonical) : d.tear.canonical := by
  unfold DictState.tear
  split
  next a i b hs =>
    have hi : Dict.wf i.vals := c.2.2 i (by simp [DictState.images, hs])
    have old : ∀ x, x ∈ d.imageA.toList ∨ x ∈ d.imageB.toList ∨ x ∈ d.imageInForce.toList → Dict.wf x.vals := by
      intro x hx
      refine c.2.2 x ?_
      simp only [DictState.images, List.mem_append]
      tauto
    dsimp only
    split
    · refine ⟨c.1, c.2.1, fun x hx => ?_⟩
      simp only [DictState.images, List.mem_append, Option.toList_some, List.mem_singleton, Option.map_none, Option.toList_none, List.not_mem_nil, or_false] at hx
      rcases hx with (rfl | hx) | hx
      · exact hi
      · exact old x (.inr (.inl hx))
      · exact old x (.inr (.inr hx))
    · refine ⟨c.1, c.2.1, fun x hx => ?_⟩
      simp only [DictState.images, List.mem_append, Option.toList_some, List.mem_singleton, Option.map_none, Option.toList_none, List.not_mem_nil, or_false] at hx
      rcases hx with (hx | rfl) | hx
      · exact old x (.inl hx)
      · exact hi
      · exact old x (.inr (.inr hx))
  · exact c

theorem Recorder.cutWrites_bounded {q : Recorder} (cut : Bool) (c : q.bounded) : (q.cutWrites cut).bounded := by
  unfold Recorder.cutWrites
  split
  · exact c
  · extract_lets u
    have k : u.bounded := by
      unfold u
      split <;> exact c
    clear_value u
    repeat' first | exact k | split

theorem Recorder.afterCold_bounded {q : Recorder} (lost cut : Bool) (c : q.bounded) : (q.afterCold lost cut).bounded := by
  have k := Recorder.cutWrites_bounded cut c
  unfold Recorder.afterCold
  generalize q.cutWrites cut = u at k ⊢
  refine ⟨Nat.zero_le _, k.2.1, Nat.zero_le _, ?_⟩
  dsimp only
  split
  · exact (List.length_take_le _ _).trans (by omega)
  · exact k.2.2.2

theorem State.afterCold_keeps {strict : Bool} {s0 s : State} (h : s0.Keeps strict s) (cause : ColdCause) (supplyFault : BitVec 6) : s0.Keeps false (State.afterCold cause supplyFault s) := by
  refine h.loose.trans ⟨rfl, fun e => Bool.noConfusion e, fun d => ⟨List.Pairwise.nil, List.Pairwise.nil, fun i hi => ?_⟩,
    fun c => Recorder.afterCold_bounded _ _ c, le_refl _, fun _ hk _ => hk⟩
  refine (DictState.tear_canonical d).2.2 i ?_
  simp only [State.afterCold, DictState.images, List.mem_append] at hi ⊢
  rcases hi with (hi | hi) | hi
  · exact .inl (.inl hi)
  · simp [State.reset, DictState.reset] at hi
  · simp [State.reset, DictState.reset] at hi

theorem execColdReset_keeps {strict : Bool} {s0 s : State} (h : s0.Keeps strict s) (cause : ColdCause) (supplyFault : BitVec 6) :
    ∃ t, (execColdReset cause supplyFault s) = .next t ∧ s0.Keeps false t := by
  unfold execColdReset
  replace h := h.loose
  repeat' first
    | with_reducible assumption | intro _ | ((fail_if_no_progress extract_lets +onlyGivenNames t); refine (?_ : State.Keeps false s0 t → _) ?_; (on_goal 1 => intro ht; clear_value t); on_goal 2 => try unfold t)
    | fail_if_no_progress extract_lets +onlyGivenNames t | with_reducible refine ⟨_, rfl, ?_⟩
    | with_reducible apply State.afterCold_keeps
    | (generalize hu : State.mk .. = u; refine (?_ : State.Keeps false s0 u → _) (.mk_eq hu ?_); clear hu) | split | dsimp only

theorem State.applyRestore_keeps {strict : Bool} {s0 s : State} (h : s0.Keeps strict s) (n : Nat) : s0.Keeps strict (State.applyRestore n s) := by
  unfold State.applyRestore
  split
  · extract_lets +onlyGivenNames old vals i t
    have hi : s.dict.canonical → Dict.wf i.vals := by
      intro c
      unfold i vals old
      split
      next x hx =>
        have hm : x ∈ s.dict.images := by
          simp only [DictState.images, List.mem_append, Option.mem_toList]
          split at hx
          · exact .inl (.inl (.inr hx))
          · exact .inl (.inl (.inl hx))
        split
        · exact Dict.wf_filter _ (c.2.2 x hm)
        · exact List.Pairwise.nil
      · exact List.Pairwise.nil
    refine State.storeEvent_keeps ?_ _ _
    refine h.trans ⟨rfl, fun _ => ⟨rfl, rfl⟩, fun d => ?_, id, s.fw.guards_refl⟩
    have c := DictState.commitImage_canonical (hi d) d
    exact ⟨c.1, c.2.1, c.2.2⟩
  · exact h

theorem State.copyFailed_keeps {strict : Bool} {s0 s : State} (h : s0.Keeps strict s) (n : Nat) (o : Option Image) :
    s0.Keeps strict (State.copyFailed n o s) := by
  unfold State.copyFailed
  repeat' first
    | with_reducible assumption | intro _ | ((fail_if_no_progress extract_lets +onlyGivenNames t); refine (?_ : State.Keeps strict s0 t → _) ?_; (on_goal 1 => intro ht; clear_value t); on_goal 2 => try unfold t)
    | fail_if_no_progress extract_lets +onlyGivenNames t | with_reducible apply State.event_keeps
    | (generalize hu : State.mk .. = u; refine (?_ : State.Keeps strict s0 u → _) (.mk_eq hu ?_); clear hu) | split
    | with_reducible refine State.Keeps.of_pair (by assumption) ?_ | with_reducible refine State.Keeps.of_triple (by assumption) ?_
    | dsimp only

theorem State.applyEnable_keeps {strict : Bool} {s0 s : State} (h : s0.Keeps strict s) (k v : Nat) :
    s0.Keeps strict (State.applyEnable k v s) := by
  unfold State.applyEnable
  repeat' first
    | with_reducible assumption | intro _ | ((fail_if_no_progress extract_lets +onlyGivenNames t); refine (?_ : State.Keeps strict s0 t → _) ?_; (on_goal 1 => intro ht; clear_value t); on_goal 2 => try unfold t)
    | fail_if_no_progress extract_lets +onlyGivenNames t | with_reducible apply State.event_keeps
    | with_reducible apply writeEnable_keeps | with_reducible apply writeFeedEnable_keeps
    | with_reducible apply writeGroupEnable_keeps | with_reducible apply writeOrEnable_keeps
    | with_reducible apply writeStringEnable_keeps
    | (generalize hu : State.mk .. = u; refine (?_ : State.Keeps strict s0 u → _) (.mk_eq hu ?_); clear hu) | split
    | with_reducible refine State.Keeps.of_pair (by assumption) ?_ | with_reducible refine State.Keeps.of_triple (by assumption) ?_
    | dsimp only

theorem State.loadValues_keeps {strict : Bool} {s0 s : State} (h : s0.Keeps strict s) (vals : Dict) (hv : s0.dict.canonical → Dict.wf vals) : s0.Keeps strict (State.loadValues vals s) := by
  unfold State.loadValues
  extract_lets +onlyGivenNames known plain t u late v
  have hk : s0.dict.canonical → Dict.wf plain := fun c => Dict.wf_filter _ (Dict.wf_filter _ (hv c))
  have ht : s0.Keeps strict t := State.modDict_keeps_from h _ fun c d => ⟨hk c, List.Pairwise.nil, d.2.2⟩
  have hu : s0.Keeps strict u := State.over_keeps ht (fun p w hw => State.over_keeps hw (fun i x hx => State.testSet_keeps hx i) _) _
  have hw : s0.Keeps strict v := State.modDict_keeps_from hu _ fun c d => ⟨d.1, Dict.wf_filter _ (hk c), d.2.2⟩
  exact State.over_keeps hw (fun p w hw => State.onFin_keeps hw fun k x hx => State.modLoop_keeps hx _ _) _

theorem State.loadImage_keeps {strict : Bool} {s0 s : State} (h : s0.Keeps strict s) : s0.Keeps strict s.loadImage := by
  unfold State.loadImage
  have ht : s0.Keeps strict ((((s.applyRestore 1).applyRestore 2).applyRestore 3).applyRestore 4) :=
    State.applyRestore_keeps (State.applyRestore_keeps (State.applyRestore_keeps (State.applyRestore_keeps h _) _) _) _
  generalize (((s.applyRestore 1).applyRestore 2).applyRestore 3).applyRestore 4 = t at ht ⊢
  extract_lets +onlyGivenNames t0 a b u
  have hu : s0.Keeps strict u := State.copyFailed_keeps (State.copyFailed_keeps ht _ _) _ _
  clear_value u
  split
  · exact State.event_keeps hu _ _ _ _
  · split
    next i hi =>
      have hw : s0.dict.canonical → Dict.wf i.vals := by
        intro c
        refine (ht.dict c).2.2 i ?_
        simp only [DictState.images, List.mem_append, Option.mem_toList]
        unfold a b t0 at hi
        split at hi
        · exact .inl (.inl (.inr hi))
        · exact .inl (.inl (.inl hi))
      refine State.loadValues_keeps (State.modDict_keeps_from hu _ fun c d => ⟨d.1, d.2.1, fun x hx => ?_⟩) _ hw
      simp only [DictState.images, List.mem_append, Option.mem_toList, Option.toList_some, List.mem_singleton] at hx
      rcases hx with ((hx | hx) | rfl) | hx
      · exact d.2.2 x (by simp only [DictState.images, List.mem_append, Option.mem_toList]; tauto)
      · exact d.2.2 x (by simp only [DictState.images, List.mem_append, Option.mem_toList]; tauto)
      · exact hw c
      · exact d.2.2 x (by simp only [DictState.images, List.mem_append, Option.mem_toList]; tauto)
    · exact hu

theorem State.loadEnables_keeps {strict : Bool} {s0 s : State} (h : s0.Keeps strict s) :
    s0.Keeps strict (State.loadEnables s) := by
  unfold State.loadEnables
  repeat' first
    | with_reducible assumption | intro _ | ((fail_if_no_progress extract_lets +onlyGivenNames t); refine (?_ : State.Keeps strict s0 t → _) ?_; (on_goal 1 => intro ht; clear_value t); on_goal 2 => try unfold t)
    | fail_if_no_progress extract_lets +onlyGivenNames t | with_reducible apply State.applyEnable_keeps
    | with_reducible apply State.over_keeps
    | (generalize hu : State.mk .. = u; refine (?_ : State.Keeps strict s0 u → _) (.mk_eq hu ?_); clear hu) | split
    | with_reducible refine State.Keeps.of_pair (by assumption) ?_ | with_reducible refine State.Keeps.of_triple (by assumption) ?_
    | dsimp only

theorem State.memFailed_keeps {strict : Bool} {s0 s : State} (h : s0.Keeps strict s) (f : MemFail) :
    s0.Keeps strict (State.memFailed f s) := by
  unfold State.memFailed
  repeat' first
    | with_reducible assumption | intro _ | ((fail_if_no_progress extract_lets +onlyGivenNames t); refine (?_ : State.Keeps strict s0 t → _) ?_; (on_goal 1 => intro ht; clear_value t); on_goal 2 => try unfold t)
    | fail_if_no_progress extract_lets +onlyGivenNames t | with_reducible apply State.event_keeps
    | with_reducible apply State.fresh_keeps
    | (generalize hu : State.mk .. = u; refine (?_ : State.Keeps strict s0 u → _) (.mk_eq hu ?_); clear hu) | split
    | with_reducible refine State.Keeps.of_pair (by assumption) ?_ | with_reducible refine State.Keeps.of_triple (by assumption) ?_
    | dsimp only

theorem State.bootTrial_keeps {strict : Bool} {s0 s : State} (h : s0.Keeps strict s) :
    s0.Keeps strict (State.bootTrial s) := by
  unfold State.bootTrial
  repeat' first
    | with_reducible assumption | intro _ | ((fail_if_no_progress extract_lets +onlyGivenNames t); refine (?_ : State.Keeps strict s0 t → _) ?_; (on_goal 1 => intro ht; clear_value t); on_goal 2 => try unfold t)
    | fail_if_no_progress extract_lets +onlyGivenNames t | with_reducible apply State.beginTrial_keeps
    | with_reducible apply State.failTrial_keeps
    | (generalize hu : State.mk .. = u; refine (?_ : State.Keeps strict s0 u → _) (.mk_eq hu ?_); clear hu) | split
    | with_reducible refine State.Keeps.of_pair (by assumption) ?_ | with_reducible refine State.Keeps.of_triple (by assumption) ?_
    | dsimp only

theorem State.portBoot_keeps {strict : Bool} {s0 s : State} (h : s0.Keeps strict s) (p : CanNo) :
    s0.Keeps strict (State.portBoot p s) := by
  unfold State.portBoot
  repeat' first
    | with_reducible assumption | intro _ | ((fail_if_no_progress extract_lets +onlyGivenNames t); refine (?_ : State.Keeps strict s0 t → _) ?_; (on_goal 1 => intro ht; clear_value t); on_goal 2 => try unfold t)
    | fail_if_no_progress extract_lets +onlyGivenNames t | with_reducible apply State.modCan_keeps
    | with_reducible apply State.send_keeps
    | (generalize hu : State.mk .. = u; refine (?_ : State.Keeps strict s0 u → _) (.mk_eq hu ?_); clear hu) | split | dsimp only

theorem State.bootCell_keeps {strict : Bool} {s0 s : State} (h : s0.Keeps strict s) (c : CellNo) :
    s0.Keeps strict (State.bootCell c s) := by
  unfold State.bootCell
  repeat' first
    | with_reducible assumption | intro _ | ((fail_if_no_progress extract_lets +onlyGivenNames t); refine (?_ : State.Keeps strict s0 t → _) ?_; (on_goal 1 => intro ht; clear_value t); on_goal 2 => try unfold t)
    | fail_if_no_progress extract_lets +onlyGivenNames t | with_reducible apply State.calCheck_keeps
    | with_reducible apply State.modCell_keeps | with_reducible apply State.startRole_keeps
    | (generalize hu : State.mk .. = u; refine (?_ : State.Keeps strict s0 u → _) (.mk_eq hu ?_); clear hu) | split | dsimp only

theorem State.bootStart_keeps {strict : Bool} {s0 s : State} (h : s0.Keeps strict s) (bootsel : Fin 4) (fails : List MemFail) (crystalOk : Bool) :
    s0.Keeps strict (State.bootStart bootsel fails crystalOk s) := by
  unfold State.bootStart
  refine State.modFw_keeps (State.modClk_keeps ?_ _) _ (fun _ => rfl) (fun _ => rfl)
  exact .same h rfl rfl rfl rfl rfl rfl

theorem State.resetEvent_keeps {strict : Bool} {s0 s : State} (h : s0.Keeps strict s) :
    s0.Keeps strict (State.resetEvent s) := by
  unfold State.resetEvent
  repeat' first
    | with_reducible assumption | intro _ | ((fail_if_no_progress extract_lets +onlyGivenNames t); refine (?_ : State.Keeps strict s0 t → _) ?_; (on_goal 1 => intro ht; clear_value t); on_goal 2 => try unfold t)
    | fail_if_no_progress extract_lets +onlyGivenNames t | with_reducible apply State.event_keeps
    | (generalize hu : State.mk .. = u; refine (?_ : State.Keeps strict s0 u → _) (.mk_eq hu ?_); clear hu) | split | dsimp only

theorem State.scanLog_keeps {strict : Bool} {s0 s : State} (h : s0.Keeps strict s) :
    s0.Keeps strict (State.scanLog s) := by
  unfold State.scanLog
  repeat' first
    | with_reducible assumption | intro _ | ((fail_if_no_progress extract_lets +onlyGivenNames t); refine (?_ : State.Keeps strict s0 t → _) ?_; (on_goal 1 => intro ht; clear_value t); on_goal 2 => try unfold t)
    | fail_if_no_progress extract_lets +onlyGivenNames t | with_reducible apply State.event_keeps
    | (generalize hu : State.mk .. = u; refine (?_ : State.Keeps strict s0 u → _) (.mk_eq hu ?_); clear hu) | split | dsimp only

theorem State.recover_keeps_booted (why : Nat) (s : State) :
    State.Keeps true { s with phase := .recovery } (State.recover why s) := by
  unfold State.recover
  extract_lets t u
  have ht : State.Keeps true { s with phase := .recovery } t := .same (.refl _ _) rfl rfl rfl rfl rfl rfl
  have hu : State.Keeps true { s with phase := .recovery } u := State.resetEvent_keeps (State.event_keeps ht _ _ _ _)
  clear_value t u
  exact State.scanLog_keeps (State.loadImage_keeps (State.over_keeps hu (fun m w hw => State.memFailed_keeps hw m) _))

theorem State.recover_phase (why : Nat) (s : State) : (State.recover why s).phase = .recovery :=
  ((State.recover_keeps_booted why s).still rfl).1

theorem State.recover_keeps {s0 s : State} (h : s0.Keeps false s) (why : Nat) : s0.Keeps false (State.recover why s) :=
  (h.trans ⟨rfl, fun e => Bool.noConfusion e, id, id, s.fw.guards_refl⟩ : s0.Keeps false { s with phase := .recovery }).trans
    (State.recover_keeps_booted why s).loose

theorem State.bootFrom_keeps_booted (slot : Fin 2) (laneA laneB : LaneTest) (s : State) :
    State.Keeps true { s with phase := .booted } (State.bootFrom slot laneA laneB s) := by
  unfold State.bootFrom
  extract_lets fails t a b c d e f g
  have h0 : State.Keeps true t t := .refl _ _
  change State.Keeps true t _
  clear_value t
  have ha : State.Keeps true t a := by
    refine State.over_keeps (State.resetEvent_keeps ?_) (fun m w hw => State.memFailed_keeps hw m) _
    with_reducible exact State.modFw_keeps h0 _ (fun _ => rfl) (fun _ => rfl)
  clear_value a
  have hb : State.Keeps true t b := by
    with_reducible exact State.bootTrial_keeps (State.scanLog_keeps (State.loadImage_keeps ha))
  clear_value b
  have hc : State.Keeps true t c := by
    with_reducible exact State.modBus_keeps hb _
  clear_value c
  have hd : State.Keeps true t d := by
    with_reducible exact State.modPins_keeps (State.each_keeps hc fun i w hw => State.bootCell_keeps hw i) _
  clear_value d
  have he : State.Keeps true t e := by
    with_reducible exact State.modModes_keeps hd _ (fun _ => rfl)
  clear_value e
  have hf : State.Keeps true t f := by
    with_reducible exact State.loadEnables_keeps (State.each_keeps he fun k w hw => State.modLoop_keeps hw _ _)
  clear_value f
  have hg : State.Keeps true t g := by
    with_reducible exact State.decideLanes_keeps (State.lanesStart_keeps hf) _ _ _
  clear_value g
  with_reducible exact State.each_keeps (State.armWatchdog_keeps (State.startCores_keeps hg)) fun p w hw => State.portBoot_keeps hw p

theorem State.bootFrom_phase (slot : Fin 2) (laneA laneB : LaneTest) (s : State) : (State.bootFrom slot laneA laneB s).phase = .booted :=
  ((State.bootFrom_keeps_booted slot laneA laneB s).still rfl).1

theorem State.bootFrom_keeps {s0 s : State} (h : s0.Keeps false s) (slot : Fin 2) (laneA laneB : LaneTest) :
    s0.Keeps false (State.bootFrom slot laneA laneB s) :=
  (h.trans ⟨rfl, fun e => Bool.noConfusion e, id, id, s.fw.guards_refl⟩ : s0.Keeps false { s with phase := .booted }).trans
    (State.bootFrom_keeps_booted slot laneA laneB s).loose

theorem execBoot_keeps {strict : Bool} {s0 s : State} (h : s0.Keeps strict s) (bootsel : Fin 4) (fails : List MemFail) (crystalOk : Bool) (laneA laneB : LaneTest) :
    ∃ t, execBoot bootsel fails crystalOk laneA laneB s = .next t ∧ s0.Keeps false t := by
  replace h := h.loose
  unfold execBoot
  split
  · extract_lets t
    have ht : s0.Keeps false t := State.bootStart_keeps h _ _ _
    split
    · exact ⟨_, rfl, State.recover_keeps ht _⟩
    · exact ⟨_, rfl, State.bootFrom_keeps ht _ _ _⟩
  · exact ⟨_, rfl, h⟩

theorem State.warmReset_keeps {strict : Bool} {s0 s : State} (h : s0.Keeps strict s) (cause : Nat) : s0.Keeps strict (State.warmReset cause s) := by
  unfold State.warmReset
  extract_lets t u v
  have ht : s0.Keeps strict t :=
    State.modDict_keeps (State.closeRecs_keeps (State.endSession_keeps h) _ _) _ fun _ c => DictState.tear_canonical c
  have hu : s0.Keeps strict u := State.modClk_keeps ht _
  have hv : s0.Keeps strict v := State.modFw_keeps hu _ (fun _ => rfl) (fun _ => rfl)
  exact .same hv rfl rfl rfl rfl rfl rfl

theorem execWatchdogExpiry_keeps {strict : Bool} {s0 s : State} (h : s0.Keeps strict s) (_core : Fin 2) :
    ∃ t, (execWatchdogExpiry _core s) = .next t ∧ s0.Keeps strict t := by
  unfold execWatchdogExpiry
  repeat' first
    | with_reducible assumption | intro _ | ((fail_if_no_progress extract_lets +onlyGivenNames t); refine (?_ : State.Keeps strict s0 t → _) ?_; (on_goal 1 => intro ht; clear_value t); on_goal 2 => try unfold t)
    | fail_if_no_progress extract_lets +onlyGivenNames t | with_reducible apply State.errReset_keeps
    | with_reducible refine ⟨_, rfl, ?_⟩ | with_reducible apply State.warmReset_keeps | with_reducible apply settle_keeps
    | (generalize hu : State.mk .. = u; refine (?_ : State.Keeps strict s0 u → _) (.mk_eq hu ?_); clear hu) | split | dsimp only

theorem State.restartTrial_keeps {strict : Bool} {s0 s : State} (h : s0.Keeps strict s) :
    s0.Keeps strict (State.restartTrial s) := by
  unfold State.restartTrial
  repeat' first
    | with_reducible assumption | intro _ | ((fail_if_no_progress extract_lets +onlyGivenNames t); refine (?_ : State.Keeps strict s0 t → _) ?_; (on_goal 1 => intro ht; clear_value t); on_goal 2 => try unfold t)
    | fail_if_no_progress extract_lets +onlyGivenNames t | with_reducible apply State.beginTrial_keeps
    | with_reducible apply State.failTrial_keeps
    | (generalize hu : State.mk .. = u; refine (?_ : State.Keeps strict s0 u → _) (.mk_eq hu ?_); clear hu) | split
    | with_reducible refine State.Keeps.of_pair (by assumption) ?_ | with_reducible refine State.Keeps.of_triple (by assumption) ?_
    | dsimp only

theorem State.portResume_keeps {strict : Bool} {s0 s : State} (h : s0.Keeps strict s) (p : CanNo) :
    s0.Keeps strict (State.portResume p s) := by
  unfold State.portResume
  repeat' first
    | with_reducible assumption | intro _ | ((fail_if_no_progress extract_lets +onlyGivenNames t); refine (?_ : State.Keeps strict s0 t → _) ?_; (on_goal 1 => intro ht; clear_value t); on_goal 2 => try unfold t)
    | fail_if_no_progress extract_lets +onlyGivenNames t | with_reducible apply State.emcyOn_keeps
    | with_reducible apply State.portBoot_keeps | with_reducible apply State.sendBeat_keeps
    | (generalize hu : State.mk .. = u; refine (?_ : State.Keeps strict s0 u → _) (.mk_eq hu ?_); clear hu) | split | dsimp only

theorem State.tellHeld_keeps {strict : Bool} {s0 s : State} (h : s0.Keeps strict s) :
    s0.Keeps strict (State.tellHeld s) := by
  unfold State.tellHeld
  repeat' first
    | with_reducible assumption | intro _ | ((fail_if_no_progress extract_lets +onlyGivenNames t); refine (?_ : State.Keeps strict s0 t → _) ?_; (on_goal 1 => intro ht; clear_value t); on_goal 2 => try unfold t)
    | fail_if_no_progress extract_lets +onlyGivenNames t | with_reducible apply State.modLedger_keeps
    | with_reducible apply State.over_keeps | with_reducible apply State.tellThrottle_keeps
    | with_reducible apply State.throttle_keeps
    | (generalize hu : State.mk .. = u; refine (?_ : State.Keeps strict s0 u → _) (.mk_eq hu ?_); clear hu) | split | dsimp only

theorem execManageRestart_keeps {strict : Bool} {s0 s : State} (h : s0.Keeps strict s) :
    ∃ t, (execManageRestart s) = .next t ∧ s0.Keeps strict t := by
  unfold execManageRestart
  repeat' first
    | with_reducible assumption | intro _ | ((fail_if_no_progress extract_lets +onlyGivenNames t); refine (?_ : State.Keeps strict s0 t → _) ?_; (on_goal 1 => intro ht; clear_value t); on_goal 2 => try unfold t)
    | fail_if_no_progress extract_lets +onlyGivenNames t | with_reducible apply State.errReset_keeps
    | with_reducible refine ⟨_, rfl, ?_⟩ | with_reducible apply State.armWatchdog_keeps
    | with_reducible apply State.drainQueue_keeps | with_reducible apply State.each_keeps | with_reducible apply State.event_keeps
    | with_reducible apply State.portResume_keeps | with_reducible apply State.rejoin_keeps
    | with_reducible apply State.restartTrial_keeps | with_reducible apply State.startCores_keeps
    | with_reducible apply State.tellHeld_keeps | with_reducible apply State.warmReset_keeps | with_reducible apply settle_keeps
    | (generalize hu : State.mk .. = u; refine (?_ : State.Keeps strict s0 u → _) (.mk_eq hu ?_); clear hu) | split | dsimp only

theorem execHostWake_keeps {strict : Bool} {s0 s : State} (h : s0.Keeps strict s) (who : Key) (fails : List MemFail) : ∃ t, execHostWake who fails s = .next t ∧ s0.Keeps false t := by
  replace h := h.loose
  unfold execHostWake
  split
  · extract_lets +onlyGivenNames deep banks others t
    have ht : s0.Keeps false t := by
      unfold t
      split
      · exact .same h rfl rfl rfl rfl rfl rfl
      · exact h
    clear_value t
    split
    · extract_lets u v w x
      have hu : s0.Keeps false u := ht.trans ⟨rfl, fun e => Bool.noConfusion e, id, id, t.fw.guards_refl⟩
      clear_value u
      have hv : s0.Keeps false v := by
        have k := State.each_keeps hu fun c z hz => State.modCell_keeps hz c Cell.outputsLow
        unfold v
        generalize u.each 48 _ = y at k ⊢
        exact k.trans ⟨rfl, fun e => Bool.noConfusion e, id, id, y.fw.guards_refl⟩
      clear_value v
      have hw : s0.Keeps false w := by
        with_reducible exact State.modPins_keeps hv _
      clear_value w
      have hx : s0.Keeps false x := by
        with_reducible exact State.event_keeps hw _ _ _ _
      clear_value x
      with_reducible exact settle_keeps (State.over_keeps hx (fun m z hz => State.memFailed_keeps hz m) _) _
    · have hu := State.wakeManage_keeps ht
      generalize t.wakeManage = u at hu ⊢
      refine settle_keeps (State.contact_keeps ?_ _) _
      split
      · exact State.over_keeps hu (fun m w hw => State.memFailed_keeps hw m) _
      · exact hu
  · exact ⟨_, rfl, h⟩

end Sys2Proof.Machine
end

