-- ==== Sys2Proof/Laws/KeepsPorts.lean ====
section
/-! SUPPORT. Laws/KeepsPorts.lean: what the operations of CAN, recorder commands, clocks, two-wire ports, firmware and the tick keep (State.Keeps). -/

set_option linter.unreachableTactic false
set_option linter.unusedTactic false
set_option linter.tactic.unusedName false

namespace Sys2Proof.Machine

/-! Machine/Can.lean. -/

theorem execCanBusOff_keeps {strict : Bool} {s0 s : State} (h : s0.Keeps strict s) (p : CanNo) :
    ∃ t, (execCanBusOff p s) = .next t ∧ s0.Keeps strict t := by
  unfold execCanBusOff
  repeat' first
    | with_reducible assumption | intro _ | ((fail_if_no_progress extract_lets +onlyGivenNames t); refine (?_ : State.Keeps strict s0 t → _) ?_; (on_goal 1 => intro ht; clear_value t); on_goal 2 => try unfold t)
    | fail_if_no_progress extract_lets +onlyGivenNames t | with_reducible apply State.errReset_keeps
    | with_reducible refine ⟨_, rfl, ?_⟩ | with_reducible apply State.event_keeps | with_reducible apply State.modCan_keeps
    | with_reducible apply settle_keeps
    | (generalize hu : State.mk .. = u; refine (?_ : State.Keeps strict s0 u → _) (.mk_eq hu ?_); clear hu) | split | dsimp only

theorem execBusOffRecovery_keeps {strict : Bool} {s0 s : State} (h : s0.Keeps strict s) (p : CanNo) :
    ∃ t, (execBusOffRecovery p s) = .next t ∧ s0.Keeps strict t := by
  unfold execBusOffRecovery
  repeat' first
    | with_reducible assumption | intro _ | ((fail_if_no_progress extract_lets +onlyGivenNames t); refine (?_ : State.Keeps strict s0 t → _) ?_; (on_goal 1 => intro ht; clear_value t); on_goal 2 => try unfold t)
    | fail_if_no_progress extract_lets +onlyGivenNames t | with_reducible apply State.errReset_keeps
    | with_reducible refine ⟨_, rfl, ?_⟩ | with_reducible apply State.emcy_keeps | with_reducible apply State.modCan_keeps
    | with_reducible apply settle_keeps
    | (generalize hu : State.mk .. = u; refine (?_ : State.Keeps strict s0 u → _) (.mk_eq hu ?_); clear hu) | split | dsimp only

theorem execErrorPassive_keeps {strict : Bool} {s0 s : State} (h : s0.Keeps strict s) (p : CanNo) (into : Bool) :
    ∃ t, (execErrorPassive p into s) = .next t ∧ s0.Keeps strict t := by
  unfold execErrorPassive
  repeat' first
    | with_reducible assumption | intro _ | ((fail_if_no_progress extract_lets +onlyGivenNames t); refine (?_ : State.Keeps strict s0 t → _) ?_; (on_goal 1 => intro ht; clear_value t); on_goal 2 => try unfold t)
    | fail_if_no_progress extract_lets +onlyGivenNames t | with_reducible apply State.errReset_keeps
    | with_reducible refine ⟨_, rfl, ?_⟩ | with_reducible apply State.modCan_keeps | with_reducible apply settle_keeps
    | (generalize hu : State.mk .. = u; refine (?_ : State.Keeps strict s0 u → _) (.mk_eq hu ?_); clear hu) | split | dsimp only

theorem execNmtResetNode_keeps {strict : Bool} {s0 s : State} (h : s0.Keeps strict s) (p : CanNo) :
    ∃ t, (execNmtResetNode p s) = .next t ∧ s0.Keeps strict t := by
  unfold execNmtResetNode
  repeat' first
    | with_reducible assumption | intro _ | ((fail_if_no_progress extract_lets +onlyGivenNames t); refine (?_ : State.Keeps strict s0 t → _) ?_; (on_goal 1 => intro ht; clear_value t); on_goal 2 => try unfold t)
    | fail_if_no_progress extract_lets +onlyGivenNames t | with_reducible apply State.errReset_keeps
    | with_reducible refine ⟨_, rfl, ?_⟩ | with_reducible apply State.warmReset_keeps | with_reducible apply settle_keeps
    | (generalize hu : State.mk .. = u; refine (?_ : State.Keeps strict s0 u → _) (.mk_eq hu ?_); clear hu) | split | dsimp only

theorem State.reinitPort_keeps {strict : Bool} {s0 s : State} (h : s0.Keeps strict s) (p : CanNo) :
    s0.Keeps strict (State.reinitPort p s) := by
  unfold State.reinitPort
  repeat' first
    | with_reducible assumption | intro _ | ((fail_if_no_progress extract_lets +onlyGivenNames t); refine (?_ : State.Keeps strict s0 t → _) ?_; (on_goal 1 => intro ht; clear_value t); on_goal 2 => try unfold t)
    | fail_if_no_progress extract_lets +onlyGivenNames t | with_reducible apply State.adoptEntry_keeps
    | with_reducible apply State.adoptSet_keeps | with_reducible apply State.modCan_keeps
    | with_reducible apply State.portBoot_keeps
    | (generalize hu : State.mk .. = u; refine (?_ : State.Keeps strict s0 u → _) (.mk_eq hu ?_); clear hu) | split | dsimp only

theorem execNmtResetCommunication_keeps {strict : Bool} {s0 s : State} (h : s0.Keeps strict s) (p : CanNo) :
    ∃ t, (execNmtResetCommunication p s) = .next t ∧ s0.Keeps strict t := by
  unfold execNmtResetCommunication
  repeat' first
    | with_reducible assumption | intro _ | ((fail_if_no_progress extract_lets +onlyGivenNames t); refine (?_ : State.Keeps strict s0 t → _) ?_; (on_goal 1 => intro ht; clear_value t); on_goal 2 => try unfold t)
    | fail_if_no_progress extract_lets +onlyGivenNames t | with_reducible apply State.errReset_keeps
    | with_reducible refine ⟨_, rfl, ?_⟩ | with_reducible apply State.reinitPort_keeps | with_reducible apply settle_keeps
    | (generalize hu : State.mk .. = u; refine (?_ : State.Keeps strict s0 u → _) (.mk_eq hu ?_); clear hu) | split | dsimp only

theorem State.setNmt_keeps {strict : Bool} {s0 s : State} (h : s0.Keeps strict s) (p : CanNo) (n : Nmt) :
    s0.Keeps strict (State.setNmt p n s) := by
  unfold State.setNmt
  repeat' first
    | with_reducible assumption | intro _ | ((fail_if_no_progress extract_lets +onlyGivenNames t); refine (?_ : State.Keeps strict s0 t → _) ?_; (on_goal 1 => intro ht; clear_value t); on_goal 2 => try unfold t)
    | fail_if_no_progress extract_lets +onlyGivenNames t | with_reducible apply State.modCan_keeps
    | (generalize hu : State.mk .. = u; refine (?_ : State.Keeps strict s0 u → _) (.mk_eq hu ?_); clear hu) | split | dsimp only

theorem execNmtStart_keeps {strict : Bool} {s0 s : State} (h : s0.Keeps strict s) (p : CanNo) :
    ∃ t, (execNmtStart p s) = .next t ∧ s0.Keeps strict t := by
  unfold execNmtStart
  repeat' first
    | with_reducible assumption | intro _ | ((fail_if_no_progress extract_lets +onlyGivenNames t); refine (?_ : State.Keeps strict s0 t → _) ?_; (on_goal 1 => intro ht; clear_value t); on_goal 2 => try unfold t)
    | fail_if_no_progress extract_lets +onlyGivenNames t | with_reducible refine ⟨_, rfl, ?_⟩
    | with_reducible apply State.setNmt_keeps
    | (generalize hu : State.mk .. = u; refine (?_ : State.Keeps strict s0 u → _) (.mk_eq hu ?_); clear hu) | split | dsimp only

theorem execNmtStop_keeps {strict : Bool} {s0 s : State} (h : s0.Keeps strict s) (p : CanNo) :
    ∃ t, (execNmtStop p s) = .next t ∧ s0.Keeps strict t := by
  unfold execNmtStop
  repeat' first
    | with_reducible assumption | intro _ | ((fail_if_no_progress extract_lets +onlyGivenNames t); refine (?_ : State.Keeps strict s0 t → _) ?_; (on_goal 1 => intro ht; clear_value t); on_goal 2 => try unfold t)
    | fail_if_no_progress extract_lets +onlyGivenNames t | with_reducible refine ⟨_, rfl, ?_⟩
    | with_reducible apply State.modCan_keeps | with_reducible apply State.setNmt_keeps
    | (generalize hu : State.mk .. = u; refine (?_ : State.Keeps strict s0 u → _) (.mk_eq hu ?_); clear hu) | split | dsimp only

theorem execNmtEnterPreoperational_keeps {strict : Bool} {s0 s : State} (h : s0.Keeps strict s) (p : CanNo) :
    ∃ t, (execNmtEnterPreoperational p s) = .next t ∧ s0.Keeps strict t := by
  unfold execNmtEnterPreoperational
  repeat' first
    | with_reducible assumption | intro _ | ((fail_if_no_progress extract_lets +onlyGivenNames t); refine (?_ : State.Keeps strict s0 t → _) ?_; (on_goal 1 => intro ht; clear_value t); on_goal 2 => try unfold t)
    | fail_if_no_progress extract_lets +onlyGivenNames t | with_reducible refine ⟨_, rfl, ?_⟩
    | with_reducible apply State.setNmt_keeps
    | (generalize hu : State.mk .. = u; refine (?_ : State.Keeps strict s0 u → _) (.mk_eq hu ?_); clear hu) | split | dsimp only

theorem execHeartbeatReceived_keeps {strict : Bool} {s0 s : State} (h : s0.Keeps strict s) (p : CanNo) (node : Nat) :
    ∃ t, (execHeartbeatReceived p node s) = .next t ∧ s0.Keeps strict t := by
  unfold execHeartbeatReceived
  repeat' first
    | with_reducible assumption | intro _ | ((fail_if_no_progress extract_lets +onlyGivenNames t); refine (?_ : State.Keeps strict s0 t → _) ?_; (on_goal 1 => intro ht; clear_value t); on_goal 2 => try unfold t)
    | fail_if_no_progress extract_lets +onlyGivenNames t | with_reducible apply State.errReset_keeps
    | with_reducible refine ⟨_, rfl, ?_⟩ | with_reducible apply State.modCan_keeps | with_reducible apply State.over_keeps
    | with_reducible apply State.touch_keeps | with_reducible apply settle_keeps
    | (generalize hu : State.mk .. = u; refine (?_ : State.Keeps strict s0 u → _) (.mk_eq hu ?_); clear hu) | split | dsimp only

theorem execHeartbeatLost_keeps {strict : Bool} {s0 s : State} (h : s0.Keeps strict s) (p : CanNo) (node : Nat) :
    ∃ t, (execHeartbeatLost p node s) = .next t ∧ s0.Keeps strict t := by
  unfold execHeartbeatLost
  repeat' first
    | with_reducible assumption | intro _ | ((fail_if_no_progress extract_lets +onlyGivenNames t); refine (?_ : State.Keeps strict s0 t → _) ?_; (on_goal 1 => intro ht; clear_value t); on_goal 2 => try unfold t)
    | fail_if_no_progress extract_lets +onlyGivenNames t | with_reducible apply State.errReset_keeps
    | with_reducible refine ⟨_, rfl, ?_⟩ | with_reducible apply State.emcy_keeps | with_reducible apply State.event_keeps
    | with_reducible apply State.modCan_keeps | with_reducible apply settle_keeps
    | (generalize hu : State.mk .. = u; refine (?_ : State.Keeps strict s0 u → _) (.mk_eq hu ?_); clear hu) | split | dsimp only

theorem execHeartbeatProduce_keeps {strict : Bool} {s0 s : State} (h : s0.Keeps strict s) (p : CanNo) :
    ∃ t, (execHeartbeatProduce p s) = .next t ∧ s0.Keeps strict t := by
  unfold execHeartbeatProduce
  repeat' first
    | with_reducible assumption | intro _ | ((fail_if_no_progress extract_lets +onlyGivenNames t); refine (?_ : State.Keeps strict s0 t → _) ?_; (on_goal 1 => intro ht; clear_value t); on_goal 2 => try unfold t)
    | fail_if_no_progress extract_lets +onlyGivenNames t | with_reducible refine ⟨_, rfl, ?_⟩
    | with_reducible apply State.sendBeat_keeps
    | (generalize hu : State.mk .. = u; refine (?_ : State.Keeps strict s0 u → _) (.mk_eq hu ?_); clear hu) | split | dsimp only

theorem execTimeReceived_keeps {strict : Bool} {s0 s : State} (h : s0.Keeps strict s) (p : CanNo) (days ms : Nat) :
    ∃ t, (execTimeReceived p days ms s) = .next t ∧ s0.Keeps strict t := by
  unfold execTimeReceived
  repeat' first
    | with_reducible assumption | intro _ | ((fail_if_no_progress extract_lets +onlyGivenNames t); refine (?_ : State.Keeps strict s0 t → _) ?_; (on_goal 1 => intro ht; clear_value t); on_goal 2 => try unfold t)
    | fail_if_no_progress extract_lets +onlyGivenNames t | with_reducible refine ⟨_, rfl, ?_⟩
    | (generalize hu : State.mk .. = u; refine (?_ : State.Keeps strict s0 u → _) (.mk_eq hu ?_); clear hu) | split | dsimp only

theorem execLssConfigureBitTiming_keeps {strict : Bool} {s0 s : State} (h : s0.Keeps strict s) (p : CanNo) (rateK : Nat) :
    ∃ t, (execLssConfigureBitTiming p rateK s) = .next t ∧ s0.Keeps strict t := by
  unfold execLssConfigureBitTiming
  repeat' first
    | with_reducible assumption | intro _ | ((fail_if_no_progress extract_lets +onlyGivenNames t); refine (?_ : State.Keeps strict s0 t → _) ?_; (on_goal 1 => intro ht; clear_value t); on_goal 2 => try unfold t)
    | fail_if_no_progress extract_lets +onlyGivenNames t | with_reducible refine ⟨_, rfl, ?_⟩
    | with_reducible apply State.afterWrite_keeps | with_reducible apply State.send_keeps
    | with_reducible apply State.setWritten_keeps
    | (generalize hu : State.mk .. = u; refine (?_ : State.Keeps strict s0 u → _) (.mk_eq hu ?_); clear hu) | split | dsimp only

theorem execLssConfigureNodeId_keeps {strict : Bool} {s0 s : State} (h : s0.Keeps strict s) (p : CanNo) (node : Nat) :
    ∃ t, (execLssConfigureNodeId p node s) = .next t ∧ s0.Keeps strict t := by
  unfold execLssConfigureNodeId
  repeat' first
    | with_reducible assumption | intro _ | ((fail_if_no_progress extract_lets +onlyGivenNames t); refine (?_ : State.Keeps strict s0 t → _) ?_; (on_goal 1 => intro ht; clear_value t); on_goal 2 => try unfold t)
    | fail_if_no_progress extract_lets +onlyGivenNames t | with_reducible refine ⟨_, rfl, ?_⟩
    | with_reducible apply State.modCan_keeps | with_reducible apply State.send_keeps
    | (generalize hu : State.mk .. = u; refine (?_ : State.Keeps strict s0 u → _) (.mk_eq hu ?_); clear hu) | split | dsimp only

theorem execLssStoreConfiguration_keeps {strict : Bool} {s0 s : State} (h : s0.Keeps strict s) (p : CanNo) :
    ∃ t, (execLssStoreConfiguration p s) = .next t ∧ s0.Keeps strict t := by
  unfold execLssStoreConfiguration
  repeat' first
    | with_reducible assumption | intro _ | ((fail_if_no_progress extract_lets +onlyGivenNames t); refine (?_ : State.Keeps strict s0 t → _) ?_; (on_goal 1 => intro ht; clear_value t); on_goal 2 => try unfold t)
    | fail_if_no_progress extract_lets +onlyGivenNames t | with_reducible refine ⟨_, rfl, ?_⟩
    | with_reducible apply State.modCan_keeps | with_reducible apply State.send_keeps | with_reducible apply State.setWritten_keeps
    | (generalize hu : State.mk .. = u; refine (?_ : State.Keeps strict s0 u → _) (.mk_eq hu ?_); clear hu) | split
    | with_reducible refine State.Keeps.of_pair (by assumption) ?_ | with_reducible refine State.Keeps.of_triple (by assumption) ?_
    | dsimp only

theorem State.sendTpdo_keeps {strict : Bool} {s0 s : State} (h : s0.Keeps strict s) (p : CanNo) (n : Fin 32) :
    s0.Keeps strict (State.sendTpdo p n s) := by
  unfold State.sendTpdo
  repeat' first
    | with_reducible assumption | intro _ | ((fail_if_no_progress extract_lets +onlyGivenNames t); refine (?_ : State.Keeps strict s0 t → _) ?_; (on_goal 1 => intro ht; clear_value t); on_goal 2 => try unfold t)
    | fail_if_no_progress extract_lets +onlyGivenNames t | with_reducible apply State.send_keeps
    | (generalize hu : State.mk .. = u; refine (?_ : State.Keeps strict s0 u → _) (.mk_eq hu ?_); clear hu) | split | dsimp only

theorem State.raiseTpdo_keeps {strict : Bool} {s0 s : State} (h : s0.Keeps strict s) (p : CanNo) (n : Fin 32) :
    s0.Keeps strict (State.raiseTpdo p n s) := by
  unfold State.raiseTpdo
  repeat' first
    | with_reducible assumption | intro _ | ((fail_if_no_progress extract_lets +onlyGivenNames t); refine (?_ : State.Keeps strict s0 t → _) ?_; (on_goal 1 => intro ht; clear_value t); on_goal 2 => try unfold t)
    | fail_if_no_progress extract_lets +onlyGivenNames t | with_reducible apply State.sendTpdo_keeps
    | (generalize hu : State.mk .. = u; refine (?_ : State.Keeps strict s0 u → _) (.mk_eq hu ?_); clear hu) | split | dsimp only

theorem execSyncReceived_keeps {strict : Bool} {s0 s : State} (h : s0.Keeps strict s) (p : CanNo) :
    ∃ t, (execSyncReceived p s) = .next t ∧ s0.Keeps strict t := by
  unfold execSyncReceived
  repeat' first
    | with_reducible assumption | intro _ | ((fail_if_no_progress extract_lets +onlyGivenNames t); refine (?_ : State.Keeps strict s0 t → _) ?_; (on_goal 1 => intro ht; clear_value t); on_goal 2 => try unfold t)
    | fail_if_no_progress extract_lets +onlyGivenNames t | with_reducible refine ⟨_, rfl, ?_⟩
    | with_reducible apply State.each_keeps | with_reducible apply State.sendTpdo_keeps
    | (generalize hu : State.mk .. = u; refine (?_ : State.Keeps strict s0 u → _) (.mk_eq hu ?_); clear hu) | split | dsimp only

theorem State.checkTpdo_keeps {strict : Bool} {s0 s : State} (h : s0.Keeps strict s) (n : Fin 32) :
    s0.Keeps strict (State.checkTpdo n s) := by
  unfold State.checkTpdo
  repeat' first
    | with_reducible assumption | intro _ | ((fail_if_no_progress extract_lets +onlyGivenNames t); refine (?_ : State.Keeps strict s0 t → _) ?_; (on_goal 1 => intro ht; clear_value t); on_goal 2 => try unfold t)
    | fail_if_no_progress extract_lets +onlyGivenNames t | with_reducible apply State.raiseTpdo_keeps
    | (generalize hu : State.mk .. = u; refine (?_ : State.Keeps strict s0 u → _) (.mk_eq hu ?_); clear hu) | split
    | with_reducible refine State.Keeps.of_pair (by assumption) ?_ | with_reducible refine State.Keeps.of_triple (by assumption) ?_
    | dsimp only

theorem execTpdoEventCheck_keeps {strict : Bool} {s0 s : State} (h : s0.Keeps strict s) :
    ∃ t, (execTpdoEventCheck s) = .next t ∧ s0.Keeps strict t := by
  unfold execTpdoEventCheck
  repeat' first
    | with_reducible assumption | intro _ | ((fail_if_no_progress extract_lets +onlyGivenNames t); refine (?_ : State.Keeps strict s0 t → _) ?_; (on_goal 1 => intro ht; clear_value t); on_goal 2 => try unfold t)
    | fail_if_no_progress extract_lets +onlyGivenNames t | with_reducible refine ⟨_, rfl, ?_⟩
    | with_reducible apply State.checkTpdo_keeps | with_reducible apply State.each_keeps
    | (generalize hu : State.mk .. = u; refine (?_ : State.Keeps strict s0 u → _) (.mk_eq hu ?_); clear hu) | split | dsimp only

theorem execTpdoEventTimer_keeps {strict : Bool} {s0 s : State} (h : s0.Keeps strict s) (n : Fin 32) :
    ∃ t, (execTpdoEventTimer n s) = .next t ∧ s0.Keeps strict t := by
  unfold execTpdoEventTimer
  repeat' first
    | with_reducible assumption | intro _ | ((fail_if_no_progress extract_lets +onlyGivenNames t); refine (?_ : State.Keeps strict s0 t → _) ?_; (on_goal 1 => intro ht; clear_value t); on_goal 2 => try unfold t)
    | fail_if_no_progress extract_lets +onlyGivenNames t | with_reducible refine ⟨_, rfl, ?_⟩
    | with_reducible apply State.sendTpdo_keeps
    | (generalize hu : State.mk .. = u; refine (?_ : State.Keeps strict s0 u → _) (.mk_eq hu ?_); clear hu) | split
    | with_reducible refine State.Keeps.of_pair (by assumption) ?_ | with_reducible refine State.Keeps.of_triple (by assumption) ?_
    | dsimp only

theorem State.rpdoRefused_keeps {strict : Bool} {s0 s : State} (h : s0.Keeps strict s) (p : CanNo) (n : Fin 16) (code : Nat) :
    s0.Keeps strict (State.rpdoRefused p n code s) := by
  unfold State.rpdoRefused
  repeat' first
    | with_reducible assumption | intro _ | ((fail_if_no_progress extract_lets +onlyGivenNames t); refine (?_ : State.Keeps strict s0 t → _) ?_; (on_goal 1 => intro ht; clear_value t); on_goal 2 => try unfold t)
    | fail_if_no_progress extract_lets +onlyGivenNames t | with_reducible apply State.event_keeps
    | (generalize hu : State.mk .. = u; refine (?_ : State.Keeps strict s0 u → _) (.mk_eq hu ?_); clear hu) | split | dsimp only

theorem State.rpdoEntry_keeps {strict : Bool} {s0 s : State} (h0 : s0.Keeps strict s) (p : CanNo) (n : Fin 16) (h : HostNo) (i : (Nat × Nat) × Bytes) :
    s0.Keeps strict (State.rpdoEntry p n h i s) := by
  unfold State.rpdoEntry
  repeat' first
    | with_reducible assumption | intro _ | ((fail_if_no_progress extract_lets +onlyGivenNames t); refine (?_ : State.Keeps strict s0 t → _) ?_; (on_goal 1 => intro ht; clear_value t); on_goal 2 => try unfold t)
    | fail_if_no_progress extract_lets +onlyGivenNames t | with_reducible apply State.rpdoRefused_keeps
    | with_reducible apply State.write_keeps
    | (generalize hu : State.mk .. = u; refine (?_ : State.Keeps strict s0 u → _) (.mk_eq hu ?_); clear hu) | split
    | with_reducible refine State.Keeps.of_pair (by assumption) ?_ | with_reducible refine State.Keeps.of_triple (by assumption) ?_
    | dsimp only

theorem execRpdoReceived_keeps {strict : Bool} {s0 s : State} (h : s0.Keeps strict s) (n : Fin 16) (data : Bytes) :
    ∃ t, (execRpdoReceived n data s) = .next t ∧ s0.Keeps strict t := by
  unfold execRpdoReceived
  repeat' first
    | with_reducible assumption | intro _ | ((fail_if_no_progress extract_lets +onlyGivenNames t); refine (?_ : State.Keeps strict s0 t → _) ?_; (on_goal 1 => intro ht; clear_value t); on_goal 2 => try unfold t)
    | fail_if_no_progress extract_lets +onlyGivenNames t | with_reducible apply State.errReset_keeps
    | with_reducible refine ⟨_, rfl, ?_⟩ | with_reducible apply State.contact_keeps | with_reducible apply State.over_keeps
    | with_reducible apply State.rpdoEntry_keeps | with_reducible apply settle_keeps
    | (generalize hu : State.mk .. = u; refine (?_ : State.Keeps strict s0 u → _) (.mk_eq hu ?_); clear hu) | split
    | with_reducible refine State.Keeps.of_pair (by assumption) ?_ | with_reducible refine State.Keeps.of_triple (by assumption) ?_
    | dsimp only

/-! Machine/Clock.lean. -/

theorem State.leaveBuses_keeps {strict : Bool} {s0 s : State} (h : s0.Keeps strict s) :
    s0.Keeps strict (State.leaveBuses s) := by
  unfold State.leaveBuses
  repeat' first
    | with_reducible assumption | intro _ | ((fail_if_no_progress extract_lets +onlyGivenNames t); refine (?_ : State.Keeps strict s0 t → _) ?_; (on_goal 1 => intro ht; clear_value t); on_goal 2 => try unfold t)
    | fail_if_no_progress extract_lets +onlyGivenNames t
    | (generalize hu : State.mk .. = u; refine (?_ : State.Keeps strict s0 u → _) (.mk_eq hu ?_); clear hu) | split | dsimp only

theorem execXinLost_keeps {strict : Bool} {s0 s : State} (h : s0.Keeps strict s) :
    ∃ t, (execXinLost s) = .next t ∧ s0.Keeps strict t := by
  unfold execXinLost
  repeat' first
    | with_reducible assumption | intro _ | ((fail_if_no_progress extract_lets +onlyGivenNames t); refine (?_ : State.Keeps strict s0 t → _) ?_; (on_goal 1 => intro ht; clear_value t); on_goal 2 => try unfold t)
    | fail_if_no_progress extract_lets +onlyGivenNames t | with_reducible apply State.errReset_keeps
    | with_reducible refine ⟨_, rfl, ?_⟩ | with_reducible apply State.event_keeps | with_reducible apply State.leaveBuses_keeps
    | with_reducible apply State.modClk_keeps | with_reducible apply settle_keeps
    | (generalize hu : State.mk .. = u; refine (?_ : State.Keeps strict s0 u → _) (.mk_eq hu ?_); clear hu) | split | dsimp only

theorem State.notePll_keeps {strict : Bool} {s0 s : State} (h : s0.Keeps strict s) (p : Pll) :
    s0.Keeps strict (State.notePll p s) := by
  unfold State.notePll
  repeat' first
    | with_reducible assumption | intro _ | ((fail_if_no_progress extract_lets +onlyGivenNames t); refine (?_ : State.Keeps strict s0 t → _) ?_; (on_goal 1 => intro ht; clear_value t); on_goal 2 => try unfold t)
    | fail_if_no_progress extract_lets +onlyGivenNames t | with_reducible apply State.modClk_keeps
    | (generalize hu : State.mk .. = u; refine (?_ : State.Keeps strict s0 u → _) (.mk_eq hu ?_); clear hu) | split | dsimp only

theorem execPllUnlock_keeps {strict : Bool} {s0 s : State} (h : s0.Keeps strict s) (pll : Pll) :
    ∃ t, (execPllUnlock pll s) = .next t ∧ s0.Keeps strict t := by
  unfold execPllUnlock
  repeat' first
    | with_reducible assumption | intro _ | ((fail_if_no_progress extract_lets +onlyGivenNames t); refine (?_ : State.Keeps strict s0 t → _) ?_; (on_goal 1 => intro ht; clear_value t); on_goal 2 => try unfold t)
    | fail_if_no_progress extract_lets +onlyGivenNames t | with_reducible apply State.errReset_keeps
    | with_reducible refine ⟨_, rfl, ?_⟩ | with_reducible apply State.event_keeps | with_reducible apply State.leaveBuses_keeps
    | with_reducible apply State.modClk_keeps | with_reducible apply State.notePll_keeps | with_reducible apply settle_keeps
    | (generalize hu : State.mk .. = u; refine (?_ : State.Keeps strict s0 u → _) (.mk_eq hu ?_); clear hu) | split | dsimp only

theorem State.atLock_keeps {strict : Bool} {s0 s : State} (h : s0.Keeps strict s) (errorCentiPct : Int) :
    s0.Keeps strict (State.atLock errorCentiPct s) := by
  unfold State.atLock
  repeat' first
    | with_reducible assumption | intro _ | ((fail_if_no_progress extract_lets +onlyGivenNames t); refine (?_ : State.Keeps strict s0 t → _) ?_; (on_goal 1 => intro ht; clear_value t); on_goal 2 => try unfold t)
    | fail_if_no_progress extract_lets +onlyGivenNames t | with_reducible apply State.each_keeps
    | with_reducible apply State.event_keeps | with_reducible apply State.modClk_keeps | with_reducible apply State.rejoin_keeps
    | (generalize hu : State.mk .. = u; refine (?_ : State.Keeps strict s0 u → _) (.mk_eq hu ?_); clear hu) | split | dsimp only

theorem execXinLocked_keeps {strict : Bool} {s0 s : State} (h : s0.Keeps strict s) (errorCentiPct : Int) :
    ∃ t, (execXinLocked errorCentiPct s) = .next t ∧ s0.Keeps strict t := by
  unfold execXinLocked
  repeat' first
    | with_reducible assumption | intro _ | ((fail_if_no_progress extract_lets +onlyGivenNames t); refine (?_ : State.Keeps strict s0 t → _) ?_; (on_goal 1 => intro ht; clear_value t); on_goal 2 => try unfold t)
    | fail_if_no_progress extract_lets +onlyGivenNames t | with_reducible apply State.errReset_keeps
    | with_reducible refine ⟨_, rfl, ?_⟩ | with_reducible apply State.atLock_keeps | with_reducible apply State.modClk_keeps
    | with_reducible apply settle_keeps
    | (generalize hu : State.mk .. = u; refine (?_ : State.Keeps strict s0 u → _) (.mk_eq hu ?_); clear hu) | split | dsimp only

theorem execPllRelockRetry_keeps {strict : Bool} {s0 s : State} (h : s0.Keeps strict s) (pll : Pll) (lockedCentiPct : Option Int) :
    ∃ t, (execPllRelockRetry pll lockedCentiPct s) = .next t ∧ s0.Keeps strict t := by
  unfold execPllRelockRetry
  repeat' first
    | with_reducible assumption | intro _ | ((fail_if_no_progress extract_lets +onlyGivenNames t); refine (?_ : State.Keeps strict s0 t → _) ?_; (on_goal 1 => intro ht; clear_value t); on_goal 2 => try unfold t)
    | fail_if_no_progress extract_lets +onlyGivenNames t | with_reducible apply State.errReset_keeps
    | with_reducible refine ⟨_, rfl, ?_⟩ | with_reducible apply State.atLock_keeps | with_reducible apply State.modClk_keeps
    | with_reducible apply State.notePll_keeps | with_reducible apply settle_keeps
    | (generalize hu : State.mk .. = u; refine (?_ : State.Keeps strict s0 u → _) (.mk_eq hu ?_); clear hu) | split
    | with_reducible refine State.Keeps.of_pair (by assumption) ?_ | with_reducible refine State.Keeps.of_triple (by assumption) ?_
    | dsimp only

theorem execX32Fail_keeps {strict : Bool} {s0 s : State} (h : s0.Keeps strict s) :
    ∃ t, (execX32Fail s) = .next t ∧ s0.Keeps strict t := by
  unfold execX32Fail
  repeat' first
    | with_reducible assumption | intro _ | ((fail_if_no_progress extract_lets +onlyGivenNames t); refine (?_ : State.Keeps strict s0 t → _) ?_; (on_goal 1 => intro ht; clear_value t); on_goal 2 => try unfold t)
    | fail_if_no_progress extract_lets +onlyGivenNames t | with_reducible refine ⟨_, rfl, ?_⟩
    | with_reducible apply State.event_keeps | with_reducible apply State.modClk_keeps
    | (generalize hu : State.mk .. = u; refine (?_ : State.Keeps strict s0 u → _) (.mk_eq hu ?_); clear hu) | split | dsimp only

theorem execWispTrim_keeps {strict : Bool} {s0 s : State} (h : s0.Keeps strict s) (trim : Int) :
    ∃ t, (execWispTrim trim s) = .next t ∧ s0.Keeps strict t := by
  unfold execWispTrim
  repeat' first
    | with_reducible assumption | intro _ | ((fail_if_no_progress extract_lets +onlyGivenNames t); refine (?_ : State.Keeps strict s0 t → _) ?_; (on_goal 1 => intro ht; clear_value t); on_goal 2 => try unfold t)
    | fail_if_no_progress extract_lets +onlyGivenNames t | with_reducible refine ⟨_, rfl, ?_⟩
    | with_reducible apply State.modClk_keeps
    | (generalize hu : State.mk .. = u; refine (?_ : State.Keeps strict s0 u → _) (.mk_eq hu ?_); clear hu) | split | dsimp only

theorem execLinkRetrain_keeps {strict : Bool} {s0 s : State} (h : s0.Keeps strict s) (upstream : Bool) (lane : Fin 8) (step : Int) (corrected : Bool) :
    ∃ t, (execLinkRetrain upstream lane step corrected s) = .next t ∧ s0.Keeps strict t := by
  unfold execLinkRetrain
  repeat' first
    | with_reducible assumption | intro _ | ((fail_if_no_progress extract_lets +onlyGivenNames t); refine (?_ : State.Keeps strict s0 t → _) ?_; (on_goal 1 => intro ht; clear_value t); on_goal 2 => try unfold t)
    | fail_if_no_progress extract_lets +onlyGivenNames t | with_reducible refine ⟨_, rfl, ?_⟩
    | with_reducible apply State.event_keeps | with_reducible apply State.modClk_keeps
    | (generalize hu : State.mk .. = u; refine (?_ : State.Keeps strict s0 u → _) (.mk_eq hu ?_); clear hu) | split | dsimp only

theorem execConsumptionUpdate_keeps {strict : Bool} {s0 s : State} (h : s0.Keeps strict s) (watch loop channel manage : Nat) :
    ∃ t, (execConsumptionUpdate watch loop channel manage s) = .next t ∧ s0.Keeps strict t := by
  unfold execConsumptionUpdate
  repeat' first
    | with_reducible assumption | intro _ | ((fail_if_no_progress extract_lets +onlyGivenNames t); refine (?_ : State.Keeps strict s0 t → _) ?_; (on_goal 1 => intro ht; clear_value t); on_goal 2 => try unfold t)
    | fail_if_no_progress extract_lets +onlyGivenNames t | with_reducible refine ⟨_, rfl, ?_⟩
    | (generalize hu : State.mk .. = u; refine (?_ : State.Keeps strict s0 u → _) (.mk_eq hu ?_); clear hu) | split | dsimp only

/-! Machine/Firmware.lean. -/

theorem State.frame_keeps {strict : Bool} {s0 s : State} {body : Bytes → State → Answer} (h : s0.Keeps strict s) (type : Nat)
    (f : Sys2Proof.Fafort) (fits : Nat → Bool) (hf : ∀ b t, s0.Keeps strict t → s0.Keeps strict (body b t).2.2) :
    ∃ t, s.frame type f fits body = .next t ∧ s0.Keeps strict t := by
  unfold State.frame
  split
  · extract_lets q u
    have hu : s0.Keeps strict u := State.modSession_keeps h _
    clear_value u
    have ht := hf f.payload u hu
    generalize body f.payload u = p at ht ⊢
    obtain ⟨status, b, t⟩ := p
    dsimp only at ht ⊢
    split
    · exact ⟨_, rfl, .mk_eq rfl hu⟩
    · split
      · exact ⟨_, rfl, .mk_eq rfl hu⟩
      · refine settle_keeps (.mk_eq rfl ?_) _
        with_reducible exact State.modSession_keeps ht _
  · exact ⟨_, rfl, h⟩

theorem State.sessionFrame_keeps {strict : Bool} {s0 s : State} {body : Bytes → HostNo → State → Answer} (h : s0.Keeps strict s)
    (type : Nat) (f : Sys2Proof.Fafort) (fits : Nat → Bool) (hf : ∀ b c t, s0.Keeps strict t → s0.Keeps strict (body b c t).2.2) :
    ∃ t, s.sessionFrame type f fits body = .next t ∧ s0.Keeps strict t := by
  refine State.frame_keeps h type f fits fun b t ht => ?_
  split
  · exact hf _ _ _ (State.touch_keeps ht _)
  · exact ht

theorem execIdentify_keeps {strict : Bool} {s0 s : State} (h : s0.Keeps strict s) (f : Sys2Proof.Fafort) :
    ∃ t, (execIdentify f s) = .next t ∧ s0.Keeps strict t := by
  unfold execIdentify
  repeat' first
    | with_reducible assumption | intro _ | ((fail_if_no_progress extract_lets +onlyGivenNames t); refine (?_ : State.Keeps strict s0 t → _) ?_; (on_goal 1 => intro ht; clear_value t); on_goal 2 => try unfold t)
    | fail_if_no_progress extract_lets +onlyGivenNames t | with_reducible refine ⟨_, rfl, ?_⟩
    | with_reducible apply State.frame_keeps | with_reducible apply State.touch_keeps
    | (generalize hu : State.mk .. = u; refine (?_ : State.Keeps strict s0 u → _) (.mk_eq hu ?_); clear hu) | split
    | with_reducible refine State.Keeps.of_pair (by assumption) ?_ | with_reducible refine State.Keeps.of_triple (by assumption) ?_
    | dsimp only

theorem execAuthBegin_keeps {strict : Bool} {s0 s : State} (h : s0.Keeps strict s) (f : Sys2Proof.Fafort) :
    ∃ t, (execAuthBegin f s) = .next t ∧ s0.Keeps strict t := by
  unfold execAuthBegin
  repeat' first
    | with_reducible assumption | intro _ | ((fail_if_no_progress extract_lets +onlyGivenNames t); refine (?_ : State.Keeps strict s0 t → _) ?_; (on_goal 1 => intro ht; clear_value t); on_goal 2 => try unfold t)
    | fail_if_no_progress extract_lets +onlyGivenNames t | with_reducible refine ⟨_, rfl, ?_⟩
    | with_reducible apply State.frame_keeps | with_reducible apply State.modSession_keeps
    | (generalize hu : State.mk .. = u; refine (?_ : State.Keeps strict s0 u → _) (.mk_eq hu ?_); clear hu) | split | dsimp only

theorem State.authFailed_keeps {strict : Bool} {s0 s : State} (h : s0.Keeps strict s) :
    s0.Keeps strict (State.authFailed s) := by
  unfold State.authFailed
  repeat' first
    | with_reducible assumption | intro _ | ((fail_if_no_progress extract_lets +onlyGivenNames t); refine (?_ : State.Keeps strict s0 t → _) ?_; (on_goal 1 => intro ht; clear_value t); on_goal 2 => try unfold t)
    | fail_if_no_progress extract_lets +onlyGivenNames t | with_reducible apply State.endSession_keeps
    | with_reducible apply State.event_keeps | with_reducible apply State.modSession_keeps
    | (generalize hu : State.mk .. = u; refine (?_ : State.Keeps strict s0 u → _) (.mk_eq hu ?_); clear hu) | split | dsimp only

theorem execAuthProve_keeps {strict : Bool} {s0 s : State} (h : s0.Keeps strict s) (f : Sys2Proof.Fafort) :
    ∃ t, (execAuthProve f s) = .next t ∧ s0.Keeps strict t := by
  unfold execAuthProve
  repeat' first
    | with_reducible assumption | intro _ | ((fail_if_no_progress extract_lets +onlyGivenNames t); refine (?_ : State.Keeps strict s0 t → _) ?_; (on_goal 1 => intro ht; clear_value t); on_goal 2 => try unfold t)
    | fail_if_no_progress extract_lets +onlyGivenNames t | with_reducible refine ⟨_, rfl, ?_⟩
    | with_reducible apply State.authFailed_keeps | with_reducible apply State.endSession_keeps
    | with_reducible apply State.event_keeps | with_reducible apply State.frame_keeps | with_reducible apply State.modSession_keeps
    | with_reducible apply State.newHost_keeps
    | (generalize hu : State.mk .. = u; refine (?_ : State.Keeps strict s0 u → _) (.mk_eq hu ?_); clear hu) | split
    | with_reducible refine State.Keeps.of_pair (by assumption) ?_ | with_reducible refine State.Keeps.of_triple (by assumption) ?_
    | dsimp only

theorem execClose_keeps {strict : Bool} {s0 s : State} (h : s0.Keeps strict s) (f : Sys2Proof.Fafort) :
    ∃ t, (execClose f s) = .next t ∧ s0.Keeps strict t := by
  unfold execClose
  repeat' first
    | with_reducible assumption | intro _ | ((fail_if_no_progress extract_lets +onlyGivenNames t); refine (?_ : State.Keeps strict s0 t → _) ?_; (on_goal 1 => intro ht; clear_value t); on_goal 2 => try unfold t)
    | fail_if_no_progress extract_lets +onlyGivenNames t | with_reducible refine ⟨_, rfl, ?_⟩
    | with_reducible apply State.cocoonCheck_keeps | with_reducible apply State.endSession_keeps
    | with_reducible apply State.frame_keeps
    | (generalize hu : State.mk .. = u; refine (?_ : State.Keeps strict s0 u → _) (.mk_eq hu ?_); clear hu) | split | dsimp only

theorem execSessionTimeout_keeps {strict : Bool} {s0 s : State} (h : s0.Keeps strict s) :
    ∃ t, (execSessionTimeout s) = .next t ∧ s0.Keeps strict t := by
  unfold execSessionTimeout
  repeat' first
    | with_reducible assumption | intro _ | ((fail_if_no_progress extract_lets +onlyGivenNames t); refine (?_ : State.Keeps strict s0 t → _) ?_; (on_goal 1 => intro ht; clear_value t); on_goal 2 => try unfold t)
    | fail_if_no_progress extract_lets +onlyGivenNames t | with_reducible apply State.errReset_keeps
    | with_reducible refine ⟨_, rfl, ?_⟩ | with_reducible apply State.cocoonCheck_keeps
    | with_reducible apply State.endSession_keeps | with_reducible apply settle_keeps
    | (generalize hu : State.mk .. = u; refine (?_ : State.Keeps strict s0 u → _) (.mk_eq hu ?_); clear hu) | split | dsimp only

theorem execAuthLockoutEnd_keeps {strict : Bool} {s0 s : State} (h : s0.Keeps strict s) :
    ∃ t, (execAuthLockoutEnd s) = .next t ∧ s0.Keeps strict t := by
  unfold execAuthLockoutEnd
  repeat' first
    | with_reducible assumption | intro _ | ((fail_if_no_progress extract_lets +onlyGivenNames t); refine (?_ : State.Keeps strict s0 t → _) ?_; (on_goal 1 => intro ht; clear_value t); on_goal 2 => try unfold t)
    | fail_if_no_progress extract_lets +onlyGivenNames t | with_reducible refine ⟨_, rfl, ?_⟩
    | with_reducible apply State.modSession_keeps
    | (generalize hu : State.mk .. = u; refine (?_ : State.Keeps strict s0 u → _) (.mk_eq hu ?_); clear hu) | split | dsimp only

theorem refusal_keeps {strict : Bool} {s0 s : State} (h : s0.Keeps strict s) (code : Nat) :
    s0.Keeps strict (refusal code s).2.2 := by
  unfold refusal
  repeat' first
    | with_reducible assumption | intro _ | ((fail_if_no_progress extract_lets +onlyGivenNames t); refine (?_ : State.Keeps strict s0 t → _) ?_; (on_goal 1 => intro ht; clear_value t); on_goal 2 => try unfold t)
    | fail_if_no_progress extract_lets +onlyGivenNames t
    | (generalize hu : State.mk .. = u; refine (?_ : State.Keeps strict s0 u → _) (.mk_eq hu ?_); clear hu) | split | dsimp only

theorem State.fafortRead_keeps {strict : Bool} {s0 s : State} (h0 : s0.Keeps strict s) (b : Bytes) (h : HostNo) :
    s0.Keeps strict (State.fafortRead b h s).2.2 := by
  unfold State.fafortRead
  repeat' first
    | with_reducible assumption | intro _ | ((fail_if_no_progress extract_lets +onlyGivenNames t); refine (?_ : State.Keeps strict s0 t → _) ?_; (on_goal 1 => intro ht; clear_value t); on_goal 2 => try unfold t)
    | fail_if_no_progress extract_lets +onlyGivenNames t | with_reducible apply State.modSession_keeps
    | with_reducible apply State.read_keeps | with_reducible apply refusal_keeps
    | (generalize hu : State.mk .. = u; refine (?_ : State.Keeps strict s0 u → _) (.mk_eq hu ?_); clear hu) | split
    | with_reducible refine State.Keeps.of_pair (by assumption) ?_ | with_reducible refine State.Keeps.of_triple (by assumption) ?_
    | dsimp only

theorem execFafortDictRead_keeps {strict : Bool} {s0 s : State} (h : s0.Keeps strict s) (f : Sys2Proof.Fafort) :
    ∃ t, (execFafortDictRead f s) = .next t ∧ s0.Keeps strict t := by
  unfold execFafortDictRead
  repeat' first
    | with_reducible assumption | intro _ | ((fail_if_no_progress extract_lets +onlyGivenNames t); refine (?_ : State.Keeps strict s0 t → _) ?_; (on_goal 1 => intro ht; clear_value t); on_goal 2 => try unfold t)
    | fail_if_no_progress extract_lets +onlyGivenNames t | with_reducible refine ⟨_, rfl, ?_⟩
    | with_reducible apply State.fafortRead_keeps | with_reducible apply State.sessionFrame_keeps
    | (generalize hu : State.mk .. = u; refine (?_ : State.Keeps strict s0 u → _) (.mk_eq hu ?_); clear hu) | split | dsimp only

theorem State.fafortWrite_keeps {strict : Bool} {s0 s : State} (h0 : s0.Keeps strict s) (b : Bytes) (h : HostNo) :
    s0.Keeps strict (State.fafortWrite b h s).2.2 := by
  unfold State.fafortWrite
  repeat' first
    | with_reducible assumption | intro _ | ((fail_if_no_progress extract_lets +onlyGivenNames t); refine (?_ : State.Keeps strict s0 t → _) ?_; (on_goal 1 => intro ht; clear_value t); on_goal 2 => try unfold t)
    | fail_if_no_progress extract_lets +onlyGivenNames t | with_reducible apply State.modSession_keeps
    | with_reducible apply State.write_keeps | with_reducible apply refusal_keeps
    | (generalize hu : State.mk .. = u; refine (?_ : State.Keeps strict s0 u → _) (.mk_eq hu ?_); clear hu) | split
    | with_reducible refine State.Keeps.of_pair (by assumption) ?_ | with_reducible refine State.Keeps.of_triple (by assumption) ?_
    | dsimp only

theorem execFafortDictWrite_keeps {strict : Bool} {s0 s : State} (h : s0.Keeps strict s) (f : Sys2Proof.Fafort) :
    ∃ t, (execFafortDictWrite f s) = .next t ∧ s0.Keeps strict t := by
  unfold execFafortDictWrite
  repeat' first
    | with_reducible assumption | intro _ | ((fail_if_no_progress extract_lets +onlyGivenNames t); refine (?_ : State.Keeps strict s0 t → _) ?_; (on_goal 1 => intro ht; clear_value t); on_goal 2 => try unfold t)
    | fail_if_no_progress extract_lets +onlyGivenNames t | with_reducible refine ⟨_, rfl, ?_⟩
    | with_reducible apply State.fafortWrite_keeps | with_reducible apply State.sessionFrame_keeps
    | (generalize hu : State.mk .. = u; refine (?_ : State.Keeps strict s0 u → _) (.mk_eq hu ?_); clear hu) | split | dsimp only

theorem execImageBegin_keeps {strict : Bool} {s0 s : State} (h : s0.Keeps strict s) (f : Sys2Proof.Fafort) :
    ∃ t, (execImageBegin f s) = .next t ∧ s0.Keeps strict t := by
  unfold execImageBegin
  repeat' first
    | with_reducible assumption | intro _ | ((fail_if_no_progress extract_lets +onlyGivenNames t); refine (?_ : State.Keeps strict s0 t → _) ?_; (on_goal 1 => intro ht; clear_value t); on_goal 2 => try unfold t)
    | fail_if_no_progress extract_lets +onlyGivenNames t | with_reducible refine ⟨_, rfl, ?_⟩
    | with_reducible apply State.event_keeps | with_reducible apply State.modSession_keeps
    | with_reducible apply State.modSlot_keeps | with_reducible apply State.sessionFrame_keeps
    | (generalize hu : State.mk .. = u; refine (?_ : State.Keeps strict s0 u → _) (.mk_eq hu ?_); clear hu) | split | dsimp only

theorem execImageData_keeps {strict : Bool} {s0 s : State} (h : s0.Keeps strict s) (f : Sys2Proof.Fafort) :
    ∃ t, (execImageData f s) = .next t ∧ s0.Keeps strict t := by
  unfold execImageData
  repeat' first
    | with_reducible assumption | intro _ | ((fail_if_no_progress extract_lets +onlyGivenNames t); refine (?_ : State.Keeps strict s0 t → _) ?_; (on_goal 1 => intro ht; clear_value t); on_goal 2 => try unfold t)
    | fail_if_no_progress extract_lets +onlyGivenNames t | with_reducible refine ⟨_, rfl, ?_⟩
    | with_reducible apply State.modSession_keeps | with_reducible apply State.sessionFrame_keeps
    | (generalize hu : State.mk .. = u; refine (?_ : State.Keeps strict s0 u → _) (.mk_eq hu ?_); clear hu) | split | dsimp only

theorem execImageEnd_keeps {strict : Bool} {s0 s : State} (h : s0.Keeps strict s) (f : Sys2Proof.Fafort) :
    ∃ t, (execImageEnd f s) = .next t ∧ s0.Keeps strict t := by
  unfold execImageEnd
  repeat' first
    | with_reducible assumption | intro _ | ((fail_if_no_progress extract_lets +onlyGivenNames t); refine (?_ : State.Keeps strict s0 t → _) ?_; (on_goal 1 => intro ht; clear_value t); on_goal 2 => try unfold t)
    | fail_if_no_progress extract_lets +onlyGivenNames t | with_reducible refine ⟨_, rfl, ?_⟩
    | with_reducible apply State.event_keeps | with_reducible refine State.modFw_keeps ?_ _ (fun _ => rfl) (fun _ => rfl)
    | with_reducible apply State.modSession_keeps | with_reducible apply State.modSlot_keeps
    | with_reducible apply State.sessionFrame_keeps
    | (generalize hu : State.mk .. = u; refine (?_ : State.Keeps strict s0 u → _) (.mk_eq hu ?_); clear hu) | split | dsimp only

theorem keyRefused_keeps {strict : Bool} {s0 s : State} (h : s0.Keeps strict s) (slot status : Nat) :
    s0.Keeps strict (keyRefused slot status s).2.2 := by
  unfold keyRefused
  repeat' first
    | with_reducible assumption | intro _ | ((fail_if_no_progress extract_lets +onlyGivenNames t); refine (?_ : State.Keeps strict s0 t → _) ?_; (on_goal 1 => intro ht; clear_value t); on_goal 2 => try unfold t)
    | fail_if_no_progress extract_lets +onlyGivenNames t | with_reducible apply State.event_keeps
    | (generalize hu : State.mk .. = u; refine (?_ : State.Keeps strict s0 u → _) (.mk_eq hu ?_); clear hu) | split | dsimp only

theorem execKeyWrite_keeps {strict : Bool} {s0 s : State} (h : s0.Keeps strict s) (f : Sys2Proof.Fafort) :
    ∃ t, execKeyWrite f s = .next t ∧ s0.Keeps strict t := by
  refine State.sessionFrame_keeps h _ _ _ fun b _ t ht => ?_
  extract_lets slot lock wrapped
  unfold keyRefused
  split
  · with_reducible exact State.event_keeps ht _ _ _ _
  next hk =>
    split
    · with_reducible exact State.event_keeps ht _ _ _ _
    next key _ =>
      with_reducible apply State.event_keeps
      refine ht.trans ⟨rfl, fun _ => ⟨rfl, rfl⟩, id, id, le_refl _, fun k hm hl => ?_⟩
      refine List.mem_append_left _ (List.mem_filter.2 ⟨hm, ?_⟩)
      simp only [not_or, Bool.not_eq_true, List.any_eq_false, Bool.and_eq_true, decide_eq_true_eq] at hk
      simp only [decide_eq_true_eq]
      exact fun e => hk.2 k hm ⟨e, hl⟩

theorem State.markTrial_keeps {strict : Bool} {s0 s : State} (h : s0.Keeps strict s) (i : FwSlot) :
    s0.Keeps strict (State.markTrial i s) := by
  unfold State.markTrial
  repeat' first
    | with_reducible assumption | intro _ | ((fail_if_no_progress extract_lets +onlyGivenNames t); refine (?_ : State.Keeps strict s0 t → _) ?_; (on_goal 1 => intro ht; clear_value t); on_goal 2 => try unfold t)
    | fail_if_no_progress extract_lets +onlyGivenNames t | with_reducible apply State.modSlot_keeps
    | (generalize hu : State.mk .. = u; refine (?_ : State.Keeps strict s0 u → _) (.mk_eq hu ?_); clear hu) | split | dsimp only

theorem execActivate_keeps {strict : Bool} {s0 s : State} (h : s0.Keeps strict s) (f : Sys2Proof.Fafort) :
    ∃ t, (execActivate f s) = .next t ∧ s0.Keeps strict t := by
  unfold execActivate
  repeat' first
    | with_reducible assumption | intro _ | ((fail_if_no_progress extract_lets +onlyGivenNames t); refine (?_ : State.Keeps strict s0 t → _) ?_; (on_goal 1 => intro ht; clear_value t); on_goal 2 => try unfold t)
    | fail_if_no_progress extract_lets +onlyGivenNames t | with_reducible refine ⟨_, rfl, ?_⟩
    | with_reducible apply State.event_keeps | with_reducible apply State.markTrial_keeps
    | with_reducible refine State.modFw_keeps ?_ _ (fun _ => rfl) (fun _ => rfl) | with_reducible apply State.placeRequest_keeps
    | with_reducible apply State.sessionFrame_keeps
    | (generalize hu : State.mk .. = u; refine (?_ : State.Keeps strict s0 u → _) (.mk_eq hu ?_); clear hu) | split | dsimp only

theorem State.heartbeats_keeps {strict : Bool} {s0 s : State} (h : s0.Keeps strict s) :
    s0.Keeps strict (State.heartbeats s) := by
  unfold State.heartbeats
  repeat' first
    | with_reducible assumption | intro _ | ((fail_if_no_progress extract_lets +onlyGivenNames t); refine (?_ : State.Keeps strict s0 t → _) ?_; (on_goal 1 => intro ht; clear_value t); on_goal 2 => try unfold t)
    | fail_if_no_progress extract_lets +onlyGivenNames t | with_reducible apply State.each_keeps
    | with_reducible apply State.sendBeat_keeps
    | (generalize hu : State.mk .. = u; refine (?_ : State.Keeps strict s0 u → _) (.mk_eq hu ?_); clear hu) | split | dsimp only

theorem execActivation_keeps {strict : Bool} {s0 s : State} (h : s0.Keeps strict s) :
    ∃ t, (execActivation s) = .next t ∧ s0.Keeps strict t := by
  unfold execActivation
  repeat' first
    | with_reducible assumption | intro _ | ((fail_if_no_progress extract_lets +onlyGivenNames t); refine (?_ : State.Keeps strict s0 t → _) ?_; (on_goal 1 => intro ht; clear_value t); on_goal 2 => try unfold t)
    | fail_if_no_progress extract_lets +onlyGivenNames t | with_reducible apply State.errReset_keeps
    | with_reducible refine ⟨_, rfl, ?_⟩ | with_reducible apply State.heartbeats_keeps | with_reducible apply State.markTrial_keeps
    | with_reducible refine State.modFw_keeps ?_ _ (fun _ => rfl) (fun _ => rfl)
    | with_reducible refine State.modModes_keeps ?_ _ (fun _ => rfl) | with_reducible apply State.warmReset_keeps
    | with_reducible apply settle_keeps
    | (generalize hu : State.mk .. = u; refine (?_ : State.Keeps strict s0 u → _) (.mk_eq hu ?_); clear hu) | split
    | with_reducible refine State.Keeps.of_pair (by assumption) ?_ | with_reducible refine State.Keeps.of_triple (by assumption) ?_
    | dsimp only

theorem execActivateCancelled_keeps {strict : Bool} {s0 s : State} (h : s0.Keeps strict s) :
    ∃ t, (execActivateCancelled s) = .next t ∧ s0.Keeps strict t := by
  unfold execActivateCancelled
  repeat' first
    | with_reducible assumption | intro _ | ((fail_if_no_progress extract_lets +onlyGivenNames t); refine (?_ : State.Keeps strict s0 t → _) ?_; (on_goal 1 => intro ht; clear_value t); on_goal 2 => try unfold t)
    | fail_if_no_progress extract_lets +onlyGivenNames t | with_reducible refine ⟨_, rfl, ?_⟩
    | with_reducible apply State.chooseRequest_keeps | with_reducible apply State.event_keeps
    | with_reducible refine State.modFw_keeps ?_ _ (fun _ => rfl) (fun _ => rfl) | with_reducible apply State.modHost_keeps
    | (generalize hu : State.mk .. = u; refine (?_ : State.Keeps strict s0 u → _) (.mk_eq hu ?_); clear hu) | split
    | with_reducible refine State.Keeps.of_pair (by assumption) ?_ | with_reducible refine State.Keeps.of_triple (by assumption) ?_
    | dsimp only

theorem execTrialConfirm_keeps {strict : Bool} {s0 s : State} (h : s0.Keeps strict s) : ∃ t, execTrialConfirm s = .next t ∧ s0.Keeps strict t := by
  unfold execTrialConfirm
  split
  · split
    · refine ⟨_, rfl, State.event_keeps (State.withdrawTending_keeps ?_) _ _ _ _⟩
      refine (State.modSlot_keeps (State.modSlot_keeps h _ _) _ _).trans
        ⟨rfl, fun _ => ⟨rfl, rfl⟩, id, id, le_max_left _ _, fun _ hk _ => hk⟩
    · exact ⟨_, rfl, h⟩
  · exact ⟨_, rfl, h⟩

theorem execFallback_keeps {strict : Bool} {s0 s : State} (h : s0.Keeps strict s) :
    ∃ t, (execFallback s) = .next t ∧ s0.Keeps strict t := by
  unfold execFallback
  repeat' first
    | with_reducible assumption | intro _ | ((fail_if_no_progress extract_lets +onlyGivenNames t); refine (?_ : State.Keeps strict s0 t → _) ?_; (on_goal 1 => intro ht; clear_value t); on_goal 2 => try unfold t)
    | fail_if_no_progress extract_lets +onlyGivenNames t | with_reducible apply State.errReset_keeps
    | with_reducible refine ⟨_, rfl, ?_⟩ | with_reducible apply State.failTrial_keeps | with_reducible apply State.warmReset_keeps
    | with_reducible apply settle_keeps
    | (generalize hu : State.mk .. = u; refine (?_ : State.Keeps strict s0 u → _) (.mk_eq hu ?_); clear hu) | split
    | with_reducible refine State.Keeps.of_pair (by assumption) ?_ | with_reducible refine State.Keeps.of_triple (by assumption) ?_
    | dsimp only

/-! Machine/RecorderCmds.lean. -/

theorem execFoldTimeout_keeps {strict : Bool} {s0 s : State} (h : s0.Keeps strict s) (source : BitVec 8) :
    ∃ t, (execFoldTimeout source s) = .next t ∧ s0.Keeps strict t := by
  unfold execFoldTimeout
  repeat' first
    | with_reducible assumption | intro _ | ((fail_if_no_progress extract_lets +onlyGivenNames t); refine (?_ : State.Keeps strict s0 t → _) ?_; (on_goal 1 => intro ht; clear_value t); on_goal 2 => try unfold t)
    | fail_if_no_progress extract_lets +onlyGivenNames t | with_reducible refine ⟨_, rfl, ?_⟩
    | with_reducible apply State.closeRecs_keeps
    | (generalize hu : State.mk .. = u; refine (?_ : State.Keeps strict s0 u → _) (.mk_eq hu ?_); clear hu) | split | dsimp only

theorem execPeatAppend_keeps {strict : Bool} {s0 s : State} (h : s0.Keeps strict s) (seq : Nat) : ∃ t, execPeatAppend seq s = .next t ∧ s0.Keeps strict t := by
  unfold execPeatAppend
  split
  · split
    next r _ =>
      refine ⟨_, rfl, ?_⟩
      with_reducible apply State.modRec_keeps h
      intro q c
      simp only [Recorder.bounded] at c ⊢
      exact ⟨c.1, logTrim_total _, c.2.2⟩
    · exact ⟨_, rfl, h⟩
  · exact ⟨_, rfl, h⟩

theorem execNumberReserveWrite_keeps {strict : Bool} {s0 s : State} (h : s0.Keeps strict s) :
    ∃ t, (execNumberReserveWrite s) = .next t ∧ s0.Keeps strict t := by
  unfold execNumberReserveWrite
  split
  · refine ⟨_, rfl, State.over_keeps ?_ (fun r u hu => State.writeRec_keeps hu r) _⟩
    refine State.modRec_keeps_same h _ ?_ ?_ ?_ ?_ <;> intro q <;> unfold Recorder.reserveNext <;> split <;> rfl
  · exact ⟨_, rfl, h⟩

/-! Machine/Registers.lean. -/

theorem State.refuseRead_keeps {strict : Bool} {s0 s : State} (h : s0.Keeps strict s) (k : Key) :
    s0.Keeps strict (State.refuseRead k s) := by
  unfold State.refuseRead
  repeat' first
    | with_reducible assumption | intro _ | ((fail_if_no_progress extract_lets +onlyGivenNames t); refine (?_ : State.Keeps strict s0 t → _) ?_; (on_goal 1 => intro ht; clear_value t); on_goal 2 => try unfold t)
    | fail_if_no_progress extract_lets +onlyGivenNames t | with_reducible apply State.answer_keeps
    | with_reducible apply State.contact_keeps | with_reducible apply State.endDap_keeps | with_reducible apply State.modCtx_keeps
    | with_reducible apply State.onFin_keeps | with_reducible apply State.report_keeps
    | (generalize hu : State.mk .. = u; refine (?_ : State.Keeps strict s0 u → _) (.mk_eq hu ?_); clear hu) | split
    | with_reducible refine State.Keeps.of_pair (by assumption) ?_ | with_reducible refine State.Keeps.of_triple (by assumption) ?_
    | dsimp only

theorem execEccUncorrectable_keeps {strict : Bool} {s0 s : State} (h : s0.Keeps strict s) (mem : Sys2Proof.Memory) (addr : BitVec 32) (requester : Sys2Proof.Requester) :
    ∃ t, (execEccUncorrectable mem addr requester s) = .next t ∧ s0.Keeps strict t := by
  unfold execEccUncorrectable
  repeat' first
    | with_reducible assumption | intro _ | ((fail_if_no_progress extract_lets +onlyGivenNames t); refine (?_ : State.Keeps strict s0 t → _) ?_; (on_goal 1 => intro ht; clear_value t); on_goal 2 => try unfold t)
    | fail_if_no_progress extract_lets +onlyGivenNames t | with_reducible apply State.errReset_keeps
    | with_reducible refine ⟨_, rfl, ?_⟩ | with_reducible apply State.appFault_keeps | with_reducible apply State.event_keeps
    | with_reducible apply State.irqEvent_keeps | with_reducible apply State.refuseRead_keeps | with_reducible apply settle_keeps
    | (generalize hu : State.mk .. = u; refine (?_ : State.Keeps strict s0 u → _) (.mk_eq hu ?_); clear hu) | split
    | with_reducible refine State.Keeps.of_pair (by assumption) ?_ | with_reducible refine State.Keeps.of_triple (by assumption) ?_
    | dsimp only

/-! Machine/Tick.lean. -/

theorem State.manageClock_keeps {strict : Bool} {s0 s : State} (h : s0.Keeps strict s) : s0.Keeps strict s.manageClock := by
  unfold State.manageClock
  split
  · refine .same (State.modFw_keeps h (fun w => if w.trial.isSome then
      { w with trialLeftMs := w.trialLeftMs - 1, settleMs := w.settleMs + 1 } else w) ?_ ?_) rfl rfl rfl rfl rfl rfl
    · intro w
      split <;> rfl
    · intro w
      split <;> rfl
  · exact h

theorem State.loopMeans_keeps {strict : Bool} {s0 s : State} (h : s0.Keeps strict s) (k : LoopNo) :
    s0.Keeps strict (State.loopMeans k s) := by
  unfold State.loopMeans
  repeat' first
    | with_reducible assumption | intro _ | ((fail_if_no_progress extract_lets +onlyGivenNames t); refine (?_ : State.Keeps strict s0 t → _) ?_; (on_goal 1 => intro ht; clear_value t); on_goal 2 => try unfold t)
    | fail_if_no_progress extract_lets +onlyGivenNames t | with_reducible apply State.modLoop_keeps
    | (generalize hu : State.mk .. = u; refine (?_ : State.Keeps strict s0 u → _) (.mk_eq hu ?_); clear hu) | split | dsimp only

theorem State.tickMeans_keeps {strict : Bool} {s0 s : State} (h : s0.Keeps strict s) :
    s0.Keeps strict (State.tickMeans s) := by
  unfold State.tickMeans
  repeat' first
    | with_reducible assumption | intro _ | ((fail_if_no_progress extract_lets +onlyGivenNames t); refine (?_ : State.Keeps strict s0 t → _) ?_; (on_goal 1 => intro ht; clear_value t); on_goal 2 => try unfold t)
    | fail_if_no_progress extract_lets +onlyGivenNames t | with_reducible apply State.each_keeps
    | with_reducible apply State.groupTick_keeps | with_reducible apply State.idCeiling_keeps
    | with_reducible apply State.loopMeans_keeps | with_reducible apply State.modCell_keeps
    | (generalize hu : State.mk .. = u; refine (?_ : State.Keeps strict s0 u → _) (.mk_eq hu ?_); clear hu) | split | dsimp only

theorem State.tickAdopt_keeps {strict : Bool} {s0 s : State} (h : s0.Keeps strict s) :
    s0.Keeps strict (State.tickAdopt s) := by
  unfold State.tickAdopt
  repeat' first
    | with_reducible assumption | intro _ | ((fail_if_no_progress extract_lets +onlyGivenNames t); refine (?_ : State.Keeps strict s0 t → _) ?_; (on_goal 1 => intro ht; clear_value t); on_goal 2 => try unfold t)
    | fail_if_no_progress extract_lets +onlyGivenNames t | with_reducible apply State.adoptEntry_keeps
    | with_reducible apply State.adoptSet_keeps | with_reducible apply State.each_keeps | with_reducible apply State.over_keeps
    | (generalize hu : State.mk .. = u; refine (?_ : State.Keeps strict s0 u → _) (.mk_eq hu ?_); clear hu) | split | dsimp only

theorem State.tickSwap_keeps {strict : Bool} {s0 s : State} (h : s0.Keeps strict s) :
    s0.Keeps strict (State.tickSwap s) := by
  unfold State.tickSwap
  repeat' first
    | with_reducible assumption | intro _ | ((fail_if_no_progress extract_lets +onlyGivenNames t); refine (?_ : State.Keeps strict s0 t → _) ?_; (on_goal 1 => intro ht; clear_value t); on_goal 2 => try unfold t)
    | fail_if_no_progress extract_lets +onlyGivenNames t | with_reducible apply State.giveResults_keeps
    | with_reducible apply State.swapHalves_keeps
    | (generalize hu : State.mk .. = u; refine (?_ : State.Keeps strict s0 u → _) (.mk_eq hu ?_); clear hu) | split | dsimp only

theorem State.stageTick_keeps {strict : Bool} {s0 s : State} (h : s0.Keeps strict s) (changed : Bool) (k : LoopNo) :
    s0.Keeps strict (State.stageTick changed k s) := by
  unfold State.stageTick
  repeat' first
    | with_reducible assumption | intro _ | ((fail_if_no_progress extract_lets +onlyGivenNames t); refine (?_ : State.Keeps strict s0 t → _) ?_; (on_goal 1 => intro ht; clear_value t); on_goal 2 => try unfold t)
    | fail_if_no_progress extract_lets +onlyGivenNames t | with_reducible apply State.addPhase_keeps
    | with_reducible apply State.modLoop_keeps | with_reducible apply State.over_keeps
    | (generalize hu : State.mk .. = u; refine (?_ : State.Keeps strict s0 u → _) (.mk_eq hu ?_); clear hu) | split
    | with_reducible refine State.Keeps.of_pair (by assumption) ?_ | with_reducible refine State.Keeps.of_triple (by assumption) ?_
    | dsimp only

theorem State.plan_keeps {strict : Bool} {s0 s : State} (h : s0.Keeps strict s) :
    s0.Keeps strict (State.plan s) := by
  unfold State.plan
  repeat' first
    | with_reducible assumption | intro _ | ((fail_if_no_progress extract_lets +onlyGivenNames t); refine (?_ : State.Keeps strict s0 t → _) ?_; (on_goal 1 => intro ht; clear_value t); on_goal 2 => try unfold t)
    | fail_if_no_progress extract_lets +onlyGivenNames t | with_reducible apply State.allocate_keeps
    | with_reducible apply State.batteryTick_keeps | with_reducible apply State.ledgerTick_keeps
    | with_reducible apply State.thermalRequests_keeps
    | (generalize hu : State.mk .. = u; refine (?_ : State.Keeps strict s0 u → _) (.mk_eq hu ?_); clear hu) | split | dsimp only

theorem State.laneCounts_keeps {strict : Bool} {s0 s : State} (h : s0.Keeps strict s) (l : Lane) :
    s0.Keeps strict (State.laneCounts l s) := by
  unfold State.laneCounts
  repeat' first
    | with_reducible assumption | intro _ | ((fail_if_no_progress extract_lets +onlyGivenNames t); refine (?_ : State.Keeps strict s0 t → _) ?_; (on_goal 1 => intro ht; clear_value t); on_goal 2 => try unfold t)
    | fail_if_no_progress extract_lets +onlyGivenNames t | with_reducible apply State.fresh_keeps
    | with_reducible apply State.modLane_keeps
    | (generalize hu : State.mk .. = u; refine (?_ : State.Keeps strict s0 u → _) (.mk_eq hu ?_); clear hu) | split
    | with_reducible refine State.Keeps.of_pair (by assumption) ?_ | with_reducible refine State.Keeps.of_triple (by assumption) ?_
    | dsimp only

theorem State.tickBoundary_keeps {strict : Bool} {s0 s : State} (h : s0.Keeps strict s) :
    s0.Keeps false (State.tickBoundary s) := by
  unfold State.tickBoundary
  replace h := h.loose
  repeat' first
    | with_reducible assumption | intro _ | ((fail_if_no_progress extract_lets +onlyGivenNames t); refine (?_ : State.Keeps false s0 t → _) ?_; (on_goal 1 => intro ht; clear_value t); on_goal 2 => try unfold t)
    | fail_if_no_progress extract_lets +onlyGivenNames t | with_reducible apply State.adoptProfile_keeps
    | with_reducible apply State.arbitrate_keeps | with_reducible apply State.each_keeps | with_reducible apply State.idNext_keeps
    | with_reducible apply State.laneCounts_keeps | with_reducible apply State.ledgerClock_keeps
    | with_reducible apply State.plan_keeps | with_reducible apply State.stageTick_keeps
    | with_reducible apply State.tickAdopt_keeps | with_reducible apply State.tickMeans_keeps
    | with_reducible apply State.tickSwap_keeps | with_reducible apply State.traceSlow_keeps
    | (generalize hu : State.mk .. = u; refine (?_ : State.Keeps false s0 u → _) (.mk_eq hu ?_); clear hu) | split | dsimp only

theorem execLedgerTick_keeps {strict : Bool} {s0 s : State} (h : s0.Keeps strict s) :
    ∃ t, (execLedgerTick s) = .next t ∧ s0.Keeps false t := by
  unfold execLedgerTick
  replace h := h.loose
  repeat' first
    | with_reducible assumption | intro _ | ((fail_if_no_progress extract_lets +onlyGivenNames t); refine (?_ : State.Keeps false s0 t → _) ?_; (on_goal 1 => intro ht; clear_value t); on_goal 2 => try unfold t)
    | fail_if_no_progress extract_lets +onlyGivenNames t | with_reducible apply State.errReset_keeps
    | with_reducible refine ⟨_, rfl, ?_⟩ | with_reducible apply State.chooseRequest_keeps
    | with_reducible apply State.dormantWake_keeps | with_reducible apply State.manageClock_keeps
    | with_reducible apply State.modClk_keeps | with_reducible apply State.tickBoundary_keeps | with_reducible apply settle_keeps
    | (generalize hu : State.mk .. = u; refine (?_ : State.Keeps false s0 u → _) (.mk_eq hu ?_); clear hu) | split | dsimp only

end Sys2Proof.Machine
end

