-- ==== Sys2Proof/Laws/Writes.lean ====
section
/-! SUPPORT. Laws/Writes.lean: what a served and admitted write of a host comes to, whatever its channel. -/

namespace Sys2Proof.Machine

/-- An instance named by its own index. -/
theorem inst?_self {n : Nat} (base : Nat) (c : Fin n) : inst? base n (base + c) = some c := by
  have : base + (c : Nat) - base = c := by omega
  simp [inst?, toFin?, this]

/-- A served key finds its context, which the contact touches (R282). -/
theorem State.contact_of_serves {s : State} {who : Key} {h : HostNo} (hs : s.serves who h) : s.contact who = (some h, s.touch h) := by
  simp [State.contact, hs.2.1]

/-- What a contact changes: the silence of its host and the lease of the lock it may hold. -/
theorem State.touch_eq (s : State) (h : HostNo) :
    ∃ n, s.touch h = { s with hosts := s.hosts.set h { s.hosts[h] with silenceMs := 0 }, lockMs := n } := by
  unfold State.touch
  dsimp only
  split
  · exact ⟨_, rfl⟩
  · exact ⟨s.lockMs, rfl⟩

theorem State.touch_cls (s : State) (h c : HostNo) : (s.touch h).hosts[c].cls = s.hosts[c].cls := by
  obtain ⟨n, e⟩ := s.touch_eq h
  simp only [e, Fin.getElem_fin, Vector.getElem_set]
  split
  next i => simp only [Fin.val_inj] at i; subst i; rfl
  · rfl

theorem State.touch_ownSink (s : State) (h c : HostNo) : (s.touch h).hosts[c].ownSink = s.hosts[c].ownSink := by
  obtain ⟨n, e⟩ := s.touch_eq h
  simp only [e, Fin.getElem_fin, Vector.getElem_set]
  split
  next i => simp only [Fin.val_inj] at i; subst i; rfl
  · rfl

theorem State.touch_lockOwner (s : State) (h : HostNo) : (s.touch h).lockOwner = s.lockOwner := by
  obtain ⟨n, e⟩ := s.touch_eq h
  rw [e]

theorem State.touch_cells (s : State) (h : HostNo) : (s.touch h).cells = s.cells := by
  obtain ⟨n, e⟩ := s.touch_eq h
  rw [e]

theorem State.touch_dict (s : State) (h : HostNo) : (s.touch h).dict = s.dict := by
  obtain ⟨n, e⟩ := s.touch_eq h
  rw [e]

/-- Replacing an element by one that the filter and the map do not tell from it changes nothing. -/
theorem filter_map_set {α β : Type} (p : α → Bool) (f : α → β) (y : α) (l : List α) (i : Nat)
    (h : ∀ x, l[i]? = some x → p y = p x ∧ f y = f x) : ((l.set i y).filter p).map f = (l.filter p).map f := by
  induction l generalizing i with
  | nil => rfl
  | cons a r ih =>
    cases i with
    | zero =>
      obtain ⟨hp, hf⟩ := h a rfl
      simp only [List.set_cons_zero, List.filter_cons, hp]
      split <;> simp [hf]
    | succ i =>
      have := ih i (by simpa using h)
      simp only [List.set_cons_succ, List.filter_cons]
      split <;> simp [this]

/-- A contact changes no right to write (R6, R284). -/
theorem State.touch_admits {s : State} {h : HostNo} {index sub : Nat} {data : Bytes} {v : Int} (ha : s.admits h index sub data v) :
    (s.touch h).admits h index sub data v := by
  obtain ⟨e, h1, h2, h3, h4, h5, h6⟩ := ha
  refine ⟨e, h1, ?_, ?_, h4, h5, h6⟩
  · rw [← h2]
    unfold State.mayWrite State.sltMay
    simp only [State.touch_cls, State.touch_ownSink]
  · rw [← h3]
    simp only [State.lockBars, State.touch_cls, State.touch_lockOwner]

/-- A contact opens no session. -/
theorem State.touch_portFull (s : State) (h : HostNo) (who : Key) : (s.touch h).portFull who = s.portFull who := by
  obtain ⟨n, e⟩ := s.touch_eq h
  simp only [State.portFull, State.openOn, e, Vector.toList_set]
  rw [filter_map_set]
  · rfl
  · intro x hx
    have : x = s.hosts[h] := by
      rw [List.getElem?_eq_getElem (by simp)] at hx
      simpa using hx.symm
    subst this
    simp

/-- A served and admitted write comes to its entry's own rule. -/
theorem State.hostWrite_served {s t : State} {who : Key} {h : HostNo} {index sub : Nat} {data : Bytes} {v : Int} (hs : s.serves who h)
    (ha : s.admits h index sub data v) (hm : index ≠ 0x2104) (hi : index ≠ 0x1010)
    (hw : writeValue h index sub v (s.touch h) = (0, t)) : s.hostWrite who index sub data = .next (s.wrote index sub t) := by
  obtain ⟨e, h1, h2, h3, h4, h5, h6⟩ := State.touch_admits ha
  simp [State.hostWrite, State.serve, hs.1, State.contact_of_serves hs, State.answerWrite, State.touch_portFull, hs.2.2, State.write, hm,
    State.writeEntry, h1, h2, h3, h4, h5, h6, hw, hi, settle, State.wrote]

/-- The same for a DOMAIN. -/
theorem State.hostWrite_domain {s t : State} {who : Key} {h : HostNo} {index sub : Nat} {data : Bytes} (hs : s.serves who h)
    (ha : s.admitsDomain h index sub) (hm : index ≠ 0x2104) (hi : index ≠ 0x1010)
    (hw : writeDomain h index data (s.touch h) = (0, t)) : s.hostWrite who index sub data = .next (s.wrote index sub t) := by
  obtain ⟨e, h1, h2, h3, h4⟩ := ha
  have h2' : (s.touch h).mayWrite h index sub e = true := by
    rw [← h2]
    unfold State.mayWrite State.sltMay
    simp only [State.touch_cls, State.touch_ownSink]
  have h3' : (s.touch h).lockBars h e = false := by
    rw [← h3]
    simp only [State.lockBars, State.touch_cls, State.touch_lockOwner]
  simp [State.hostWrite, State.serve, hs.1, State.contact_of_serves hs, State.answerWrite, State.touch_portFull, hs.2.2, State.write, hm,
    State.writeEntry, h1, h2', h3', h4, hw, hi, settle, State.wrote]

/-! Where a write goes by its index. -/

theorem writeValue_cell (h : HostNo) (c : CellNo) (sub : Nat) (v : Int) (s : State) :
    writeValue h (0x3000 + c) sub v s = writeCell h c sub v s := by
  have := c.isLt
  rw [writeValue, if_neg (by omega), if_neg (by omega), if_pos (by omega), inst?_self]

theorem writeValue_loop (h : HostNo) (k : LoopNo) (sub : Nat) (v : Int) (s : State) :
    writeValue h (0x3100 + k) sub v s = writeLoop h k sub v s := by
  have := k.isLt
  rw [writeValue, if_neg (by omega), if_neg (by omega), if_neg (by omega), if_pos (by omega), inst?_self]

theorem writeValue_string (h : HostNo) (n : StringNo) (sub : Nat) (v : Int) (s : State) :
    writeValue h (0x3300 + n) sub v s = writeString n sub v s := by
  have := n.isLt
  rw [writeValue, if_neg (by omega), if_neg (by omega), if_neg (by omega), if_neg (by omega), if_neg (by omega), if_pos (by omega),
    inst?_self]

theorem writeValue_groupEnable (h : HostNo) (g : GroupNo) (v : Int) (s : State) :
    writeValue h (0x3200 + g) 2 v s = writeGroupEnable g v.toNat s := by
  have := g.isLt
  rw [writeValue, if_neg (by omega), if_neg (by omega), if_neg (by omega), if_neg (by omega), if_pos (by omega), inst?_self]
  rfl

theorem writeValue_groupClear (h : HostNo) (g : GroupNo) (v : Int) (s : State) :
    writeValue h (0x3200 + g) 0x1A v s = writeGroupClear g v.toNat s := by
  have := g.isLt
  rw [writeValue, if_neg (by omega), if_neg (by omega), if_neg (by omega), if_neg (by omega), if_pos (by omega), inst?_self]
  rfl

theorem writeValue_recordReset (h : HostNo) (n : StringNo) (v : Int) (s : State) :
    writeValue h (0x4320 + n) 2 v s = writeRecordReset n v.toNat s := by
  have := n.isLt
  rw [writeValue, if_neg (by omega), if_neg (by omega), if_neg (by omega), if_neg (by omega), if_neg (by omega), if_neg (by omega),
    if_neg (by omega), if_pos (by omega), inst?_self]

theorem writeValue_rail (h : HostNo) (r : RailNo) (v : Int) (s : State) :
    writeValue h (0x2310 + r) 0xE v s = writeRailClear r v.toNat s := by
  have := r.isLt
  rw [writeValue, if_neg (by omega), if_pos (by omega), writeShelf, if_pos (by omega), inst?_self]

theorem writeValue_trace (h : HostNo) (u : TraceNo) (v : Int) (s : State) :
    writeValue h (0x2610 + u) 0x14 v s = writeTraceCommand u v.toNat s := by
  have := u.isLt
  rw [writeValue, if_neg (by omega), if_pos (by omega), writeShelf, if_neg (by omega), if_neg (by omega), if_neg (by omega),
    if_neg (by omega), if_neg (by omega), if_pos (by omega), inst?_self]
  rfl

/-! Frames of a two-wire port. -/

/-- A frame that a port takes comes to its own effect after the contact (R309, R310). -/
theorem State.twFrame_taken {s t : State} {p : TwNo} {src : BitVec 7} {h : HostNo} (f : HostNo → State → State) (ht : s.twTakes p src h t) :
    s.twFrame p src f = .next (State.errReset s (f h t)) := by
  simp only [State.twFrame, ht.1, if_true, ht.2, settle]

/-- A write frame whose length is right and whose PEC, if any, holds comes to its effect on the data (R307, R308). -/
theorem State.twWrite_framed {s t : State} {p : TwNo} {src : BitVec 7} {h : HostNo} {cmd : Nat} {b : Bytes}
    {o : Option (Bytes × Option Byte)} (f : Bytes → HostNo → State → State) (ht : s.twTakes p src h t)
    (ho : (o = some (b, none) ∧ t.cfgN (0x2800 + p) 5 = 0) ∨ o = some (b, some (crc8 (t.frameHead p cmd src ++ b)))) :
    s.twWrite p src cmd o f = .next (State.errReset s (f b h t)) := by
  rcases ho with ⟨rfl, hc⟩ | rfl <;> simp [State.twWrite, State.twFrame_taken _ ht, *]

/-- What a fixed write of data alone, or of data and one more byte, parses to. -/
theorem fixed_of_framed {n : Nat} {b d : Bytes} {x : Byte} {q : Prop} (hn : b.length = n) (hd : d = b ++ [x] ∨ (d = b ∧ q)) :
    (fixedBytes n d = some (b, none) ∧ q) ∨ fixedBytes n d = some (b, some x) := by
  rcases hd with rfl | ⟨rfl, hq⟩
  · right; simp [fixedBytes, ← hn]
  · left; simp [fixedBytes, hn, hq]

/-! Frames of the service port. -/

/-- A new and whole Fafort frame of an admitted length comes to its body's answer, on the state with the request noted (R361). -/
theorem State.frame_taken {s : State} {type : Nat} {f : Sys2Proof.Fafort} {fits : Nat → Bool} (body : Bytes → State → Answer)
    (ht : s.fafortTakes type f) (hl : fits f.payload.length = true) :
    s.frame type f fits body =
      .next (s.framed f (body f.payload s.requested).1 (body f.payload s.requested).2.1 (body f.payload s.requested).2.2) := by
  obtain ⟨h1, h2, h3⟩ := ht
  simp [State.frame, h1, h2, h3, hl, settle, State.framed, State.requested]

/-- The same inside an authenticated session (R362). -/
theorem State.sessionFrame_taken {s t : State} {type : Nat} {f : Sys2Proof.Fafort} {h : HostNo} {fits : Nat → Bool}
    (body : Bytes → HostNo → State → Answer) (ht : s.sessionTakes type f h t) (hl : fits f.payload.length = true) :
    s.sessionFrame type f fits body =
      .next (s.framed f (body f.payload h t).1 (body f.payload h t).2.1 (body f.payload h t).2.2) := by
  obtain ⟨h1, h2, h3, rfl⟩ := ht
  have h2' : s.requested.fw.session.authed = true := h2
  have h3' : s.requested.ctxOf serviceKey = some h := h3
  simp only [State.sessionFrame, State.frame_taken _ h1 hl, h2', h3']

end Sys2Proof.Machine
end

