-- ==== Sys2Proof/WellFormed.lean ====
section
/-! DEFINITION. WellFormed.lean: the commands that the outside can send: operands that fit the fields that carry them. The meanings
are total, so they do not rest on it; statements about what a command does on proper operands name it. -/

namespace Sys2Proof

/-- The key is one of Table 13-5a. -/
def Key.wf (k : Key) : Bool :=
  match k.kind with
  | .usdo => decide (k.port < 2) && decide (1 ≤ k.addr ∧ k.addr ≤ 127)
  | .sdo => decide (k.port < 2) && decide (k.addr < 8)
  | .twoWire => decide (k.port < 12) && decide (k.addr < 128)
  | .dap => k.port = 0 && decide (k.addr < 2)
  | .service => k.port = 0 && k.addr = 0

/-- An index of 16 bits and a subindex of 8 (R290). -/
def spot (index sub : Nat) : Bool := decide (index < 0x10000) && decide (sub < 0x100)

/-- A value that a transfer can carry whole: an entry's value has at most 4 096 bytes (R303). -/
def valueOk (b : Bytes) : Bool := decide (b.length ≤ 4096)

/-- A CAN node address (R268). -/
def nodeOk (n : Nat) : Bool := decide (1 ≤ n ∧ n ≤ 127)

/-- A dictionary access. -/
def Access.wf : Access → Bool
  | .read index sub offset => spot index sub && decide (offset < 0x100000000)
  | .write index sub data => spot index sub && valueOk data

/-- The findings of a repair: each channel once, and at most the 112 bytes of a record written (R45, R59). -/
def RepairFinding.wf (f : RepairFinding) : Bool := decide (f.points.map (·.channel)).Nodup && decide (f.written ≤ 112)

/-- A transfer of a pack brings at most 48 bytes (Table 09-1). -/
def Tries.wf (t : Tries) : Bool := (t.first.all fun b => b.length ≤ 48) && t.again.all fun b => b.length ≤ 48

/-- What a pack answered: at most four reads of RESPONSE (R207). -/
def PackAnswer.wf (a : PackAnswer) : Bool :=
  a.packId.wf && a.history.wf && decide (a.responses.length ≤ 4) && a.responses.all Tries.wf

/-- One poll of a pack: of one to four devices (R202). -/
def PackPoll.wf : PackPoll → Bool
  | .blocks ds => decide (1 ≤ ds.length ∧ ds.length ≤ 4) && ds.all fun d => d.1.wf && d.2.wf
  | .temperature t => t.wf

/-- A regulator's answer: a two-wire address, and reads of at most a block of 32 bytes with its count and PEC (Table 15-7). -/
def RegAnswer.wf (a : RegAnswer) : Bool :=
  decide (a.addr < 128) && [a.revision, a.capability, a.voutMode, a.mfrId, a.statusWord, a.vin, a.vout, a.iout, a.temp, a.pout].all
    Tries.wf

/-- A holdover error within the 1 % of R373, in 0.01 %. -/
def holdoverOk (e : Int) : Bool := decide (-100 ≤ e ∧ e ≤ 100)

/-- A Fafort frame whose payload a length field can count (R361). -/
def Fafort.wf (f : Fafort) : Bool := decide (f.payload.length < 0x10000)

/-- The operands fit the fields that carry them. -/
def Instr.wf : Instr → Bool
  | .boot _ fails _ _ _ => decide fails.Nodup
  | .modeRequest who data => who.wf && valueOk data
  | .shutdownLatchClear who data => who.wf && valueOk data
  | .profileSelect who data => who.wf && valueOk data
  | .latencyBudgetWrite who _ data => who.wf && valueOk data
  | .ownPowerPeakClear who data => who.wf && valueOk data
  | .consumptionUpdate watch loop channel manage => [watch, loop, channel, manage].all fun v => decide (v < 0x100000000)
  | .hostWake who fails => who.wf && decide fails.Nodup
  | .loopPeriod _ _ _ => true
  | .loopEnable who _ data => who.wf && valueOk data
  | .activeSetWrite who _ data => who.wf && valueOk data
  | .safeLockWrite who _ data => who.wf && valueOk data
  | .arm who _ => who.wf
  | .forceTrigger who _ => who.wf
  | .disarm who _ => who.wf
  | .cycleByCycleLimit _ step _ => decide (step < 1024000)
  | .faultLatchClear who _ data => who.wf && valueOk data
  | .safeActionWrite who _ data => who.wf && valueOk data
  | .calRecordWrite who _ data => who.wf && valueOk data
  | .blockAdcFrame _ _ => true
  | .drain who _ => who.wf
  | .drainForce who _ => who.wf
  | .commit who _ => who.wf
  | .repair who _ => who.wf
  | .release who _ => who.wf
  | .abandon who _ => who.wf
  | .repairDone _ finding => finding.wf
  | .lineQualified _ => true
  | .groupEnable who _ data => who.wf && valueOk data
  | .dischargeEnd _ => true
  | .groupClear who _ data => who.wf && valueOk data
  | .feederClear who _ data => who.wf && valueOk data
  | .feedEnable who _ data => who.wf && valueOk data
  | .orClear who _ data => who.wf && valueOk data
  | .orEnable who _ data => who.wf && valueOk data
  | .grantRequest who data => who.wf && valueOk data
  | .packPoll _ poll => poll.wf
  | .stringAuthenticate _ answer => answer.wf
  | .stringBlockLimit _ => true
  | .stringEnable who _ data => who.wf && valueOk data
  | .stringClear who _ data => who.wf && valueOk data
  | .recordReset who _ data => who.wf && valueOk data
  | .railClear who _ data => who.wf && valueOk data
  | .mismatch kind inst _ _ => decide (kind < 256) && decide (inst < 256)
  | .bgSelftestFail _ unit => decide (unit < 256)
  | .returnA who => who.wf
  | .returnB who => who.wf
  | .retireStandby who => who.wf
  | .heartbeatReceived _ node => nodeOk node
  | .heartbeatLost _ node => nodeOk node
  | .lssConfigureBitTiming _ rateK => decide (rateK < 0x10000)
  | .lssConfigureNodeId _ node => decide (node < 256)
  | .usdoRequest who access => (who.kind = .usdo || who.kind = .sdo) && who.wf && access.wf
  | .segmentedTransferTimeout who => who.wf
  | .dictWrite who index sub data => who.wf && spot index sub && valueOk data
  | .agreementAdoption set inst _ => decide (1 ≤ set ∧ set ≤ 0x14) && decide (inst < 48)
  | .multiWrite who data => who.wf && valueOk data
  | .rpdoReceived _ data => decide (data.length ≤ 64)
  | .lockCmd who data => who.wf && valueOk data
  | .dapRead _ _ index sub offset => spot index sub && decide (offset < 0x100000000)
  | .dapWrite _ _ index sub data => spot index sub && decide (data.length ≤ 1024)
  | .dapMultiWrite _ _ data => decide (data.length ≤ 1024)
  | .storeSave who sub data => who.wf && decide (sub < 256) && valueOk data
  | .restoreLoad who sub data => who.wf && decide (sub < 256) && valueOk data
  | .dictSelect _ _ _ => true
  | .twDictWrite _ _ _ => true
  | .eventCursor _ _ _ => true
  | .twGrantRequest _ _ _ => true
  | .regulatorPoll _ answers => answers.all RegAnswer.wf
  | .scrubGo _ _ _ start words => decide (start < 0x100000000) && decide (words < 0x100000000)
  | .peatAppend seq => decide (1 ≤ seq ∧ seq < 0xFFFFFFFF)
  | .window who _ => who.wf
  | .cursor who _ data => who.wf && valueOk data
  | .ringRetire who _ data => who.wf && valueOk data
  | .gaspClear who data => who.wf && valueOk data
  | .authProve f => f.wf
  | .fafortDictRead f => f.wf
  | .fafortDictWrite f => f.wf
  | .imageBegin f => f.wf
  | .imageData f => f.wf
  | .keyWrite f => f.wf
  | .appConfirm _ data => valueOk data
  | .rollback who data => who.wf && valueOk data
  | .coldReset _ _ => true
  | .bootComplete => true
  | .manageRestart => true
  | .watchdogExpiry _ => true
  | .slotCrcFail _ => true
  | .linkLoss _ => true
  | .lclkLoss => true
  | .blockLocalReset _ _ _ => true
  | .ledgerTick => true
  | .phaseShed _ => true
  | .burstEntry _ => true
  | .sinkRestore _ => true
  | .grantExpiry _ => true
  | .noticeExpiry _ => true
  | .throttleOverCap _ => true
  | .throttleEnforce _ => true
  | .overrunStop _ => true
  | .shareRampComplete _ => true
  | .syncinEdge _ => true
  | .syncLocked _ => true
  | .syncLost => true
  | .softStartEnd _ => true
  | .pgRise _ => true
  | .startAbort _ _ => true
  | .hiccupRetry _ => true
  | .hiccupReload _ => true
  | .phaseDrop _ _ => true
  | .startInputQualified _ => true
  | .coefficientWordLand _ => true
  | .fastTrip _ _ => true
  | .oringReverse _ _ => true
  | .driverFlt _ _ => true
  | .senseRangeFault _ _ _ => true
  | .bitclkLoss _ _ => true
  | .bitstreamStuck _ _ => true
  | .holdWindow _ => true
  | .maintCmdStart _ => true
  | .drainComplete _ => true
  | .drainTimeout _ => true
  | .cellStartComplete _ => true
  | .lineVendSample _ _ => true
  | .groupStart _ => true
  | .groupRampComplete _ => true
  | .groupStop _ _ => true
  | .heldTestMet _ _ => true
  | .leakTrip _ _ => true
  | .groupRetry _ => true
  | .groupRetryReload _ => true
  | .idCycle => true
  | .identificationDone _ => true
  | .busLoopSample => true
  | .slotPresent _ => true
  | .unseat _ => true
  | .unseat50ms _ => true
  | .insertionCountDone _ => true
  | .feederStart _ => true
  | .feederControlPeriod _ _ => true
  | .inrushTimeout _ => true
  | .passDeviceFault _ _ => true
  | .feederUnloaded _ => true
  | .feederRetry _ => true
  | .feederRetryReload _ => true
  | .oringControlPeriod _ _ => true
  | .oringRearm _ => true
  | .estimatorUpdate _ => true
  | .restWindowEnd _ _ => true
  | .restAnchor _ => true
  | .fullAnchor _ => true
  | .absorbTimeout _ => true
  | .impedanceRcUpdate _ => true
  | .stringAbsent _ => true
  | .stringLvd _ => true
  | .recordWriteback _ => true
  | .pgSample _ => true
  | .railSlot _ => true
  | .railPgTimeout _ => true
  | .railRetry _ => true
  | .railNotOff _ => true
  | .settleCommitted => true
  | .restartDelayEnd => true
  | .pfiAssert => true
  | .lastgaspCommitted _ => true
  | .pfiRelease => true
  | .thermalEvaluation _ _ => true
  | .thermalRateEvaluation _ => true
  | .thermalRelease _ => true
  | .derateStep _ => true
  | .regionDiffClear => true
  | .selftestDecision _ _ _ => true
  | .standbyInternalError => true
  | .laneWindow _ _ => true
  | .autoReturn _ => true
  | .laneReturnSelftestDone _ => true
  | .laneResyncDone _ => true
  | .laneCopyTimeout => true
  | .canBusOff _ => true
  | .busOffRecovery _ => true
  | .nmtResetNode _ => true
  | .nmtResetCommunication _ => true
  | .nmtStart _ => true
  | .nmtStop _ => true
  | .nmtEnterPreoperational _ => true
  | .heartbeatProduce _ => true
  | .syncReceived _ => true
  | .timeReceived _ days ms => decide (days < 0x10000) && decide (ms < 0x10000000)
  | .lssStoreConfiguration _ => true
  | .tpdoEventCheck => true
  | .emcyInhibitExpiry _ => true
  | .lingerExpiry _ => true
  | .lockLeaseExpiry => true
  | .dapAbort _ => true
  | .dapRequestEnd _ => true
  | .storeWritten _ => true
  | .twStatus _ _ _ => true
  | .twDictRead _ _ _ => true
  | .dictResult _ _ _ => true
  | .eventWindow _ _ _ => true
  | .grantState _ _ _ => true
  | .alertCause _ _ _ => true
  | .portInfo _ _ _ => true
  | .quickCommand _ => true
  | .alertResponse _ _ _ => true
  | .twBusError _ _ => true
  | .stretchLimit _ => true
  | .portSleep _ => true
  | .hostNotify _ _ => true
  | .hostNotifyRetry _ _ => true
  | .arbitrationLost _ _ => true
  | .twTimeout _ _ => true
  | .busRecovery _ sda => decide (sda.length ≤ 9)
  | .portFaultCheck _ _ => true
  | .appFault _ _ _ => true
  | .icuSourceEvent _ => true
  | .swset _ _ => true
  | .moderationRelease _ => true
  | .coreWfi _ => true
  | .claim _ => true
  | .complete _ _ => true
  | .targetWrite _ _ _ => true
  | .timerCompareWrite _ _ _ _ => true
  | .timerCompareMatch _ _ => true
  | .timeLoRead _ => true
  | .eccCorrected _ _ _ => true
  | .eccUncorrectable _ _ _ => true
  | .scrubAbort _ _ _ _ _ => true
  | .scrubDone _ _ _ _ => true
  | .foldTimeout _ => true
  | .numberReserveWrite => true
  | .identify f => f.wf
  | .authBegin f => f.wf
  | .imageEnd f => f.wf
  | .activate f => f.wf
  | .close f => f.wf
  | .sessionTimeout => true
  | .authLockoutEnd => true
  | .activation => true
  | .activateCancelled => true
  | .trialConfirm => true
  | .fallback => true
  | .xinLost => true
  | .pllUnlock _ => true
  | .xinLocked errorCentiPct => holdoverOk errorCentiPct
  | .x32Fail => true
  | .wispTrim _ => true
  | .linkRetrain _ _ step _ => decide (-1 ≤ step ∧ step ≤ 1)
  | .addressRecognisedAsleep _ => true
  | .errCmd _ => true
  | .errorPassive _ _ => true
  | .tpdoEventTimer _ => true
  | .prioWrite _ _ _ => true
  | .thresholdWrite _ _ => true
  | .pllRelockRetry _ lockedCentiPct => lockedCentiPct.all holdoverOk

end Sys2Proof
end

