-- ==== Sys2Proof/Tests/Slice0.lean ====
section
/-! SUPPORT. Slice0.lean: tests: ill-formed operands that WellFormed refuses, one step of commands on small states with values taken from
the spec, and for every statement with hypotheses a state and operands that meet them (witness_<statement>, one conjunct per clause). -/

namespace Sys2Proof.Machine

open Sys2Proof

set_option maxRecDepth 100000
set_option Elab.async false

/-! Well-formed and ill-formed operands. -/
theorem test_wf_usdo_port : Key.wf { kind := .usdo, port := 2, addr := 5 } = false ∧ Key.wf { kind := .usdo, port := 1, addr := 5 } = true := by decide +kernel

theorem test_wf_usdo_addr : Key.wf { kind := .usdo, port := 0, addr := 128 } = false := by decide +kernel

theorem test_wf_sdo_channel : Key.wf { kind := .sdo, port := 0, addr := 8 } = false := by decide +kernel

theorem test_wf_two_wire : Key.wf { kind := .twoWire, port := 12, addr := 5 } = false := by decide +kernel

theorem test_wf_dap : Key.wf { kind := .dap, port := 0, addr := 2 } = false := by decide +kernel

theorem test_wf_service : Key.wf { kind := .service, port := 0, addr := 1 } = false ∧ Key.wf serviceKey = true := by decide +kernel

theorem test_wf_boot_twice :
    Instr.wf (.boot 0 [.checker, .checker] true { pass := true, signature := 0 } { pass := true, signature := 0 }) = false := by decide +kernel

theorem test_wf_wake_twice : Instr.wf (.hostWake serviceKey [.mothTrap, .mothTrap]) = false := by decide +kernel

theorem test_wf_value_long :
    Instr.wf (.modeRequest serviceKey (List.replicate 4097 0#8)) = false ∧ Instr.wf (.modeRequest serviceKey (byte 1)) = true := by decide +kernel

theorem test_wf_consumption : Instr.wf (.consumptionUpdate 0x100000000 0 0 0) = false := by decide +kernel

theorem test_wf_limit_step : Instr.wf (.cycleByCycleLimit 0 1024000 (.analog 0)) = false := by decide +kernel

theorem test_wf_finding : Instr.wf (.repairDone 0 { selfTestOk := true, written := 112, points :=
    [{ channel := 2, offset := 0, gainMean := 1 }, { channel := 2, offset := 0, gainMean := 1 }] }) = false := by decide +kernel

theorem test_wf_record : Instr.wf (.repairDone 0 { selfTestOk := true, written := 113, points := [] }) = false := by decide +kernel

theorem test_wf_pack_poll : Instr.wf (.packPoll 0 (.blocks [])) = false
    ∧ Instr.wf (.packPoll 0 (.temperature { first := some (List.replicate 49 0), again := none })) = false := by decide +kernel

/-- A pack that answers nothing. -/
def noPack : PackAnswer := { packId := ⟨none, none⟩, challenge := (true, true), responses := [], history := ⟨none, none⟩ }

theorem test_wf_pack_answer : Instr.wf (.stringAuthenticate 0 { noPack with responses := List.replicate 5 ⟨none, none⟩ }) = false
    ∧ Instr.wf (.stringAuthenticate 0 { noPack with responses := List.replicate 4 ⟨none, none⟩ }) = true := by decide +kernel

theorem test_wf_mismatch : Instr.wf (.mismatch 256 0 0 0) = false := by decide +kernel

theorem test_wf_unit : Instr.wf (.bgSelftestFail .a 256) = false := by decide +kernel

theorem test_wf_node : Instr.wf (.heartbeatReceived 0 128) = false ∧ Instr.wf (.heartbeatReceived 0 127) = true := by decide +kernel

theorem test_wf_time : Instr.wf (.timeReceived 0 0x10000 0) = false ∧ Instr.wf (.timeReceived 0 0 0x10000000) = false := by decide +kernel

theorem test_wf_lss_node : Instr.wf (.lssConfigureNodeId 0 256) = false := by decide +kernel

theorem test_wf_lss_rate : Instr.wf (.lssConfigureBitTiming 0 0x10000) = false := by decide +kernel

theorem test_wf_usdo_kind : Instr.wf (.usdoRequest serviceKey (.read 0x1018 1 0)) = false := by decide +kernel

theorem test_wf_spot :
    Instr.wf (.dictWrite serviceKey 0x10000 0 []) = false ∧ Instr.wf (.dictWrite serviceKey 0xFFFF 255 []) = true := by decide +kernel

theorem test_wf_set : Instr.wf (.agreementAdoption 0 0 0) = false ∧ Instr.wf (.agreementAdoption 0x15 0 0) = false := by decide +kernel

theorem test_wf_rpdo : Instr.wf (.rpdoReceived 0 (List.replicate 65 0#8)) = false := by decide +kernel

theorem test_wf_dap_write : Instr.wf (.dapWrite 0 [] 0x2005 4 (List.replicate 1025 0)) = false := by decide +kernel

theorem test_wf_recovery : Instr.wf (.busRecovery 0 (List.replicate 10 false)) = false := by decide +kernel

/-- A regulator that answers nothing. -/
def noAnswer (addr : Nat) : RegAnswer :=
  let n : Tries := ⟨none, none⟩
  { addr := addr, revision := n, capability := n, voutMode := n, mfrId := n, statusWord := n, vin := n, vout := n, iout := n, temp := n, pout := n }

theorem test_wf_regulator : Instr.wf (.regulatorPoll 0 [noAnswer 128]) = false ∧ Instr.wf (.regulatorPoll 0 [noAnswer 127]) = true := by decide +kernel

theorem test_wf_scrub : Instr.wf (.scrubGo 0 [] true 0x100000000 1) = false := by decide +kernel

theorem test_wf_fafort : Instr.wf (.imageBegin { seq := 0, length := 0, payload := List.replicate 0x10000 0, crc := 0 }) = false := by decide +kernel

theorem test_wf_peat : Instr.wf (.peatAppend 0xFFFFFFFF) = false := by decide +kernel

theorem test_wf_holdover : Instr.wf (.xinLocked 101) = false ∧ Instr.wf (.pllRelockRetry .l (some 101)) = false := by decide +kernel

theorem test_wf_retrain : Instr.wf (.linkRetrain true 0 2 true) = false := by decide +kernel

theorem test_decode_none : decodeTableWord 32 0 = none := rfl

/-! States and conditions for the tests. -/

/-- Host 0 on the service port, VND, in TENDING with everything up. -/
def on : State :=
  let r := State.reset
  { r with
    phase := .running, manage := .running, modes := { r.modes with mode := some .tending }
    fw := { r.fw with session := { r.fw.session with open_ := true, authed := true, host := some 0 } }
    hosts := r.hosts.set 0 { HostCtx.reset with used := true, key := serviceKey, cls := .vnd }
    lanes := { r.lanes with pair := .paired, active := some .a, token := some .a, a := { r.lanes.a with st := .active }
                            b := { r.lanes.b with st := .standby } }
    clk := { r.clk with xin := true, pllS := true, pllL := true, pllH := true, wclkCrystal := true }
    can := r.can.map fun x => { x with nmt := .operational }
    cores := r.cores.map fun x => { x with run := .running } }

/-- The same with another key. -/
def onAs (k : Key) (c : Sys2Proof.Machine.Class) : State := { on with hosts := on.hosts.set 0 { HostCtx.reset with used := true, key := k, cls := c } }

/-- What `serves` asks, as one test. -/
def okServe (s : State) (k : Key) (h : HostNo) : Bool := s.channelUp k && s.ctxOf k = some h && !s.portFull k

/-- What `admits` asks, as one test. -/
def okWrite (s : State) (h : HostNo) (index sub : Nat) (data : Bytes) (v : Int) : Bool :=
  match entryOf index sub with
  | some e => s.mayWrite h index sub e && !s.lockBars h e && e.ty.size = some data.length && e.ty.decode data = v && checkValue e v = 0
  | none => false

/-- What `admitsDomain` asks, as one test. -/
def okDomain (s : State) (h : HostNo) (index sub : Nat) : Bool :=
  match entryOf index sub with
  | some e => s.mayWrite h index sub e && !s.lockBars h e && e.ty.size = none
  | none => false

theorem okServe_serves {s : State} {k : Key} {h : HostNo} (w : okServe s k h = true) : s.serves k h := by
  simp only [okServe, Bool.and_eq_true, decide_eq_true_eq, Bool.not_eq_true'] at w
  exact ⟨w.1.1, w.1.2, w.2⟩

theorem okWrite_admits {s : State} {h : HostNo} {index sub : Nat} {data : Bytes} {v : Int} (w : okWrite s h index sub data v = true) :
    s.admits h index sub data v := by
  unfold okWrite at w
  split at w
  next e he =>
    simp only [Bool.and_eq_true, decide_eq_true_eq, Bool.not_eq_true'] at w
    exact ⟨e, he, w.1.1.1.1, w.1.1.1.2, w.1.1.2, w.1.2, w.2⟩
  next => cases w

theorem okDomain_admits {s : State} {h : HostNo} {index sub : Nat} (w : okDomain s h index sub = true) : s.admitsDomain h index sub := by
  unfold okDomain at w
  split at w
  next e he =>
    simp only [Bool.and_eq_true, decide_eq_true_eq, Bool.not_eq_true'] at w
    exact ⟨e, he, w.1.1, w.1.2, w.2⟩
  next => cases w

/-- An entry written and in force. -/
def State.given (s : State) (index sub : Nat) (v : Int) : State := (s.setWritten index sub v).setForce index sub v

/-- The state at a time in µs. -/
def State.at (s : State) (us : Nat) : State := s.modClk fun k => { k with timeUs := us }

/-- A whole Fafort frame (R361). -/
def frame (type seq : Nat) (payload : Bytes) : Sys2Proof.Fafort :=
  let head := byte 0xA5 ++ byte type ++ byte seq ++ [0] ++ le 2 payload.length
  { seq := BitVec.ofNat 8 seq, length := BitVec.ofNat 16 payload.length, payload := payload, crc := BitVec.ofNat 32 (crc32 (head ++ payload)) }

/-- `on` with five cells in service: 0 and 1 PHASE in loop 0, 8 LINE in loop 1 and group 0, 16 FEEDER, 24 ORING. -/
def lab : State :=
  let cell := fun (r : Role) (p : Nat) (x : Cell) => { x with st := .inService, role := r, pinMode := BitVec.ofNat 16 p }
  let s := ((((on.modCell 0 (cell .phase 0x418)).modCell 1 (cell .phase 0x418)).modCell 8 (cell .line 0x4B8)).modCell 16
    (cell .feeder 0x418)).modCell 24 (cell .oring 0x418)
  ((((s.given 0x3100 1 3).given 0x3101 1 256).given 0x3101 4 3).given 0x3200 1 8).given 0x3100 4 1

/-- The state after a command. -/
def after (c : Instr) (s : State) : State :=
  match exec c s with
  | .next t => t
  | _ => s

/-- Code of the newest record of the ring. -/
def newest (s : State) : Option Nat := s.recorder.ring.getLast?.map fun (r : Rec) => r.code

/-! One step of a command. -/

/-- Table 00-4: 2000:02 reads 0x00A1, low byte first. -/
theorem test_read_silicon_rev : (after (.dictWrite serviceKey 0x2000 2 (le 2 0)) on).reply.code = 0x06010002 ∧ (after (.usdoRequest { kind := .usdo, port := 0, addr := 5 } (.read 0x2000 2 0)) ((onAs { kind := .usdo, port := 0, addr := 5 } .obs).given 0x2102 2 1)).reply.data = [0xA1#8, 0] := by decide +kernel

/-- R304: an entry that does not exist is refused with 0x06020000. -/
theorem test_write_no_entry : (after (.dictWrite serviceKey 0x4FFF 1 (byte 0)) on).reply.code = 0x06020000 := by decide +kernel

/-- R304: a wrong length is refused with 0x06070010, a value outside its range with 0x06090030. -/
theorem test_write_length : (after (.dictWrite serviceKey 0x3010 0x49 (byte 0)) on).reply.code = 0x06070010 ∧ (after (.dictWrite serviceKey 0x3010 0x49 (le 2 0)) on).reply.code = 0x06090030 := by decide +kernel

/-- R304: a class below the write class is refused with 0x06010002. -/
theorem test_write_class : (after (.dictWrite serviceKey 0x3010 0x49 (le 2 60)) (onAs serviceKey .opr)).reply.code = 0x06010002 := by decide +kernel

/-- R284: a free lock is taken, and given up again. -/
theorem test_lock : (after (.lockCmd serviceKey (byte 1)) on).lockOwner = some 0 ∧ (after (.lockCmd serviceKey (byte 0)) (after (.lockCmd serviceKey (byte 1)) on)).lockOwner = none := by decide +kernel

/-- Table 02-3: 3 asks for TENDING. -/
theorem test_mode_request : (after (.modeRequest serviceKey (byte 3)) on).hosts[(0 : HostNo)].request = 3 := by decide +kernel

/-- R384: a cold reset holds the device and empties the ring. -/
theorem test_cold_reset : (after (.coldReset .rstN 0) on).phase = .held ∧ (after (.coldReset .rstN 0) on).recorder.ring = [] := by decide +kernel

/-- R367: after a cold reset with BOOTSEL 0 the confirmed slot boots. -/
theorem test_boot : (after (.boot 0 [] true { pass := true, signature := 0 } { pass := true, signature := 0 }) State.reset).phase = .booted := by decide +kernel

/-- R368: BOOTSEL other than 0 enters recovery. -/
theorem test_boot_recovery : (after (.boot 1 [] true { pass := true, signature := 0 } { pass := true, signature := 0 }) State.reset).phase = .recovery := by decide +kernel

/-- R375: the loss of XIN is recorded as 0xD001. -/
theorem test_xin_lost : (after .xinLost on).clk.xin = false ∧ newest (after .xinLost on) = some 0xD001 := by decide +kernel

/-- R12: the loss of the die link ends in the global safe state. -/
theorem test_link_loss : (after (.linkLoss .digital) lab).modes.safe = true := by decide +kernel

/-- R50: writing 1 to a bit of FAULT_LATCH clears it, 0 leaves it. -/
theorem test_fault_clear : (after (.faultLatchClear serviceKey 0 (le 2 4)) (lab.modCell 0 fun x => { x with faultLatch := 0x000C })).cells[(0 : CellNo)].faultLatch &&& 0x000C = 0x0008 := by decide +kernel

/-- R56: DRAIN is acted on at the next control period, in TENDING. -/
theorem test_drain : (after (.maintCmdStart 0) (after (.drain serviceKey 0) lab)).cells[(0 : CellNo)].st = .draining := by decide +kernel

/-- R57: at DRAIN_TIMEOUT, counted from the start of the removal of power, the cell is DRAINED with result 0x10 and 0x1020 is recorded. -/
theorem test_drain_timeout : let s := (lab.modCell 0 fun x => { x with st := .draining, removalUs := 5 }).given 0x3000 0x10 100
    let t := after (.drainTimeout 0) (s.at 100005)
    t.cells[(0 : CellNo)].st = .drained ∧ t.cells[(0 : CellNo)].maintResult = 0x10 ∧ newest t = some 0x1020
      ∧ (after (.drainTimeout 0) (s.at 100004)).cells[(0 : CellNo)].st = .draining := by decide +kernel

/-- Table 06-3: a group whose V_end has lain below QUAL_OFF_V for 1 ms stops, and not before. -/
theorem test_group_stop : let s := fun n : Nat => lab.modGroup 0 fun x => { x with st := .delivering, lostSteps := n }
    (after (.groupStop 0 .lineLost) (s stepsPerMs)).groups[(0 : GroupNo)].st ≠ .delivering
      ∧ (after (.groupStop 0 .lineLost) (s (stepsPerMs - 1))).groups[(0 : GroupNo)].st = .delivering := by decide +kernel

/-- R140: LEAK is recorded as 0x3008 and shown in its pin. -/
theorem test_leak : (after (.leakTrip 3 true) lab).pins.leak = 8 ∧ newest (after (.leakTrip 3 true) lab) = some 0x3008 := by decide +kernel

/-- R159: a present slot begins its insertion and is recorded as 0x4007. -/
theorem test_slot_present : let t := after (.slotPresent 16) ((lab.given 0x3010 0x26 0).modFeeder 16 fun f => { f with st := .empty })
    t.cells[(16 : CellNo)].feeder.st = .inserting ∧ newest t = some 0x4007 := by decide +kernel

/-- R167, Table 07-3: 30 A on 5 mΩ gives code 819, reached at 149.9 mV, and the trip turns the gate off. -/
theorem test_fast_trip : dacCode (150 / 250) = 819
    ∧ (let s := ((lab.given 0x3010 0x30 30000).given 0x3010 0x25 5000).modFeeder 16 fun f => { f with st := .on }
      ((after (.fastTrip 16 (.analog 150000)) s).cells[(16 : CellNo)].faultLatch.getLsbD 0)
        ∧ !(after (.fastTrip 16 (.analog 149000)) s).cells[(16 : CellNo)].faultLatch.getLsbD 0) := by decide +kernel

/-- R178: -5 000 µV at gain 8 gives code 502, and in bitstream mode 7 ones of 16 fall below it. -/
theorem test_reverse_code : dacCode (-5000 / 250000) = 502
    ∧ ({ lab.cells[(24 : CellNo)] with pinMode := 0x43C } : Cell).crosses (-5000 / 250000) true (.stream 0x7F) = true
    ∧ ({ lab.cells[(24 : CellNo)] with pinMode := 0x43C } : Cell).crosses (-5000 / 250000) true (.stream 0xFF) = false := by decide +kernel

/-- R178: the sixteenth reverse trip within the window latches the cell. -/
theorem test_reverse_latch : let s : State := (lab.at 500).modOring 24 fun o => { o with st := .regulating, revTimes := List.replicate 15 499 }
    (after (.oringReverse 24 (.analog (-100000))) s).cells[(24 : CellNo)].oring.st = .latched := by decide +kernel

/-- R18: the tick comes at the next whole millisecond. -/
theorem test_tick_time : (after .ledgerTick ({ on with clk := { on.clk with timeUs := 1500 } } : State)).clk.timeUs = 2000 := by decide +kernel

/-- R187: a grant request shows result PENDING. -/
theorem test_grant_pending : (after (.grantRequest serviceKey ([1#8, 3, 8] ++ List.replicate 45 0)) on).hosts[(0 : HostNo)].grantPending = true := by decide +kernel

/-- R203: a pack gone for 3 s is recorded as 0x6003. -/
theorem test_string_absent : let s := on.modString 0 fun b => { b with st := .open, present := false, goneUs := 7 }
    newest (after (.stringAbsent 0) (s.at 3000007)) = some 0x6003 ∧ newest (after (.stringAbsent 0) (s.at 3000006)) = newest s := by decide +kernel

/-- R231: a rail that was not off is retried by nothing. -/
theorem test_rail_retry_none : (after (.railRetry 0) on).seq.rails[(0 : RailNo)].st = on.seq.rails[(0 : RailNo)].st := by decide +kernel

/-- R232, R353: PFI enters SETTLING and record mode. -/
theorem test_pfi : (after .pfiAssert on).modes.mode = some .settling ∧ (after .pfiAssert on).seq.recordMode = true := by decide +kernel

/-- R28: in the global safe state PFI does not change the mode. -/
theorem test_pfi_safe : (after .pfiAssert ({ on with modes := { on.modes with safe := true } } : State)).modes.mode = some .tending := by decide +kernel

/-- R262: a standby with an internal error is retired. -/
theorem test_lane_retire : (after .standbyInternalError on).lanes.b.st = .retired := by decide +kernel

/-- R270: bus-off is counted and recorded as 0xA001. -/
theorem test_bus_off : (after (.canBusOff 1) on).can[(1 : CanNo)].busOffCount = 1 ∧ newest (after (.canBusOff 1) on) = some 0xA001 := by decide +kernel

/-- R268: NMT stop. -/
theorem test_nmt_stop : (after (.nmtStop 0) (on.given 0x2102 2 1)).can[(0 : CanNo)].nmt = .stopped := by decide +kernel

/-- R275: node 128 is refused and 255 taken as unconfigured. -/
theorem test_lss_node : (after (.lssConfigureNodeId 0 128) on).can[(0 : CanNo)].lssNode = none ∧ (after (.lssConfigureNodeId 0 255) on).can[(0 : CanNo)].lssNode = some 255 := by decide +kernel

/-- R332: with nothing ready CLAIM reads 0. -/
theorem test_claim_none : (after (.claim 0) on).reply.data = [0#8, 0, 0, 0] := by decide +kernel

/-- R332: CLAIM returns the ID of the ready source, 33 for shared source 0. -/
theorem test_claim : let s : State := (on.modSrc 0 fun x => { x with target := 1, prio := 3, pending := true, released := true, events := 1 })
    (after (.claim 1) s).reply.data = [33#8, 0, 0, 0] := by decide +kernel

/-- R338: TIME_LO reads the lower word and latches the upper. -/
theorem test_time_lo : let s : State := { on with clk := { on.clk with timeUs := 0x100000005 } }
    (after (.timeLoRead 2) s).cores[(2 : CoreNo)].timeHi = s.now / 0x100000000 := by decide +kernel

/-- R343: an application core's third fault in ten minutes halts it. -/
theorem test_app_fault : (after (.appFault 2 0 0) (on.modCore 2 fun x => { x with faultTimes := [0, 0] })).cores[(2 : CoreNo)].run = .halted := by decide +kernel

/-- R309: an unknown command code is counted. -/
theorem test_err_cmd : (after (.errCmd 3) (((on.given 0x2803 4 0x23).modTw 3 fun x => { x with st := .idle }))).tw[(3 : TwNo)].errCmd = 1 := by decide +kernel

/-- R319: the third failed recovery makes the port FAULT and is recorded as 0xA020. -/
theorem test_port_fault : let t := after (.busRecovery 3 (List.replicate 9 false)) (((on.given 0x2803 4 0x23).at 10000).modTw 3 fun x => { x with st := .idle, attempts := 2 })
    t.tw[(3 : TwNo)].st = .fault ∧ newest t = some 0xA020 := by decide +kernel

/-- R361: CLOSE ends the session with status 0. -/
theorem test_close : (after (.close (frame 0x3F 1 [])) on).fw.session.open_ = false
    ∧ (after (.close (frame 0x3F 1 [])) on).fw.session.lastReply.code = 0 := by decide +kernel

/-- R361: a frame whose CRC is wrong is answered 0x02 and not acted on. -/
theorem test_fafort_crc : (after (.close { frame 0x3F 1 [] with crc := 5 }) on).reply.code = 2
    ∧ (after (.close { frame 0x3F 1 [] with crc := 5 }) on).fw.session.open_ = true := by decide +kernel

/-- R361: a frame with the last sequence number is answered as before and not acted on. -/
theorem test_session_repeat : (after (.close (frame 0x3F 1 [])) (on.modSession fun x => { x with lastSeq := some 1 })).fw.session.open_ = true := by decide +kernel

/-- R301: the watchdog, once its time has passed, resets MANAGE warm. -/
theorem test_watchdog : (after (.watchdogExpiry 0) (on.at 100000000)).manage = .warmReset := by decide +kernel

/-- Log 18: on an empty queue a step advances TIME by one microsecond. -/
theorem test_idle_step : (match step on with | .next t => t.clk.timeUs | _ => 0) = on.clk.timeUs + 1 := by decide +kernel

/-- The command at the front runs first and leaves the queue. -/
theorem test_queue_order : (match step ({ on with pending := [.claim 0, .xinLost] } : State) with | .next t => t.pending | _ => []) = [.xinLost] := by decide +kernel

/-! Every statement with hypotheses has states and operands that meet them: witness_<statement>, a clause's hypotheses on each line. -/

theorem witness_StepRunsFront : ({ on with pending := [.xinLost, .claim 0] } : State).pending = .xinLost :: [.claim 0] := by decide +kernel

theorem witness_IdleStep : on.pending = [] ∧ State.reset.pending = [] := by and_intros <;> decide +kernel

theorem witness_ClockCommands :
    (on.phase ≠ .held ∧ on.manage ≠ .deep ∧ on.clk.xin = true)
    ∧ (on.dormant = false ∧ on.clk.locked .s = true ∧ on.clk.locked .h = true)
    ∧ (let s := (on.modClk fun k => { k with xin := false, lostUs := 3 }).at 1203;
      s.clk.xin = false ∧ s.clk.lostUs + 1000 + 20 * (-10 : Int).natAbs ≤ s.clk.timeUs)
    ∧ (let s := (on.modClk fun k => { k with pllL := false }).at 10000;
      s.dormant = false ∧ s.clk.xin = true ∧ s.clk.locked .l = false ∧ s.clk.retryUs[Pll.code .l] + 10000 ≤ s.clk.timeUs)
    ∧ (on.clk.wclkCrystal = true ∧ on.phase ≠ .held)
    ∧ (on.clk.trimUs + 1000000 ≤ (on.at 1000000).clk.timeUs)
    ∧ (on.clk.retrainUs[(15 : Fin 16)] + 10000 ≤ (on.at 10000).clk.timeUs ∧ ((15 : Fin 16) : Nat) = (7 : Fin 8) + 8 * b2n true)
    ∧ (on.own.us + 1000000 ≤ (on.at 1000000).clk.timeUs) := by and_intros <;> decide +kernel

theorem witness_LinkCommands :
    (lab.cells[(0 : CellNo)].role ≠ .idle ∧ lab.cells[(24 : CellNo)].role ≠ .idle)
    ∧ (lab.cells[(47 : CellNo)].role = .idle)
    ∧ (on.lanes.pair ≠ .off)
    ∧ (0xFF#8 ∉ on.heldOther) := by and_intros <;> decide +kernel

theorem witness_CellFaultCommands :
    (let s := (lab.given 0x3010 0x30 30000).given 0x3010 0x25 5000;
      s.cells[(16 : CellNo)].role = .feeder ∧ s.cells[(16 : CellNo)].faultLatch.getLsbD 0 = false
        ∧ s.cells[(16 : CellNo)].crosses ((s.cell 16 0x30 : Rat) * s.cell 16 0x25 / 1000 / csFullScale s.cells[(16 : CellNo)].pinMode)
          false (.analog 150000) = true)
    ∧ (∀ c ∈ [(0 : CellNo), 8, 16, 24], fltUse lab.cells[c].pinMode = 1 ∧ lab.cells[c].faultLatch.getLsbD 1 = false)
    ∧ (lab.cells[(0 : CellNo)].role = .phase ∧ lab.cells[(8 : CellNo)].role = .line ∧ lab.cells[(24 : CellNo)].role = .oring)
    ∧ (csMode lab.cells[(0 : CellNo)].pinMode ≠ 0 ∧ vsEn lab.cells[(0 : CellNo)].pinMode = true ∧ csMode lab.cells[(8 : CellNo)].pinMode = 3)
    ∧ (let s := lab.modCell 0 fun x => { x with safeCause := 1, safeHold := true, holdRun := 8 };
      s.cells[(0 : CellNo)].safeCause ≠ 0 ∧ s.cells[(0 : CellNo)].safeHold = true ∧ 8 ≤ s.cells[(0 : CellNo)].holdRun)
    ∧ (let s := lab.modCell 8 fun x => { x with onSteps := 2 };
      1 < s.cells[(8 : CellNo)].onSteps ∧ s.loopOf 8 = some 1 ∧ s.loopOf 47 = none) := by and_intros <;> decide +kernel

theorem witness_ModeWrites :
    (okServe on serviceKey 0 = true ∧ okWrite on 0 0x2001 3 (byte 4) 4 = true)
    ∧ ((4 : Int).toNat ≤ 4 ∧ requestClass 4 ≤ on.hosts[(0 : HostNo)].cls.code ∧ on.modes.safe = false)
    ∧ (okWrite on 0 0x2001 7 (byte 0) 0 = true)
    ∧ (okWrite on 0 0x2004 1 (byte 3) 3 = true)
    ∧ (okWrite on 0 0x2005 4 (le 4 10000) 10000 = true)
    ∧ (okWrite on 0 0x2006 6 (le 4 0) 0 = true) := by and_intros <;> decide +kernel

theorem witness_LoopWrites :
    (okServe on serviceKey 0 = true ∧ okWrite on 0 0x310F 2 (byte 0) 0 = true)
    ∧ ((on.touch 0).loops[(15 : LoopNo)].st ≠ .starting ∧ (on.touch 0).loops[(15 : LoopNo)].st ≠ .running)
    ∧ (let s := on.modLoop 0 fun l => { l with st := .running };
      okServe s serviceKey 0 = true ∧ okWrite s 0 0x3100 2 (byte 0) 0 = true ∧ (s.touch 0).loops[(0 : LoopNo)].st = .running)
    ∧ (let s := lab.given 0x3100 8 1;
      let t := s.touch 0;
      okServe s serviceKey 0 = true ∧ okWrite s 0 0x3100 2 (byte 1) 1 = true ∧ t.loop 0 1 ≠ 0 ∧ t.controlMode 0 = 1 ∧ t.loop 0 8 ≠ 0
        ∧ t.isLineLoop 0 = false ∧ t.timingFail 0 (t.periodMin 0) = none ∧ t.enabled 0 = false)
    ∧ ((lab.touch 0).isLineLoop 1 = true ∧ (lab.touch 0).loop 1 5 ≤ 409600 ∧ (lab.touch 0).loop 1 0x75 ≤ 409600)
    ∧ (let s := on.given 0x3100 0xC 0;
      okServe s serviceKey 0 = true ∧ okWrite s 0 0x3100 0xA (byte 1) 1 = true ∧ (s.touch 0).loop 0 0xC ≠ 1
        ∧ (s.touch 0).loops[(0 : LoopNo)].setNext ≠ some (.safe, 3))
    ∧ (okWrite on 0 0x3100 0xA (byte 2) 2 = true)
    ∧ (let s := on.modLoop 0 fun l => { l with setInForce := .safe };
      okServe s serviceKey 0 = true ∧ okWrite s 0 0x3100 0xA (byte 3) 3 = true ∧ (s.touch 0).loops[(0 : LoopNo)].setInForce = .safe)
    ∧ (okWrite on 0 0x3100 0xD (byte 1) 1 = true)
    ∧ (let s : State := { on with lockOwner := some 0 };
      okServe s serviceKey 0 = true ∧ okWrite s 0 0x3100 0xD (byte 0) 0 = true ∧ (s.touch 0).inModes [.tending] = true
        ∧ (s.touch 0).lockOwner = some 0 ∧ (s.touch 0).enabled 0 = false) := by and_intros <;> decide +kernel

/-- A sound calibration record of cell 0 (R45). -/
def soundCal : Bytes :=
  let r := [0#8, 1, 0, 0] ++ List.replicate 104 0
  r ++ le 4 (crc32 r)

theorem witness_TraceAndCellWrites :
    (let s := on.given 0x2613 5 0x100;
      okServe s serviceKey 0 = true ∧ okWrite s 0 0x2613 0x14 (byte 1) 1 = true ∧ ((s.touch 0).unitNodes 3).all nodeOk = true
        ∧ (sumOf 4 fun v => if v = 3 then 0 else (s.touch 0).traces[v].memory) + (s.touch 0).unitNeed 3 ≤ 262144
        ∧ MemFail.mothTrap ∉ (s.touch 0).badBanks)
    ∧ (let s := on.modTrace 0 fun x => { x with st := .armed };
      okServe s serviceKey 0 = true ∧ okWrite s 0 0x2610 0x14 (byte 2) 2 = true ∧ (s.touch 0).traces[(0 : TraceNo)].st = .armed
        ∧ (s.touch 0).traces[(0 : TraceNo)].eventSeen = false)
    ∧ (okWrite on 0 0x2610 0x14 (byte 2) 2 = true ∧ (on.touch 0).traces[(0 : TraceNo)].st ≠ .armed)
    ∧ ((on.modTrace 0 fun x => { x with st := .armed, eventSeen := true }).traces[(0 : TraceNo)].eventSeen = true)
    ∧ (okWrite on 0 0x2610 0x14 (byte 3) 3 = true)
    ∧ (okServe lab serviceKey 0 = true ∧ okWrite lab 0 0x302F 7 (le 2 0x8000) 0x8000 = true ∧ okWrite lab 0 0x3008 7 (le 2 2) 2 = true)
    ∧ (((lab.touch 0).clearFault 47 0x8000).groupOf 47 = none ∧ ((lab.touch 0).clearFault 8 2).groupOf 8 = some 0)
    ∧ (okWrite lab 0 0x3000 5 (byte 1) 1 = true)
    ∧ (okDomain lab 0 0x4400 1 = true ∧ soundCal.length = 112 ∧ calOk 0 soundCal = true ∧ lab.inModes [.tending] = true) := by
  and_intros <;> decide +kernel

theorem witness_MaintenanceWrites :
    (okServe lab serviceKey 0 = true ∧ (lab.touch 0).inModes [.tending] = true ∧ (lab.touch 0).modes.safe = false
      ∧ ∀ d : CellNo, d ≠ 0 → (lab.touch 0).cells[d].maintained = false)
    ∧ (okWrite lab 0 0x3000 9 (byte 1) 1 = true ∧ (lab.touch 0).maintValid 0 .drain = true)
    ∧ (okWrite lab 0 0x3018 9 (byte 2) 2 = true ∧ (lab.touch 0).maintValid 24 .drainForce = true)
    ∧ (okWrite lab 0 0x302F 9 (byte 3) 3 = true ∧ (lab.touch 0).maintValid 47 .commit = true)
    ∧ (okWrite lab 0 0x302F 9 (byte 4) 4 = true ∧ (lab.touch 0).maintValid 47 .repair = true)
    ∧ (let s := lab.modCell 0 fun x => { x with st := .drained, maintained := true };
      okServe s serviceKey 0 = true ∧ okWrite s 0 0x3000 9 (byte 5) 5 = true ∧ (s.touch 0).maintValid 0 .release = true)
    ∧ (let s := lab.modCell 0 fun x => { x with st := .draining, maintained := true };
      okServe s serviceKey 0 = true ∧ okWrite s 0 0x3000 9 (byte 6) 6 = true ∧ (s.touch 0).maintValid 0 .abandon = true) := by
  and_intros <;> decide +kernel

theorem witness_GroupWrites :
    (let s := on.modGroup 0 fun x => { x with st := .delivering };
      okServe s serviceKey 0 = true ∧ okWrite s 0 0x3200 2 (byte 0) 0 = true ∧ (s.touch 0).groups[(0 : GroupNo)].st.run = true)
    ∧ (let s := on.modGroup 23 fun x => { x with st := .discharging };
      okServe s serviceKey 0 = true ∧ okWrite s 0 0x3217 2 (byte 0) 0 = true ∧ (s.touch 0).groups[(23 : GroupNo)].st = .discharging)
    ∧ (okWrite on 0 0x3200 2 (byte 0) 0 = true ∧ (on.touch 0).groups[(0 : GroupNo)].st.run = false
      ∧ (on.touch 0).groups[(0 : GroupNo)].st ≠ .discharging)
    ∧ (let s := on.modGroup 0 fun x => { x with st := .qualified };
      okServe s serviceKey 0 = true ∧ okWrite s 0 0x3200 2 (byte 1) 1 = true ∧ (s.touch 0).groups[(0 : GroupNo)].st ≠ .disabled)
    ∧ (let s := ((((lab.given 0x3200 5 1).given 0x3200 7 1).given 0x3200 8 1).given 0x3200 0x11 1).given 0x3200 0x12 1;
      okServe s serviceKey 0 = true ∧ okWrite s 0 0x3200 2 (byte 1) 1 = true ∧ (s.touch 0).groups[(0 : GroupNo)].st = .disabled
        ∧ (s.touch 0).groupEnables 0 = true)
    ∧ (okWrite on 0 0x3200 0x1A (byte 0) 0 = true)
    ∧ (let s := on.modGroup 0 fun x => { x with st := .lockedOut, stopCause := 3 };
      let t := s.touch 0;
      okServe s serviceKey 0 = true ∧ okWrite s 0 0x3200 0x1A (byte 1) 1 = true ∧ t.groups[(0 : GroupNo)].st = .lockedOut
        ∧ t.pins.leak.getLsbD (t.group 0 0xE) = false ∧ t.groups[(0 : GroupNo)].stopCause = 3
        ∧ t.overEnergy 0 t.groups[(0 : GroupNo)].energyUj = false) := by and_intros <;> decide +kernel

theorem witness_SlotWrites :
    (okServe lab serviceKey 0 = true ∧ okWrite lab 0 0x3010 0x38 (byte 0) 0 = true)
    ∧ (let s := lab.modFeeder 16 fun f => { f with st := .retryWait };
      okServe s serviceKey 0 = true ∧ okWrite s 0 0x3010 0x38 (byte 1) 1 = true ∧ (s.touch 0).cells[(16 : CellNo)].feeder.st = .retryWait)
    ∧ (let s := lab.modFeeder 16 fun f => { f with st := .latched, tripCause := 0x10 };
      okServe s serviceKey 0 = true ∧ okWrite s 0 0x3010 0x38 (byte 1) 1 = true ∧ (s.touch 0).cells[(16 : CellNo)].feeder.st = .latched
        ∧ (s.touch 0).cells[(16 : CellNo)].feeder.tripCause = 0x10)
    ∧ (let s := lab.modFeeder 16 fun f => { f with st := .latched, tripCause := 0x11 };
      okServe s serviceKey 0 = true ∧ okWrite s 0 0x3010 0x38 (byte 1) 1 = true ∧ (s.touch 0).hosts[(0 : HostNo)].cls.atLeast .opr = true)
    ∧ (let s := lab.modFeeder 16 fun f => { f with st := .on };
      okServe s serviceKey 0 = true ∧ okWrite s 0 0x3010 0x20 (byte 0) 0 = true ∧ (s.touch 0).cells[(16 : CellNo)].role = .feeder
        ∧ (s.touch 0).cells[(16 : CellNo)].feeder.gateOn = true)
    ∧ (let s := lab.modFeeder 16 fun f => { f with st := .held };
      okServe s serviceKey 0 = true ∧ okWrite s 0 0x3010 0x20 (byte 0) 0 = true ∧ (s.touch 0).cells[(16 : CellNo)].feeder.gateOn = false)
    ∧ (let s := (((lab.given 0x3010 0x25 1).given 0x3010 0x14 1).given 0x3010 0x15 1).given 0x4210 1 1;
      okServe s serviceKey 0 = true ∧ okWrite s 0 0x3010 0x20 (byte 1) 1 = true ∧ (s.touch 0).feederEnables 16 = true)
    ∧ (okWrite lab 0 0x3018 0x4C (byte 0) 0 = true)
    ∧ (let s := lab.modOring 24 fun o => { o with st := .latched };
      okServe s serviceKey 0 = true ∧ okWrite s 0 0x3018 0x4C (byte 1) 1 = true ∧ (s.touch 0).cells[(24 : CellNo)].oring.st = .latched)
    ∧ (okWrite lab 0 0x3018 0x40 (byte 0) 0 = true)
    ∧ (let s := (lab.given 0x3018 0x14 1).given 0x3018 0x15 1;
      okServe s serviceKey 0 = true ∧ okWrite s 0 0x3018 0x40 (byte 1) 1 = true ∧ (s.touch 0).oringEnables 24 = true) := by
  and_intros <;> decide +kernel

/-- `on` with the parameters of string 3 that its ENABLE asks for. -/
def stringSet : State :=
  let s := (List.range 6).foldl (fun s b => s.given 0x4303 (32 * b + 1) 1) on
  let s := s.over (List.range 48) fun q s => s.given 0x4313 (q + 1) 1
  s.over [(3, 1), (4, 1), (5, 1), (0xB, 1), (0xD, 2), (9, 0), (7, 0)] fun (p : Nat × Int) s => s.given 0x3303 p.1 p.2

theorem witness_StringRailWrites :
    (okServe on serviceKey 0 = true ∧ okWrite on 0 0x3303 1 (byte 0) 0 = true ∧ (on.touch 0).modes.safe = false)
    ∧ (okServe stringSet serviceKey 0 = true ∧ okWrite stringSet 0 0x3303 1 (byte 1) 1 = true ∧ (stringSet.touch 0).stringEnables 3 = true)
    ∧ (okWrite on 0 0x3300 0x41 (byte 0) 0 = true)
    ∧ (let s := on.modString 0 fun b => { b with st := .rejected };
      okServe s serviceKey 0 = true ∧ okWrite s 0 0x3300 0x41 (byte 1) 1 = true ∧ (s.touch 0).strings[(0 : StringNo)].st = .rejected)
    ∧ (okWrite on 0 0x4320 2 (byte 0) 0 = true)
    ∧ (okWrite on 0 0x4323 2 (byte 1) 1 = true)
    ∧ (okWrite on 0 0x2310 0xE (byte 0) 0 = true)
    ∧ (let s := on.modRail 31 fun x => { x with st := .latchedOff };
      okServe s serviceKey 0 = true ∧ okWrite s 0 0x232F 0xE (byte 1) 1 = true ∧ (s.touch 0).seq.rails[(31 : RailNo)].st = .latchedOff
        ∧ (s.touch 0).inModes [.rising, .settling, .dormant] = false ∧ (s.touch 0).modes.safe = false) := by
  and_intros <;> decide +kernel

/-- A grant request of class 3 and eight parts (Table 08-2). -/
def grantOf8 : Bytes := [1#8, 3, 8] ++ List.replicate 45 0

theorem witness_LaneAndGrantWrites :
    (let s := on.modLanes fun p => { p with pair := .simplex, active := some .b, a := { p.a with st := .retired } };
      okServe s serviceKey 0 = true ∧ okWrite s 0 0x2500 0xC (byte 1) 1 = true ∧ ((s.touch 0).lanes.lane .a).st = .retired
        ∧ (s.touch 0).returnBarred = false)
    ∧ (let s := on.modLanes fun p => { p with pair := .simplex, b := { p.b with st := .retired } };
      okServe s serviceKey 0 = true ∧ okWrite s 0 0x2500 0xC (byte 2) 2 = true ∧ ((s.touch 0).lanes.lane .b).st = .retired
        ∧ (s.touch 0).returnBarred = false)
    ∧ (okServe on serviceKey 0 = true ∧ okWrite on 0 0x2500 0xC (byte 3) 3 = true ∧ (on.touch 0).standby = some .b ∧ (on.touch 0).laneLive = true)
    ∧ (okDomain on 0 0x2220 1 = true ∧ numAt grantOf8 2 1 = 8 ∧ grantOf8.length = 16 + 4 * 8 ∧ numAt grantOf8 0 1 = 1 ∧ numAt grantOf8 1 1 ≤ 3
      ∧ grantReserved grantOf8 8 = false ∧ (on.touch 0).hosts[(0 : HostNo)].grantPending = false) := by and_intros <;> decide +kernel

/-- A host on CAN port 0 at node 5, VND, the port configured. -/
def usdo5 : Key := { kind := .usdo, port := 0, addr := 5 }

/-- `on` with that host in context 0. -/
def canOn : State := (onAs usdo5 .vnd).given 0x2102 2 1

theorem witness_DictionaryAccess :
    (okServe on serviceKey 0 = true ∧ okWrite on 0 0x3010 0x23 (le 2 57) 57 = true ∧ (writeValue 0 0x3010 0x23 57 (on.touch 0)).1 = 0)
    ∧ (usdo5.kind = .usdo ∧ okServe canOn usdo5 0 = true ∧ okWrite canOn 0 0x3010 0x23 (le 2 57) 57 = true
      ∧ (writeValue 0 0x3010 0x23 57 (canOn.touch 0)).1 = 0)
    ∧ (okWrite on 0 0x302F 0x49 (le 2 65535) 65535 = true ∧ 0x49 ∉ [5, 7, 9, 0xB, 0x20, 0x33, 0x34, 0x38, 0x40, 0x4C])
    ∧ (let s := on.modCell 47 fun x => { x with st := .drained, maintained := true };
      okServe s serviceKey 0 = true ∧ okWrite s 0 0x302F 2 (le 2 0x418) 0x418 = true ∧ (s.touch 0).cells[(47 : CellNo)].maintained = true
        ∧ (s.touch 0).cells[(47 : CellNo)].st = .drained ∧ (s.touch 0).inModes [.tending] = true)
    ∧ (okDomain on 0 0x4400 1 = true ∧ (writeDomain 0 0x4400 soundCal (on.touch 0)).1 = 0)
    ∧ ((on.touch 0).hosts[(0 : HostNo)].cls ≠ .slt
      ∧ (writeMulti 0 ([1#8, 1, 0, 0] ++ le 2 0x3100 ++ byte 1 ++ byte 0 ++ le 2 1 ++ [0#8, 0] ++ [2#8, 0, 0, 0]) (on.touch 0)).1 = 0)
    ∧ (((canOn.touch 0).read 0 0x1018 1).1 = 0)
    ∧ (let s := canOn.setSessions 0 [{ index := 0x1018, sub := 1, next := 4096, content := ((canOn.touch 0).read 0 0x1018 1).2.1, frameUs := 4 }];
      okServe s usdo5 0 = true
        ∧ ((s.touch 0).hosts[(0 : HostNo)].sessions.find? fun y => y.index = 0x1018 && y.sub = 1 && y.next = 4096).isSome = true
        ∧ ((s.touch 0).read 0 0x1018 1).1 = 0 ∧ ((s.touch 0).read 0 0x1018 1).2.1 = ((canOn.touch 0).read 0 0x1018 1).2.1
        ∧ (s.at 1000004).hosts[(0 : HostNo)].sessions.any (fun x => decide (x.frameUs + 1000000 ≤ (s.at 1000004).clk.timeUs)) = true) := by
  and_intros <;> decide +kernel

theorem witness_LockAndStore :
    (okServe on serviceKey 0 = true ∧ okWrite on 0 0x2100 3 (byte 1) 1 = true ∧ (on.touch 0).lockOwner = none)
    ∧ (let s : State := { on with lockOwner := some 0 };
      okServe s serviceKey 0 = true ∧ (s.touch 0).lockOwner = some 0 ∧ okWrite s 0 0x2100 3 (byte 1) 1 = true
        ∧ okWrite s 0 0x2100 3 (byte 0) 0 = true)
    ∧ (let s : State := { on with lockOwner := some 1 };
      okServe s serviceKey 0 = true ∧ (s.touch 0).lockOwner = some 1 ∧ (s.touch 0).hosts[(0 : HostNo)].cls = .vnd
        ∧ okWrite s 0 0x2100 3 (byte 1) 1 = true ∧ okWrite s 0 0x2100 3 (byte 0) 0 = true)
    ∧ (let s := onAs serviceKey .eng;
      okServe s serviceKey 0 = true ∧ okWrite s 0 0x2100 3 (byte 0) 0 = true ∧ (s.touch 0).lockOwner ≠ some 0
        ∧ (s.touch 0).hosts[(0 : HostNo)].cls ≠ .vnd)
    ∧ (okWrite on 0 0x1010 1 (le 4 0x65766173) 0x65766173 = true ∧ (on.touch 0).dict.storing = none)
    ∧ (okWrite on 0 0x1011 4 (le 4 0x64616F6C) 0x64616F6C = true) := by and_intros <;> decide +kernel

/-- A record of event 0x9001 with number 7. -/
def rec7 : Rec :=
  { code := 0x9001, payload := [], severity := 0, suppressed := false, peat := false, pfi := false, stamp := 0, inst := 0, source := 0, rep := 1,
    seq := 7, closed := true, last := 0 }

theorem witness_RecorderAndTrialWrites :
    (okServe on serviceKey 0 = true ∧ ((on.touch 0).read 0 0x2601 1).1 = 0 ∧ ((on.touch 0).read 0 0x2601 1).2.1.length ≤ copyLimit)
    ∧ (((on.touch 0).read 0 0x2603 2).1 = 0 ∧ ((on.touch 0).read 0 0x2603 2).2.1.length ≤ copyLimit)
    ∧ (let s := on.modRec fun q => { q with ring := [rec7], log := [rec7] };
      let t := s.touch 0;
      okServe s serviceKey 0 = true ∧ okWrite s 0 0x2601 2 (le 4 7) 7 = true ∧ okWrite s 0 0x2603 1 (le 4 7) 7 = true
        ∧ okWrite s 0 0x2602 1 (le 4 7) 7 = true ∧ okWrite s 0 0x2602 2 (le 4 7) 7 = true
        ∧ (cursorFor t.recorder.ringGone t.recorder.ring 7).isSome = true ∧ (cursorFor t.recorder.peatGone t.recorder.log 7).isSome = true
        ∧ aboveTop t.recorder.ringGone t.recorder.ring 7 = false ∧ aboveTop t.recorder.peatGone t.recorder.log 7 = false)
    ∧ (okWrite on 0 0x2602 3 (byte 1) 1 = true)
    ∧ (let s := on.modFw fun x => { x with trial := some 1 };
      okServe s serviceKey 0 = true ∧ (s.touch 0).fw.trial ≠ none ∧ okWrite s 0 0x2700 9 (byte 1) 1 = true ∧ okWrite s 0 0x2700 9 (byte 0) 0 = true)
    ∧ (let s := (onAs (dapKey 0) .opr).modFw fun x => { x with trial := some 1 };
      okServe s (dapKey 0) 0 = true ∧ s.hosts[(0 : HostNo)].key = dapKey 0 ∧ (s.touch 0).fw.trial ≠ none
        ∧ okWrite s 0 0x2700 8 (byte 1) 1 = true) := by and_intros <;> decide +kernel

theorem witness_BootAndReset :
    (State.reset.phase = .held ∧ (State.reset.bootStart 0 [] true).chooseSlot = some 0)
    ∧ ([MemFail.bank 0].any MemFail.fatal = true ∧ ([] : List MemFail).any MemFail.fatal = false)
    ∧ (let s : State := { on with phase := .booted };
      s.phase = .booted ∧ ({ s with phase := .running } : State).startCondition = false)
    ∧ (let s := ({ on with phase := .booted } : State).modGroup 0 fun g => { g with st := .qualified };
      s.phase = .booted ∧ ({ s with phase := .running } : State).startCondition = true)
    ∧ (let s : State := { on with manage := .warmReset };
      s.manage = .warmReset ∧ s.phase ≠ .held)
    ∧ (let s := on.at 100000000;
      s.manage = .running ∧ s.phase = .running ∧ s.seq.recordMode = false ∧ s.dormant = false
        ∧ s.clk.armedUs + s.cfgN 0x2000 0x16 * 1000 ≤ s.clk.timeUs)
    ∧ (let s : State := { on with manage := .shallow, modes := { on.modes with mode := some .dormant } };
      s.dormant = true ∧ s.manage = .shallow ∧ keyOk serviceKey = true)
    ∧ (let s : State := { on with manage := .deep, modes := { on.modes with mode := some .dormant } };
      s.dormant = true ∧ s.manage = .deep)
    ∧ ((([] : List MemFail).filter MemFail.isBank).any MemFail.fatal = false
      ∧ ([MemFail.bank 0].filter MemFail.isBank).any MemFail.fatal = true) := by and_intros <;> decide +kernel

/-- A frame of a block voltage ADC that holds zero and half-scale in turn, but for the last slot. -/
def refFrame (last : BitVec 12) : AdcFrame :=
  { slots := Vector.ofFn fun i => if (i : Nat) = 15 then last else if (i : Nat) % 2 = 1 then 2048 else 0 }

theorem witness_FrameAndSyncCommands :
    (lab.heldBlocks.getLsbD 5 = false ∧ ((lab.adoptSet ⟨2, 5, 0xFF⟩).refChecks 5 (refFrame 2039)).1 = false)
    ∧ (lab.heldBlocks.getLsbD 5 = false ∧ ((lab.adoptSet ⟨2, 5, 0xFF⟩).refChecks 5 (refFrame 2056)).1 = true)
    ∧ (let s := ((lab.given 0x3100 0x1A 1).given 0x3100 0x1B 6).modLoop 0 fun l => { l with startInWindow := true, qualUs := 6000 };
      s.isPhaseLoop 0 = true ∧ s.loops[(0 : LoopNo)].startInWindow = true ∧ s.loop 0 0x1A ≠ 0
        ∧ s.loop 0 0x1B * 1000 ≤ s.loops[(0 : LoopNo)].qualUs)
    ∧ (let s := (on.modGroup 0 fun g => { g with st := .qualifying, qualUs := 1 }).at 1000000001;
      s.groups[(0 : GroupNo)].st = .qualifying ∧ s.groups[(0 : GroupNo)].qualUs + s.group 0 0xC * 1000 ≤ s.clk.timeUs)
    ∧ (({ on with syncPins := { on.syncPins with edges := [5] } } : State).syncPins.edges = 5 :: [] ∧ on.syncPins.edges = [])
    ∧ (let s := on.modLoop 0 fun l => { l with sync := .acquiring, lockRun := 64 };
      s.loops[(0 : LoopNo)].sync = .acquiring ∧ 64 ≤ s.loops[(0 : LoopNo)].lockRun)
    ∧ ((on.modLoop 0 fun l => { l with landing := [(0x310020, 5)] }).loops[(0 : LoopNo)].landing = (0x310020, 5) :: [])
    ∧ (let s := on.at 1000000000;
      s.modes.safe = false ∧ s.loops[(15 : LoopNo)].derateUs + max 1 (s.cfgN 0x2400 8) * 1000000 ≤ s.clk.timeUs) := by
  and_intros <;> decide +kernel

/-- `lab` with loop 0 running on its two members. -/
def going : State :=
  let full := fun (x : Cell) => { x with weight := 1, weightGoal := 1 }
  ((lab.modLoop 0 fun l => { l with st := .running }).modCell 0 full).modCell 1 full

theorem witness_LoopPeriodCommand :
    (lab.isMember 0 0 = true ∧ lab.cells[(0 : CellNo)].role = .phase ∧ lab.isMember 1 8 = true ∧ lab.cells[(8 : CellNo)].role = .line)
    ∧ (going.loops[(0 : LoopNo)].active = true ∧ going.lanesRun = true ∧ going.inGap = false
      ∧ ((going.periodStart 0 0).computing 0).contains 0 = true)
    ∧ (let s := going.modCell 1 fun x => { x with st := .drained };
      ((s.periodStart 0 1).computing 0).contains 1 = false ∧ (s.boundaryDue 0 1 = false ∨ (s.periodStart 0 1).lastMember 0 ≠ none))
    ∧ (let s := lab.modLoop 1 fun l => { l with st := .running };
      let s := s.modCell 8 fun x => { x with st := .drained };
      s.loops[(1 : LoopNo)].active = true ∧ s.inGap = false ∧ s.lanesRun = true ∧ ((s.periodStart 1 8).computing 1).contains 8 = false
        ∧ s.boundaryDue 1 8 = true ∧ (s.periodStart 1 8).lastMember 1 = none)
    ∧ (let s := going.modLanes fun p => { p with pair := .switching };
      s.loops[(0 : LoopNo)].active = true ∧ s.inGap = true ∧ s.lanesRun = false ∧ ((s.periodStart 0 0).computing 0).contains 0 = true
        ∧ (s.periodStart 0 0).inGap = true)
    ∧ (lab.loops[(0 : LoopNo)].active = false ∧ (let s := going.modLanes fun p => { p with pair := .off };
      s.inGap = false ∧ s.lanesRun = false)) := by and_intros <;> decide +kernel

theorem witness_StageCommands :
    (let s := lab.modLoop 0 fun l => { l with st := .running, overruns := [16] };
      s.loops[(0 : LoopNo)].active = true ∧ 16 ≤ s.loops[(0 : LoopNo)].overruns.foldl (· + ·) 0)
    ∧ (let s := (((going.modModes fun m => { m with profile := 1 }).given 0x3100 0x64 1).given 0x3100 0x60 1000).given 0x3100 0x61 1000;
      let s := s.modLoop 0 fun l => { l with shedRun := 10, pg := true };
      s.shedCandidate 0 = some 1 ∧ s.shedQualifies 0 = true ∧ max 1 (s.loop 0 0x65) ≤ s.loops[(0 : LoopNo)].shedRun)
    ∧ (let s := (((going.given 0x3100 8 1).given 0x3100 0x68 10).given 0x3100 0x61 1000).given 0x3100 0x60 1000;
      let s := s.modLoop 0 fun l => { l with stage := .continuous, burstRun := 5 };
      s.burstQualifies 0 = true ∧ s.loops[(0 : LoopNo)].stage = .continuous ∧ max 1 (s.loop 0 0x6A) ≤ s.loops[(0 : LoopNo)].burstRun)
    ∧ (lab.loopOf 0 = some 0)
    ∧ (let s := lab.modLoop 0 fun l => { l with st := .starting, stage := .softStart, ssSteps := stepsPerUs * lab.loop 0 0x6D };
      s.loops[(0 : LoopNo)].st = .starting ∧ s.loops[(0 : LoopNo)].stage = .softStart ∧ stepsPerUs * s.loop 0 0x6D ≤ s.loops[(0 : LoopNo)].ssSteps)
    ∧ (let s := lab.modLoop 0 fun l => { l with st := .running, pgIn := 20480000 };
      s.loops[(0 : LoopNo)].st = .running ∧ s.loops[(0 : LoopNo)].pg = false ∧ 20480000 ≤ s.loops[(0 : LoopNo)].pgIn)
    ∧ (∀ n ∈ [0, 2], let s := (lab.modLoop 0 fun l => { l with st := .starting, stage := .softStart, hiccupLeft := n }).given 0x3100 0x64 3;
      s.abortMet 0 .tooFew = true
        ∧ ((((s.event s.srcLane 0x202A 0 (byte 0 ++ byte (abortCode .tooFew) ++ byte (s.running 0).length)).endBrake 0 true).membersLow
          0).clearStates 0).loops[(0 : LoopNo)].hiccupLeft = n)
    ∧ (let s := (lab.modLoop 0 fun l => { l with st := .starting, stage := .hiccupWait, railOn := true }).given 0x3100 2 1;
      s.loops[(0 : LoopNo)].st = .starting ∧ s.loops[(0 : LoopNo)].stage = .hiccupWait ∧ s.loops[(0 : LoopNo)].waitMs = 0
        ∧ s.loops[(0 : LoopNo)].railOn = true ∧ s.enabled 0 = true)
    ∧ (let s := lab.modLoop 0 fun l => { l with pg := true, pgRun := minuteSteps };
      s.loops[(0 : LoopNo)].pg = true ∧ minuteSteps ≤ s.loops[(0 : LoopNo)].pgRun)
    ∧ (let s := going.modCell 0 fun x => { x with devRun := 32 };
      s.loopOf 0 = some 0 ∧ s.loops[(0 : LoopNo)].active = true ∧ s.loops[(0 : LoopNo)].burstAsleep = false ∧ s.runs 0 0 = true
        ∧ s.failMet 0 0 .deviation = true) := by and_intros <;> decide +kernel

/-- `lab` with maintenance commands waiting at cell 0. -/
def waitingFor (ms : List MaintCmd) (st : CellState) : State := lab.modCell 0 fun x => { x with waiting := ms, maintained := true, st := st }

/-- `lab` with cell 0 under a repair. -/
def testing : State := lab.modCell 0 fun x => { x with st := .testing, maintained := true }

/-- A point of channel 2 with a gain of 1 and an offset. -/
def point (offset : Rat) : CalPoint := { channel := 2, offset := offset, gainMean := 32768 / 10 + offset }

theorem witness_MaintenanceSteps :
    ((waitingFor [.drain, .commit] .inService).cells[(0 : CellNo)].waiting = .drain :: [.commit]
      ∧ ((waitingFor [.drain] .inService).modModes fun m => { m with mode := some .serving }).inModes [.tending] = false
      ∧ lab.inModes [.tending] = true ∧ lab.modes.safe = false)
    ∧ (∀ p ∈ [(MaintCmd.drain, CellState.inService), (.drainForce, .inService), (.commit, .drained), (.repair, .drained), (.release, .drained),
        (.abandon, .draining)],
      ((waitingFor [p.1] p.2).modCell 0 fun x => { x with waiting := [], freshMaint := false }).cells[(0 : CellNo)].admits p.1 = true)
    ∧ (((waitingFor [.release] .inService).modCell 0 fun x => { x with waiting := [], freshMaint := false }).cells[(0 : CellNo)].admits .release
      = false)
    ∧ (let s := lab.modCell 47 fun x => { x with st := .draining };
      s.cells[(47 : CellNo)].st = .draining ∧ s.drained 47 = true)
    ∧ (let s := ((lab.modCell 0 fun x => { x with st := .draining, removalUs := 5 }).given 0x3000 0x10 100).at 100005;
      s.cells[(0 : CellNo)].st = .draining ∧ s.removing 0 = true ∧ s.cell 0 0x10 ≠ 0
        ∧ s.cells[(0 : CellNo)].removalUs + s.cell 0 0x10 * 1000 ≤ s.clk.timeUs)
    ∧ (testing.cells[(0 : CellNo)].st = .testing ∧ testing.cells[(0 : CellNo)].stopTest = false ∧ testing.cells[(0 : CellNo)].bandMoved = false)
    ∧ ((testing.modCell 0 fun x => { x with stopTest := true, bandMoved := true }).cells[(0 : CellNo)].st = .testing)
    ∧ (testing.repairChannels 0 ≠ [] ∧ (testing.repairChannels 0).contains 2 = true ∧ testing.pointsWhole 0 [] = false
      ∧ testing.pointsWhole 0 ((testing.repairChannels 0).map fun ch => { point 0 with channel := Fin.ofNat 4 ch }) = true)
    ∧ (pointOk (point 32) = true ∧ pointOk (point 33) = false)
    ∧ (let s := lab.modCell 0 fun x => { x with st := .starting };
      s.cells[(0 : CellNo)].st = .starting ∧ s.loopOf 0 = some 0 ∧ s.loops[(0 : LoopNo)].active = false) := by and_intros <;> decide +kernel

theorem witness_GroupCommands :
    (lab.groupCell 0 = some 8 ∧ lab.cells[(8 : CellNo)].role = .line ∧ lab.groups[(0 : GroupNo)].st.run = false)
    ∧ (let t := lab.adoptSet ⟨5, 0, 0xFF⟩;
      (t.cells[(8 : CellNo)].auxSinc.feed (t.cell 8 0xD) []).2 = []
        ∧ (t.cells[(8 : CellNo)].auxSinc.feed (t.cell 8 0xD) (List.replicate (t.cell 8 0xD) true)).2 ≠ [])
    ∧ (let s := ((lab.modLoop 1 fun l => { l with st := .running, railOn := true }).given 0x3101 8 3).modGroup 0 fun g => { g with st := .qualified };
      s.groupCell 0 = some 8 ∧ s.groupStarts 0 = true ∧ s.loopOf 8 = some 1)
    ∧ (let s := (lab.given 0x3200 5 0).modGroup 0 fun g => { g with st := .starting };
      s.groups[(0 : GroupNo)].st = .starting ∧ (s.group 0 5 : Rat) * 1000 ≤ s.rampLimit 0)
    ∧ (let s := lab.modGroup 0 fun g => { g with st := .delivering, lostSteps := stepsPerMs };
      s.groups[(0 : GroupNo)].st.run = true ∧ s.stopMet 0 .lineLost = true)
    ∧ (let s := (lab.modGroup 0 fun g => { g with st := .delivering, revRun := 2 }).modLanes fun p => { p with token := none };
      s.heldTests 0 = true ∧ s.groups[(0 : GroupNo)].heldCause = 0 ∧ s.groups[(0 : GroupNo)].heldMet .reverse = true)
    ∧ (let s := ((lab.given 0x3200 0xB 5).modGroup 0 fun g => { g with st := .discharging, sinceUs := 1 }).at 1000000001;
      s.groups[(0 : GroupNo)].st = .discharging ∧ s.groups[(0 : GroupNo)].sinceUs + s.group 0 0x10 * 1000 ≤ s.clk.timeUs
        ∧ s.lanes.token.isSome = true ∧ s.modes.safe = false ∧ s.groups[(0 : GroupNo)].decayMs = none
        ∧ s.groups[(0 : GroupNo)].vEndMv < (s.group 0 0xB : Rat) * 1000)
    ∧ (let s := (lab.given 0x3200 0xB 5).modGroup 0 fun g => { g with vEndMv := 5000 };
      (s.group 0 0xB : Rat) * 1000 ≤ s.groups[(0 : GroupNo)].vEndMv)
    ∧ (let s := (lab.modGroup 0 fun g => { g with decayMs := some 3 });
      s.groups[(0 : GroupNo)].decayMs = some 3)
    ∧ (let s := (lab.modGroup 0 fun g => { g with st := .retryWait, sinceUs := 1 }).at 100000000000;
      s.groups[(0 : GroupNo)].st = .retryWait ∧ s.groups[(0 : GroupNo)].sinceUs + s.group 0 0x17 * 1000000 ≤ s.clk.timeUs)
    ∧ (let s := (lab.modGroup 0 fun g => { g with st := .delivering, deliverUs := 1 }).at 600000001;
      s.groups[(0 : GroupNo)].delivers = true ∧ s.groups[(0 : GroupNo)].deliverUs + 600000000 ≤ s.clk.timeUs) := by
  and_intros <;> decide +kernel

theorem witness_BusCommands :
    (on.lanesRun = true ∧ on.blockHeld 0x45 = false)
    ∧ (let s := (on.given 0x2232 1 1).at 1000000;
      s.cfgN 0x2232 1 ≠ 0 ∧ s.idAt = none ∧ s.idGroup = none ∧ s.lanesRun = true ∧ s.idCycleUs + s.cfgN 0x2232 1 * 1000000 ≤ s.clk.timeUs)
    ∧ (let s := (({ on with idGroup := some 0 } : State).modGroup 0 fun g => { g with st := .identifying, sinceUs := 1 }).at 1000000001;
      s.idGroup = some 0 ∧ s.groups[(0 : GroupNo)].st = .identifying
        ∧ 2 * s.cfgN 0x2232 3 ≤ (s.clk.timeUs - s.groups[(0 : GroupNo)].sinceUs) / 1000)
    ∧ (on.groups[(0 : GroupNo)].idA.n = 0 ∧ ({ on.groups[(0 : GroupNo)].idA with n := 3 }).n ≠ 0) := by and_intros <;> decide +kernel

/-- `lab` with cell 16 at the end of its back-off, the causes of some latch bits persisting. -/
def retried (bits : BitVec 16) : State :=
  let s := lab.modCell 16 fun x => { x with faultLatch := bits, causes := bits }
  (s.modFeeder 16 fun f => { f with st := .retryWait, retryTimerUs := 0 }).clearFault 16 0x000F#16

theorem witness_FeederCommands :
    (let s := lab.given 0x3010 0x26 0;
      s.cells[(16 : CellNo)].role = .feeder ∧ s.cells[(16 : CellNo)].feeder.present = false ∧ s.cell 16 0x26 = 0)
    ∧ (let s := lab.modFeeder 16 fun f => { f with present := true };
      s.cells[(16 : CellNo)].feeder.present = true ∧ s.cells[(16 : CellNo)].feeder.gateOn = false ∧ s.cell 16 0x26 ≠ 0 ∧ s.drainPresent 16 = false)
    ∧ ((lab.modFeeder 16 fun f => { f with unseatUs := 50000 }).cells[(16 : CellNo)].feeder.unseatUs = 50000
      ∧ lab.cells[(16 : CellNo)].feeder.present = false)
    ∧ (let s := ((lab.given 0x3010 0x21 0).given 0x3010 0x22 0).modFeeder 16 fun f => { f with st := .inserting, present := true, countUs := 1000000000 };
      s.cells[(16 : CellNo)].feeder.st ≠ .disabled ∧ s.countRuns 16 = true ∧ s.cell 16 0x24 * 1000 ≤ s.cells[(16 : CellNo)].feeder.countUs)
    ∧ (let s := ((lab.given 0x3010 0x21 0).given 0x3010 0x22 0).modFeeder 16 fun f => { f with st := .held, present := true, countDone := true };
      s.feederGates 16 = true ∧ s.lanesRun = true)
    ∧ (lab.cells[(16 : CellNo)].st ≠ .testing ∧ lab.cells[(16 : CellNo)].lostSample = false ∧ lab.cells[(16 : CellNo)].lostCommand = false
      ∧ lab.lanesRun = true)
    ∧ ((lab.modCell 16 fun x => { x with lostSample := true, lostCommand := true }).cells[(16 : CellNo)].lostCommand = true)
    ∧ (∀ b ∈ [false, true], let s := (lab.given 0x3010 0x2C 5).modFeeder 16 fun f => { f with st := .inrush, fetOn := b, startUs := 5000 };
      s.cells[(16 : CellNo)].feeder.st = .inrush ∧ s.cell 16 0x2C ≠ 0 ∧ s.cell 16 0x2C * 1000 ≤ s.cells[(16 : CellNo)].feeder.startUs
        ∧ s.cells[(16 : CellNo)].feeder.fetOn = b)
    ∧ (let s := lab.modFeeder 16 fun f => { f with st := .on, gateLowUs := 1000 };
      s.passMet 16 .gateOn = true ∧ s.cells[(16 : CellNo)].feeder.st ≠ .latched)
    ∧ (let s := ((lab.given 0x3010 0x27 5).given 0x3010 0x21 0).modFeeder 16 fun f => { f with st := .on, unloadUs := 100000 };
      s.cells[(16 : CellNo)].feeder.st = .on ∧ s.cell 16 0x21 = 0 ∧ fltUse s.cells[(16 : CellNo)].pinMode ≠ 3 ∧ s.cell 16 0x27 ≠ 0
        ∧ 100000 ≤ s.cells[(16 : CellNo)].feeder.unloadUs)
    ∧ (let s := lab.modFeeder 16 fun f => { f with st := .retryWait, retryTimerUs := 1000 };
      let t := (s.modFeeder 16 fun f => { f with retryTimerUs := 0 }).clearFault 16 0x000F#16;
      s.cells[(16 : CellNo)].feeder.retryTimerUs ≠ 0 ∧ s.cells[(16 : CellNo)].feeder.retryTimerUs ≤ 1000
        ∧ t.cells[(16 : CellNo)].feeder.canTrip = true ∧ t.cells[(16 : CellNo)].faultLatch &&& 0x000E#16 = 0)
    ∧ ((retried 2).cells[(16 : CellNo)].feeder.canTrip = true ∧ (retried 2).cells[(16 : CellNo)].faultLatch.getLsbD 1 = true)
    ∧ ((retried 4).cells[(16 : CellNo)].feeder.canTrip = true ∧ (retried 4).cells[(16 : CellNo)].faultLatch.getLsbD 1 = false
      ∧ (retried 4).cells[(16 : CellNo)].faultLatch &&& 0x000C#16 ≠ 0)
    ∧ (let s := lab.modFeeder 16 fun f => { f with st := .on, onUs := 60000000 };
      s.cells[(16 : CellNo)].feeder.st = .on ∧ 60000000 ≤ s.cells[(16 : CellNo)].feeder.onUs) := by and_intros <;> decide +kernel

theorem witness_OringCommands :
    (lab.cells[(24 : CellNo)].role = .oring ∧ lab.cells[(24 : CellNo)].st = .inService ∧ lab.cells[(24 : CellNo)].lostSample = false
      ∧ lab.cells[(24 : CellNo)].held = false ∧ lab.lanesRun = true)
    ∧ ((lab.modCell 24 fun x => { x with lostSample := true }).cells[(24 : CellNo)].lostSample = true
      ∧ (lab.modLanes fun p => { p with pair := .off }).lanesRun = false)
    ∧ (lab.cells[(24 : CellNo)].crosses (lab.reverseRatio 24) true (.analog (-4883)) = true ∧ lab.cells[(24 : CellNo)].oring.st = .disabled)
    ∧ (let s := lab.modOring 24 fun o => { o with st := .regulating };
      s.cells[(24 : CellNo)].oring.st ≠ .disabled ∧ s.cells[(24 : CellNo)].oring.st ≠ .latched
        ∧ (recentTrips s.clk.timeUs s.cells[(24 : CellNo)].oring.revTimes).length < 16)
    ∧ (let s := (lab.at 500).modOring 24 fun o => { o with st := .regulating, revTimes := List.replicate 15 499 };
      16 ≤ (recentTrips s.clk.timeUs s.cells[(24 : CellNo)].oring.revTimes).length)
    ∧ (let s := lab.modOring 24 fun o => { o with st := .rearming, rearmRun := 70000 };
      s.cells[(24 : CellNo)].oring.st = .rearming ∧ s.lanesRun = true ∧ s.cells[(24 : CellNo)].safeCause = 0
        ∧ max 1 (s.cell 24 0x46) ≤ s.cells[(24 : CellNo)].oring.rearmRun) := by and_intros <;> decide +kernel

theorem witness_LedgerCommands :
    (let t := State.reset.modClk fun k => { k with timeUs := nextBoundary k.timeUs };
      t.phase = .held)
    ∧ (let t := on.modClk fun k => { k with timeUs := nextBoundary k.timeUs };
      t.phase ≠ .held ∧ t.manageClock.phase = .running ∧ t.manageClock.modes.mode ≠ none ∧ t.manageClock.dormant = false)
    ∧ (let t := ({ on with modes := { on.modes with mode := some .dormant } } : State).modClk fun k => { k with timeUs := nextBoundary k.timeUs };
      t.phase ≠ .held ∧ t.manageClock.phase = .running ∧ t.manageClock.modes.mode ≠ none ∧ t.manageClock.dormant = true)
    ∧ (let t := ({ on with phase := .recovery } : State).modClk fun k => { k with timeUs := nextBoundary k.timeUs };
      t.phase ≠ .held ∧ t.manageClock.phase ≠ .running)
    ∧ (let s := (lab.modSink 0x10 fun k => { k with shed := 3 }).modLedger fun l => { l with next := { l.next with headroomMw := 10000000 } };
      s.restorable 0x10 = true ∧ s.fits 0x10 = true ∧ s.modes.safe = false
        ∧ ∀ y : SinkNo, s.sinkClass y < s.sinkClass 0x10 ∨ s.sinkClass y = s.sinkClass 0x10 ∧ y < 0x10 → s.restorable y = false ∨ s.fits y = false)
    ∧ (let s := on.modLedger fun l => { l with grants := l.grants.set 0 { l.grants[0] with st := .active, remainMs := 0, req := { l.grants[0].req with durationS := 5 } } };
      s.ledger.grants[(0 : GrantNo)].standing = true ∧ s.ledger.grants[(0 : GrantNo)].req.durationS ≠ 0
        ∧ s.ledger.grants[(0 : GrantNo)].remainMs = 0 ∧ s.modes.safe = false)
    ∧ (let s := on.modLedger fun l => { l with grants := l.grants.set 0 { l.grants[0] with st := .notice, noticeMs := 0 }, grantsNext := l.grantsNext.set 0 { l.grantsNext[0] with st := .notice } };
      s.ledger.grants[(0 : GrantNo)].st = .notice ∧ s.ledger.grants[(0 : GrantNo)].noticeMs = 0 ∧ s.ledger.grantsNext[(0 : GrantNo)].standing = true)
    ∧ (let s := lab.modSink 0x10 fun k => { k with notice := 3, noticeMs := 0 };
      s.modes.safe = false ∧ s.ledger.sinks[(0x10 : SinkNo)].notice ≠ 0 ∧ s.ledger.sinks[(0x10 : SinkNo)].noticeMs = 0)
    ∧ (let s := lab.modSink 0x10 fun k => { k with overRun := 100000 };
      s.ledger.sinks[(0x10 : SinkNo)].throttle = 0 ∧ (s.sinkCell 0x10).isSome = true
        ∧ max 1 (s.cfgN 0x2200 7) ≤ s.ledger.sinks[(0x10 : SinkNo)].overRun)
    ∧ (let s := ((lab.modFeeder 16 fun f => { f with st := .on, meanP := 9000000 }).given 0x3010 0x37 3).modSink 0x10 fun k => { k with throttle := 1, allowedMs := 0, targetW := 1 };
      s.ledger.sinks[(0x10 : SinkNo)].throttle ≠ 0 ∧ s.ledger.sinks[(0x10 : SinkNo)].allowedMs = 0 ∧ s.ledger.sinks[(0x10 : SinkNo)].shed = 0
        ∧ s.ledger.sinks[(0x10 : SinkNo)].throttle ≠ 4 ∧ s.aboveTol 0x10 s.ledger.sinks[(0x10 : SinkNo)].targetW = true)
    ∧ (let s := ((lab.modFeeder 16 fun f => { f with st := .on, meanP := 9000000 }).setForce 0x2250 2 0).modSink 0x10 fun k => { k with throttle := 2, allowedMs := 0, targetW := 1 };
      s.aboveTol 0x10 s.ledger.sinks[(0x10 : SinkNo)].targetW = true ∧ s.ledger.sinks[(0x10 : SinkNo)].throttle = 2 ∧ s.sinkClass 0x10 = 0) := by
  and_intros <;> decide +kernel

/-- A known step at the first grid point. -/
def stepOf : KnownStep := { ticks := 0, iBefore := 0, vBefore := 0, sumI := 0, sumV := 0, dI := 1, rsM := 0, g := 0 }

theorem witness_EstimatorCommands :
    (on.estimatorRuns = true ∧ let t := (on.estimatorAdopt 0).modString 0 fun b => { b with band := (on.estimatorAdopt 0).stringBand 0 };
      t.strings[(0 : StringNo)].st ≠ .open ∧ t.strings[(0 : StringNo)].st ≠ .connected)
    ∧ (let s := on.modString 0 fun b => { b with st := .connected };
      s.estimatorRuns = true ∧ ((s.estimatorAdopt 0).modString 0 fun b => { b with band := (s.estimatorAdopt 0).stringBand 0 }).strings[(0 : StringNo)].st
        = .connected)
    ∧ (let s := on.modString 0 fun b => { b with st := .open, windowS := 6000000 };
      s.string 0 0x1B * 60 ≤ s.strings[(0 : StringNo)].windowS ∧ s.inModes [.serving] = false ∧ s.strings[(0 : StringNo)].st ≠ .connected)
    ∧ (let s := on.modLedger fun l => { l with now := { l.now with shortfall := true } };
      s.ledger.now.shortfall = true)
    ∧ (let s := on.modString 0 fun b => { b with st := .open, restS := on.string 0 0x1A * 60, anchorAgeS := 3 };
      s.strings[(0 : StringNo)].st = .open ∧ s.strings[(0 : StringNo)].restS ≠ 0
        ∧ s.strings[(0 : StringNo)].restS % (s.string 0 0x1A * 60) = 0 ∧ s.strings[(0 : StringNo)].anchorAgeS ≠ 0)
    ∧ (let s := (on.given 0x3300 0x1D 20).modString 0 fun b => { b with st := .connected, stage := .absorb, taperS := 60 };
      s.strings[(0 : StringNo)].st = .connected ∧ s.strings[(0 : StringNo)].stage = .absorb ∧ s.string 0 0x1D ≠ 0
        ∧ 60 ≤ s.strings[(0 : StringNo)].taperS)
    ∧ (let s := (on.modString 0 fun b => { b with st := .connected, stage := .absorb, stageUs := 1 }).at 1000000000001;
      s.modes.safe = false ∧ s.strings[(0 : StringNo)].stageUs + s.string 0 0x1E * 60000000 ≤ s.clk.timeUs)
    ∧ (let s := on.modString 0 fun b => { b with step := some stepOf, sinceStepMs := some 60000 };
      s.strings[(0 : StringNo)].step = some stepOf ∧ s.strings[(0 : StringNo)].stepAged = true)
    ∧ (factorOk 1 = true ∧ factorOk (-1) = false) := by and_intros <;> decide +kernel

/-- An identity of 16 bytes. -/
def someId : Bytes := [1#8, 2, 3, 4, 5, 6, 7, 8, 9, 10, 11, 12, 13, 14, 15, 16]

/-- `on` with a pack at string 0 under authentication, by its AUTH_POLICY. -/
def packOn (policy : Int) : State := ((on.given 0x3300 7 1).given 0x3300 9 policy).modString 0 fun b => { b with st := .authenticating }

theorem witness_PackCommands :
    (let s := ((on.given 0x3300 7 1).given 0x3300 8 0x20).at 10000000;
      s.string 0 7 = 1 ∧ s.string 0 8 ≠ 0 ∧ s.twDrives 11 = true ∧ s.strings[(0 : StringNo)].pollUs + 1000000 ≤ s.clk.timeUs
        ∧ s.strings[(0 : StringNo)].tempUs + 10000000 ≤ s.clk.timeUs)
    ∧ ((packOn 1).strings[(0 : StringNo)].st = .authenticating ∧ (packOn 1).recorderUp = true ∧ (packOn 1).string 0 7 = 1
      ∧ triesSized 16 noPack.packId = none ∧ (packOn 1).string 0 9 = 1)
    ∧ ((packOn 2).string 0 9 ≠ 0 ∧ (packOn 2).string 0 9 ≠ 1)
    ∧ (triesSized 16 ⟨none, some someId⟩ = some someId ∧ (packOn 0).string 0 9 = 0 ∧ (packOn 2).string 0 9 ≠ 0)
    ∧ ((pick 4 fun m => m ≠ 0 && (packOn 0).strings[m].present && (packOn 0).strings[m].packId = some someId) = [])
    ∧ (let s := (packOn 0).modString 1 fun b => { b with st := .disabled, present := true, packId := some someId };
      (pick 4 fun m => m ≠ 0 && s.strings[m].present && s.strings[m].packId = some someId) ≠ [])
    ∧ (let s := (on.modString 0 fun b => { b with st := .open, present := false, goneUs := 7 }).at 3000007;
      s.strings[(0 : StringNo)].present = false ∧ s.strings[(0 : StringNo)].st ≠ .disabled ∧ s.strings[(0 : StringNo)].st ≠ .absent
        ∧ s.strings[(0 : StringNo)].goneUs + 3000000 ≤ s.clk.timeUs ∧ s.modes.safe = false)
    ∧ (let s := ({ on with modes := { on.modes with safe := true, safeWhy := 2, safeUs := 4 } } : State).at 1000000000;
      s.modes.safe = true ∧ s.modes.safeWhy = 2 ∧ s.modes.safeUs + s.string 0 0xC * 1000 ≤ s.clk.timeUs)
    ∧ (let s := (on.modString 0 fun b => { b with st := .connected, lvdUs := some 4 }).at 1000000000;
      s.modes.safe = false ∧ s.strings[(0 : StringNo)].lvdUs = some 4 ∧ 4 + s.string 0 0xC * 1000 ≤ s.clk.timeUs)
    ∧ (let s := (on.modString 0 fun b => { b with st := .connected, lowUs := some 4, highUs := some 5 }).at 1000005;
      s.strings[(0 : StringNo)].st = .connected ∧ s.modes.safe = false ∧ s.strings[(0 : StringNo)].lowUs = some 4 ∧ 4 + 1000000 ≤ s.clk.timeUs
        ∧ s.strings[(0 : StringNo)].highUs = some 5 ∧ 5 + 1000000 ≤ s.clk.timeUs)
    ∧ (let s := ({ on with packs := [{ packId := someId, a := none, b := none, seen := 0 }] } : State).modString 0 fun b => { b with st := .open, packId := some someId, writeDue := true };
      (s.strings[(0 : StringNo)].packId.bind s.slotOf).isSome = true ∧ s.strings[(0 : StringNo)].writeDue = true
        ∧ s.strings[(0 : StringNo)].unverified = false ∧ s.strings[(0 : StringNo)].st ≠ .rejected ∧ s.strings[(0 : StringNo)].st ≠ .authenticating
        ∧ s.seq.pfi = false ∧ s.seq.gaspPending = none ∧ s.manage = .running) := by and_intros <;> decide +kernel

/-- `on` with rail 0 external, its slot due. -/
def railDue : State := (on.given 0x2310 1 3).modRail 0 fun r => { r with slotDue := true, slotUs := 0 }

/-- `on` with rail 0 judging against a timeout of 5 ms that has passed, by its policy. -/
def railLate (policy : Int) : State :=
  ((((on.given 0x2310 7 5).given 0x2310 8 policy).given 0x2310 1 3).modRail 0 fun r => { r with st := .judging, retriesLeft := 1, markUs := 4 }).at 5004

theorem witness_RailCommands :
    (on.modes.safe = false ∧ (on.modModes fun m => { m with safe := true }).modes.safe = true)
    ∧ (railDue.modes.safe = false ∧ railDue.railKind 0 ≠ 0 ∧ railDue.seq.rails[(0 : RailNo)].slotDue = true
      ∧ railDue.seq.rails[(0 : RailNo)].slotUs ≤ railDue.clk.timeUs ∧ railDue.seq.st ≠ .offSequence ∧ railDue.railShed 0 = false
      ∧ railDue.railSkips 0 = false)
    ∧ ((railDue.modSeq fun q => { q with st := .offSequence }).seq.st = .offSequence)
    ∧ (((railDue.given 0x2310 2 0).modSink 0x30 fun k => { k with shed := 1 }).railShed 0 = true)
    ∧ (((railDue.given 0x2310 1 1).given 0x2310 2 0).railShed 0 = false ∧ ((railDue.given 0x2310 1 1).given 0x2310 2 0).railSkips 0 = true)
    ∧ (let s := railLate 2;
      s.modes.safe = false ∧ s.seq.st ≠ .offSequence ∧ s.railKind 0 ≠ 0 ∧ s.seq.rails[(0 : RailNo)].st = .judging
        ∧ s.seq.rails[(0 : RailNo)].pgLost = false ∧ s.railPg 0 = false ∧ s.rail 0 7 ≠ 0
        ∧ s.seq.rails[(0 : RailNo)].markUs + s.rail 0 7 * 1000 ≤ s.clk.timeUs ∧ s.rail 0 8 = 2 ∧ 0 < s.seq.rails[(0 : RailNo)].retriesLeft
        ∧ s.seq.rails[(0 : RailNo)].asContinue = false)
    ∧ ((railLate 1).rail 0 8 ≠ 2 ∧ (railLate 0).rail 0 8 ≠ 2)
    ∧ (let s := ((on.given 0x2310 1 3).modRail 0 fun r => { r with st := .retryWait, retryOwn := true, markUs := 4 }).at 100000000004;
      s.seq.rails[(0 : RailNo)].st = .retryWait ∧ s.seq.rails[(0 : RailNo)].retryOwn = true ∧ s.seq.st ≠ .offSequence ∧ s.modes.safe = false
        ∧ s.seq.rails[(0 : RailNo)].markUs + s.rail 0 0xA * 1000 ≤ s.clk.timeUs)
    ∧ (let s := (((on.modModes fun m => { m with mode := some .settling }).given 0x2310 1 3).given 0x2310 0xF 1).modRail 0 fun r => { r with offWatch := true, pgLevel := true, markUs := 4 };
      s.railKind 0 ≠ 0 ∧ s.seq.rails[(0 : RailNo)].offWatch = true ∧ s.inModes [.settling] = true ∧ s.modes.safe = false ∧ s.rail 0 0xF ≠ 0
        ∧ s.railPg 0 = true ∧ s.seq.rails[(0 : RailNo)].markUs + s.rail 0 0xF * 1000 ≤ (s.at 1004).clk.timeUs) := by
  and_intros <;> decide +kernel

theorem witness_HoldupCommands :
    (let s := on.modSeq fun q => { q with settlePending := some [1#8] };
      s.seq.settlePending = some [1#8] ∧ s.seq.gaspPending = none)
    ∧ (let s := ((on.modModes fun m => { m with mode := some .settling }).modSeq fun q => { q with offDone := true, committed := true, doneUs := 3 }).at 100000000003;
      s.inModes [.settling] = true ∧ s.seq.offDone = true ∧ s.seq.committed = true ∧ s.seq.doneUs + s.cfgN 0x2300 3 * 1000 ≤ s.clk.timeUs)
    ∧ (State.reset.modes.mode = none ∧ on.modes.mode = some .tending ∧ on.seq.recordMode = false)
    ∧ ((on.modSeq fun q => { q with recordMode := true }).seq.recordMode = true)
    ∧ ((on.modSeq fun q => { q with gaspPending := some [1#8] }).seq.gaspPending = some [1#8])
    ∧ (let s := (on.modSeq fun q => { q with pfi := true, pfiUs := 1 }).at 100000001;
      s.seq.pfi = true ∧ 100000000 = s.clk.timeUs - s.seq.pfiUs ∧ s.cfgN 0x2301 4 * 1000 ≤ 100000000) := by and_intros <;> decide +kernel

theorem witness_ThermalCommands :
    (let s := (on.given 0x2410 1 0).at 100000;
      s.thermalRuns = true ∧ s.thermal[(0 : InputNo)].evalUs + 100000 ≤ s.clk.timeUs ∧ s.thermal[(0 : InputNo)].mean = none
        ∧ ((s.adoptSet ⟨0x12, 0, 0xFF⟩).adoptSet ⟨0x11, 0, 0xFF⟩).therm 0 1 = 0)
    ∧ (((on.adoptSet ⟨0x12, 0, 0xFF⟩).adoptSet ⟨0x11, 0xF, 0xFF⟩).therm 0xF 1 ≠ 0 ∧ meanOk 0 (49 / 50) = true ∧ meanOk 0 (99 / 100) = false
      ∧ meanOk 0x10 2 = true)
    ∧ (let s := on.modThermal 0 fun t => { t with st := .normal, tenths := List.replicate 10 5 };
      s.thermalRuns = true ∧ s.thermal[(0 : InputNo)].st ≠ .invalid ∧ s.thermal[(0 : InputNo)].st ≠ .off
        ∧ s.thermal[(0 : InputNo)].tenths.length = 10)
    ∧ (let s := (on.modThermal 0 fun t => { t with st := .throttle, clearUs := 4 }).at 100000000004;
      s.thermalRuns = true ∧ s.thermal[(0 : InputNo)].acts = true ∧ s.thermal[(0 : InputNo)].st ≠ .invalid
        ∧ s.thermal[(0 : InputNo)].throttles = false ∧ s.thermal[(0 : InputNo)].clearUs + s.cfgN 0x2400 9 * 1000000 ≤ s.clk.timeUs)
    ∧ (let s := (on.modClk fun c => { c with regionDiff := true, diffUs := 2 }).at 10000002;
      s.clk.regionDiff = true ∧ s.clk.dieDiff ≤ 18 ∧ s.clk.diffUs + 10000000 ≤ s.clk.timeUs) := by and_intros <;> decide +kernel

theorem witness_LaneCommands :
    (on.laneLive = true ∧ on.standby = some .b ∧ on.lanes.active = some .a)
    ∧ (let s := on.modLanes fun p => { p with pair := .switching };
      s.lanes.pair = .switching ∧ s.modes.safe = false)
    ∧ (let s := (on.given 0x2500 8 5).at 5000000;
      s.standby = some .b ∧ s.lanes.pair = .paired ∧ s.cfgN 0x2500 8 ≠ 0 ∧ s.lanes.windowUs + s.cfgN 0x2500 8 * 1000000 ≤ s.clk.timeUs
        ∧ s.modes.safe = false ∧ s.seq.recordMode = false ∧ s.inModes [.settling] = false)
    ∧ (let s := (on.modLanes fun p => { p with pair := .simplex, b := { p.b with st := .retired, autoLeft := 1, retiredUs := 4 } }).at 100000000004;
      (s.lanes.lane .b).st = .retired ∧ 0 < (s.lanes.lane .b).autoLeft ∧ s.returnBarred = false
        ∧ (s.lanes.lane .b).retiredUs + s.cfgN 0x2500 0xB * 1000000 ≤ s.clk.timeUs)
    ∧ (let s := on.modLanes fun p => { p with pair := .simplex, returning := some .b, b := { p.b with st := .testing } };
      s.lanes.returning = some .b ∧ (s.lanes.lane .b).st = .testing ∧ s.modes.safe = false)
    ∧ (let s := on.modLanes fun p => { p with pair := .syncing, b := { p.b with st := .syncing } };
      s.standby = some .b ∧ (s.lanes.lane .b).st = .syncing ∧ s.lanes.pair = .syncing)
    ∧ (∀ l : Lane, ((on.modLane l fun x => { x with bgFails := wrap32 (x.bgFails + 1) }).event (srcLoop (Lane.code l)) 0x9008 (Lane.code l)
      (laneByte l ++ byte 0)).lanes.active = some .a) := by
  and_intros <;> first | decide +kernel | exact fun l => by cases l <;> decide +kernel

theorem witness_CanCommands :
    (canOn.onBus 0 = true ∧ canOn.canLive 0 = true)
    ∧ (let s := on.modCan 1 fun x => { x with port := .busOff };
      s.can[(1 : CanNo)].port = .busOff ∧ s.manage = .running)
    ∧ (let s := ((canOn.given 0x1016 1 0x50064).modCan 0 fun x => { x with heard := [(5, 2)] }).at 100002;
      s.canLive 0 = true ∧ s.overdue 0 5 = true)
    ∧ (let s := ((canOn.given 0x1017 0 100).modCan 0 fun x => { x with beatUs := 2 }).at 100002;
      s.canLive 0 = true ∧ s.cfg 0x1017 0 ≠ 0 ∧ s.can[(0 : CanNo)].nmt ≠ .initialising
        ∧ s.can[(0 : CanNo)].beatUs + s.cfgN 0x1017 0 * 1000 ≤ s.clk.timeUs) := by and_intros <;> decide +kernel

/-- `canOn` with TPDO 0 valid, sent on events of port 0. -/
def tpdoOn : State := (((canOn.given 0x2106 1 0).given 0x1800 1 5).given 0x1800 2 254).given 0x1800 5 9

theorem witness_CanMessages :
    (canOn.canLive 0 = true ∧ canOn.onBus 0 = true ∧ canOn.can[(0 : CanNo)].lssNode = none ∧ arbRates.contains 500 = true
      ∧ arbRates.contains 501 = false)
    ∧ (let s := canOn.modCan 0 fun x => { x with lssNode := some 5 };
      s.onBus 0 = true ∧ s.can[(0 : CanNo)].lssNode = some 5)
    ∧ (let s := on.at 1000000000;
      s.recorderUp = true ∧ s.checkUs + s.telemetryMs * 1000 ≤ s.clk.timeUs)
    ∧ (let s := tpdoOn.at 1000000000;
      s.tpdoPort 0 = some 0 ∧ 254 ≤ s.tpdoType 0 ∧ s.tpdoInhibit[(0 : Fin 32)] = false ∧ s.cfgN (0x1800 + (0 : Fin 32)) 5 ≠ 0
        ∧ s.tpdoTimeUp 0 (s.cfgN (0x1800 + (0 : Fin 32)) 5 * 1000) = true ∧ s.tpdoTimeUp 0 (s.cfgN (0x1800 + (0 : Fin 32)) 3 * 100) = true)
    ∧ (({ tpdoOn with tpdoInhibit := tpdoOn.tpdoInhibit.set 0 true, tpdoDue := tpdoOn.tpdoDue.set 0 true } : State).tpdoPort 0 = some 0)
    ∧ (let s := ((canOn.given 0x2107 1 0).given 0x1400 1 5).given 0x2108 1 5;
      toFin? 2 (s.cfgN 0x2107 1) = some 0 ∧ s.canLive 0 = true ∧ s.can[(0 : CanNo)].nmt = .operational ∧ s.pdoValid 0x1400 = true
        ∧ s.cfgN 0x2108 1 ≠ 0 ∧ ([] : Bytes).length ≤ s.pdoLimit 0 ∧ (rpdoItems (s.mapping 0x1600) []).isSome = true
        ∧ (s.contact { kind := .usdo, port := 0, addr := s.cfgN 0x2108 1 }).1 = some 0)
    ∧ (∀ q ∈ [[], [(0x8140, ([] : Bytes))]], let s := (canOn.modCan 0 fun x => { x with inhibited := true, emcyQueue := q }).at 100000000;
      s.can[(0 : CanNo)].inhibited = true ∧ s.can[(0 : CanNo)].emcyUs + s.cfgN 0x1015 0 * 100 ≤ s.clk.timeUs) := by
  and_intros <;> decide +kernel

theorem witness_HostTimers :
    (let s := on.modHost 0 fun x => { x with silenceMs := 100000000 };
      s.hosts[(0 : HostNo)].used = true ∧ s.manage = .running ∧ s.cfgN 0x2100 2 * 1000 ≤ s.hosts[(0 : HostNo)].silenceMs)
    ∧ (let s : State := { on with lockOwner := some 0, lockMs := 0 };
      s.lockOwner = some 0 ∧ s.lockMs = 0 ∧ s.manage = .running)
    ∧ (let s := on.modDict fun d => { d with storing := some (1, on.newImage 1, serviceKey) };
      s.manage = .running ∧ s.seq.gaspPending = none ∧ s.seq.settlePending = none ∧ s.dict.storing.isSome = true)
    ∧ (∀ set ∈ [2, 3, 4, 5, 6, 7, 8, 9, 0xA, 0xB, 0xC, 0xD, 0xE, 0xF, 0x11, 0x12, 0x14], 0 < setCount set) := by and_intros <;> decide +kernel

/-- Context 0 at DAP port 0, running a request. -/
def dapOn (r : Option DapReq) : State := (onAs (dapKey 0) .vnd).modDap 0 fun x => { x with req := r }

theorem witness_DapCommands :
    ((dapOn none).dapServes 0 = true ∧ (dapOn none).dap[(0 : DapNo)].req = none
      ∧ (((dapOn none).modDap 0 (Dap.load (.read 0x1018 1 0))).contact (dapKey 0)).1 = some 0 ∧ (DapReq.read 0x1018 1 0).lengthOk = true)
    ∧ ((DapReq.multi (List.replicate 1025 0#8)).lengthOk = false)
    ∧ (let s := (dapOn (some (.read 0x1018 1 0)));
      s.dapServes 0 = true ∧ s.dap[(0 : DapNo)].req ≠ none ∧ s.dapStoring 0 = false ∧ s.recorderUp = true ∧ s.phase = .running
        ∧ s.ctxOf (dapKey 0) = some 0)
    ∧ (let s : State := { dapOn none with hosts := Vector.replicate 32 { HostCtx.reset with used := true, key := usdo5, cls := .vnd } };
      s.dapServes 0 = true ∧ s.dap[(0 : DapNo)].req = none ∧ ((s.modDap 0 (Dap.load (.read 0x1018 1 0))).contact (dapKey 0)).1 = none)
    ∧ (let s := dapOn (some (.write 0x2005 4 (le 4 5)));
      s.dapStoring 0 = false ∧ (s.write 0 0x2005 4 (le 4 5)).1 = 0)
    ∧ (let s := dapOn (some (.write 0x1010 1 (le 4 0x65766173)));
      s.dapStoring 0 = false ∧ (s.write 0 0x1010 1 (le 4 0x65766173)).1 = 0)
    ∧ (let s := dapOn (some (.multi []));
      s.dapStoring 0 = false ∧ (s.write 0 0x2104 1 []).1 ≠ 0) := by and_intros <;> decide +kernel

theorem witness_IcuCommands :
    (on.coreUp 0 = true ∧ on.topSource 0 = none ∧ on.manage = .running)
    ∧ (let s := on.modSrc 60 fun x => { x with pending := true, prio := 3, released := true };
      s.coreUp 0 = true ∧ s.topSource s.srcs[(60 : SharedNo)].target = some (.shared 60))
    ∧ (let s := (on.modSrc 60 fun x => { x with events := 1, modHold := 5, target := 0, pending := true, released := false, firstUs := 2 }).at 7;
      s.manage = .running ∧ 0 < s.srcs[(60 : SharedNo)].counted ∧ s.srcs[(60 : SharedNo)].modHold ≠ 0
        ∧ s.srcs[(60 : SharedNo)].firstUs + s.srcs[(60 : SharedNo)].modHold ≤ s.clk.timeUs)
    ∧ (let s := on.modSrc 60 fun x => { x with claimedBy := some 1 };
      s.coreUp 1 = true ∧ (93#8).toNat = 33 + (60 : SharedNo) ∧ s.srcs[(60 : SharedNo)].claimedBy = some 1)
    ∧ (on.sharedPage 1 = true) := by and_intros <;> decide +kernel

theorem witness_CoreCommands :
    (on.coreUp 3 = true ∧ on.cores[(3 : CoreNo)].scrubBusy = false ∧ on.cores[(3 : CoreNo)].scrubQueued = false
      ∧ (recentFaults on.now on.cores[(3 : CoreNo)].faultTimes ++ [on.now]).length < 3)
    ∧ (on.scrubOk 0 true sramBase 4 = true ∧ on.scrubOk 0 false 0xF0000000 4 = false)
    ∧ (let s := on.modCore 1 fun x => { x with scrubBusy := true, scrubAbortDue := true };
      s.coreUp 1 = true ∧ s.cores[(1 : CoreNo)].scrubBusy = true ∧ s.cores[(1 : CoreNo)].scrubQueued = false ∧ s.manage = .running
        ∧ s.cores[(1 : CoreNo)].scrubAbortDue = true)
    ∧ ((on.modCore 1 fun x => { x with scrubQueued := true }).cores[(1 : CoreNo)].scrubQueued = true)
    ∧ (let s := on.modCore 2 fun x => { x with faultTimes := [0, 0] };
      s.coreUp 2 = true ∧ 3 ≤ (recentFaults s.now s.cores[(2 : CoreNo)].faultTimes ++ [s.now]).length) := by and_intros <;> decide +kernel

theorem witness_RecorderSteps :
    (let s := on.given 0x2600 5 5;
      s.manage = .running ∧ s.cfgN 0x2600 5 ≠ 0)
    ∧ (let s := on.modRec fun q => { q with appendDue := [rec7], reserveDue := true };
      s.manage = .running ∧ s.seq.gaspPending = none ∧ s.seq.settlePending = none ∧ s.recorder.reserveDue = true
        ∧ (s.recorder.appendDue.find? fun r => r.seq = 7) = some rec7) := by and_intros <;> decide +kernel

/-- Context 0 at address 5 of two-wire port 0, the port idle. -/
def twOn : State := ((onAs { kind := .twoWire, port := 0, addr := 5 } .vnd).given 0x2800 4 0x20).modTw 0 fun x => { x with st := .idle }

/-- What `twTakes` asks of that state, as one test. -/
def okFrame (s : State) : Bool :=
  s.twAwake 0 && ((s.modTw 0 fun x => { x with st := .idle, frameUs := s.clk.timeUs }).contact (twKey 0 5)).1 = some 0

theorem okFrame_takes {s : State} (w : okFrame s = true) :
    s.twTakes 0 5 0 ((s.modTw 0 fun x => { x with st := .idle, frameUs := s.clk.timeUs }).contact (twKey 0 5)).2 := by
  simp only [okFrame, Bool.and_eq_true, decide_eq_true_eq] at w
  exact ⟨w.1, Prod.ext w.2 rfl⟩

theorem witness_TwoWireReads :
    (okFrame twOn = true ∧ twOn.twBusy 0 5 = false ∧ twOn.alertSink 0 0 = none)
    ∧ (let s := twOn.modSink 3 fun k => { k with throttle := 1 };
      okFrame s = true ∧ s.alertSink 0 0 = some 3)
    ∧ (let s := twOn.modCtx 0 fun c => { c with result := 1 };
      s.twBusy 0 5 = true ∧ s.twAwake 0 = true) := by and_intros <;> decide +kernel

theorem witness_TwoWireWrites :
    (okFrame twOn = true ∧ twOn.hosts[(0 : HostNo)].tw.result ≠ 1 ∧ twOn.hosts[(0 : HostNo)].tw.selWrite = none)
    ∧ (okFrame (twOn.modCtx 0 fun c => { c with result := 1 }) = true)
    ∧ (let b := [1#8, 0x18, 0x10, 1, 0, 0, 0, 0, 0];
      b.length = 9 ∧ numAt b 0 1 = 1 ∧ numAt b 4 1 = 0)
    ∧ (let b := [2#8, 0x05, 0x20, 4, 0, 0, 0, 0, 0];
      b.length = 9 ∧ numAt b 0 1 = 2 ∧ numAt b 4 1 = 0 ∧ numAt b 5 4 = 0)
    ∧ (okFrame (twOn.modCtx 0 fun c => { c with selWrite := some (0x2005, 4) }) = true)
    ∧ (∀ b ∈ [[1#8, 0], [3#8, 1, 7, 7]], b.length = numAt b 0 1 + 1 ∧ 2 ≤ b.length)
    ∧ (numAt [1#8, 0] 1 1 % 2 = 0 ∧ numAt [3#8, 1, 7, 7] 1 1 % 2 = 1)
    ∧ (let s := twOn.modRec fun q => { q with ring := [rec7] };
      okFrame s = true ∧ numAt [3#8, 7, 0, 0, 0] 0 1 = 3 ∧ (writeCursor 0 (numAt [3#8, 7, 0, 0, 0] 1 4) s).1 = 0)
    ∧ (let b := byte 48 ++ grantOf8;
      b.length = numAt b 0 1 + 1 ∧ 21 ≤ b.length ∧ b.length ≤ 49) := by and_intros <;> decide +kernel

theorem witness_TwoWireLines :
    (twOn.twAwake 0 = true ∧ twOn.twTarget 0 = true ∧ twOn.twDrives 0 = true ∧ twOn.ctxOf (twKey 0 5) = some 0 ∧ twOn.ctxOf (twKey 0 6) = none
      ∧ twOn.tw[(0 : TwNo)].nacks = 0 ∧ twOn.tw[(0 : TwNo)].attempts = 0)
    ∧ (let s := twOn.modTw 0 fun x => { x with alertPending := true, nacks := 1, attempts := 2, arbRun := 2 };
      s.twAwake 0 = true ∧ s.tw[(0 : TwNo)].alertPending = true ∧ s.cfgN 0x2800 4 ≤ (0x20#7).toNat ∧ (0x1F#7).toNat < s.cfgN 0x2800 4
        ∧ s.tw[(0 : TwNo)].nacks ≠ 0 ∧ s.tw[(0 : TwNo)].notifyUs + 10000 ≤ (s.at 10000).clk.timeUs ∧ 2 ≤ s.tw[(0 : TwNo)].attempts
        ∧ s.tw[(0 : TwNo)].attemptUs + 10000 ≤ (s.at 10000).clk.timeUs ∧ 3 ≤ s.tw[(0 : TwNo)].arbRun + 1)
    ∧ ((List.take 9 [false, true]).any id = true ∧ (List.take 9 (List.replicate 9 false)).any id = false)
    ∧ (let s := (twOn.modHost 0 fun x => { x with budgets := x.budgets.map fun _ => 50000 }).at 5000;
      s.recorderUp = true ∧ s.twShown 0 = .idle ∧ s.tw[(0 : TwNo)].frameUs + 5000 ≤ s.clk.timeUs ∧ s.tw[(0 : TwNo)].notifies = []
        ∧ s.tw[(0 : TwNo)].alertPending = false ∧ s.twPollDue 0 = false ∧ (if s.twPolicy 0 = 0 then 1 else 10) ≤ s.portBudget 0)
    ∧ (let s := (twOn.modTw 0 fun x => { x with stretch := some (5, .clocked 1, 1) }).at 2001;
      s.tw[(0 : TwNo)].stretch = some (5, .clocked 1, 1) ∧ 1 + 2000 ≤ s.clk.timeUs)
    ∧ (let s := twOn.modTw 0 fun x => { x with st := .asleep };
      s.recorderUp = true ∧ s.twServes 0 = true ∧ s.tw[(0 : TwNo)].st = .asleep)
    ∧ (let s := (twOn.modTw 0 fun x => { x with st := .fault, faultUs := 3 }).at 1000003;
      s.recorderUp = true ∧ s.tw[(0 : TwNo)].st = .fault ∧ s.tw[(0 : TwNo)].faultUs + 1000000 ≤ s.clk.timeUs)
    ∧ (let s := (((lab.given 0x3010 0x33 3).given 0x3010 0x50 0x40).given 0x3010 0x51 1).modFeeder 16 fun f => { f with st := .on };
      let s := (s.modTw 3 fun x => { x with st := .idle }).at 1000000000;
      s.cell 16 0x33 = (3 : TwNo) ∧ s.cells[(16 : CellNo)].role = .feeder ∧ s.cells[(16 : CellNo)].feeder.st = .on ∧ s.twDrives 3 = true
        ∧ s.cell 16 0x50 ≠ 0 ∧ s.cell 16 0x51 ≠ 0 ∧ s.cells[(16 : CellNo)].regUs + s.telemetryMs * 1000 ≤ s.clk.timeUs)
    ∧ (let s := (lab.modFeeder 16 fun f => { f with st := .on, onCount := 1 }).modReg 255 fun r => { r with st := 1, cell := 16, addr := 0x40, epoch := 1 };
      s.regAt 16 0x40 = some 255 ∧ s.regAt 16 0x41 = none) := by and_intros <;> decide +kernel

/-- Every Fafort frame of length and CRC as R361 has them, whatever its payload holds. -/
theorem frame_whole (type seq : Nat) (payload : Bytes) (h : payload.length ≤ 1024) : Fafort.whole type (frame type (seq % 256) payload) = true := by
  have hc : ∀ b : Bytes, crc32 b % 4294967296 = crc32 b := fun b => Nat.mod_eq_of_lt (BitVec.isLt _)
  simp [Fafort.whole, frame, Nat.mod_eq_of_lt (show payload.length < 65536 by omega), hc]
  omega

theorem witness_FafortSession :
    (on.fafortUp = true ∧ on.fw.session.lastSeq ≠ some 1 ∧ Fafort.whole 1 (frame 1 1 []) = true ∧ Fafort.whole 2 (frame 2 1 []) = true)
    ∧ (Fafort.whole 1 { frame 1 1 [] with crc := 5 } = false ∧ (on.modSession fun x => { x with lastSeq := some 1 }).fw.session.lastSeq = some 1)
    ∧ (on.requested.fw.session.authed = true ∧ on.requested.ctxOf serviceKey = some 0)
    ∧ (let s := on.modSession fun x => { x with open_ := false, authed := false, host := none };
      s.fafortUp = true ∧ s.fw.session.open_ = false ∧ s.fw.session.lockout = false ∧ s.requested.fw.session.authed = false)
    ∧ (let s := on.modSession fun x => { x with authed := false, host := none };
      s.fafortUp = true ∧ s.fw.session.open_ = true ∧ s.fw.session.authed = false ∧ (s.requested.newHost serviceKey).1.isSome = true)
    ∧ ((on.at 10000000).manage = .running ∧ on.fw.session.requestUs + 10000000 ≤ (on.at 10000000).clk.timeUs)
    ∧ (let s := (on.modSession fun x => { x with lockout := true, lockoutUs := 1 }).at 60000001;
      s.fw.session.lockout = true ∧ s.fw.session.lockoutUs + 60000000 ≤ s.clk.timeUs) := by and_intros <;> decide +kernel

/-- A proof of 16 bytes that matches and one that does not, each in a whole frame. -/
theorem witness_FafortProof (key message : Bytes) : ∃ p q : Bytes, p = Config.hmac16 key message ∧ q ≠ Config.hmac16 key message
    ∧ p.length = 16 ∧ q.length = 16 ∧ Fafort.whole 3 (frame 3 1 p) = true ∧ Fafort.whole 3 (frame 3 1 q) = true := by
  have hw := fun (b : Bytes) (h : b.length = 16) => frame_whole 3 1 b (by omega)
  have hp : (Config.hmac16 key message).length = 16 := by simp [Config.hmac16]
  by_cases h : Config.hmac16 key message = List.replicate 16 0
  · exact ⟨_, List.replicate 16 1, rfl, by rw [h]; decide, hp, rfl, hw _ hp, hw _ rfl⟩
  · exact ⟨_, List.replicate 16 0, rfl, Ne.symm h, hp, rfl, hw _ hp, hw _ rfl⟩

/-- `on` with a transfer of an image of 8 bytes under way in slot 1, and how much of it has come. -/
def imageOn (came : Nat) : State :=
  (on.modSession fun x => { x with transfer := true, nextOffset := came }).modSlot 1 fun x =>
    { x with header := List.replicate 16 0 ++ le 4 8 ++ List.replicate 300 0 }

/-- What `sessionTakes` asks of the session, as one test. -/
def okSession (s : State) : Bool :=
  s.fafortUp && decide (s.fw.session.lastSeq ≠ some 1) && s.fw.session.authed && decide (s.ctxOf serviceKey = some 0)

theorem okSession_takes {s : State} (w : okSession s = true) (type : Nat) (payload : Bytes) (h : payload.length ≤ 1024) :
    s.sessionTakes type (frame type 1 payload) 0 (s.requested.touch 0) := by
  simp only [okSession, Bool.and_eq_true, decide_eq_true_eq] at w
  exact ⟨⟨w.1.1.1, frame_whole type 1 payload h, w.1.1.2⟩, w.1.2, w.2, rfl⟩

theorem witness_FafortFrames :
    (okSession on = true ∧ ((on.requested.touch 0).read 0 0x1018 1).1 = 0 ∧ (on.requested.touch 0).fw.trialSlot = none)
    ∧ (let s := on.modSession fun x => { x with readOf := some (0x1018, 1), first := [1, 2] };
      let t := s.requested.touch 0;
      okSession s = true ∧ t.fw.session.readOf = some (0x1018, 1) ∧ 2 ≤ t.fw.session.first.length ∧ t.fw.session.first.length ≤ copyLimit)
    ∧ (let s := on.modTrace 0 fun x => { x with st := .done, samples := List.replicate 1025 [0] };
      let b := ((s.touch 0).read 0 0x2610 0x15).2.1;
      let t := (s.modSession fun x => { x with readOf := some (0x2610, 0x15), first := b }).requested.touch 0;
      copyLimit < b.length ∧ t.fw.session.first = b ∧ (t.read 0 0x2610 0x15).1 = 0 ∧ (t.read 0 0x2610 0x15).2.1 = b ∧ 1024 ≤ b.length)
    ∧ (let b := byte 5 ++ byte 0x20 ++ byte 4 ++ byte 1 ++ le 4 5;
      4 ≤ b.length ∧ bit (numAt b 3 1) 0 = true ∧ ((on.requested.touch 0).write 0 0x2005 4 (b.drop 4)).1 = 0)
    ∧ (let t := (imageOn 0).requested.touch 0;
      okSession (imageOn 0) = true ∧ t.fw.session.transfer = true ∧ numAt [0#8, 0, 0, 0, 1, 2, 3, 4] 0 4 = t.fw.session.nextOffset
        ∧ t.fw.session.lastChunk ≠ some (t.fw.session.nextOffset, 4)
        ∧ t.fw.session.nextOffset + 4 ≤ numAt t.fw.slots[otherSlot t.fw.active].header 16 4)
    ∧ (let t := (imageOn 8).requested.touch 0;
      okSession (imageOn 8) = true ∧ t.fw.session.transfer = true
        ∧ numAt t.fw.slots[otherSlot t.fw.active].header 16 4 ≤ t.fw.session.nextOffset)
    ∧ (numAt (byte 3 ++ List.replicate 43 0#8) 0 1 = 3 ∧ keySlotOk 3 = true ∧ ∀ k ∈ (on.requested.touch 0).fw.keys, k.slot = 3 → k.locked = false) := by
  and_intros <;> decide +kernel

theorem witness_ActivationCommands :
    (let s := on.modSlot 1 fun x => { x with st := .valid, header := List.replicate 332 255 };
      let t := s.requested.touch 0;
      okSession s = true ∧ t.fw.slots[otherSlot t.fw.active].st = .valid
        ∧ t.fw.secVersion ≤ numAt t.fw.slots[otherSlot t.fw.active].header 12 4 ∧ t.fw.trialSlot = none
        ∧ (t.event (srcManage 22) 0xC020 1 (byte 1)).phase ≠ .recovery)
    ∧ (let s := ({ on with phase := .recovery } : State).modSlot 1 fun x => { x with st := .valid, header := List.replicate 332 255 };
      let t := s.requested.touch 0;
      okSession s = true ∧ t.fw.slots[otherSlot t.fw.active].st = .valid ∧ (t.event (srcManage 22) 0xC020 1 (byte 1)).phase = .recovery)
    ∧ (let s := ((on.modSlot 1 fun x => { x with st := .valid }).modFw fun w => { w with activating := some 1, activateUs := 2 }).at 60000002;
      s.fw.activating = some 1 ∧ s.inModes [.tending] = true ∧ s.modes.safe = false ∧ s.manage = .running ∧ s.fw.slots[(1 : FwSlot)].st = .valid
        ∧ s.fw.activateUs + 60000000 ≤ s.clk.timeUs ∧ s.ctxOf serviceKey = some 0)
    ∧ ((onAs (dapKey 0) .opr).ctxOf serviceKey = none)
    ∧ (let s := on.modFw fun w => { w with trial := some 1, settleMs := 100000000, trialLeftMs := 0 };
      s.fw.trial = some 1 ∧ s.manage = .running ∧ s.confirmable 1 = true ∧ s.fw.trialLeftMs = 0) := by and_intros <;> decide +kernel

theorem witness_StepKeepsInv : State.reset.dict.canonical ∧ State.reset.recorder.bounded
    ∧ (match step State.reset with | .next _ => true | _ => false) = true :=
  ⟨⟨by decide, by decide, by decide⟩, ⟨by decide, by decide, by decide, by decide⟩, by decide +kernel⟩

theorem witness_GuardsKept : let s := on.modFw fun w => { w with keys := [{ slot := 3, key := [1], locked := true }] };
    (match exec .ledgerTick s with | .next _ => true | _ => false) = true ∧ (∃ k ∈ s.fw.keys, k.locked = true) := by decide +kernel

theorem witness_ModeFrame : ModeMover (.claim 0) = false ∧ ModeMover .pfiAssert = true
    ∧ (match exec (.claim 0) on with | .next _ => true | _ => false) = true := by decide +kernel

theorem witness_PlantFrame : leavesPlant (.claim 0) = true ∧ (match exec (.claim 0) on with | .next _ => true | _ => false) = true := by decide +kernel

theorem witness_CellFrame : cellOnly (.feederStart 16) = some 16
    ∧ (match exec (.feederStart 16) lab with | .next _ => true | _ => false) = true := by decide +kernel

theorem witness_UnservedLost : requester (.lockCmd serviceKey (byte 1)) = some serviceKey ∧ State.reset.channelUp serviceKey = false := by
  decide +kernel

theorem witness_WriteRefusals :
    (okServe on serviceKey 0 = true ∧ entryOf 0x4FFF 1 = none ∧ (entryOf 0x302F 0x4D).any (fun e => e.wr = none) = true)
    ∧ (let s := onAs serviceKey .obs;
      okServe s serviceKey 0 = true
        ∧ (entryOf 0x3010 0x49).any (fun e => decide (e.wr = some .eng) && !(s.touch 0).hosts[(0 : HostNo)].cls.atLeast .eng) = true)
    ∧ (let s := (onAs serviceKey .slt).modHost 0 fun x => { x with ownSink := some 0x10 };
      okServe s serviceKey 0 = true ∧ (s.touch 0).hosts[(0 : HostNo)].ownSink = some (cellSink 16) ∧ (entryOf 0x3010 0x49).isSome = true)
    ∧ (let s : State := { onAs serviceKey .eng with lockOwner := some 5 };
      okServe s serviceKey 0 = true ∧ (entryOf 0x3010 0x49).any (fun e => (s.touch 0).mayWrite 0 0x3010 0x49 e && (s.touch 0).lockBars 0 e) = true)
    ∧ ((entryOf 0x3010 0x49).any (fun e => (on.touch 0).mayWrite 0 0x3010 0x49 e && !(on.touch 0).lockBars 0 e && decide (e.ty.size = some 2)
        && decide (checkValue e (e.ty.decode (le 2 0)) ≠ 0)) = true)
    ∧ ((entryOf 0x302F 1).any (fun e => (on.touch 0).mayWrite 0 0x302F 1 e && !(on.touch 0).lockBars 0 e && decide (e.ty.size = some 1)
        && decide (checkValue e (e.ty.decode (byte 4)) = 0) && !(on.touch 0).cells[(47 : CellNo)].maintained) = true) := by and_intros <;> decide +kernel

theorem witness_SafeStateNoTransition : let s : State := { on with modes := { on.modes with safe := true } };
    s.modes.safe = true ∧ s.modes.mode = some .tending ∧ s.seq.recordMode = false := by and_intros <;> decide +kernel

theorem witness_DrainTimeoutRule : let s := (lab.modCell 0 fun x => { x with st := .draining, removalUs := 5 }).given 0x3000 0x10 100;
    s.cells[(0 : CellNo)].st = .draining ∧ s.removing 0 = true ∧ s.cell 0 0x10 ≠ 0
      ∧ (s.at 100004).clk.timeUs < s.cells[(0 : CellNo)].removalUs + s.cell 0 0x10 * 1000
      ∧ s.cells[(0 : CellNo)].removalUs + s.cell 0 0x10 * 1000 ≤ (s.at 100005).clk.timeUs := by and_intros <;> decide +kernel

theorem witness_VendingSet : (on.setAgrees ⟨5, 0, 0xFF⟩ = true) ∧ (on.setWritten 0x3200 0xB 0).setAgrees ⟨5, 0, 0xFF⟩ = false := by
  and_intros <;> decide +kernel

theorem witness_PriorityZero :
    (on.srcs[(60 : SharedNo)].prio = 0 ∧ on.manage = .running ∧ on.phase ≠ .held ∧ ((60 : SharedNo) : Nat) < 100
      ∧ on.srcs[(60 : SharedNo)].claimedBy = none)
    ∧ (let s := on.modSrc 60 fun x => { x with pending := true };
      s.sharedPage 1 = true ∧ s.srcs[(60 : SharedNo)].pending = true ∧ (0x1230#32).toNat % 16 = 0) := by and_intros <;> decide +kernel

theorem witness_RecorderRing : on.recorder.bounded ∧ on.recorder.nextSeq ≠ on.recorder.limit ∧ (onAs (dapKey 0) .opr).ctxOf serviceKey = none :=
  ⟨⟨by decide +kernel, by decide +kernel, by decide +kernel, by decide +kernel⟩, by decide +kernel⟩

theorem witness_DictionaryStore : Dict.wf (Dict.store [] 0x3100 1 2) ∧ (1 : Nat) < 256 := by and_intros <;> decide +kernel

end Sys2Proof.Machine
end

/-! PROOF. The reports of the dies and their blocks (R10, R12, R13, R16, R384), command by command. -/

namespace Sys2Proof.Machine

/-- The state in which a slot whose CRC failed is counted (R10). -/
def State.crcCounted (s : State) : State := s.modClk fun k => { k with crcErrors := wrap32 (k.crcErrors + 1) }

/-! SLOT_CRC_FAIL (R10). -/

theorem exec_slotCrcFail_sample {s : State} {c : CellNo} (h : s.cells[c].role ≠ .idle) :
    exec (.slotCrcFail (.sample c)) s = .next (s.crcCounted.modCell c fun x => { x with lostSample := true }) :=
  congrArg Host.Outcome.next (if_neg h)

theorem exec_slotCrcFail_command {s : State} {c : CellNo} (h : s.cells[c].role ≠ .idle) :
    exec (.slotCrcFail (.command c)) s = .next (s.crcCounted.modCell c fun x => { x with lostCommand := true }) :=
  congrArg Host.Outcome.next (if_neg h)

theorem exec_slotCrcFail_sample_idle {s : State} {c : CellNo} (h : s.cells[c].role = .idle) :
    exec (.slotCrcFail (.sample c)) s = .next s.crcCounted :=
  congrArg Host.Outcome.next (if_pos h)

theorem exec_slotCrcFail_command_idle {s : State} {c : CellNo} (h : s.cells[c].role = .idle) :
    exec (.slotCrcFail (.command c)) s = .next s.crcCounted :=
  congrArg Host.Outcome.next (if_pos h)

theorem exec_slotCrcFail_other (s : State) : exec (.slotCrcFail .other) s = .next s.crcCounted := rfl

/-! LINK_LOSS and LCLK_LOSS (R12, R16). -/

theorem exec_linkLoss_mixedSignal (s : State) :
    exec (.linkLoss .mixedSignal) s = .next ((s.setSafeAll 2).modPins fun p => { p with safeN := false }) := rfl

theorem exec_linkLoss_digital (s : State) : exec (.linkLoss .digital) s = .next (State.errReset s (s.enterSafe 2)) := rfl

theorem exec_lclkLoss {s : State} (h : s.lanes.pair ≠ .off) : exec .lclkLoss s = .next (State.errReset s (s.enterSafe 3)) :=
  if_neg h

/-! BLOCK_LOCAL_RESET (R13, R384). -/

/-- A channel block held in reset, each of its cells with its safe action (R13). -/
def State.holdBlock (b : BlockNo) (t : State) : State :=
  State.each { t with heldBlocks := t.heldBlocks ||| BitVec.ofNat 6 (2 ^ (b : Nat)) } 48 fun c u =>
    if (c : Nat) / 8 = b then u.setSafe c 3 else u

theorem exec_blockLocalReset_cb (s : State) (b : BlockNo) (x y : Bool) :
    exec (.blockLocalReset (.cb b) x y) s =
      if (x || y) = true then .next (s.resetBlock b) else .next (State.errReset s ((s.resetBlock b).holdBlock b)) := rfl

theorem exec_blockLocalReset_other (s : State) (src : BitVec 8) (x y : Bool) :
    exec (.blockLocalReset (.other src) x y) s =
      if (x || y) = true ∨ s.heldOther.contains src = true then .next s
      else .next { s with heldOther := s.heldOther ++ [src] } := rfl

theorem exec_blockLocalReset_cb_passed {s : State} {b : BlockNo} {x y : Bool} (h : x = true ∨ y = true) :
    exec (.blockLocalReset (.cb b) x y) s = .next (s.resetBlock b) :=
  (exec_blockLocalReset_cb s b x y).trans (if_pos (Bool.or_eq_true_iff.mpr h))

theorem exec_blockLocalReset_cb_failed (s : State) (b : BlockNo) :
    exec (.blockLocalReset (.cb b) false false) s = .next (State.errReset s ((s.resetBlock b).holdBlock b)) :=
  (exec_blockLocalReset_cb s b false false).trans (if_neg Bool.false_ne_true)

theorem exec_blockLocalReset_other_passed {s : State} {src : BitVec 8} {x y : Bool} (h : x = true ∨ y = true) :
    exec (.blockLocalReset (.other src) x y) s = .next s :=
  (exec_blockLocalReset_other s src x y).trans (if_pos (.inl (Bool.or_eq_true_iff.mpr h)))

theorem exec_blockLocalReset_other_failed {s : State} {src : BitVec 8} (h : src ∉ s.heldOther) :
    exec (.blockLocalReset (.other src) false false) s = .next { s with heldOther := s.heldOther ++ [src] } :=
  (exec_blockLocalReset_other s src false false).trans (if_neg (by simpa using h))

/-- Settles O5, from the equation of each command. -/
theorem linkCommands : Obligations.LinkCommands := by
  refine ⟨fun s c h => ⟨exec_slotCrcFail_sample h, exec_slotCrcFail_command h⟩,
    fun s c h => ⟨exec_slotCrcFail_sample_idle h, exec_slotCrcFail_command_idle h⟩,
    exec_slotCrcFail_other, exec_linkLoss_mixedSignal, exec_linkLoss_digital, fun s h => exec_lclkLoss h,
    fun s b x y => ⟨exec_blockLocalReset_cb_passed, ?_⟩, fun s src x y => ⟨exec_blockLocalReset_other_passed, ?_⟩⟩
  · rintro rfl rfl
    exact exec_blockLocalReset_cb_failed s b
  · rintro rfl rfl h
    exact exec_blockLocalReset_other_failed h

end Sys2Proof.Machine

/-! PROOF. What a member's period comes to, by its loop, the lanes and its own part (R66). -/

namespace Sys2Proof.Machine

/-- The end of a member's period: the holding window of a cell that was held at its start is watched (R50). -/
def State.watchHold (m : CellNo) (held : Bool) (t : State) : State := if held then t.modCell m Cell.holdWatch else t

section
variable {s : State} {k : LoopNo} {m : CellNo} (x : MemberSample)

/-! The member's period in its loop (R63, R126). -/

theorem State.loopMember_computing (h : ((s.periodStart k m).computing k).contains m = true) :
    s.loopMember k m x =
      if (s.periodStart k m).inGap then (s.periodStart k m).gapPeriod k m x else (s.periodStart k m).memberPeriod k m x :=
  if_pos h

theorem State.loopMember_traced (h : ((s.periodStart k m).computing k).contains m = false) (hb : s.boundaryDue k m = true)
    (hl : (s.periodStart k m).lastMember k = none) :
    s.loopMember k m x = (s.periodStart k m).traceLoop k (s.periodStart k m).inGap :=
  (if_neg (ne_true_of_eq_false h)).trans (if_pos ⟨hb, hl⟩)

theorem State.loopMember_gridOnly (h : ((s.periodStart k m).computing k).contains m = false)
    (hn : s.boundaryDue k m = false ∨ (s.periodStart k m).lastMember k ≠ none) : s.loopMember k m x = s.periodStart k m :=
  (if_neg (ne_true_of_eq_false h)).trans (if_neg fun ⟨hb, hl⟩ => hn.elim (fun h => ne_true_of_eq_false h hb) fun h => h hl)

/-! LOOP_PERIOD (R66) of a PHASE or LINE member. -/

section
variable (hm : s.isMember k m = true) (hr : s.cells[m].role = .phase ∨ s.cells[m].role = .line)
include hm hr

/-- A member's period, before the loop and the lanes are looked at. -/
theorem exec_loopPeriod_member :
    exec (.loopPeriod k m x) s = .next (State.watchHold m s.cells[m].holding (
      if s.loops[k].active ∧ (s.inGap ∨ s.lanesRun) then
        if s.lanesRun ∧ !x.memoryOk then s.loopMemoryError k else s.loopMember k m x
      else if s.cells[m].holding ∨ s.samplesIdle k m then s.takeSample m x true
      else s)) := by
  refine congrArg Host.Outcome.next (if_neg ?_)
  rintro (h | ⟨hp, hl⟩)
  · exact ne_true_of_eq_false ((Bool.not_eq_true' _).mp h) hm
  · exact hr.elim hp hl

/-- A memory error of the lanes that compute the loop stops it (R13). -/
theorem exec_loopPeriod_memoryError (ha : s.loops[k].active = true) (hl : s.lanesRun = true) (he : x.memoryOk = false) :
    exec (.loopPeriod k m x) s = .next (State.watchHold m s.cells[m].holding (s.loopMemoryError k)) := by
  rw [exec_loopPeriod_member x hm hr, if_pos ⟨ha, .inr hl⟩, if_pos ⟨hl, (Bool.not_eq_true' _).mpr he⟩]

/-- The member's period of an active loop that the lanes compute, or that repeats in a gap. -/
theorem exec_loopPeriod_taken (ha : s.loops[k].active = true) (hl : s.inGap = true ∨ s.lanesRun = true)
    (hok : s.lanesRun = true → x.memoryOk = true) :
    exec (.loopPeriod k m x) s = .next (State.watchHold m s.cells[m].holding (s.loopMember k m x)) := by
  rw [exec_loopPeriod_member x hm hr, if_pos ⟨ha, hl⟩, if_neg]
  rintro ⟨hrun, he⟩
  exact ne_true_of_eq_false ((Bool.not_eq_true' _).mp he) (hok hrun)

/-- A loop that takes no period: a held cell is watched on its sample, and a PHASE cell of a stopped loop goes on sampling (R40, R50). -/
theorem exec_loopPeriod_idle (h : s.loops[k].active = false ∨ (s.inGap = false ∧ s.lanesRun = false)) :
    exec (.loopPeriod k m x) s = .next (
      if s.cells[m].holding then (s.takeSample m x true).modCell m Cell.holdWatch
      else if s.samplesIdle k m then s.takeSample m x true else s) := by
  rw [exec_loopPeriod_member x hm hr, if_neg]
  · cases s.cells[m].holding <;> simp [State.watchHold]
  · rintro ⟨ha, hl⟩
    rcases h with h | ⟨hg, hn⟩
    · exact ne_true_of_eq_false h ha
    · exact hl.elim (ne_true_of_eq_false hg) (ne_true_of_eq_false hn)

end

theorem State.samplesIdle_iff :
    s.samplesIdle k m = true ↔ s.cells[m].role = .phase ∧ s.loops[k].active = false ∧ s.cells[m].st ≠ .testing := by
  simp [State.samplesIdle, and_assoc]

end

/-- Settles O20: the loop and the lanes choose the command's branch, the computing members and the boundary that of the member. -/
theorem loopPeriodCommand : Obligations.LoopPeriodCommand := by
  intro s k m x hm hr
  refine ⟨exec_loopPeriod_memoryError x hm hr, fun ha _ hl hok => ?_, fun ha hg hn hc hgap => ?_, fun h => ?_⟩
  · have taken := exec_loopPeriod_taken x hm hr ha (.inr hl) fun _ => hok
    refine ⟨fun hc => ?_, fun hc hn => ?_, fun hc hb hlast => ?_⟩
    · rw [taken, State.loopMember_computing x hc]; rfl
    · rw [taken, State.loopMember_gridOnly x hc hn]; rfl
    · rw [taken, State.loopMember_traced x hc hb hlast]; rfl
  · rw [exec_loopPeriod_taken x hm hr ha (.inl hg) fun h => absurd h (ne_true_of_eq_false hn), State.loopMember_computing x hc,
      if_pos hgap]
    rfl
  · rw [exec_loopPeriod_idle x hm hr h]
    simp only [State.samplesIdle_iff]

end Sys2Proof.Machine

/-! PROOF. The control period, the reverse crossing and the rearming of an ORing cell (R176 to R179). -/

namespace Sys2Proof.Machine

/-- An ORing cell after the measures of a control period: its sets adopted, its sample corrected and added to the means (R176). -/
def State.oringSampled (s : State) (c : CellNo) (x : ControlSample) : State :=
  let a := (s.adoptSet ⟨0xA, c, 0xFF⟩).adoptSet ⟨0xB, c, 0xFF⟩
  (a.modCell c fun y => { y.noteCs a.clk.timeUs (y.correctCs (meanCs x)) with vs := y.correctVs (meanVs x) }).oringMeasure c

/-! ORING_CONTROL_PERIOD (R10, R177). -/

theorem exec_oringControlPeriod_lost {s : State} {c : CellNo} (x : ControlSample) (hr : s.cells[c].role = .oring)
    (ht : s.cells[c].st ≠ .testing) (hl : s.cells[c].lostSample = true) :
    exec (.oringControlPeriod c x) s = .next (s.modCell c fun y => { y with lostSample := false }) :=
  congrArg Host.Outcome.next ((if_neg (not_or.mpr ⟨not_not.mpr hr, ht⟩)).trans (if_pos hl))

/-- With a sample, the state machine steps unless the cell is held, no lane runs, or the cell neither serves nor starts. -/
theorem exec_oringControlPeriod_sampled {s : State} {c : CellNo} (x : ControlSample) (hr : s.cells[c].role = .oring)
    (ht : s.cells[c].st ≠ .testing) (hl : s.cells[c].lostSample = false) :
    let t := s.oringSampled c x
    exec (.oringControlPeriod c x) s = .next (
      if t.cells[c].held ∨ !t.lanesRun ∨ (t.cells[c].st ≠ .inService ∧ t.cells[c].st ≠ .starting) then t
      else if t.cells[c].lostCommand then (t.oringStep c).modCell c (t.cells[c].keepDrive) else t.oringStep c) :=
  congrArg Host.Outcome.next ((if_neg (not_or.mpr ⟨not_not.mpr hr, ht⟩)).trans (if_neg (ne_true_of_eq_false hl)))

/-! ORING_REVERSE (R178). -/

/-- The device opens and its latch bit 0 is set (R47). -/
def State.oringOpened (s : State) (c : CellNo) : State := (s.modCell c Cell.gateOff).setFault c 0

/-- A counted reverse trip: REARMING, the trips of the last second, and event 0x4040. -/
def State.oringTripped (s : State) (c : CellNo) (x : TripSense) : State :=
  ((s.oringOpened c).modOring c fun o =>
    { o with st := .rearming, revCount := wrap32 (o.revCount + 1), revTimes := recentTrips s.clk.timeUs s.cells[c].oring.revTimes
             rearmRun := 0, onRun := 0, fullRun := 0, negRun := 0 }).event (srcCell c) 0x4040 c (byte c ++ leI 4 (senseUv x))

/-- The cell latches: its bit 9, LATCHED with no trips kept, and event 0x4042. -/
def State.oringLatched (u : State) (c : CellNo) : State :=
  let v := (u.setFault c 9).modOring c fun o => { o with st := .latched, revTimes := [] }
  v.event v.srcLane 0x4042 c (byte c)

theorem exec_oringReverse_crossed {s : State} {c : CellNo} {x : TripSense} (hr : s.cells[c].role = .oring)
    (hx : s.cells[c].crosses (s.reverseRatio c) true x = true) :
    exec (.oringReverse c x) s =
      if s.cells[c].oring.st = .disabled ∨ s.cells[c].oring.st = .latched then .next (s.oringOpened c)
      else if 16 ≤ (recentTrips s.clk.timeUs s.cells[c].oring.revTimes).length then
        .next (State.errReset s ((s.oringTripped c x).oringLatched c))
      else .next (s.oringTripped c x) :=
  if_neg (not_or.mpr ⟨not_not.mpr hr, ne_true_of_eq_false ((Bool.not_eq_false' _).mpr hx)⟩)

/-! ORING_REARM (R177, R178). -/

theorem exec_oringRearm {s : State} {c : CellNo} (hr : s.cells[c].role = .oring) (hs : s.cells[c].oring.st = .rearming)
    (hl : s.lanesRun = true) (hc : s.cells[c].safeCause = 0) (hn : max 1 (s.cell c 0x46) ≤ s.cells[c].oring.rearmRun) :
    exec (.oringRearm c) s =
      .next ((s.clearFault c 0x0001#16).modOring c fun o => { o with st := .regulating, fullRun := 0, negRun := 0 }) :=
  congrArg Host.Outcome.next (if_pos ⟨hr, hs, hl, hc, hn⟩)

/-- Settles O26: each clause is one branch of its command's equation. -/
theorem oringCommands : Obligations.OringCommands := by
  refine ⟨fun s c x => exec_oringControlPeriod_lost x, fun s c x hr ht hl => ⟨fun hh hn hs => ?step, fun h => ?rest⟩,
    fun s c x hr hx => ⟨fun h => ?still, fun hd hl => ⟨fun hn => ?trip, fun hn => ?latch⟩⟩,
    fun s c => exec_oringRearm⟩
  case step =>
    refine (exec_oringControlPeriod_sampled x hr ht hl).trans (congrArg _ (if_neg ?_))
    rintro (h | h | ⟨h, h'⟩)
    · exact ne_true_of_eq_false hh h
    · exact ne_true_of_eq_false ((Bool.not_eq_true' _).mp h) hn
    · exact hs.elim h h'
  case rest =>
    refine (exec_oringControlPeriod_sampled x hr ht hl).trans (congrArg _ (if_pos ?_))
    exact h.imp_right (Or.imp_left (Bool.not_eq_true' _).mpr)
  case still => exact (exec_oringReverse_crossed hr hx).trans (if_pos h)
  case trip => exact (exec_oringReverse_crossed hr hx).trans ((if_neg (not_or.mpr ⟨hd, hl⟩)).trans (if_neg (Nat.not_le.mpr hn)))
  case latch => exact (exec_oringReverse_crossed hr hx).trans ((if_neg (not_or.mpr ⟨hd, hl⟩)).trans (if_pos hn))

end Sys2Proof.Machine

/-! PROOF. The ledger's tick and the ends, throttles and restores between ticks (R18, R191 to R195). -/

namespace Sys2Proof.Machine

/-! LEDGER_TICK (R18). -/

/-- The state at the next boundary: only time has passed. -/
def State.toBoundary (s : State) : State := s.modClk fun k => { k with timeUs := nextBoundary k.timeUs }

/-- What a tick does at its boundary, after the counts of MANAGE have moved: nothing before BOOT_COMPLETE and in recovery, a look for a start
condition in DORMANT, else the boundary of the LOOP region. -/
def State.tickWork (t : State) : State :=
  if t.phase ≠ .running ∨ t.modes.mode = none then t else if t.dormant then t.chooseRequest.dormantWake else t.tickBoundary

theorem State.tickWork_stopped {t : State} (h : t.phase ≠ .running ∨ t.modes.mode = none) : t.tickWork = t := if_pos h

theorem State.tickWork_dormant {t : State} (hp : t.phase = .running) (hm : t.modes.mode ≠ none) (hd : t.dormant = true) :
    t.tickWork = t.chooseRequest.dormantWake :=
  (if_neg (not_or.mpr ⟨not_not.mpr hp, hm⟩)).trans (if_pos hd)

theorem State.tickWork_boundary {t : State} (hp : t.phase = .running) (hm : t.modes.mode ≠ none) (hd : t.dormant = false) :
    t.tickWork = t.tickBoundary :=
  (if_neg (not_or.mpr ⟨not_not.mpr hp, hm⟩)).trans (if_neg (ne_true_of_eq_false hd))

theorem exec_ledgerTick_held {s : State} (h : s.toBoundary.phase = .held) : exec .ledgerTick s = .next s.toBoundary := if_pos h

theorem exec_ledgerTick {s u : State} (h : s.toBoundary.phase ≠ .held) (hu : s.toBoundary.manageClock.tickWork = u) :
    exec .ledgerTick s = .next (State.errReset s u) := by
  subst hu
  exact if_neg h

/-! SINK_RESTORE (R195). -/

/-- Sink `y` comes before sink `x` in the order of restoring: a lower class, or the same class and a lower number. -/
def State.restoresBefore (s : State) (x y : SinkNo) : Bool :=
  decide (s.sinkClass y < s.sinkClass x) || (s.sinkClass y = s.sinkClass x && decide (y < x))

theorem State.restoresBefore_iff {s : State} {x y : SinkNo} :
    s.restoresBefore x y = true ↔ s.sinkClass y < s.sinkClass x ∨ s.sinkClass y = s.sinkClass x ∧ y < x := by
  simp [State.restoresBefore]

/-- No sink that comes before `x` waits for the headroom and fits in it. -/
theorem State.none_restores_before {s : State} {x : SinkNo}
    (h : ∀ y : SinkNo, s.sinkClass y < s.sinkClass x ∨ s.sinkClass y = s.sinkClass x ∧ y < x →
      s.restorable y = false ∨ s.fits y = false) :
    ¬ (List.finRange 64).any (fun y => s.restoresBefore x y && s.restorable y && s.fits y) = true := by
  simp only [List.any_eq_true, Bool.and_eq_true, not_exists]
  rintro y ⟨-, ⟨hb, hr⟩, hf⟩
  exact (h y (State.restoresBefore_iff.mp hb)).elim (fun h => ne_true_of_eq_false h hr) fun h => ne_true_of_eq_false h hf

theorem exec_sinkRestore {s : State} {x : SinkNo} (hr : s.restorable x = true) (hf : s.fits x = true) (hs : s.modes.safe = false)
    (hn : ¬ (List.finRange 64).any (fun y => s.restoresBefore x y && s.restorable y && s.fits y) = true) :
    exec (.sinkRestore x) s = .next ((s.modLedger fun l =>
      { l with next := { l.next with headroomMw := l.next.headroomMw - s.ledger.sinks[x].bShedMw } }).restoreSink x) :=
  congrArg Host.Outcome.next (if_pos ⟨hr, hf, ne_true_of_eq_false hs, hn⟩)

/-! GRANT_EXPIRY and NOTICE_EXPIRY (R191, R192). -/

theorem exec_grantExpiry {s : State} {g : GrantNo} (hg : s.ledger.grants[g].standing = true)
    (hd : s.ledger.grants[g].req.durationS ≠ 0) (hr : s.ledger.grants[g].remainMs = 0) (hs : s.modes.safe = false) :
    exec (.grantExpiry g) s = .next (s.endGrant g 2) :=
  congrArg Host.Outcome.next (if_pos ⟨hg, hd, hr, ne_true_of_eq_false hs⟩)

/-- A notice run out on a standing grant revokes it, and sheds each of its sinks that is still above its target. -/
theorem exec_noticeExpiry_grant {s : State} {g : GrantNo} (hs : s.modes.safe = false) (hg : s.ledger.grants[g].st = .notice)
    (hm : s.ledger.grants[g].noticeMs = 0) (hn : s.ledger.grantsNext[g].standing = true) :
    let t := s.endGrant g 3
    exec (.noticeExpiry (.grant g)) s = .next (t.over (pick 64 fun k => 0 < s.ledger.grants[g].on k ∧ t.ledger.sinks[k].throttle = 3 ∧
      t.ledger.sinks[k].allowedMs = 0) fun k u => if u.aboveTol k u.ledger.sinks[k].targetW then u.shedSink k 3 else u) :=
  congrArg Host.Outcome.next ((if_neg (ne_true_of_eq_false hs)).trans (if_pos ⟨hg, hm, hn⟩))

theorem exec_noticeExpiry_sink {s : State} {x : SinkNo} (hs : s.modes.safe = false) (hn : s.ledger.sinks[x].notice ≠ 0)
    (hm : s.ledger.sinks[x].noticeMs = 0) :
    let t := s.shedSink x s.ledger.sinks[x].notice
    exec (.noticeExpiry (.sink x)) s = .next (if t.inModes [.holdup] then t.lifelineRisk else t) :=
  congrArg Host.Outcome.next ((if_neg (ne_true_of_eq_false hs)).trans (if_pos ⟨hn, hm⟩))

/-! THROTTLE_OVER_CAP and THROTTLE_ENFORCE (R193, R194). -/

theorem exec_throttleOverCap {s : State} {x : SinkNo} (ht : s.ledger.sinks[x].throttle = 0) (hc : (s.sinkCell x).isSome = true)
    (hr : max 1 (s.cfgN 0x2200 7) ≤ s.ledger.sinks[x].overRun) (hs : s.modes.safe = false) :
    exec (.throttleOverCap x) s = .next (s.throttle x 1 (s.capW x) (s.graceOf x)) :=
  congrArg Host.Outcome.next (if_pos ⟨ht, hc, hr, ne_true_of_eq_false hs⟩)

/-- A throttle whose time has run out on a sink above its target: a thermal one of a P0 sink is recorded, any other sheds (R193, R245). -/
theorem exec_throttleEnforce {s : State} {x : SinkNo} (ht : s.ledger.sinks[x].throttle ≠ 0) (ha : s.ledger.sinks[x].allowedMs = 0)
    (hd : s.ledger.sinks[x].shed = 0) (hs : s.modes.safe = false) (h4 : s.ledger.sinks[x].throttle ≠ 4)
    (htol : s.aboveTol x s.ledger.sinks[x].targetW = true) :
    exec (.throttleEnforce x) s = .next (
      if s.ledger.sinks[x].throttle = 2 ∧ s.sinkClass x = 0 then
        s.event srcLedger 0x8006 x (byte x ++ le 4 (quantN ((s.measured x : Rat) / 1000)))
      else s.shedSink x s.ledger.sinks[x].throttle) := by
  refine congrArg Host.Outcome.next ((if_neg ?_).trans (if_pos htol))
  rintro (h | h | h | h | h)
  · exact ht h
  · exact h ha
  · exact h hd
  · exact ne_true_of_eq_false hs h
  · exact h4 h

/-- Settles O27, from the equation of each command. -/
theorem ledgerCommands : Obligations.LedgerCommands := by
  refine ⟨?tick, fun s x hr hf hs hn => exec_sinkRestore hr hf hs (State.none_restores_before hn), fun s g => exec_grantExpiry,
    fun s g => exec_noticeExpiry_grant, fun s x => exec_noticeExpiry_sink, fun s x => exec_throttleOverCap,
    fun s x ht ha hd hs h4 htol => ⟨fun h => ?shed, fun h2 h0 => ?record⟩⟩
  case tick =>
    rintro s t rfl
    exact ⟨exec_ledgerTick_held, fun h hp hm hd => exec_ledgerTick h (State.tickWork_boundary hp hm hd),
      fun h hp hm hd => exec_ledgerTick h (State.tickWork_dormant hp hm hd), fun h hs => exec_ledgerTick h (State.tickWork_stopped hs)⟩
  case shed =>
    refine (exec_throttleEnforce ht ha hd hs h4 htol).trans (congrArg _ (if_neg ?_))
    exact fun ⟨h2, h0⟩ => h.elim (· h2) (· h0)
  case record => exact (exec_throttleEnforce ht ha hd hs h4 htol).trans (congrArg _ (if_pos ⟨h2, h0⟩))

end Sys2Proof.Machine

/-! PROOF. What every command keeps (Laws/Keeps.lean), command by command, and the boot phase and the mode among it (R22 to R24). -/

namespace Sys2Proof.Machine

/-- Every command completes and keeps what an operation keeps; one that is no `ModeMover` keeps the boot phase and the mode too. -/
theorem exec_keeps (c : Instr) (s : State) : ∃ t, exec c s = .next t ∧ s.Keeps (!ModeMover c) t :=
  match c with
  | .coldReset cause supplyFault => execColdReset_keeps (.refl true s) cause supplyFault
  | .boot bootsel fails crystalOk laneA laneB => execBoot_keeps (.refl true s) bootsel fails crystalOk laneA laneB
  | .bootComplete => execBootComplete_keeps (.refl true s)
  | .manageRestart => execManageRestart_keeps (.refl _ s)
  | .watchdogExpiry core => execWatchdogExpiry_keeps (.refl _ s) core
  | .slotCrcFail what => execSlotCrcFail_keeps (.refl _ s) what
  | .linkLoss die => execLinkLoss_keeps (.refl _ s) die
  | .lclkLoss => execLclkLoss_keeps (.refl _ s)
  | .blockLocalReset block firstOk secondOk => execBlockLocalReset_keeps (.refl _ s) block firstOk secondOk
  | .ledgerTick => execLedgerTick_keeps (.refl true s)
  | .phaseShed k => execPhaseShed_keeps (.refl _ s) k
  | .burstEntry k => execBurstEntry_keeps (.refl _ s) k
  | .sinkRestore q => execSinkRestore_keeps (.refl _ s) q
  | .grantExpiry g => execGrantExpiry_keeps (.refl _ s) g
  | .noticeExpiry what => execNoticeExpiry_keeps (.refl _ s) what
  | .throttleOverCap q => execThrottleOverCap_keeps (.refl _ s) q
  | .throttleEnforce q => execThrottleEnforce_keeps (.refl _ s) q
  | .modeRequest who data => execModeRequest_keeps (.refl _ s) who data
  | .shutdownLatchClear who data => execShutdownLatchClear_keeps (.refl _ s) who data
  | .profileSelect who data => execProfileSelect_keeps (.refl _ s) who data
  | .latencyBudgetWrite who budget data => execLatencyBudgetWrite_keeps (.refl _ s) who budget data
  | .ownPowerPeakClear who data => execOwnPowerPeakClear_keeps (.refl _ s) who data
  | .consumptionUpdate watch loop channel manage => execConsumptionUpdate_keeps (.refl _ s) watch loop channel manage
  | .hostWake who fails => execHostWake_keeps (.refl true s) who fails
  | .loopPeriod k m x => execLoopPeriod_keeps (.refl _ s) k m x
  | .overrunStop k => execOverrunStop_keeps (.refl _ s) k
  | .shareRampComplete m => execShareRampComplete_keeps (.refl _ s) m
  | .syncinEdge stamp => execSyncinEdge_keeps (.refl _ s) stamp
  | .syncLocked k => execSyncLocked_keeps (.refl _ s) k
  | .syncLost => execSyncLost_keeps (.refl _ s)
  | .loopEnable who k data => execLoopEnable_keeps (.refl _ s) who k data
  | .softStartEnd k => execSoftStartEnd_keeps (.refl _ s) k
  | .pgRise k => execPgRise_keeps (.refl _ s) k
  | .startAbort k cause => execStartAbort_keeps (.refl _ s) k cause
  | .hiccupRetry k => execHiccupRetry_keeps (.refl _ s) k
  | .hiccupReload k => execHiccupReload_keeps (.refl _ s) k
  | .phaseDrop m cause => execPhaseDrop_keeps (.refl _ s) m cause
  | .startInputQualified k => execStartInputQualified_keeps (.refl true s) k
  | .activeSetWrite who k data => execActiveSetWrite_keeps (.refl _ s) who k data
  | .safeLockWrite who k data => execSafeLockWrite_keeps (.refl _ s) who k data
  | .coefficientWordLand k => execCoefficientWordLand_keeps (.refl _ s) k
  | .arm who u => execArm_keeps (.refl _ s) who u
  | .forceTrigger who u => execForceTrigger_keeps (.refl _ s) who u
  | .disarm who u => execDisarm_keeps (.refl _ s) who u
  | .cycleByCycleLimit c step sense => execCycleByCycleLimit_keeps (.refl _ s) c step sense
  | .fastTrip c sense => execFastTrip_keeps (.refl _ s) c sense
  | .oringReverse c sense => execOringReverse_keeps (.refl _ s) c sense
  | .driverFlt c present => execDriverFlt_keeps (.refl _ s) c present
  | .senseRangeFault c sense present => execSenseRangeFault_keeps (.refl _ s) c sense present
  | .bitclkLoss c present => execBitclkLoss_keeps (.refl _ s) c present
  | .bitstreamStuck c present => execBitstreamStuck_keeps (.refl _ s) c present
  | .holdWindow c => execHoldWindow_keeps (.refl _ s) c
  | .faultLatchClear who c data => execFaultLatchClear_keeps (.refl _ s) who c data
  | .safeActionWrite who c data => execSafeActionWrite_keeps (.refl _ s) who c data
  | .calRecordWrite who c data => execCalRecordWrite_keeps (.refl _ s) who c data
  | .blockAdcFrame b frame => execBlockAdcFrame_keeps (.refl true s) b frame
  | .drain who c => execDrain_keeps (.refl _ s) who c
  | .drainForce who c => execDrainForce_keeps (.refl _ s) who c
  | .commit who c => execCommit_keeps (.refl _ s) who c
  | .repair who c => execRepair_keeps (.refl _ s) who c
  | .release who c => execRelease_keeps (.refl _ s) who c
  | .abandon who c => execAbandon_keeps (.refl _ s) who c
  | .maintCmdStart c => execMaintCmdStart_keeps (.refl _ s) c
  | .drainComplete c => execDrainComplete_keeps (.refl _ s) c
  | .drainTimeout c => execDrainTimeout_keeps (.refl _ s) c
  | .repairDone c finding => execRepairDone_keeps (.refl _ s) c finding
  | .cellStartComplete c => execCellStartComplete_keeps (.refl _ s) c
  | .lineVendSample g bits => execLineVendSample_keeps (.refl _ s) g bits
  | .lineQualified g => execLineQualified_keeps (.refl true s) g
  | .groupEnable who g data => execGroupEnable_keeps (.refl _ s) who g data
  | .groupStart g => execGroupStart_keeps (.refl _ s) g
  | .groupRampComplete g => execGroupRampComplete_keeps (.refl _ s) g
  | .groupStop g cause => execGroupStop_keeps (.refl _ s) g cause
  | .heldTestMet g cause => execHeldTestMet_keeps (.refl _ s) g cause
  | .leakTrip l asserted => execLeakTrip_keeps (.refl _ s) l asserted
  | .dischargeEnd g => execDischargeEnd_keeps (.refl _ s) g
  | .groupRetry g => execGroupRetry_keeps (.refl _ s) g
  | .groupRetryReload g => execGroupRetryReload_keeps (.refl _ s) g
  | .groupClear who g data => execGroupClear_keeps (.refl _ s) who g data
  | .idCycle => execIdCycle_keeps (.refl _ s)
  | .identificationDone g => execIdentificationDone_keeps (.refl _ s) g
  | .busLoopSample => execBusLoopSample_keeps (.refl _ s)
  | .slotPresent c => execSlotPresent_keeps (.refl _ s) c
  | .unseat c => execUnseat_keeps (.refl _ s) c
  | .unseat50ms c => execUnseat50ms_keeps (.refl _ s) c
  | .insertionCountDone c => execInsertionCountDone_keeps (.refl _ s) c
  | .feederStart c => execFeederStart_keeps (.refl _ s) c
  | .feederControlPeriod c x => execFeederControlPeriod_keeps (.refl _ s) c x
  | .inrushTimeout c => execInrushTimeout_keeps (.refl _ s) c
  | .passDeviceFault c cause => execPassDeviceFault_keeps (.refl _ s) c cause
  | .feederUnloaded c => execFeederUnloaded_keeps (.refl _ s) c
  | .feederRetry c => execFeederRetry_keeps (.refl _ s) c
  | .feederRetryReload c => execFeederRetryReload_keeps (.refl _ s) c
  | .feederClear who c data => execFeederClear_keeps (.refl _ s) who c data
  | .feedEnable who c data => execFeedEnable_keeps (.refl _ s) who c data
  | .oringControlPeriod c x => execOringControlPeriod_keeps (.refl _ s) c x
  | .oringRearm c => execOringRearm_keeps (.refl _ s) c
  | .orClear who c data => execOrClear_keeps (.refl _ s) who c data
  | .orEnable who c data => execOrEnable_keeps (.refl _ s) who c data
  | .grantRequest who data => execGrantRequest_keeps (.refl _ s) who data
  | .estimatorUpdate q => execEstimatorUpdate_keeps (.refl _ s) q
  | .restWindowEnd q cause => execRestWindowEnd_keeps (.refl _ s) q cause
  | .restAnchor q => execRestAnchor_keeps (.refl _ s) q
  | .fullAnchor q => execFullAnchor_keeps (.refl _ s) q
  | .absorbTimeout q => execAbsorbTimeout_keeps (.refl _ s) q
  | .impedanceRcUpdate q => execImpedanceRcUpdate_keeps (.refl _ s) q
  | .packPoll q poll => execPackPoll_keeps (.refl _ s) q poll
  | .stringAuthenticate q answer => execStringAuthenticate_keeps (.refl _ s) q answer
  | .stringAbsent q => execStringAbsent_keeps (.refl _ s) q
  | .stringLvd q => execStringLvd_keeps (.refl _ s) q
  | .stringBlockLimit q => execStringBlockLimit_keeps (.refl _ s) q
  | .stringEnable who q data => execStringEnable_keeps (.refl _ s) who q data
  | .stringClear who q data => execStringClear_keeps (.refl _ s) who q data
  | .recordReset who q data => execRecordReset_keeps (.refl _ s) who q data
  | .recordWriteback q => execRecordWriteback_keeps (.refl _ s) q
  | .pgSample pins => execPgSample_keeps (.refl _ s) pins
  | .railSlot r => execRailSlot_keeps (.refl _ s) r
  | .railPgTimeout r => execRailPgTimeout_keeps (.refl _ s) r
  | .railRetry r => execRailRetry_keeps (.refl _ s) r
  | .railNotOff r => execRailNotOff_keeps (.refl _ s) r
  | .railClear who r data => execRailClear_keeps (.refl _ s) who r data
  | .settleCommitted => execSettleCommitted_keeps (.refl _ s)
  | .restartDelayEnd => execRestartDelayEnd_keeps (.refl _ s)
  | .pfiAssert => execPfiAssert_keeps (.refl true s)
  | .lastgaspCommitted us => execLastgaspCommitted_keeps (.refl _ s) us
  | .pfiRelease => execPfiRelease_keeps (.refl _ s)
  | .thermalEvaluation j mean => execThermalEvaluation_keeps (.refl _ s) j mean
  | .thermalRateEvaluation j => execThermalRateEvaluation_keeps (.refl _ s) j
  | .thermalRelease j => execThermalRelease_keeps (.refl _ s) j
  | .derateStep k => execDerateStep_keeps (.refl _ s) k
  | .regionDiffClear => execRegionDiffClear_keeps (.refl _ s)
  | .mismatch kind inst active standby => execMismatch_keeps (.refl _ s) kind inst active standby
  | .selftestDecision a b gapNs => execSelftestDecision_keeps (.refl _ s) a b gapNs
  | .standbyInternalError => execStandbyInternalError_keeps (.refl _ s)
  | .bgSelftestFail lane unit => execBgSelftestFail_keeps (.refl _ s) lane unit
  | .laneWindow test copyUs => execLaneWindow_keeps (.refl _ s) test copyUs
  | .returnA who => execReturnA_keeps (.refl _ s) who
  | .returnB who => execReturnB_keeps (.refl _ s) who
  | .retireStandby who => execRetireStandby_keeps (.refl _ s) who
  | .autoReturn lane => execAutoReturn_keeps (.refl _ s) lane
  | .laneReturnSelftestDone test => execLaneReturnSelftestDone_keeps (.refl _ s) test
  | .laneResyncDone us => execLaneResyncDone_keeps (.refl _ s) us
  | .laneCopyTimeout => execLaneCopyTimeout_keeps (.refl _ s)
  | .canBusOff p => execCanBusOff_keeps (.refl _ s) p
  | .busOffRecovery p => execBusOffRecovery_keeps (.refl _ s) p
  | .nmtResetNode p => execNmtResetNode_keeps (.refl _ s) p
  | .nmtResetCommunication p => execNmtResetCommunication_keeps (.refl _ s) p
  | .nmtStart p => execNmtStart_keeps (.refl _ s) p
  | .nmtStop p => execNmtStop_keeps (.refl _ s) p
  | .nmtEnterPreoperational p => execNmtEnterPreoperational_keeps (.refl _ s) p
  | .heartbeatReceived p node => execHeartbeatReceived_keeps (.refl _ s) p node
  | .heartbeatLost p node => execHeartbeatLost_keeps (.refl _ s) p node
  | .heartbeatProduce p => execHeartbeatProduce_keeps (.refl _ s) p
  | .syncReceived p => execSyncReceived_keeps (.refl _ s) p
  | .timeReceived p days ms => execTimeReceived_keeps (.refl _ s) p days ms
  | .lssConfigureBitTiming p rateK => execLssConfigureBitTiming_keeps (.refl _ s) p rateK
  | .lssConfigureNodeId p node => execLssConfigureNodeId_keeps (.refl _ s) p node
  | .lssStoreConfiguration p => execLssStoreConfiguration_keeps (.refl _ s) p
  | .usdoRequest who access => execUsdoRequest_keeps (.refl _ s) who access
  | .segmentedTransferTimeout who => execSegmentedTransferTimeout_keeps (.refl _ s) who
  | .dictWrite who index sub data => execDictWrite_keeps (.refl _ s) who index sub data
  | .agreementAdoption set inst band => execAgreementAdoption_keeps (.refl _ s) set inst band
  | .multiWrite who data => execMultiWrite_keeps (.refl _ s) who data
  | .rpdoReceived n data => execRpdoReceived_keeps (.refl _ s) n data
  | .tpdoEventCheck => execTpdoEventCheck_keeps (.refl _ s)
  | .emcyInhibitExpiry p => execEmcyInhibitExpiry_keeps (.refl _ s) p
  | .lingerExpiry h => execLingerExpiry_keeps (.refl _ s) h
  | .lockCmd who data => execLockCmd_keeps (.refl _ s) who data
  | .lockLeaseExpiry => execLockLeaseExpiry_keeps (.refl _ s)
  | .dapRead ch stores index sub offset => execDapRead_keeps (.refl _ s) ch stores index sub offset
  | .dapWrite ch stores index sub data => execDapWrite_keeps (.refl _ s) ch stores index sub data
  | .dapMultiWrite ch stores data => execDapMultiWrite_keeps (.refl _ s) ch stores data
  | .dapAbort ch => execDapAbort_keeps (.refl _ s) ch
  | .dapRequestEnd ch => execDapRequestEnd_keeps (.refl _ s) ch
  | .storeSave who sub data => execStoreSave_keeps (.refl _ s) who sub data
  | .storeWritten ms => execStoreWritten_keeps (.refl _ s) ms
  | .restoreLoad who sub data => execRestoreLoad_keeps (.refl _ s) who sub data
  | .twStatus p src r => execTwStatus_keeps (.refl _ s) p src r
  | .dictSelect p src bytes => execDictSelect_keeps (.refl _ s) p src bytes
  | .twDictRead p src r => execTwDictRead_keeps (.refl _ s) p src r
  | .twDictWrite p src bytes => execTwDictWrite_keeps (.refl _ s) p src bytes
  | .dictResult p src r => execDictResult_keeps (.refl _ s) p src r
  | .eventCursor p src bytes => execEventCursor_keeps (.refl _ s) p src bytes
  | .eventWindow p src r => execEventWindow_keeps (.refl _ s) p src r
  | .twGrantRequest p src bytes => execTwGrantRequest_keeps (.refl _ s) p src bytes
  | .grantState p src r => execGrantState_keeps (.refl _ s) p src r
  | .alertCause p src r => execAlertCause_keeps (.refl _ s) p src r
  | .portInfo p src r => execPortInfo_keeps (.refl _ s) p src r
  | .quickCommand p => execQuickCommand_keeps (.refl _ s) p
  | .alertResponse p rival pec => execAlertResponse_keeps (.refl _ s) p rival pec
  | .twBusError p src => execTwBusError_keeps (.refl _ s) p src
  | .stretchLimit p => execStretchLimit_keeps (.refl _ s) p
  | .portSleep p => execPortSleep_keeps (.refl _ s) p
  | .hostNotify p acked => execHostNotify_keeps (.refl _ s) p acked
  | .hostNotifyRetry p acked => execHostNotifyRetry_keeps (.refl _ s) p acked
  | .arbitrationLost p own => execArbitrationLost_keeps (.refl _ s) p own
  | .twTimeout p controller => execTwTimeout_keeps (.refl _ s) p controller
  | .busRecovery p sda => execBusRecovery_keeps (.refl _ s) p sda
  | .portFaultCheck p linesHigh => execPortFaultCheck_keeps (.refl _ s) p linesHigh
  | .regulatorPoll c answers => execRegulatorPoll_keeps (.refl _ s) c answers
  | .appFault c mcause mtval => execAppFault_keeps (.refl _ s) c mcause mtval
  | .icuSourceEvent src => execIcuSourceEvent_keeps (.refl _ s) src
  | .swset c mask => execSwset_keeps (.refl _ s) c mask
  | .moderationRelease n => execModerationRelease_keeps (.refl _ s) n
  | .coreWfi c => execCoreWfi_keeps (.refl _ s) c
  | .claim c => execClaim_keeps (.refl _ s) c
  | .complete c id => execComplete_keeps (.refl _ s) c id
  | .targetWrite c n word => execTargetWrite_keeps (.refl _ s) c n word
  | .timerCompareWrite c n hi lo => execTimerCompareWrite_keeps (.refl _ s) c n hi lo
  | .timerCompareMatch c n => execTimerCompareMatch_keeps (.refl _ s) c n
  | .timeLoRead c => execTimeLoRead_keeps (.refl _ s) c
  | .eccCorrected mem addr requester => execEccCorrected_keeps (.refl _ s) mem addr requester
  | .eccUncorrectable mem addr requester => execEccUncorrectable_keeps (.refl _ s) mem addr requester
  | .scrubGo c stores machineMode start words => execScrubGo_keeps (.refl _ s) c stores machineMode start words
  | .scrubAbort c atWord corr uncorr firstBad => execScrubAbort_keeps (.refl _ s) c atWord corr uncorr firstBad
  | .scrubDone c corr uncorr firstBad => execScrubDone_keeps (.refl _ s) c corr uncorr firstBad
  | .foldTimeout source => execFoldTimeout_keeps (.refl _ s) source
  | .peatAppend seq => execPeatAppend_keeps (.refl _ s) seq
  | .numberReserveWrite => execNumberReserveWrite_keeps (.refl _ s)
  | .window who store => execWindow_keeps (.refl _ s) who store
  | .cursor who store data => execCursor_keeps (.refl _ s) who store data
  | .ringRetire who store data => execRingRetire_keeps (.refl _ s) who store data
  | .gaspClear who data => execGaspClear_keeps (.refl _ s) who data
  | .identify f => execIdentify_keeps (.refl _ s) f
  | .authBegin f => execAuthBegin_keeps (.refl _ s) f
  | .authProve f => execAuthProve_keeps (.refl _ s) f
  | .fafortDictRead f => execFafortDictRead_keeps (.refl _ s) f
  | .fafortDictWrite f => execFafortDictWrite_keeps (.refl _ s) f
  | .imageBegin f => execImageBegin_keeps (.refl _ s) f
  | .imageData f => execImageData_keeps (.refl _ s) f
  | .imageEnd f => execImageEnd_keeps (.refl _ s) f
  | .activate f => execActivate_keeps (.refl _ s) f
  | .keyWrite f => execKeyWrite_keeps (.refl _ s) f
  | .close f => execClose_keeps (.refl _ s) f
  | .sessionTimeout => execSessionTimeout_keeps (.refl _ s)
  | .authLockoutEnd => execAuthLockoutEnd_keeps (.refl _ s)
  | .activation => execActivation_keeps (.refl _ s)
  | .activateCancelled => execActivateCancelled_keeps (.refl _ s)
  | .appConfirm d data => execAppConfirm_keeps (.refl _ s) d data
  | .trialConfirm => execTrialConfirm_keeps (.refl _ s)
  | .rollback who data => execRollback_keeps (.refl _ s) who data
  | .fallback => execFallback_keeps (.refl _ s)
  | .xinLost => execXinLost_keeps (.refl _ s)
  | .pllUnlock pll => execPllUnlock_keeps (.refl _ s) pll
  | .xinLocked errorCentiPct => execXinLocked_keeps (.refl _ s) errorCentiPct
  | .x32Fail => execX32Fail_keeps (.refl _ s)
  | .wispTrim trim => execWispTrim_keeps (.refl _ s) trim
  | .linkRetrain upstream lane step corrected => execLinkRetrain_keeps (.refl _ s) upstream lane step corrected
  | .addressRecognisedAsleep p => execAddressRecognisedAsleep_keeps (.refl _ s) p
  | .errCmd p => execErrCmd_keeps (.refl _ s) p
  | .errorPassive p into => execErrorPassive_keeps (.refl _ s) p into
  | .tpdoEventTimer n => execTpdoEventTimer_keeps (.refl _ s) n
  | .prioWrite c reg word => execPrioWrite_keeps (.refl _ s) c reg word
  | .thresholdWrite c threshold => execThresholdWrite_keeps (.refl _ s) c threshold
  | .pllRelockRetry pll lockedCentiPct => execPllRelockRetry_keeps (.refl _ s) pll lockedCentiPct

/-- Settles O50: a command that is no `ModeMover` keeps the boot phase and the mode. -/
theorem modeFrame : Obligations.ModeFrame := by
  intro c s t hc ht
  obtain ⟨u, hu, hk⟩ := exec_keeps c s
  obtain rfl : u = t := Host.Outcome.next.inj (hu.symm.trans ht)
  exact hk.still ((Bool.not_eq_true' _).mpr hc)

end Sys2Proof.Machine

/-! PROOF. The clocks, the die link's training and the consumption (R37, R373 to R375, R382), command by command. -/

namespace Sys2Proof.Machine

theorem State.xinRuns_iff {s : State} : s.xinRuns = true ↔ s.phase ≠ .held ∧ s.manage ≠ .deep := by
  simp [State.xinRuns]

theorem State.clocked_iff {s : State} : s.clocked = true ↔ s.xinRuns = true ∧ s.dormant = false := by
  simp [State.clocked]

theorem State.pllRuns_of_xinRuns {s : State} {p : Pll} (hx : s.xinRuns = true) (hd : p = .s ∨ s.dormant = false) : s.pllRuns p = true := by
  unfold State.pllRuns
  split
  case isTrue => exact hx
  case isFalse hp => exact State.clocked_iff.mpr ⟨hx, hd.resolve_left hp⟩

section
variable {s : State}

/-! XIN_LOST and PLL_UNLOCK (R373). -/

theorem exec_xinLost (hr : s.xinRuns = true) (hx : s.clk.xin = true) :
    exec .xinLost s = settle s (((s.modClk fun k =>
      { k.enterHoldover with xin := false, pllS := false, pllL := false, lostUs := s.clk.timeUs }).leaveBuses).event (srcWatch 0) 0xD001 0xFF []) :=
  if_pos ⟨hr, hx⟩

theorem exec_pllUnlock {p : Pll} (hr : s.pllRuns p = true) (hx : s.clk.xin = true) (hl : s.clk.locked p = true) :
    let t := (s.modClk fun k => (k.setLock p false).enterHoldover).notePll p
    exec (.pllUnlock p) s = settle s ((if p = .s then t.leaveBuses else t).event (srcWatch 0) 0xD003 0xFF (byte (Pll.code p))) :=
  if_pos ⟨hr, hx, hl⟩

/-- The clocks of a PLL that has just lost its lock: a lock bit, the holdover and the time of a try are fields of their own. -/
theorem State.unlock_eq (p : Pll) : (s.modClk fun k => (k.setLock p false).enterHoldover).notePll p =
    s.modClk fun k => { k.setLock p false with
      holdover := true, holdovers := if k.holdover then k.holdovers else wrap32 (k.holdovers + 1)
      retryUs := k.retryUs.set (Pll.code p) s.clk.timeUs } := by
  cases p <;> rfl

/-! XIN_LOCKED and PLL_RELOCK_RETRY (R374). -/

theorem exec_xinLocked {e : Int} (hr : s.xinRuns = true) (hx : s.clk.xin = false) (ht : s.clk.lostUs + 1000 + 20 * e.natAbs ≤ s.clk.timeUs) :
    exec (.xinLocked e) s = settle s ((s.modClk fun k => { k with xin := true, pllS := true, pllL := true, pllH := true }).atLock e) :=
  if_pos ⟨hr, (Bool.not_eq_true' _).mpr hx, ht⟩

theorem exec_pllRelockRetry_failed {p : Pll} (hr : s.pllRuns p = true) (hx : s.clk.xin = true) (hl : s.clk.locked p = false)
    (ht : s.clk.retryUs[Pll.code p] + 10000 ≤ s.clk.timeUs) : exec (.pllRelockRetry p none) s = .next (s.notePll p) :=
  if_pos ⟨hr, hx, (Bool.not_eq_true' _).mpr hl, ht⟩

theorem exec_pllRelockRetry_locked {p : Pll} (e : Int) (hr : s.pllRuns p = true) (hx : s.clk.xin = true) (hl : s.clk.locked p = false)
    (ht : s.clk.retryUs[Pll.code p] + 10000 ≤ s.clk.timeUs) :
    exec (.pllRelockRetry p (some e)) s = settle s (((s.notePll p).modClk (Clocks.setLock p true)).atLock e) :=
  if_pos ⟨hr, hx, (Bool.not_eq_true' _).mpr hl, ht⟩

/-! WCLK (R375), the die link's training (R382) and the consumption (R37). -/

theorem exec_x32Fail (hp : s.phase ≠ .held) (hw : s.clk.wclkCrystal = true) :
    exec .x32Fail s = .next ((s.modClk fun k => { k with wclkCrystal := false }).event (srcWatch 0) 0xD004 0xFF []) :=
  if_pos ⟨hp, hw⟩

theorem exec_wispTrim (d : Int) (hr : s.xinRuns = true) (hx : s.clk.xin = true) (ht : s.clk.trimUs + 1000000 ≤ s.clk.timeUs) :
    exec (.wispTrim d) s = .next (s.modClk fun k => { k with wispTrim := d, trimUs := s.clk.timeUs }) :=
  if_pos ⟨hr, hx, ht⟩

theorem exec_linkRetrain {up : Bool} {lane : Fin 8} (step : Int) (ok : Bool) {i : Fin 16} (hi : (i : Nat) = lane + 8 * b2n up)
    (hc : s.clocked = true) (ht : s.clk.retrainUs[i] + 10000 ≤ s.clk.timeUs) :
    let t := s.modClk fun k => { k with samplePoints := k.samplePoints.set i (k.samplePoints[i] + clampI (-1) 1 step)
                                        retrainUs := k.retrainUs.set i s.clk.timeUs, retrains := wrap32 (k.retrains + 1) }
    exec (.linkRetrain up lane step ok) s = .next (if ok then t else t.event (srcWatch 0) 0xD012 0xFF (byte (b2n up) ++ byte lane)) := by
  obtain ⟨i, hlt⟩ := i
  obtain rfl : i = lane + 8 * b2n up := hi
  exact if_pos ⟨hc, ht⟩

theorem exec_consumptionUpdate (w l c m : Nat) (hp : s.phase ≠ .held) (ht : s.own.us + 1000000 ≤ s.clk.timeUs) :
    let l' := if s.dormant then 0 else l
    let m' := if s.manage = .running then m else 0
    exec (.consumptionUpdate w l c m) s = .next { s with own :=
      { total := w + l' + c + m', watch := w, loop := l', channel := c, manage := m', peak := max s.own.peak (w + l' + c + m')
        us := s.clk.timeUs } } := by
  intro l' m'
  exact if_neg (not_or.mpr ⟨hp, Nat.not_lt.mpr ht⟩)

end

/-- Settles O4, from the equation of each command. -/
theorem clockCommands : Obligations.ClockCommands := by
  refine ⟨fun s hp hm hx => exec_xinLost (State.xinRuns_iff.mpr ⟨hp, hm⟩) hx, ?unlock,
    fun s e hp hm hx ht => exec_xinLocked (State.xinRuns_iff.mpr ⟨hp, hm⟩) hx ht, ?retry, fun s hp hw => exec_x32Fail hp hw,
    fun s d hp hm hx ht => exec_wispTrim d (State.xinRuns_iff.mpr ⟨hp, hm⟩) hx ht, ?retrain, ?consumption⟩
  case unlock =>
    intro s p hp hm hd hx hl
    rw [exec_pllUnlock (State.pllRuns_of_xinRuns (State.xinRuns_iff.mpr ⟨hp, hm⟩) hd) hx hl, State.unlock_eq]
    rfl
  case retry =>
    intro s p hp hm hd hx hl ht
    have hr : s.pllRuns p = true := State.pllRuns_of_xinRuns (State.xinRuns_iff.mpr ⟨hp, hm⟩) hd
    exact ⟨exec_pllRelockRetry_failed hr hx hl ht, fun e => exec_pllRelockRetry_locked e hr hx hl ht⟩
  case retrain =>
    intro s up lane step ok i hp hm hd hi ht
    exact exec_linkRetrain step ok hi (State.clocked_iff.mpr ⟨State.xinRuns_iff.mpr ⟨hp, hm⟩, hd⟩) ht
  case consumption =>
    intro s w l c m hp ht l' m'
    have hl : (if s.dormant then 0 else l') = l' := by
      unfold l'
      split <;> rfl
    have hm : (if s.manage = .running then m' else 0) = m' := by
      unfold m'
      split <;> rfl
    simpa only [hl, hm] using exec_consumptionUpdate w l' c m' hp ht

end Sys2Proof.Machine

/-! PROOF. Host writes of the mode, the profile and the budgets (R30 to R35, R37). -/

namespace Sys2Proof.Machine

theorem writeValue_comm {index : Nat} (hi : index < 0x2200) (h : HostNo) (sub : Nat) (v : Int) (s : State) :
    writeValue h index sub v s = writeComm h index sub v s := if_pos hi

theorem writeModeRequest_placed {s : State} {h : HostNo} {v : Nat} (hv : v ≤ 4) (hc : requestClass v ≤ s.hosts[h].cls.code)
    (hs : s.modes.safe = false) : writeModeRequest h v s = (0, s.placeRequest h s.hosts[h].cls.code v) :=
  (if_neg (Nat.not_lt.mpr hv)).trans ((if_neg (Nat.not_lt.mpr hc)).trans (if_neg (ne_true_of_eq_false hs)))

/-- A latency budget is the writing host's own (R35). -/
theorem writeComm_budget (h : HostNo) (b : Fin 4) (v : Int) (s : State) :
    writeComm h 0x2005 (b + 1) v s = (0, s.modHost h fun x => { x with budgets := x.budgets.set b v.toNat }) := by
  have hb : inst? 1 4 ((b : Nat) + 1) = some b := Nat.add_comm 1 b ▸ inst?_self 1 b
  simp [writeComm, hb, writeBudget]

theorem State.touch_modes (s : State) (h : HostNo) : (s.touch h).modes = s.modes := by
  obtain ⟨n, e⟩ := s.touch_eq h
  rw [e]

theorem State.touch_own (s : State) (h : HostNo) : (s.touch h).own = s.own := by
  obtain ⟨n, e⟩ := s.touch_eq h
  rw [e]

/-- Settles O7: each command is a served and admitted write, which comes to its entry's own rule. -/
theorem modeWrites : Obligations.ModeWrites := by
  intro s who h data v hs
  have served {index sub : Nat} {t : State} (ha : s.admits h index sub data v) (hi : 0x1010 < index) (hi' : index < 0x2104)
      (hw : writeComm h index sub v (s.touch h) = (0, t)) : s.hostWrite who index sub data = .next (s.wrote index sub t) :=
    State.hostWrite_served hs ha hi'.ne hi.ne' ((writeValue_comm (hi'.trans (by decide)) h sub v _).trans hw)
  refine ⟨fun ha hv hc hm => served ha (by decide) (by decide) ?request, fun ha => served ha (by decide) (by decide) rfl,
    fun ha => served ha (by decide) (by decide) rfl, fun b ha => served ha (by decide) (by decide) (writeComm_budget h b v _),
    fun ha => served ha (by decide) (by decide) ?peak⟩
  case request =>
    rw [← s.touch_cls h h] at hc ⊢
    exact writeModeRequest_placed hv hc ((congrArg ModeState.safe (s.touch_modes h)).trans hm)
  case peak => exact s.touch_own h ▸ rfl

end Sys2Proof.Machine

/-! PROOF. The six maintenance commands of a cell (R55 to R61). -/

namespace Sys2Proof.Machine

theorem maintOf_code (m : MaintCmd) : maintOf m.code = some m := by
  cases m <;> rfl

/-- A command that is taken up waits behind those accepted before it, and shows as running (R55). -/
def Cell.queueMaint (m : MaintCmd) (x : Cell) : Cell :=
  { x with maintCmd := m.code, maintResult := 1, waiting := x.waiting ++ [m], freshMaint := x.freshMaint || !x.maintained, maintained := true }

theorem writeMaintCmd_taken {t : State} {c : CellNo} {m : MaintCmd} (ht : t.inModes [.tending] = true) (hs : t.modes.safe = false)
    (hd : ∀ d : CellNo, d ≠ c → t.cells[d].maintained = false) (hv : t.maintValid c m = true) :
    writeMaintCmd c m t = (0, t.modCell c (Cell.queueMaint m)) := by
  have others : (pick 48 fun d => d ≠ c && t.cells[d].maintained) = [] := by
    simpa [pick] using hd
  simp only [writeMaintCmd, ht, hs, others, hv]
  rfl

/-- A host's maintenance command of a cell, served and admitted. -/
theorem State.hostWrite_maint {s : State} {who : Key} {h : HostNo} {c : CellNo} (m : MaintCmd) (hs : s.serves who h)
    (ht : (s.touch h).inModes [.tending] = true) (hm : (s.touch h).modes.safe = false)
    (hd : ∀ d : CellNo, d ≠ c → (s.touch h).cells[d].maintained = false)
    (ha : s.admits h (0x3000 + c) 9 (byte m.code) m.code) (hv : (s.touch h).maintValid c m = true) :
    s.hostWrite who (0x3000 + c) 9 (byte m.code) = .next (s.wrote (0x3000 + c) 9 ((s.touch h).modCell c (Cell.queueMaint m))) := by
  refine State.hostWrite_served hs ha (by omega) (by omega) ?_
  calc writeValue h (0x3000 + c) 9 m.code (s.touch h)
      = writeCell h c 9 m.code (s.touch h) := writeValue_cell h c 9 _ _
    _ = writeMaintCmd c m (s.touch h) := by simp [writeCell, maintOf_code]
    _ = _ := writeMaintCmd_taken ht hm hd hv

/-- Settles O10: each of the six commands writes its code. -/
theorem maintenanceWrites : Obligations.MaintenanceWrites := by
  rintro s t who h c hs rfl ht hm hd
  exact ⟨State.hostWrite_maint .drain hs ht hm hd, State.hostWrite_maint .drainForce hs ht hm hd, State.hostWrite_maint .commit hs ht hm hd,
    State.hostWrite_maint .repair hs ht hm hd, State.hostWrite_maint .release hs ht hm hd, State.hostWrite_maint .abandon hs ht hm hd⟩

end Sys2Proof.Machine

/-! PROOF. Boot, the restart and the watchdog of MANAGE, and the wake by a host (R36, R342, R351, R367, R368, R385), command by command. -/

namespace Sys2Proof.Machine

section
variable {s : State}

/-! BOOT and BOOT_COMPLETE (R367, R368). -/

section
variable {n : Fin 4} {fails : List MemFail} {ok : Bool} (a b : LaneTest)

theorem State.bootStart_recoveryReason : (s.bootStart n fails ok).recoveryReason =
    if n ≠ 0 then some 0 else if fails.any MemFail.fatal then some 2
    else if (s.bootStart n fails ok).chooseSlot.isNone then some 1 else none := rfl

theorem exec_boot_booted {slot : Fin 2} (hp : s.phase = .held) (hn : n = 0) (hf : fails.any MemFail.fatal = false)
    (hs : (s.bootStart n fails ok).chooseSlot = some slot) :
    exec (.boot n fails ok a b) s = .next ((s.bootStart n fails ok).bootFrom slot a b) := by
  have none : (s.bootStart n fails ok).recoveryReason = none := by
    rw [State.bootStart_recoveryReason, hs, hf, if_neg (not_not.mpr hn)]
    rfl
  refine (if_pos hp).trans ?_
  simp only [none, hs]
  rfl

theorem exec_boot_recovery {why : Nat} (hp : s.phase = .held) (hw : (s.bootStart n fails ok).recoveryReason = some why) :
    exec (.boot n fails ok a b) s = .next ((s.bootStart n fails ok).recover why) := by
  refine (if_pos hp).trans ?_
  simp only [hw]

/-- BOOTSEL comes before a bank that failed, and a bank before an image that passes. -/
theorem State.bootStart_recovers (h : n ≠ 0 ∨ fails.any MemFail.fatal = true ∨ (s.bootStart n fails ok).chooseSlot = none) :
    (s.bootStart n fails ok).recoveryReason = some (if n ≠ 0 then 0 else if fails.any MemFail.fatal then 2 else 1) := by
  rw [State.bootStart_recoveryReason]
  split
  next => rfl
  next hn =>
    split
    next => rfl
    next hf => rw [(h.resolve_left hn).resolve_left hf]; rfl

theorem exec_bootComplete (hp : s.phase = .booted) :
    let t : State := { s with phase := .running }
    exec .bootComplete s = settle s (if t.startCondition then t.enterMode .rising 1 else t.enterMode .dormant 1) :=
  if_pos hp

end

/-! MANAGE_RESTART and WATCHDOG_EXPIRY (R351, R385). -/

theorem exec_manageRestart (hm : s.manage = .warmReset) (hp : s.phase ≠ .held) :
    let t := State.event (srcManage 0) 0xD021 0xFF (byte s.clk.warmCause)
      { s with manage := .running, srcs := s.srcs.map fun x => { x with waiting := 0 } }
    let u := if t.recorderUp then t.drainQueue else t
    exec .manageRestart s = settle s
      ((((u.restartTrial.startCores.armWatchdog).each 2 State.portResume).each 2 State.rejoin).tellHeld) :=
  if_pos ⟨hm, hp⟩

theorem exec_watchdogExpiry (core : Fin 2) (hm : s.manage = .running) (hp : s.phase = .booted ∨ s.phase = .running)
    (hr : s.seq.recordMode = false) (hd : s.dormant = false) (ht : s.clk.armedUs + s.cfgN 0x2000 0x16 * 1000 ≤ s.clk.timeUs) :
    exec (.watchdogExpiry core) s = settle s (s.warmReset 3) :=
  if_pos ⟨hm, hp, (Bool.not_eq_true' _).mpr hr, (Bool.not_eq_true' _).mpr hd, ht⟩

/-! HOST_WAKE (R36, R342). -/

/-- The failures that the boot ROM's test of system SRAM finds take the place of those found before (R342). -/
def State.withBanks (fails : List MemFail) (s : State) : State :=
  { s with badBanks := fails.filter MemFail.isBank ++ s.badBanks.filter fun f => !MemFail.isBank f }

/-- MANAGE runs in recovery, with the CAN ports off their buses and every cell's outputs low. -/
def State.allLow (s : State) : State :=
  State.each { s with manage := .running, phase := .recovery, can := s.can.map fun (x : Can) => { x with port := CanState.off } } 48
    fun c u => u.modCell c Cell.outputsLow

/-- A bad bank of base firmware leaves the part in recovery (Table 16-8). -/
def State.bankRecovery (s : State) : State :=
  let t := (s.allLow.modModes fun m => { m with mode := none }).modPins fun p => { p with safeN := false, laneAct := false }
  t.event (srcManage 0) 0xC040 0xFF (byte t.fw.bootsel ++ byte 2)

section
variable {who : Key} (fails : List MemFail)

theorem exec_hostWake_shallow (hd : s.dormant = true) (hm : s.manage = .shallow) (hk : keyOk who = true) :
    exec (.hostWake who fails) s = settle s (s.wakeManage.contact who).2 := by
  refine (if_pos ⟨hd, .inl hm, hk⟩).trans ?_
  simp only [hm]
  rfl

theorem exec_hostWake_deep (hd : s.dormant = true) (hm : s.manage = .deep) (hk : keyOk who = true) :
    exec (.hostWake who fails) s = settle s (
      if (fails.filter MemFail.isBank).any MemFail.fatal then
        (s.withBanks fails).bankRecovery.over (fails.filter MemFail.isBank) State.memFailed
      else (((s.withBanks fails).wakeManage.over (fails.filter MemFail.isBank) State.memFailed).contact who).2) := by
  have deep : decide (s.manage = .deep) = true := decide_eq_true hm
  refine (if_pos ⟨hd, .inr hm, hk⟩).trans ?_
  simp only [deep]
  split
  next h => rw [if_pos h.2]; rfl
  next h => rw [if_neg fun h' => h ⟨trivial, h'⟩]; rfl

end

/-! The part in recovery after a bad bank of base firmware (Table 16-8). -/

/-- In recovery with no mode, SAFE_N low and the CAN ports off their buses. -/
structure State.Withdrawn (s : State) : Prop where
  phase : s.phase = .recovery
  mode : s.modes.mode = none
  safeN : s.pins.safeN = false
  ports : ∀ p : CanNo, s.can[p].port = .off

theorem State.Noted.withdrawn {t : State} (h : s.Noted t) (hs : s.Withdrawn) : t.Withdrawn := by
  obtain ⟨_, _, _, rfl⟩ := h
  exact ⟨hs.phase, hs.mode, hs.safeN, hs.ports⟩

theorem State.fresh_withdrawn (hs : s.Withdrawn) : s.fresh.2.Withdrawn := ⟨hs.phase, hs.mode, hs.safeN, hs.ports⟩

theorem State.memFailed_withdrawn (f : MemFail) (hs : s.Withdrawn) : (s.memFailed f).Withdrawn := by
  have once := State.fresh_withdrawn hs
  have twice := State.fresh_withdrawn once
  unfold State.memFailed
  cases f with
  | bank b => exact (State.event_noted _ _ _ _ _).withdrawn hs
  | mothTrap => exact (State.event_noted _ _ _ _ _).withdrawn once
  | loopMemory => exact (State.event_noted _ _ _ _ _).withdrawn once
  | checker => exact (State.event_noted _ _ _ _ _).withdrawn twice

theorem State.allLow_recovery (s : State) : s.allLow.phase = .recovery ∧ ∀ p : CanNo, s.allLow.can[p].port = .off :=
  State.each_ind (P := fun w => w.phase = .recovery ∧ ∀ p : CanNo, w.can[p].port = .off)
    (fun c w h => by rwa [State.modCell_phase, State.modCell_can]) _ ⟨rfl, fun p => by simp⟩

theorem State.bankRecovery_withdrawn (s : State) : s.bankRecovery.Withdrawn := by
  obtain ⟨phase, ports⟩ := s.allLow_recovery
  unfold State.bankRecovery
  generalize s.allLow = t at phase ports ⊢
  refine (State.event_noted _ _ _ _ _).withdrawn ⟨?_, ?_, ?_, ?_⟩
  · rwa [State.modPins_phase, State.modModes_phase]
  · rw [State.modPins_modes, State.modModes_modes]
  · rw [State.modPins_pins]
  · rwa [State.modPins_can, State.modModes_can]

/-- A port off its bus sends no EMCY. -/
theorem State.emcyOn_off {p : CanNo} {code : Nat} {b : Bytes} (h : s.can[p].port = .off) : s.emcyOn p code b = s :=
  if_neg (by rw [State.emcyUp, h]; simp)

theorem State.Withdrawn.errReset {before : State} (h : s.Withdrawn) : State.errReset before s = s := by
  unfold State.errReset State.emcy
  rw [State.emcyOn_off (h.ports 0), State.emcyOn_off (h.ports 1), ite_self]

end

/-- Settles O18, from the equation of each command. -/
theorem bootAndReset : Obligations.BootAndReset := by
  refine ⟨fun s cause f => ⟨rfl, rfl⟩, ?boot, ?complete, fun s => exec_manageRestart, fun s core => exec_watchdogExpiry core,
    fun s who fails => exec_hostWake_shallow fails, fun s who fails hd hm hk => ⟨fun h => ?wake, fun h => ?fatal⟩⟩
  case boot =>
    rintro s t n fails ok a b hp rfl
    exact ⟨fun slot hn hf hs => ⟨exec_boot_booted a b hp hn hf hs, State.bootFrom_phase _ _ _ _⟩,
      fun h => ⟨exec_boot_recovery a b hp (State.bootStart_recovers h), State.recover_phase _ _⟩⟩
  case complete =>
    rintro s t hp rfl
    exact ⟨fun h => (exec_bootComplete hp).trans (congrArg (settle s) (if_pos h)),
      fun h => (exec_bootComplete hp).trans (congrArg (settle s) (if_neg (ne_true_of_eq_false h)))⟩
  case wake => exact (exec_hostWake_deep fails hd hm hk).trans (congrArg (settle s) (if_neg (ne_true_of_eq_false h)))
  case fatal =>
    have withdrawn := State.over_ind (fun f u hu => State.memFailed_withdrawn f hu) (fails.filter MemFail.isBank) _
      (s.withBanks fails).bankRecovery_withdrawn
    refine ⟨_, (exec_hostWake_deep fails hd hm hk).trans (congrArg (settle s) (if_pos h)), ?_⟩
    rw [withdrawn.errReset]
    exact ⟨withdrawn.phase, withdrawn.mode, withdrawn.safeN, withdrawn.ports⟩

end Sys2Proof.Machine

/-! PROOF. The lines of a two-wire port and the poll of its regulators (R310, R315 to R321), command by command. -/

namespace Sys2Proof.Machine

section
variable {s : State} {p : TwNo}

/-! Quick commands, errors and the alert response (R310, R312). -/

theorem exec_quickCommand (h : s.twAwake p = true) :
    exec (.quickCommand p) s = .next (s.modTw p fun x => { x with st := .idle, frameUs := s.clk.timeUs }) :=
  congrArg Host.Outcome.next (if_pos h)

theorem exec_errCmd (h : s.twAwake p = true) :
    exec (.errCmd p) s = .next (s.modTw p fun x => { x with errCmd := wrap32 (x.errCmd + 1) }) :=
  congrArg Host.Outcome.next (if_pos h)

/-- The byte of an alert response was sent whole: no rival has a lower address. -/
theorem exec_alertResponse_won {rival : Option (BitVec 7)} (pec : Bool) (h : s.twAwake p = true) (ha : s.tw[p].alertPending = true)
    (hr : ∀ a, rival = some a → s.cfgN (0x2800 + p) 4 ≤ a.toNat) :
    let b := byte (2 * s.cfgN (0x2800 + p) 4)
    exec (.alertResponse p rival pec) s =
      .next ((s.answer 0 (if pec then b ++ [crc8 ([0x19#8] ++ b)] else b) 1).modTw p fun x => { x with alertPending := false }) := by
  refine (if_pos ⟨h, ha⟩).trans (if_pos ?_)
  cases rival with
  | none => rfl
  | some a => exact decide_eq_true (hr a rfl)

theorem exec_alertResponse_lost {a : BitVec 7} (pec : Bool) (h : s.twAwake p = true) (ha : s.tw[p].alertPending = true)
    (hr : a.toNat < s.cfgN (0x2800 + p) 4) : exec (.alertResponse p (some a) pec) s = .next s :=
  (if_pos ⟨h, ha⟩).trans (if_neg (ne_true_of_eq_false (decide_eq_false (Nat.not_le.mpr hr))))

/-! Timeouts, bus errors, stretching and sleep (R315 to R317, R320). -/

theorem exec_twTimeout {c : Bool} (h : (if c then s.twDrives p else s.twTarget p) = true) :
    exec (.twTimeout p c) s = .next ((s.modTw p fun x => { x with timeouts := wrap32 (x.timeouts + 1), stretch := none }).event
      (srcManage (10 + p)) 0xA022 p (byte p ++ byte (b2n c))) :=
  if_pos h

/-- The port after a bus error: SCL is free, and the frame is over. -/
def State.twBroken (p : TwNo) (s : State) : State := s.modTw p fun x => { x with stretch := none, frameUs := s.clk.timeUs }

theorem exec_twBusError_unnamed (h : s.twTarget p = true) : exec (.twBusError p none) s = .next (s.twBroken p) := if_pos h

theorem exec_twBusError_known {a : BitVec 7} {x : HostNo} (h : s.twTarget p = true) (hc : (s.twBroken p).ctxOf (twKey p a) = some x) :
    exec (.twBusError p (some a)) s = .next ((s.twBroken p).frameFault p x 3) := by
  refine (if_pos h).trans ?_
  rw [State.twBroken] at hc
  simp only [hc]
  rfl

theorem exec_twBusError_unknown {a : BitVec 7} (h : s.twTarget p = true) (hc : (s.twBroken p).ctxOf (twKey p a) = none) :
    exec (.twBusError p (some a)) s = .next ((s.twBroken p).modTw p fun x => { x with errSeq := wrap32 (x.errSeq + 1) }) := by
  refine (if_pos h).trans ?_
  rw [State.twBroken] at hc
  simp only [hc]
  rfl

theorem exec_portSleep (hr : s.recorderUp = true) (hi : s.twShown p = .idle) (hf : s.tw[p].frameUs + 5000 ≤ s.clk.timeUs)
    (hn : s.tw[p].notifies = []) (ha : s.tw[p].alertPending = false) (hd : s.twPollDue p = false)
    (hb : (if s.twPolicy p = 0 then 1 else 10) ≤ s.portBudget p) :
    exec (.portSleep p) s = .next (s.modTw p fun x => { x with st := .asleep }) :=
  if_pos ⟨hr, hi, hf, hn, (Bool.not_eq_true' _).mpr ha, (Bool.not_eq_true' _).mpr hd, hb⟩

theorem exec_stretchLimit {src : BitVec 7} {r : TwRead} {since : Nat} (h : s.tw[p].stretch = some (src, r, since))
    (ht : since + 2000 ≤ s.clk.timeUs) :
    exec (.stretchLimit p) s = .next (s.modTw p fun x => { x with stretch := none, frameUs := s.clk.timeUs }) := by
  change execStretchLimit p s = _
  unfold execStretchLimit
  rw [h]
  exact congrArg Host.Outcome.next (if_pos ht)

theorem exec_addressRecognisedAsleep (hr : s.recorderUp = true) (hs : s.twServes p = true) (ha : s.tw[p].st = .asleep) :
    exec (.addressRecognisedAsleep p) s = .next (s.modTw p fun x => { x with st := .idle }) :=
  congrArg Host.Outcome.next (if_pos ⟨hr, hs, ha⟩)

/-! The part as controller (R318 to R320). -/

theorem exec_hostNotify (ack : Bool) (h : s.twDrives p = true) (hn : s.tw[p].nacks = 0) :
    exec (.hostNotify p ack) s = .next (s.sendNotify p ack) :=
  congrArg Host.Outcome.next (if_pos ⟨h, hn⟩)

theorem exec_hostNotifyRetry (ack : Bool) (h : s.twDrives p = true) (hn : s.tw[p].nacks ≠ 0)
    (ht : s.tw[p].notifyUs + 10000 ≤ s.clk.timeUs) : exec (.hostNotifyRetry p ack) s = .next (s.sendNotify p ack) :=
  congrArg Host.Outcome.next (if_pos ⟨h, hn, ht⟩)

/-- A further arbitration is lost, and counted. -/
def State.arbLost (p : TwNo) (s : State) : State := s.modTw p fun x => { x with arbLost := wrap32 (x.arbLost + 1), arbRun := x.arbRun + 1 }

/-- The transaction of the part's own is abandoned after three losses. -/
def State.arbAbandoned (p : TwNo) (s : State) : State := (s.arbLost p).modTw p fun x => { x with arbRun := 0 }

theorem exec_arbitrationLost_again (own : OwnFrame) (h : s.twDrives p = true) (hr : (s.arbLost p).tw[p].arbRun < 3) :
    exec (.arbitrationLost p own) s = .next (s.arbLost p) :=
  (if_pos h).trans (if_pos hr)

theorem exec_arbitrationLost_notify (h : s.twDrives p = true) (hr : 3 ≤ (s.arbLost p).tw[p].arbRun) :
    exec (.arbitrationLost p .notify) s =
      .next (((s.arbAbandoned p).modTw p fun x => { x with notifyUs := s.clk.timeUs }).notifyNack p) :=
  (if_pos h).trans (if_neg (Nat.not_lt.mpr hr))

theorem exec_arbitrationLost_polled {c : CellNo} {a : Nat} {r : Fin 256} (h : s.twDrives p = true)
    (hr : 3 ≤ (s.arbLost p).tw[p].arbRun) (hreg : (s.arbAbandoned p).regAt c a = some r) :
    exec (.arbitrationLost p (.poll c a)) s = .next ((s.arbAbandoned p).pollFailed r) := by
  refine (if_pos h).trans ((if_neg (Nat.not_lt.mpr hr)).trans ?_)
  rw [State.arbAbandoned, State.arbLost] at hreg
  simp only [hreg]
  rfl

theorem exec_arbitrationLost_probe {c : CellNo} {a : Nat} (h : s.twDrives p = true) (hr : 3 ≤ (s.arbLost p).tw[p].arbRun)
    (hreg : (s.arbAbandoned p).regAt c a = none) : exec (.arbitrationLost p (.poll c a)) s = .next (s.arbAbandoned p) := by
  refine (if_pos h).trans ((if_neg (Nat.not_lt.mpr hr)).trans ?_)
  rw [State.arbAbandoned, State.arbLost] at hreg
  simp only [hreg]
  rfl

theorem exec_busRecovery_freed {sda : List Bool} (h : s.twDrives p = true)
    (ht : s.tw[p].attempts = 0 ∨ s.tw[p].attemptUs + 10000 ≤ s.clk.timeUs) (hs : (sda.take 9).any id = true) :
    exec (.busRecovery p sda) s = .next (s.modTw p fun x => { x with attempts := 0 }) :=
  (if_pos ⟨h, ht⟩).trans (if_pos hs)

theorem exec_busRecovery_failed {sda : List Bool} (h : s.twDrives p = true)
    (ht : s.tw[p].attempts = 0 ∨ s.tw[p].attemptUs + 10000 ≤ s.clk.timeUs) (hs : (sda.take 9).any id = false) (hn : s.tw[p].attempts < 2) :
    exec (.busRecovery p sda) s = .next (s.modTw p fun x => { x with attempts := x.attempts + 1, attemptUs := s.clk.timeUs }) :=
  (if_pos ⟨h, ht⟩).trans ((if_neg (ne_true_of_eq_false hs)).trans (if_pos hn))

theorem exec_busRecovery_fault {sda : List Bool} (h : s.twDrives p = true)
    (ht : s.tw[p].attempts = 0 ∨ s.tw[p].attemptUs + 10000 ≤ s.clk.timeUs) (hs : (sda.take 9).any id = false) (hn : 2 ≤ s.tw[p].attempts) :
    exec (.busRecovery p sda) s = .next ((s.modTw p fun x =>
      { x with attempts := 0, st := .fault, notifies := [], nacks := 0, faultUs := s.clk.timeUs }).event
        (srcManage (10 + p)) 0xA020 p (byte p)) :=
  (if_pos ⟨h, ht⟩).trans ((if_neg (ne_true_of_eq_false hs)).trans (if_neg (Nat.not_lt.mpr hn)))

theorem exec_portFaultCheck (high : Bool) (hr : s.recorderUp = true) (hf : s.tw[p].st = .fault)
    (ht : s.tw[p].faultUs + 1000000 ≤ s.clk.timeUs) :
    exec (.portFaultCheck p high) s =
      if high then .next ((s.modTw p fun x => { x with st := .idle, recoveries := wrap32 (x.recoveries + 1) }).event
        (srcManage (10 + p)) 0xA021 p (byte p))
      else .next (s.modTw p fun x => { x with faultUs := s.clk.timeUs }) :=
  if_pos ⟨hr, hf, ht⟩

/-! REGULATOR_POLL (R321). -/

theorem toFin?_val {n : Nat} (i : Fin n) : toFin? n i = some i := dif_pos i.isLt

theorem State.polls_iff {c : CellNo} : s.polls p c = true ↔ s.cells[c].role = .feeder ∧ s.cells[c].feeder.st = .on ∧
    s.cell c 0x33 = p ∧ s.cell c 0x50 ≠ 0 ∧ s.cell c 0x51 ≠ 0 := by
  simp [State.polls, and_assoc]

theorem exec_regulatorPoll {c : CellNo} (as : List RegAnswer) (hp : s.polls p c = true) (hd : s.pollDue c = true) (h : s.twDrives p = true) :
    exec (.regulatorPoll c as) s = .next (((s.twRan p).modCell c fun x => { x with regUs := s.clk.timeUs }).over
      ((List.range (s.cell c 0x51)).map (· + s.cell c 0x50)) fun a u => u.pollReg c p as a) := by
  obtain ⟨-, -, hport, -⟩ := State.polls_iff.mp hp
  change execRegulatorPoll c as s = _
  unfold execRegulatorPoll
  rw [hport, toFin?_val]
  exact if_pos ⟨hp, hd, h⟩

end

/-- Settles O43, from the equation of each line's command. -/
theorem twoWireLines : Obligations.TwoWireLines := by
  refine ⟨fun s p h => ⟨exec_quickCommand h, exec_errCmd h, fun ha => ⟨fun rival pec => exec_alertResponse_won pec h ha,
      fun a pec => exec_alertResponse_lost pec h ha⟩⟩,
    fun s p c => exec_twTimeout,
    fun s p h => ⟨exec_twBusError_unnamed h, fun a x => exec_twBusError_known h, fun a => exec_twBusError_unknown h⟩,
    fun s p => exec_portSleep, fun s p src r since => exec_stretchLimit, fun s p => exec_addressRecognisedAsleep,
    fun s p h => ⟨fun ack => exec_hostNotify ack h, fun ack => exec_hostNotifyRetry ack h,
      fun own => ⟨exec_arbitrationLost_again own h, fun hr => ⟨?notify, ?known, ?unknown⟩⟩,
      fun sda ht => ⟨exec_busRecovery_freed h ht, exec_busRecovery_failed h ht, exec_busRecovery_fault h ht⟩⟩,
    fun s p hr hf ht => ⟨exec_portFaultCheck false hr hf ht, exec_portFaultCheck true hr hf ht⟩, ?poll⟩
  case notify =>
    rintro rfl
    exact exec_arbitrationLost_notify h hr
  case known =>
    rintro c a r rfl hreg
    exact exec_arbitrationLost_polled h hr hreg
  case unknown =>
    rintro c a rfl hreg
    exact exec_arbitrationLost_probe h hr hreg
  case poll =>
    intro s c p as hport hrole hst h hfirst hcount hd
    exact exec_regulatorPoll as (State.polls_iff.mpr ⟨hrole, hst, hport, hfirst, hcount⟩) (decide_eq_true hd) h

end Sys2Proof.Machine

/-! PROOF. The global safe state holds the mode against the arbiter and a power fail (R28, R233). -/

namespace Sys2Proof.Machine

/-! The arbiter in the global safe state (R28). -/

theorem State.chooseRequest_safe (s : State) : s.chooseRequest.modes.safe = s.modes.safe := by
  unfold State.chooseRequest
  split <;> rfl

theorem State.chooseRequest_mode (s : State) : s.chooseRequest.modes.mode = s.modes.mode :=
  ((State.chooseRequest_keeps (.refl true s)).still rfl).2

/-- What the arbiter counts at a boundary before it looks for a transition (R23, R30). -/
def State.arbiterCounts (s : State) : State :=
  (s.modModes fun m => { m with
    shortRun := if s.ledger.now.shortfall then m.shortRun + 1 else 0
    okRun := if s.ledger.now.shortfall then 0 else m.okRun + 1
    extRun := if s.externalSource then m.extRun + 1 else 0 }).chooseRequest.modSeq fun q =>
      { q with supplied := q.supplied || s.externalSource || decide (s.stringsIn .connected ≠ []) }

theorem State.arbiterCounts_mode (s : State) : s.arbiterCounts.modes.mode = s.modes.mode := State.chooseRequest_mode _

theorem State.arbiterCounts_safe (s : State) : s.arbiterCounts.modes.safe = s.modes.safe := State.chooseRequest_safe _

theorem State.arbitrate_safe {s : State} (hs : s.modes.safe = true) : s.arbitrate = s.arbiterCounts := by
  unfold State.arbitrate
  extract_lets short ext counted t
  split
  · exact if_pos (s.arbiterCounts_safe.trans hs)
  · rfl

/-! PFI_ASSERT (R233, R353). -/

/-- A power fail in mode `m` once its record is made, the open records are closed and the last-gasp record is formed. -/
def State.gasped (m : Mode) (s : State) : State :=
  let t := ((s.modSeq fun q => { q with pfi := true, pfiCount := wrap32 (q.pfiCount + 1), pfiUs := s.clk.timeUs }).event
    (srcWatch 4) 0x7020 0xFF (byte m.code)).closeRecs (fun _ => true) true
  t.modSeq fun q => { q with gaspPending := some (t.gaspRecord (t.gaspFlags false) t.now) }

theorem State.gasped_modes (m : Mode) (s : State) : (s.gasped m).modes = s.modes := by
  unfold State.gasped
  rw [State.modSeq_modes, (State.closeRecs_noted _ _ _).modes, State.event_modes, State.modSeq_modes]

theorem State.gasped_gaspPending (m : Mode) (s : State) : (s.gasped m).seq.gaspPending.isSome = true := rfl

theorem exec_pfiAssert {s : State} {m : Mode} (hm : s.modes.mode = some m) (hd : m ≠ .dormant) (hr : s.seq.recordMode = false) :
    exec .pfiAssert s = settle s ((if (s.gasped m).modes.safe then s.gasped m
      else if m = .settling then (s.gasped m).showMode .settling 0xF else (s.gasped m).enterMode .settling 0xF).enterRecordMode) := by
  change execPfiAssert s = _
  unfold execPfiAssert
  simp only [hm, if_neg hd, hr]
  rfl

/-- Record mode in the global safe state, where every output keeps its safe action. -/
theorem State.enterRecordMode_safe {s : State} (hs : s.modes.safe = true) :
    s.enterRecordMode.modes = s.modes ∧ s.enterRecordMode.seq = { s.seq with recordMode := true } := by
  have h : s.enterRecordMode =
      ((s.modSeq fun q => { q with recordMode := true }).modSession fun x => { x with transfer := false }).cutChannels := if_pos hs
  rw [h]
  exact ⟨rfl, rfl⟩

/-- Settles O55: the safe state closes the arbiter's and the power fail's way to another mode. -/
theorem safeStateNoTransition : Obligations.SafeStateNoTransition := by
  refine ⟨fun s hs => State.arbitrate_safe hs ▸ s.arbiterCounts_mode, fun s m hs hm hd hr => ?_⟩
  have safe : (s.gasped m).modes.safe = true := (congrArg ModeState.safe (s.gasped_modes m)).trans hs
  refine ⟨_, exec_pfiAssert hm hd hr, ?_⟩
  obtain ⟨hmodes, hseq⟩ := State.enterRecordMode_safe safe
  rw [if_pos safe, State.errReset_modes, State.errReset_seq, hmodes, hseq, s.gasped_modes]
  exact ⟨rfl, s.gasped_gaspPending m, rfl⟩

end Sys2Proof.Machine

/-! PROOF. What the maintenance commands of a cell come to, and how a drain ends (R55 to R62). -/

namespace Sys2Proof.Machine

section
variable {s : State} {c : CellNo}

/-! MAINT_CMD_START (R55): a command starts when the cell's state admits it. -/

theorem State.startMaint_barred {m : MaintCmd} (h : s.cells[c].admits m = false) :
    s.startMaint c m = s.modCell c fun x => { x with maintResult := 0x14 } :=
  if_pos ((Bool.not_eq_true' _).mpr h)

theorem State.startMaint_drain (h : s.cells[c].admits .drain = true) : s.startMaint c .drain = s.beginDrain c false :=
  if_neg (Bool.not_not_eq.mpr h)

theorem State.startMaint_drainForce (h : s.cells[c].admits .drainForce = true) : s.startMaint c .drainForce = s.beginDrain c true :=
  if_neg (Bool.not_not_eq.mpr h)

theorem State.startMaint_commit (h : s.cells[c].admits .commit = true) : s.startMaint c .commit = s.commitCell c :=
  if_neg (Bool.not_not_eq.mpr h)

theorem State.startMaint_repair (h : s.cells[c].admits .repair = true) : s.startMaint c .repair = s.beginRepair c :=
  if_neg (Bool.not_not_eq.mpr h)

theorem State.startMaint_release (h : s.cells[c].admits .release = true) :
    s.startMaint c .release =
      if (s.startRole c).cells[c].st = .starting then s.startRole c
      else (s.startRole c).modCell c fun x => { x with maintResult := 2 } :=
  if_neg (Bool.not_not_eq.mpr h)

theorem State.startMaint_abandon (h : s.cells[c].admits .abandon = true) : s.startMaint c .abandon = s.abandonCell c 0x13 :=
  if_neg (Bool.not_not_eq.mpr h)

/-- The cell takes up what waits for it: nothing waits any longer. -/
def State.takeWaiting (c : CellNo) (s : State) : State := s.modCell c fun x => { x with waiting := [], freshMaint := false }

theorem exec_maintCmdStart_interrupted (hw : s.cells[c].waiting ≠ []) (h : s.inModes [.tending] = false ∨ s.modes.safe = true) :
    exec (.maintCmdStart c) s = .next ((s.takeWaiting c).modCell c fun x =>
      { x with maintResult := 0x14, maintained := x.maintained && !s.cells[c].freshMaint }) :=
  congrArg Host.Outcome.next ((if_neg hw).trans (if_pos (h.imp_left (Bool.not_eq_true' _).mpr)))

theorem exec_maintCmdStart {m : MaintCmd} {rest : List MaintCmd} (hw : s.cells[c].waiting = m :: rest) (ht : s.inModes [.tending] = true)
    (hs : s.modes.safe = false) :
    exec (.maintCmdStart c) s = .next (((s.takeWaiting c).startMaint c m).over rest fun n u => u.startMaint c n) := by
  have none : s.cells[c].waiting ≠ [] := hw ▸ List.cons_ne_nil m rest
  have tending : ¬ ((!s.inModes [.tending]) = true ∨ s.modes.safe = true) := by simp [ht, hs]
  refine congrArg Host.Outcome.next ((if_neg none).trans ((if_neg tending).trans ?_))
  rw [hw]
  rfl

/-! The ends of a drain (R56, R57). -/

theorem exec_drainComplete (hd : s.cells[c].st = .draining) (h : s.drained c = true) :
    let t := s.showDrained c 2
    exec (.drainComplete c) s = .next (if t.cells[c].role = .feeder ∧ t.ledger.sinks[cellSink c].broken = 0 then
      t.modSink (cellSink c) fun k => { k with broken := 7 } else t) :=
  congrArg Host.Outcome.next (if_pos ⟨hd, h⟩)

theorem exec_drainTimeout_early (h : s.clk.timeUs < s.cells[c].removalUs + s.cell c 0x10 * 1000) : exec (.drainTimeout c) s = .next s :=
  congrArg Host.Outcome.next (if_neg fun ⟨_, _, _, due⟩ => Nat.not_le.mpr h due)

theorem exec_drainTimeout_due (hd : s.cells[c].st = .draining) (hr : s.removing c = true) (hn : s.cell c 0x10 ≠ 0)
    (h : s.cells[c].removalUs + s.cell c 0x10 * 1000 ≤ s.clk.timeUs) :
    exec (.drainTimeout c) s = .next ((s.showDrained c 0x10).event (srcCell c) 0x1020 c []) :=
  congrArg Host.Outcome.next (if_pos ⟨hd, hr, hn, h⟩)

/-- A cell that shows DRAINED with a result. -/
def Cell.asDrained (result : Nat) (x : Cell) : Cell := { x.outputsLow with st := .drained, maintResult := result }

/-- A loop whose capacity is computed again differs in its capacity, and the recorder may hold event 0x2023 (R97). -/
theorem State.recapacity_noted (s : State) (k : LoopNo) :
    (s.modLoop k fun l => { l with capacityW := s.capacity k }).Noted (s.recapacity k) := by
  unfold State.recapacity
  extract_lets w cut t
  split
  · exact State.event_noted _ _ _ _ t
  · exact .refl t

/-- Showing DRAINED changes the cell, the capacity of its loop, and what recording changes. -/
theorem State.showDrained_noted (s : State) (c : CellNo) (result : Nat) :
    ∃ ls, ({ s.modCell c (Cell.asDrained result) with loops := ls } : State).Noted (s.showDrained c result) := by
  unfold State.showDrained
  extract_lets t
  split
  · exact ⟨_, t.recapacity_noted _⟩
  · exact ⟨t.loops, .refl t⟩

/-! REPAIR_DONE (R59, R61, R62). -/

/-- The points of a finding that belong to the channels step 3 calibrates. -/
def State.repairPoints (s : State) (c : CellNo) (f : RepairFinding) : List CalPoint :=
  f.points.filter fun p => (s.repairChannels c).contains (p.channel : Nat)

/-- A repair that ends well: its record is written, and event 0x1021 recorded (R59). -/
def State.repairSucceeds (c : CellNo) (f : RepairFinding) (s : State) : State :=
  (((s.writeRepair c (s.repairPoints c f) f.written).modCell c fun x => { x with repaired := true }).event (srcCell c) 0x1021 c []).repairEnds
    c 2

section
variable {f : RepairFinding} (hst : s.cells[c].st = .testing)
include hst

theorem exec_repairDone_selfTestFailed (hf : f.selfTestOk = false) :
    exec (.repairDone c f) s = .next (((s.setFault c 7).setSafe c 5).repairEnds c
      (if s.cells[c].stopTest then s.cells[c].maintResult else 0x11)) :=
  congrArg Host.Outcome.next ((if_neg (not_not.mpr hst)).trans (if_pos ((Bool.not_eq_true' _).mpr hf)))

/-- A self-test that passed leaves the end to the request to stop, the band and the points, in this order. -/
theorem exec_repairDone_selfTestOk (hf : f.selfTestOk = true) :
    exec (.repairDone c f) s = .next (
      let x := s.cells[c]
      let ps := s.repairPoints c f
      let whole := ps.all pointOk && s.pointsWhole c ps
      if x.stopTest then
        (if f.written ≠ 0 ∧ whole ∧ x.bandMoved = false then s.writeRepair c ps f.written else s).repairEnds c x.maintResult
      else if x.bandMoved then s.repairEnds c 0x16
      else if !ps.all pointOk then s.repairEnds c 0x12
      else if !whole then s
      else if (s.repairSucceeds c f).cells[c].safeCause = 5 then (s.repairSucceeds c f).releaseSafe c else s.repairSucceeds c f) :=
  congrArg Host.Outcome.next ((if_neg (not_not.mpr hst)).trans (if_neg (Bool.not_not_eq.mpr hf)))

/-- Asked to stop, the repair ends with the result that the request showed, its record written where step 4 was writing it (R61, R62). -/
theorem exec_repairDone_stopped (hf : f.selfTestOk = true) (hs : s.cells[c].stopTest = true) :
    exec (.repairDone c f) s = .next (
      (if f.written ≠ 0 ∧ ((s.repairPoints c f).all pointOk && s.pointsWhole c (s.repairPoints c f)) ∧ s.cells[c].bandMoved = false then
        s.writeRepair c (s.repairPoints c f) f.written else s).repairEnds c s.cells[c].maintResult) :=
  (exec_repairDone_selfTestOk hst hf).trans (congrArg Host.Outcome.next (if_pos hs))

section
variable (hf : f.selfTestOk = true) (hs : s.cells[c].stopTest = false)
include hf hs

theorem exec_repairDone_bandMoved (hb : s.cells[c].bandMoved = true) : exec (.repairDone c f) s = .next (s.repairEnds c 0x16) :=
  (exec_repairDone_selfTestOk hst hf).trans
    (congrArg Host.Outcome.next ((if_neg (ne_true_of_eq_false hs)).trans (if_pos hb)))

theorem exec_repairDone_pointOut (hb : s.cells[c].bandMoved = false) (hp : (s.repairPoints c f).all pointOk = false) :
    exec (.repairDone c f) s = .next (s.repairEnds c 0x12) :=
  (exec_repairDone_selfTestOk hst hf).trans (congrArg Host.Outcome.next ((if_neg (ne_true_of_eq_false hs)).trans
    ((if_neg (ne_true_of_eq_false hb)).trans (if_pos ((Bool.not_eq_true' _).mpr hp)))))

/-- With its points inside their limits, the repair succeeds once every channel has one. -/
theorem exec_repairDone_pointsIn (hb : s.cells[c].bandMoved = false) (hp : (s.repairPoints c f).all pointOk = true) :
    exec (.repairDone c f) s = .next (
      if !s.pointsWhole c (s.repairPoints c f) then s
      else if (s.repairSucceeds c f).cells[c].safeCause = 5 then (s.repairSucceeds c f).releaseSafe c else s.repairSucceeds c f) := by
  refine (exec_repairDone_selfTestOk hst hf).trans (congrArg Host.Outcome.next ((if_neg (ne_true_of_eq_false hs)).trans
    ((if_neg (ne_true_of_eq_false hb)).trans ((if_neg (Bool.not_not_eq.mpr hp)).trans ?_))))
  rw [hp, Bool.true_and]

end

end

/-! CELL_START_COMPLETE (R60). -/

theorem exec_cellStartComplete (hst : s.cells[c].st = .starting)
    (h : ∀ k, s.loopOf c = some k → s.cells[c].role ≠ .phase ∨ s.cells[c].weight = 1 ∨ s.loops[k].active = false) :
    exec (.cellStartComplete c) s = .next ((s.cellInService c).modCell c fun x =>
      { x with weight := 1, maintResult := if x.maintResult = 1 then 2 else x.maintResult }) := by
  refine congrArg Host.Outcome.next (if_pos ⟨hst, ?_⟩)
  split
  next k hk => simpa [or_assoc] using h k hk
  next => rfl

end

/-- Settles O56: the drained cell changes, and of the rest only its loop's capacity and what recording changes. -/
theorem drainTimeoutRule : Obligations.DrainTimeoutRule := by
  refine fun s c hd hr hn => ⟨exec_drainTimeout_early, fun h => ⟨_, exec_drainTimeout_due hd hr hn h, ?_⟩⟩
  obtain ⟨ls, noted⟩ := s.showDrained_noted c 0x10
  have same : (s.showDrained c 0x10).cells[c] = s.cells[c].asDrained 0x10 := by
    simp [noted.cells]
  have others : ∀ d : CellNo, d ≠ c → (s.showDrained c 0x10).cells[d] = s.cells[d] := fun d hd => by
    simpa [noted.cells] using State.modCell_ne s c _ hd
  rw [same]
  exact ⟨rfl, rfl, rfl, rfl, rfl, rfl, others, noted.groups, noted.strings, noted.seq, noted.ledger, noted.dict, noted.modes⟩

/-- Settles O22, from the equation of each command. -/
theorem maintenanceSteps : Obligations.MaintenanceSteps := by
  refine ⟨fun s c m rest hw => ⟨?interrupted, ?barred, ?admitted, exec_maintCmdStart hw⟩, fun s c => exec_drainComplete,
    fun s c => exec_drainTimeout_due, fun s c f hst => ⟨exec_repairDone_selfTestFailed hst, ?stopped, ?finished⟩,
    fun s c => exec_cellStartComplete⟩
  case interrupted => exact exec_maintCmdStart_interrupted (hw ▸ List.cons_ne_nil m rest)
  case barred =>
    rintro ht hs rfl h
    exact (exec_maintCmdStart hw ht hs).trans (congrArg Host.Outcome.next (State.startMaint_barred h))
  case admitted =>
    rintro ht hs rfl h
    rw [exec_maintCmdStart hw ht hs, State.over_nil]
    refine ⟨?_, ?_, ?_, ?_, ?_, ?_⟩ <;> rintro rfl
    · exact congrArg Host.Outcome.next (State.startMaint_drain h)
    · exact congrArg Host.Outcome.next (State.startMaint_drainForce h)
    · exact congrArg Host.Outcome.next (State.startMaint_commit h)
    · exact congrArg Host.Outcome.next (State.startMaint_repair h)
    · exact congrArg Host.Outcome.next (State.startMaint_release h)
    · exact congrArg Host.Outcome.next (State.startMaint_abandon h)
  case stopped =>
    intro hok hstop
    rw [exec_repairDone_stopped hst hok hstop]
    refine ⟨fun h => ?_, fun hb hp hw hn => ?_⟩ <;>
      refine congrArg (fun t : State => Host.Outcome.next (t.repairEnds c s.cells[c].maintResult)) ?_
    · refine if_neg fun ⟨hn, hwhole, hb⟩ => ?_
      obtain ⟨hp, hw⟩ := Bool.and_eq_true_iff.mp hwhole
      rcases h with h | h | h | h
      · exact ne_true_of_eq_false hb h
      · exact ne_true_of_eq_false h hp
      · exact ne_true_of_eq_false h hw
      · exact hn h
    · exact if_pos ⟨hn, Bool.and_eq_true_iff.mpr ⟨hp, hw⟩, hb⟩
  case finished =>
    intro hok hstop
    refine ⟨exec_repairDone_bandMoved hst hok hstop, exec_repairDone_pointOut hst hok hstop, fun hb hp hw => ?_, fun hb hp hw => ?_⟩ <;>
      refine (exec_repairDone_pointsIn hst hok hstop hb hp).trans (congrArg Host.Outcome.next ?_)
    · exact if_pos ((Bool.not_eq_true' _).mpr hw)
    · exact if_neg (Bool.not_not_eq.mpr hw)

end Sys2Proof.Machine

/-! PROOF. What a cell's own hardware reports: trips, latch bits, the HOLD window and the cycle-by-cycle limit (R42, R47 to R50, R72, R132,
R167, R170). -/

namespace Sys2Proof.Machine

section
variable {s : State} {c : CellNo}

/-! FAST_TRIP (R42, R47, R167). -/

theorem exec_fastTrip {x : TripSense} (hr : s.cells[c].role = .feeder) (hl : s.cells[c].faultLatch.getLsbD 0 = false)
    (hx : s.cells[c].crosses (s.fastRatio c) false x = true) :
    exec (.fastTrip c x) s = .next (((s.feederOff c).setFault c 0).noteTrip c 1) := by
  refine if_neg ?_
  rintro (h | h | h)
  · exact h hr
  · exact ne_true_of_eq_false hl h
  · exact ne_true_of_eq_false ((Bool.not_eq_true' _).mp h) hx

/-! DRIVER_FLT (R48): the cause at the pin comes or goes; a bit already latched stays. -/

/-- The cause of latch bit 1 stands at the pin (R49). -/
def State.driverCause (c : CellNo) (s : State) : State := s.modCell c fun x => { x with causes := x.causes ||| faultBit 1 }

/-- The outputs are low and latch bit 1 sets. -/
def State.driverFault (c : CellNo) (s : State) : State := ((s.driverCause c).faultLow c).setFault c 1

theorem State.driverCause_role (s : State) (c : CellNo) : (s.driverCause c).cells[c].role = s.cells[c].role := by
  simp [State.driverCause]

theorem State.driverCause_faultLatch (s : State) (c : CellNo) : (s.driverCause c).cells[c].faultLatch = s.cells[c].faultLatch := by
  simp [State.driverCause]

theorem State.outputsLow_role (s : State) (c : CellNo) : (s.modCell c Cell.outputsLow).cells[c].role = s.cells[c].role := by
  simp [Cell.outputsLow]

theorem State.faultLow_oring (h : s.cells[c].role = .oring) :
    s.faultLow c = (s.modCell c Cell.outputsLow).modOring c Oring.toBlocking := by
  unfold State.faultLow
  simp only [s.outputsLow_role, h]

theorem State.faultLow_other (h : s.cells[c].role ≠ .oring) : s.faultLow c = s.modCell c Cell.outputsLow := by
  unfold State.faultLow
  simp only [s.outputsLow_role]

theorem State.driverFault_oring (h : s.cells[c].role = .oring) :
    s.driverFault c = (((s.driverCause c).modCell c Cell.outputsLow).modOring c Oring.toBlocking).setFault c 1 :=
  congrArg (State.setFault c 1) (State.faultLow_oring ((s.driverCause_role c).trans h))

theorem State.driverFault_other (h : s.cells[c].role ≠ .oring) :
    s.driverFault c = ((s.driverCause c).modCell c Cell.outputsLow).setFault c 1 :=
  congrArg (State.setFault c 1) (State.faultLow_other ((s.driverCause_role c).trans_ne h))

theorem usesDriverFlt_iff {p : BitVec 16} : usesDriverFlt p = true ↔ fltUse p = 1 ∨ fltUse p = 2 := by simp [usesDriverFlt]

section
variable (hu : fltUse s.cells[c].pinMode = 1 ∨ fltUse s.cells[c].pinMode = 2) (hr : s.cells[c].role ≠ .idle)
include hu hr

theorem driverFlt_used : ¬ (s.cells[c].role = .idle ∨ (!usesDriverFlt s.cells[c].pinMode) = true) :=
  not_or.mpr ⟨hr, Bool.not_not_eq.mpr (usesDriverFlt_iff.mpr hu)⟩

theorem exec_driverFlt_gone :
    exec (.driverFlt c false) s = .next (s.modCell c fun x => { x with causes := x.causes &&& ~~~faultBit 1 }) :=
  (if_neg (driverFlt_used hu hr)).trans (if_pos (.inl rfl))

/-- What follows the latched bit is the role's own (R132, R170). -/
theorem exec_driverFlt_latches (hl : s.cells[c].faultLatch.getLsbD 1 = false) :
    exec (.driverFlt c true) s =
      match s.cells[c].role with
      | .feeder => .next ((s.driverFault c).noteTrip c 6)
      | .line =>
        .next (match (s.driverFault c).groupOf c with
          | some g => (s.driverFault c).groupStop g 4 (srcCell c)
          | none => s.driverFault c)
      | _ => .next (s.driverFault c) := by
  have free : ¬ ((!true) = true ∨ (s.driverCause c).cells[c].faultLatch.getLsbD 1 = true) := by
    rw [State.driverCause_faultLatch, hl]
    decide
  rw [← s.driverCause_role c]
  exact (if_neg (driverFlt_used hu hr)).trans (if_neg free)

end

/-! Invalid senses (R48). -/

theorem exec_senseRangeFault_cs (p : Bool) (hr : s.cells[c].role ≠ .idle) (hm : csMode s.cells[c].pinMode ≠ 0) :
    exec (.senseRangeFault c .cs p) s = settle s (s.senseCause c 2 p) :=
  if_neg (not_or.mpr ⟨hr, Bool.not_not_eq.mpr (decide_eq_true hm)⟩)

theorem exec_senseRangeFault_vs (p : Bool) (hr : s.cells[c].role ≠ .idle) (hm : vsEn s.cells[c].pinMode = true) :
    exec (.senseRangeFault c .vs p) s = settle s (s.senseCause c 3 p) :=
  if_neg (not_or.mpr ⟨hr, Bool.not_not_eq.mpr hm⟩)

theorem usesBitstream_iff {p : BitVec 16} : usesBitstream p = true ↔ csMode p = 3 ∨ auxMode p = 2 := by simp [usesBitstream]

theorem exec_bitclkLoss (p : Bool) (hr : s.cells[c].role ≠ .idle) (hm : csMode s.cells[c].pinMode = 3 ∨ auxMode s.cells[c].pinMode = 2) :
    exec (.bitclkLoss c p) s = settle s (s.senseCause c 4 p) :=
  if_neg (not_or.mpr ⟨hr, Bool.not_not_eq.mpr (usesBitstream_iff.mpr hm)⟩)

theorem exec_bitstreamStuck (p : Bool) (hr : s.cells[c].role ≠ .idle)
    (hm : csMode s.cells[c].pinMode = 3 ∨ auxMode s.cells[c].pinMode = 2) :
    exec (.bitstreamStuck c p) s = settle s (s.senseCause c 5 p) :=
  if_neg (not_or.mpr ⟨hr, Bool.not_not_eq.mpr (usesBitstream_iff.mpr hm)⟩)

/-! HOLD_WINDOW (R50). -/

theorem exec_holdWindow (hr : s.cells[c].role = .phase ∨ s.cells[c].role = .line) (hc : s.cells[c].safeCause ≠ 0)
    (hh : s.cells[c].safeHold = true) (hn : 8 ≤ s.cells[c].holdRun) :
    exec (.holdWindow c) s = .next ((s.modCell c Cell.outputsLow).setFault c 8) :=
  congrArg Host.Outcome.next (if_pos ⟨hr, hc, hh, hn⟩)

/-! CYCLE_BY_CYCLE_LIMIT (R42, R47, R72). -/

/-- A comparator event is counted, and noted for the period. -/
def State.limitCounted (c : CellNo) (s : State) : State :=
  s.modCell c fun x => { x with compCount := wrap32 (x.compCount + 1), compThis := true }

section
variable {n : Nat} {x : TripSense} (hr : s.cells[c].role = .phase ∨ s.cells[c].role = .line) (hn : n < s.cells[c].onSteps)
  (hx : s.cells[c].crosses (Config.limitRatio c) false x = true)
include hr hn hx

theorem exec_cycleByCycleLimit_member {k : LoopNo} (hk : (s.limitCounted c).loopOf c = some k) :
    let t := s.limitCounted c
    exec (.cycleByCycleLimit c n x) s =
      .next ((t.modCell c (Cell.cutPulse (t.deadTimes k c).2 n t.loops[k].pwbHeld)).modLoop k fun l => { l with compSeen := true }) := by
  refine congrArg Host.Outcome.next ((if_pos ⟨hr, hn, hx⟩).trans ?_)
  rw [State.limitCounted] at hk
  simp only [hk]
  rfl

theorem exec_cycleByCycleLimit_free (hk : (s.limitCounted c).loopOf c = none) :
    exec (.cycleByCycleLimit c n x) s = .next ((s.limitCounted c).modCell c (Cell.cutPulse 0 n true)) := by
  refine congrArg Host.Outcome.next ((if_pos ⟨hr, hn, hx⟩).trans ?_)
  rw [State.limitCounted] at hk
  simp only [hk]
  rfl

end

end

/-- Settles O6, from the equation of each command and, at DRIVER_FLT, of each role. -/
theorem cellFaultCommands : Obligations.CellFaultCommands := by
  refine ⟨fun s c x => exec_fastTrip, fun s c hu hl => ⟨fun hr => ?phase, fun hr => ?oring, fun hr => ?line, fun hr => ?feeder,
      exec_driverFlt_gone hu⟩,
    fun s c p hr => ⟨exec_senseRangeFault_cs p hr, exec_senseRangeFault_vs p hr,
      fun hm => ⟨exec_bitclkLoss p hr hm, exec_bitstreamStuck p hr hm⟩⟩,
    fun s c => exec_holdWindow,
    fun s c n x hr hn hx => ⟨fun k => exec_cycleByCycleLimit_member hr hn hx, exec_cycleByCycleLimit_free hr hn hx⟩⟩
  case phase =>
    rw [exec_driverFlt_latches hu (hr.trans_ne nofun) hl, State.driverFault_other (hr.trans_ne nofun), hr]
    rfl
  case oring =>
    rw [exec_driverFlt_latches hu (hr.trans_ne nofun) hl, State.driverFault_oring hr, hr]
    rfl
  case line =>
    rw [exec_driverFlt_latches hu (hr.trans_ne nofun) hl, State.driverFault_other (hr.trans_ne nofun), hr]
    exact ⟨_, rfl, rfl⟩
  case feeder =>
    rw [exec_driverFlt_latches hu (hr.trans_ne nofun) hl, State.driverFault_other (hr.trans_ne nofun), hr]
    rfl

end Sys2Proof.Machine

/-! PROOF. Block frames, qualification of start inputs and lines, SYNCIN, words that reach loop memory and derating steps (R52, R80, R107 to
R110, R128, R246, R406). -/

namespace Sys2Proof.Machine

section
variable {s : State}

/-! BLOCK_ADC_FRAME (R52, R53). -/

section
variable (b : BlockNo) (f : AdcFrame)

/-- A block's reference checks of a frame are over: which ideal the next one converts is noted. -/
def State.refsChecked (s : State) : State :=
  { s with refHalf := if (s.refChecks b f).2 then s.refHalf ||| BitVec.ofNat 6 (2 ^ (b : Nat))
                      else s.refHalf &&& ~~~BitVec.ofNat 6 (2 ^ (b : Nat)) }

/-- The conversions of a frame go where they belong, and the start windows are looked at. -/
def State.frameTaken (s u : State) : State :=
  (u.over ((List.finRange 16).map fun i => (s.slotUse b i, f.slots[i])) fun p w => w.slotSample p.1 p.2).each 16 fun k w =>
    if w.isPhaseLoop k then w.startWindow b k else w

theorem exec_blockAdcFrame (hb : s.heldBlocks.getLsbD b = false) :
    let t := s.adoptSet ⟨2, b, 0xFF⟩
    exec (.blockAdcFrame b f) s =
      if !(t.refChecks b f).1 then .next ((t.refsChecked b f).event (0x80 + b) 0x1012 0xFF (byte b))
      else settle s (t.frameTaken b f (t.refsChecked b f)).dormantWake :=
  if_neg (ne_true_of_eq_false hb)

end

/-! START_INPUT_QUALIFIED and LINE_QUALIFIED (R128, R406). -/

theorem exec_startInputQualified {k : LoopNo} (hp : s.isPhaseLoop k = true) (hw : s.loops[k].startInWindow = true) (hv : s.loop k 0x1A ≠ 0)
    (hq : s.loop k 0x1B * 1000 ≤ s.loops[k].qualUs) :
    let t := s.modLoop k fun l => { l with startQualified := true }
    exec (.startInputQualified k) s = settle s (if t.inModes [.holdup] then t.tryStart k else t.dormantWake) :=
  if_pos ⟨hp, hw, hv, hq⟩

theorem State.qualified_iff {g : GroupNo} :
    s.qualified g = true ↔ s.groups[g].st = .qualifying ∧ s.groups[g].qualUs + s.group g 0xC * 1000 ≤ s.clk.timeUs := by
  simp [State.qualified]

theorem exec_lineQualified {g : GroupNo} (h : s.qualified g = true) : exec (.lineQualified g) s = settle s (s.qualify g).dormantWake :=
  if_pos h

/-! SYNCIN_EDGE, SYNC_LOCKED and SYNC_LOST (R107 to R110). -/

/-- The block with a new list of edges, counted; three make SYNCIN present, when one lies where it is expected. -/
def State.withEdges (stamp : Nat) (edges : List Nat) (s : State) : State :=
  { s with syncPins := { edges := edges, count := s.syncPins.count + 1
                         present := decide (3 ≤ edges.length) && s.syncPins.presentAt stamp } }

theorem exec_syncinEdge_next {stamp e : Nat} {r : List Nat} (h : s.syncPins.edges = e :: r) :
    exec (.syncinEdge stamp) s =
      .next ((s.withEdges stamp (if syncinOk e stamp then (stamp :: e :: r).take 5 else [stamp])).each 16 State.steer) := by
  change execSyncinEdge stamp s = _
  unfold execSyncinEdge
  rw [h]
  rfl

theorem exec_syncinEdge_first {stamp : Nat} (h : s.syncPins.edges = []) :
    exec (.syncinEdge stamp) s = .next ((s.withEdges stamp [stamp]).each 16 State.steer) := by
  change execSyncinEdge stamp s = _
  unfold execSyncinEdge
  rw [h]
  rfl

theorem exec_syncLocked {k : LoopNo} (ha : s.loops[k].sync = .acquiring) (hr : 64 ≤ s.loops[k].lockRun) :
    exec (.syncLocked k) s = .next ((s.modLoop k fun l => { l with sync := .locked }).event s.srcLane 0x2026 k
      (byte k ++ le 4 s.loops[k].periodInForce)) :=
  congrArg Host.Outcome.next (if_pos ⟨ha, hr⟩)

/-! COEFFICIENT_WORD_LAND (R80). -/

theorem exec_coefficientWordLand {k : LoopNo} {key : Nat} {v : Int} {rest : List (Nat × Int)} (h : s.loops[k].landing = (key, v) :: rest) :
    exec (.coefficientWordLand k) s = .next ((s.setForce (key / 256) (key % 256) v).modLoop k fun l =>
      { l with landing := rest, rewrite := l.rewrite.filter fun q => q ≠ key }) := by
  change execCoefficientWordLand k s = _
  unfold execCoefficientWordLand
  rw [h]

/-! DERATE_STEP (R246). -/

/-- An input that names the loop throttles. -/
def State.derated (s : State) (k : LoopNo) : Bool :=
  (List.finRange 22).any fun i => s.thermal[i].acts && bit (s.therm i 0xD).toNat k

theorem exec_derateStep {k : LoopNo} (hs : s.modes.safe = false)
    (h : s.loops[k].derateUs + max 1 (s.cfgN 0x2400 8) * 1000000 ≤ s.clk.timeUs) :
    exec (.derateStep k) s = .next ((s.modLoop k fun l => { l with derateUs := s.clk.timeUs }).setDerate k
      (if s.derated k then min 3 (s.loops[k].derate + 1) else s.loops[k].derate - 1)) :=
  congrArg Host.Outcome.next (if_neg (not_or.mpr ⟨ne_true_of_eq_false hs, Nat.not_lt.mpr h⟩))

end

/-- Settles O19, from the equation of each command; a lost SYNCIN has one case only. -/
theorem frameAndSyncCommands : Obligations.FrameAndSyncCommands := by
  refine ⟨⟨?frame, fun s k => exec_startInputQualified,
      fun s g hst hq => exec_lineQualified (State.qualified_iff.mpr ⟨hst, hq⟩)⟩,
    fun s stamp e r => exec_syncinEdge_next, fun s stamp => exec_syncinEdge_first, fun s k => exec_syncLocked, fun s => rfl,
    fun s k key v rest => exec_coefficientWordLand, fun s k => exec_derateStep⟩
  case frame =>
    rintro s t b f hb rfl
    exact ⟨fun h => (exec_blockAdcFrame b f hb).trans (if_pos ((Bool.not_eq_true' _).mpr h)),
      fun h => (exec_blockAdcFrame b f hb).trans (if_neg (Bool.not_not_eq.mpr h))⟩

end Sys2Proof.Machine

/-! PROOF. Host writes of a loop's ENABLE, ACTIVE_SET and SAFE_SET_LOCK (R68, R69, R81, R83, R113). -/

namespace Sys2Proof.Machine

section
variable {s : State} {k : LoopNo}

/-! ENABLE (R68, R69, R113). -/

/-- What ENABLE 0 clears once the loop is stopped: the dropped members and the latency, and with them its capacity (R69, R97). -/
def State.enableCleared (k : LoopNo) (s : State) : State := (s.modLoop k fun l => { l with dropped := 0, computeLat := 0 }).recapacity k

theorem writeEnable_zero_idle (hs : s.loops[k].st ≠ .starting) (hr : s.loops[k].st ≠ .running) :
    writeEnable k 0 s = (0, ((s.setWritten (0x3100 + k) 2 0).modLoop k fun l => { l with st := .stopped }).enableCleared k) :=
  congrArg (fun t : State => (0, t.enableCleared k)) (if_neg (not_or.mpr ⟨hs, hr⟩))

theorem writeEnable_zero_active (h : s.loops[k].st = .starting ∨ s.loops[k].st = .running) :
    writeEnable k 0 s = (0, ((s.setWritten (0x3100 + k) 2 0).stopLoop k .stopped 1).enableCleared k) :=
  congrArg (fun t : State => (0, t.enableCleared k)) (if_pos h)

/-- ENABLE 1 of a loop that is off and whose members, periods and timing pass (R68, R113). -/
theorem writeEnable_one (hm : s.loop k 1 ≠ 0) (hv : s.controlMode k = 1 → s.loop k 8 ≠ 0)
    (hp : s.isLineLoop k = true → s.loop k 5 ≤ 409600 ∧ s.loop k 0x75 ≤ 409600) (ht : s.timingFail k (s.periodMin k) = none)
    (he : s.enabled k = false) :
    writeEnable k 1 s = (0, ((s.setWritten (0x3100 + k) 2 1).modLoop k fun l =>
      { l with computeLat := 26, hiccupLeft := s.loop k 0x6E }).tryStart k) := by
  have complete : ¬ (s.loop k 1 = 0 ∨ s.controlMode k = 1 ∧ s.loop k 8 = 0) := fun h => h.elim hm fun ⟨hc, h8⟩ => hv hc h8
  have inRange : ¬ (s.isLineLoop k = true ∧ (409600 < s.loop k 5 ∨ 409600 < s.loop k 0x75)) := fun ⟨hl, h⟩ =>
    let ⟨h5, h75⟩ := hp hl
    h.elim (Nat.not_lt.mpr h5) (Nat.not_lt.mpr h75)
  refine (if_neg Nat.one_ne_zero).trans ((if_neg complete).trans ((if_neg inRange).trans ?_))
  simp only [ht, he]
  rfl

/-! ACTIVE_SET (R81, Table 04-5). -/

/-- A set is asked for at the loop's next boundary; a switch to SAFE by the flutter detector that is due stands (R81). -/
def Loop.askSet (code : Nat) (n : SetName) (cause : Nat) (l : Loop) : Loop :=
  { l with activeCode := code, setNext := if l.setNext = some (.safe, 3) then l.setNext else some (n, cause) }

theorem writeActiveSet_zero (hl : s.loop k 0xC ≠ 1) : writeActiveSet k 0 s = (0, s.modLoop k (Loop.askSet 0 .set0 1)) := if_neg hl

theorem writeActiveSet_one (hl : s.loop k 0xC ≠ 1) : writeActiveSet k 1 s = (0, s.modLoop k (Loop.askSet 1 .set1 1)) := if_neg hl

theorem writeActiveSet_safe : writeActiveSet k 2 s = (0, s.modLoop k (Loop.askSet 2 .safe 1)) := rfl

theorem writeActiveSet_leaveSafe (h : s.loops[k].setInForce = .safe) :
    writeActiveSet k 3 s = (0, s.modLoop k (Loop.askSet 3
      (if s.loop k 0xC = 1 then profileSet s.modes.profile else s.loops[k].resumeSet) 4)) :=
  if_neg (not_not.mpr h)

/-! SAFE_SET_LOCK (R83). -/

theorem writeSafeLock_one (holder : Bool) : writeSafeLock k 1 holder s = (0, s.setWritten (0x3100 + k) 0xD 1) := rfl

theorem writeSafeLock_zero (ht : s.inModes [.tending] = true) (he : s.enabled k = false) :
    writeSafeLock k 0 true s = (0, s.setWritten (0x3100 + k) 0xD 0) :=
  (if_neg Nat.zero_ne_one).trans (if_pos (by simp [ht, he]))

theorem writeLoop_safeLock (h : HostNo) (v : Int) :
    writeLoop h k 0xD v s = writeSafeLock k v.toNat (decide (s.lockOwner = some h)) s := rfl

/-- A host's write of a loop entry, served and admitted. -/
theorem State.hostWrite_loop {t : State} {who : Key} {h : HostNo} {sub : Nat} {data : Bytes} {v : Int} (hs : s.serves who h)
    (ha : s.admits h (0x3100 + k) sub data v) (hw : writeLoop h k sub v (s.touch h) = (0, t)) :
    s.hostWrite who (0x3100 + k) sub data = .next (s.wrote (0x3100 + k) sub t) :=
  State.hostWrite_served hs ha (by omega) (by omega) ((writeValue_loop h k sub v _).trans hw)

end

/-- Settles O8: each write, served and admitted, comes to its entry's own rule. -/
theorem loopWrites : Obligations.LoopWrites := by
  rintro s t who h k data v hs rfl
  refine ⟨?offIdle, ?offActive, ?on, ?set, ?safe, ?leave, ?lock, ?unlock⟩
  case offIdle =>
    rintro ha rfl hst hrun
    exact State.hostWrite_loop hs ha (writeEnable_zero_idle hst hrun)
  case offActive =>
    rintro ha rfl hst
    exact State.hostWrite_loop hs ha (writeEnable_zero_active hst)
  case on =>
    rintro ha rfl hm hv hp ht he
    exact State.hostWrite_loop hs ha (writeEnable_one hm hv hp ht he)
  case set =>
    rintro ha (rfl | rfl) hl _
    · exact State.hostWrite_loop hs ha (writeActiveSet_zero hl)
    · exact State.hostWrite_loop hs ha (writeActiveSet_one hl)
  case safe =>
    rintro ha rfl
    exact State.hostWrite_loop hs ha writeActiveSet_safe
  case leave =>
    rintro ha rfl hsafe
    exact State.hostWrite_loop hs ha (writeActiveSet_leaveSafe hsafe)
  case lock =>
    rintro ha rfl
    exact State.hostWrite_loop hs ha ((writeLoop_safeLock h 1).trans (writeSafeLock_one _))
  case unlock =>
    rintro ha rfl ht ho he
    refine State.hostWrite_loop hs ha ?_
    rw [writeLoop_safeLock, decide_eq_true ho]
    exact writeSafeLock_zero ht he

end Sys2Proof.Machine

/-! PROOF. The commands of a moth-trap unit and the writes of a cell's latch, action and calibration (R45, R49, R50, R88 to R91). -/

namespace Sys2Proof.Machine

/-! COMMAND of a moth-trap unit (R88, R90, R91). -/

section
variable {s : State} {u : TraceNo}

/-- A unit armed on the configuration of state `s` (R88, R89). -/
def Trace.armedOn (s : State) (u : TraceNo) : Trace :=
  { Trace.reset with st := .armed, memory := s.unitNeed u, slow := (s.unitNodes u).map s.nodeValue, codes := s.unitNodes u
                     source := s.unit u 2, decimate := s.unit u 3, preDepth := s.unit u 0xD }

theorem writeTraceCommand_arm (hn : (s.unitNodes u).all nodeOk = true)
    (hm : (sumOf 4 fun v => if v = u then 0 else s.traces[v].memory) + s.unitNeed u ≤ 262144) (hb : MemFail.mothTrap ∉ s.badBanks) :
    writeTraceCommand u 1 s = (0, s.modTrace u fun _ => Trace.armedOn s u) := by
  refine (if_neg (Bool.not_not_eq.mpr hn)).trans (if_neg ?_)
  exact not_or.mpr ⟨Nat.not_lt.mpr hm, mt List.contains_iff_mem.mp hb⟩

theorem writeTraceCommand_force (ha : s.traces[u].st = .armed) (he : s.traces[u].eventSeen = false) :
    writeTraceCommand u 2 s = (0, s.modTrace u fun x => { x with flagForced := true }) :=
  congrArg (Prod.mk 0) (if_pos ⟨ha, he⟩)

theorem writeTraceCommand_force_late (h : s.traces[u].st ≠ .armed ∨ s.traces[u].eventSeen = true) : writeTraceCommand u 2 s = (0, s) :=
  congrArg (Prod.mk 0) (if_neg fun ⟨ha, he⟩ => h.elim (· ha) (ne_true_of_eq_false he))

theorem writeTraceCommand_disarm : writeTraceCommand u 3 s = (0, s.modTrace u fun _ => Trace.reset) := rfl

/-- A host's COMMAND of a moth-trap unit, served and admitted. -/
theorem State.hostWrite_trace {t : State} {who : Key} {h : HostNo} {data : Bytes} {v : Int} (hs : s.serves who h)
    (ha : s.admits h (0x2610 + u) 0x14 data v) (hw : writeTraceCommand u v.toNat (s.touch h) = (0, t)) :
    s.hostWrite who (0x2610 + u) 0x14 data = .next (s.wrote (0x2610 + u) 0x14 t) :=
  State.hostWrite_served hs ha (by omega) (by omega) ((writeValue_trace h u v _).trans hw)

end

/-! FAULT_LATCH, SAFE_ACTION and the calibration record of a cell (R45, R49, R50, R127). -/

section
variable {s : State} {c : CellNo}

theorem writeFaultLatch_free {v : Nat} (h : (s.clearFault c (BitVec.ofNat 16 v)).groupOf c = none) :
    writeFaultLatch c v s = (0, s.clearFault c (BitVec.ofNat 16 v)) := by
  simp only [writeFaultLatch, h]

/-- The group of a LINE cell drives its code again once bits of the cell's latch are cleared (R127). -/
theorem writeFaultLatch_grouped {v : Nat} {g : GroupNo} (h : (s.clearFault c (BitVec.ofNat 16 v)).groupOf c = some g) :
    writeFaultLatch c v s = (0, (s.clearFault c (BitVec.ofNat 16 v)).driveGroup g) := by
  simp only [writeFaultLatch, h]

theorem writeCalRecord_stored {r : Bytes} (hl : r.length = 112) (hr : calOk c r = true) (ht : s.inModes [.tending] = true) :
    writeCalRecord c r s = (0, (s.modCell c (Cell.storeCal r 112)).calCheck c) :=
  (if_neg (not_not.mpr hl)).trans ((if_neg (Bool.not_not_eq.mpr hr)).trans (if_neg (Bool.not_not_eq.mpr ht)))

theorem writeDomain_cal (h : HostNo) (c : CellNo) (r : Bytes) (s : State) : writeDomain h (0x4400 + c) r s = writeCalRecord c r s := by
  have := c.isLt
  rw [writeDomain, if_neg (by omega), if_pos (by omega), inst?_self]

theorem State.touch_inModes (s : State) (h : HostNo) (ms : List Mode) : (s.touch h).inModes ms = s.inModes ms := by
  simp only [State.inModes, s.touch_modes]

/-- A host's write of a cell entry, served and admitted. -/
theorem State.hostWrite_cell {t : State} {who : Key} {h : HostNo} {sub : Nat} {data : Bytes} {v : Int} (hs : s.serves who h)
    (ha : s.admits h (0x3000 + c) sub data v) (hw : writeCell h c sub v (s.touch h) = (0, t)) :
    s.hostWrite who (0x3000 + c) sub data = .next (s.wrote (0x3000 + c) sub t) :=
  State.hostWrite_served hs ha (by omega) (by omega) ((writeValue_cell h c sub v _).trans hw)

/-- A host's calibration record of a cell, served, admitted and sound (R45). -/
theorem State.hostWrite_cal {who : Key} {h : HostNo} {r : Bytes} (hs : s.serves who h) (ha : s.admitsDomain h (0x4400 + c) 1)
    (hl : r.length = 112) (hr : calOk c r = true) (ht : s.inModes [.tending] = true) :
    s.hostWrite who (0x4400 + c) 1 r = .next (s.wrote (0x4400 + c) 1 (((s.touch h).modCell c (Cell.storeCal r 112)).calCheck c)) :=
  State.hostWrite_domain hs ha (by omega) (by omega)
    ((writeDomain_cal h c r _).trans (writeCalRecord_stored hl hr ((s.touch_inModes h _).trans ht)))

end

/-- Settles O9: each write, served and admitted, comes to its entry's own rule. -/
theorem traceAndCellWrites : Obligations.TraceAndCellWrites := by
  refine ⟨?trace, fun s who h c data v hs => ⟨fun ha => ⟨fun hg => ?free, fun g hg => ?grouped⟩, fun ha => ?action, ?cal⟩⟩
  case trace =>
    rintro s t who h u hs rfl
    exact ⟨fun ha hn hm hb => State.hostWrite_trace hs ha (writeTraceCommand_arm hn hm hb),
      fun ha hst he => State.hostWrite_trace hs ha (writeTraceCommand_force hst he),
      fun ha hl => State.hostWrite_trace hs ha (writeTraceCommand_force_late hl),
      fun ha => State.hostWrite_trace hs ha writeTraceCommand_disarm⟩
  case free => exact State.hostWrite_cell hs ha (writeFaultLatch_free hg)
  case grouped => exact State.hostWrite_cell hs ha (writeFaultLatch_grouped hg)
  case action => exact State.hostWrite_cell hs ha rfl
  case cal => exact State.hostWrite_cal hs

end Sys2Proof.Machine

/-! PROOF. What ends or changes a loop's stages (R86, R99, R100, R104, R113 to R119), command by command. -/

namespace Sys2Proof.Machine

section
variable {s : State} {k : LoopNo}

/-! OVERRUN_STOP (R70). -/

theorem exec_overrunStop (ha : s.loops[k].active = true) (hn : 16 ≤ s.loops[k].overruns.foldl (· + ·) 0) :
    exec (.overrunStop k) s = .next (s.stopLoop k .stoppedByCause 3) :=
  congrArg Host.Outcome.next (if_pos ⟨ha, hn⟩)

/-! PHASE_SHED, BURST_ENTRY and SHARE_RAMP_COMPLETE (R99, R100, R104). -/

theorem exec_phaseShed {c : CellNo} (hc : s.shedCandidate k = some c) (hq : s.shedQualifies k = true)
    (hr : max 1 (s.loop k 0x65) ≤ s.loops[k].shedRun) :
    exec (.phaseShed k) s = .next (State.event s.srcLane 0x2020 c (byte c ++ byte (s.nA k - 1))
      ((s.modCell c fun x => { x with weightGoal := 0 }).modLoop k fun l => { l with shedRun := 0 })) := by
  change execPhaseShed k s = _
  unfold execPhaseShed
  rw [hc]
  exact congrArg Host.Outcome.next (if_pos ⟨hq, hr⟩)

/-- The loop enters burst, and event 0x2024 is recorded. -/
def State.burstEntered (k : LoopNo) (s : State) : State :=
  let t := s.modLoop k fun l => { l with stage := .burst, burstLeft := s.loop k 0x68, burstAsleep := false, burstExit := false
                                         shortSleeps := 0, burstRun := 0 }
  t.event t.srcLane 0x2024 k (byte k)

theorem exec_burstEntry (hq : s.burstQualifies k = true) (hs : s.loops[k].stage = .continuous)
    (hr : max 1 (s.loop k 0x6A) ≤ s.loops[k].burstRun) :
    let u := s.burstEntered k
    exec (.burstEntry k) s = .next (u.over ((u.running k).drop (u.loop k 0x64)).reverse (fun c t => t.shedNow k c)) :=
  congrArg Host.Outcome.next (if_pos ⟨hq, hs, hr⟩)

theorem exec_shareRampComplete {m : CellNo} (hk : s.loopOf m = some k) :
    exec (.shareRampComplete m) s = .next ((s.modCell m fun x => { x with weight := x.weightGoal }).rampDone k m) := by
  change execShareRampComplete m s = _
  unfold execShareRampComplete
  rw [hk]

/-! SOFT_START_END and PG_RISE (R113, R114, R119). -/

/-- A loop whose soft start has ended: it runs, and PG is looked for anew; dropped members stay dropped. -/
def Loop.softStarted (l : Loop) : Loop := { l with st := .running, stage := .continuous, pgIn := 0, pgOutRun := 0 }

theorem State.softStarted_dropped (s : State) (k : LoopNo) : (s.modLoop k Loop.softStarted).loops[k].dropped = s.loops[k].dropped := by
  simp [Loop.softStarted]

theorem exec_softStartEnd (hst : s.loops[k].st = .starting) (hs : s.loops[k].stage = .softStart)
    (ht : stepsPerUs * s.loop k 0x6D ≤ s.loops[k].ssSteps) :
    let t := s.modLoop k Loop.softStarted
    exec (.softStartEnd k) s = .next (if s.loops[k].dropped = 0 then t
      else t.event t.srcLane 0x202C k (byte k ++ le 8 s.loops[k].dropped.toNat)) := by
  intro t
  rw [← s.softStarted_dropped k]
  exact congrArg Host.Outcome.next (if_pos ⟨hst, hs, ht⟩)

theorem exec_pgRise (hst : s.loops[k].st = .running) (hp : s.loops[k].pg = false) (hn : 20480000 ≤ s.loops[k].pgIn) :
    exec (.pgRise k) s = .next (s.modLoop k fun l => { l with pg := true }) :=
  congrArg Host.Outcome.next (if_pos ⟨hst, hp, hn⟩)

/-! START_ABORT, HICCUP_RETRY and HICCUP_RELOAD (R115, R116). -/

/-- A start that is aborted: event 0x202A, and the members' outputs low with their states cleared. -/
def State.startAborted (k : LoopNo) (cause : AbortCause) (s : State) : State :=
  (((s.event s.srcLane 0x202A k (byte k ++ byte (abortCode cause) ++ byte (s.running k).length)).endBrake k true).membersLow k).clearStates k

/-- A loop that waits HICCUP_DELAY for its next try. -/
def Loop.toHiccup (delayMs : Nat) (l : Loop) : Loop :=
  { l with st := .starting, stage := .hiccupWait, hiccupLeft := l.hiccupLeft - 1, pg := false, gridOn := false, waitMs := delayMs }

section
variable {cause : AbortCause} (h : s.abortMet k cause = true)
include h

/-- With retries left, the loop waits for the next one, which comes at once when there is no delay. -/
theorem exec_startAbort_retry (hn : 0 < (s.startAborted k cause).loops[k].hiccupLeft) :
    let u := (s.startAborted k cause).modLoop k (Loop.toHiccup ((s.startAborted k cause).loop k 0x6F))
    exec (.startAbort k cause) s = .next (if u.loop k 0x6F = 0 then u.restartLoop k else u) :=
  congrArg Host.Outcome.next ((if_pos h).trans (if_pos hn))

theorem exec_startAbort_last (hn : (s.startAborted k cause).loops[k].hiccupLeft = 0) :
    let u := (s.startAborted k cause).stopLoop k .stoppedByCause 5
    exec (.startAbort k cause) s = .next (u.event (s.startAborted k cause).srcLane 0x202B k (byte k)) :=
  congrArg Host.Outcome.next ((if_pos h).trans (if_neg (Nat.not_lt.mpr hn.le)))

end

theorem exec_hiccupRetry (hst : s.loops[k].st = .starting) (hs : s.loops[k].stage = .hiccupWait) (hw : s.loops[k].waitMs = 0)
    (ho : s.loops[k].railOn = true) (he : s.enabled k = true) : exec (.hiccupRetry k) s = .next (s.restartLoop k) :=
  congrArg Host.Outcome.next (if_pos ⟨hst, hs, hw, ho, he⟩)

theorem exec_hiccupReload (hp : s.loops[k].pg = true) (hr : minuteSteps ≤ s.loops[k].pgRun) :
    exec (.hiccupReload k) s = .next (s.modLoop k fun l => { l with hiccupLeft := s.loop k 0x6E }) :=
  congrArg Host.Outcome.next (if_pos ⟨hp, hr⟩)

/-! PHASE_DROP (R118). -/

theorem exec_phaseDrop {m : CellNo} {cause : DropCause} (hk : s.loopOf m = some k) (ha : s.loops[k].active = true)
    (hb : s.loops[k].burstAsleep = false) (hr : s.runs k m = true) (hf : s.failMet k m cause = true) :
    exec (.phaseDrop m cause) s = .next (s.dropMember k m cause) := by
  change execPhaseDrop m cause s = _
  unfold execPhaseDrop
  rw [hk]
  exact congrArg Host.Outcome.next (if_pos ⟨ha, hb, hr, hf⟩)

end

/-- Settles O21, from the equation of each command. -/
theorem stageCommands : Obligations.StageCommands :=
  ⟨fun _ _ => exec_overrunStop, fun _ _ _ => exec_phaseShed, fun _ _ => exec_burstEntry, fun _ _ _ => exec_shareRampComplete,
    fun _ _ => exec_softStartEnd, fun _ _ => exec_pgRise, fun _ _ _ h => ⟨exec_startAbort_retry h, exec_startAbort_last h⟩,
    fun _ _ => exec_hiccupRetry, fun _ _ => exec_hiccupReload, fun _ _ _ _ => exec_phaseDrop⟩

end Sys2Proof.Machine

/-! PROOF. The bus loop's sample and the identification of the lines' resistance (R96, R141 to R143, R148 to R151). -/

namespace Sys2Proof.Machine

section
variable {s : State}

/-! BUS_LOOP_SAMPLE (R148 to R151). -/

/-- What the interval's means come to: each group's line current and voltage, its under-delivery, and the bus loop's demand. -/
def State.busSampled (s : State) : State := ((s.busMeans.each 24 State.lineInterval).each 24 State.underDelivery).busControl

theorem exec_busLoopSample (hl : s.lanesRun = true) (hb : s.blockHeld 0x45 = false) :
    exec .busLoopSample s =
      .next (((s.busSampled.each 24 State.groupTarget).each 16 State.loopReference).traceSlow 0x10) :=
  congrArg Host.Outcome.next (if_neg (by simp [hl, hb]))

/-! ID_CYCLE (R141). -/

theorem State.cycleDue_iff :
    s.cycleDue = true ↔ s.cfgN 0x2232 1 ≠ 0 ∧ s.idAt = none ∧ s.idGroup = none ∧ s.lanesRun = true
      ∧ s.idCycleUs + s.cfgN 0x2232 1 * 1000000 ≤ s.clk.timeUs := by
  simp [State.cycleDue, and_assoc]

theorem exec_idCycle (hd : s.cycleDue = true) :
    exec .idCycle s = .next ({ s with idAt := some 0, idCycleUs := s.clk.timeUs } : State).idNext :=
  congrArg Host.Outcome.next (if_pos hd)

/-! IDENTIFICATION_DONE (R141 to R143, log 129). -/

variable {g : GroupNo}

/-- Both segments of the identification of group `g`, which is under way, have run. -/
def State.segmentsOver (s : State) (g : GroupNo) : Prop :=
  s.idGroup = some g ∧ s.groups[g].st = .identifying ∧ 2 * s.cfgN 0x2232 3 ≤ s.idMs g

/-- The identification has left the group, which delivers again. -/
def State.idLeft (g : GroupNo) (s : State) : State :=
  ({ s with idGroup := none } : State).modGroup g fun x => { x with st := .delivering, sinceUs := s.clk.timeUs }

section
variable (h : s.segmentsOver g)
include h

/-- A segment without a sample has no mean. -/
theorem exec_identificationDone_empty (hn : s.groups[g].idA.n = 0 ∨ s.groups[g].idB.n = 0) :
    exec (.identificationDone g) s = .next (s.abandonId g).idNext :=
  congrArg Host.Outcome.next ((if_pos h).trans (if_pos hn))

theorem exec_identificationDone_means (ha : s.groups[g].idA.n ≠ 0) (hb : s.groups[g].idB.n ≠ 0) :
    let a := s.groups[g].idA
    let b := s.groups[g].idB
    exec (.identificationDone g) s = .next ((s.idLeft g).identify g (a.i / a.n) (b.i / b.n) (a.v / a.n) (b.v / b.n)).idNext :=
  congrArg Host.Outcome.next ((if_pos h).trans (if_neg (not_or.mpr ⟨ha, hb⟩)))

end

end

/-- Settles O24, from the equation of each command. -/
theorem busCommands : Obligations.BusCommands := by
  refine ⟨fun _ => exec_busLoopSample, fun _ hp ha hg hl ht => exec_idCycle (State.cycleDue_iff.mpr ⟨hp, ha, hg, hl, ht⟩),
    fun s g hg hs ht => ?_⟩
  have ended : s.segmentsOver g := ⟨hg, hs, ht⟩
  exact ⟨exec_identificationDone_means ended, exec_identificationDone_empty ended⟩

end Sys2Proof.Machine

/-! PROOF. The vending voltages of a group as an agreement set (R129, R295). -/

namespace Sys2Proof.Machine

/-- The set of a group's vending voltages (Table 14-7). -/
abbrev SetId.vending (g : GroupNo) : SetId := ⟨5, g, 0xFF⟩

section
variable (s : State) (g : GroupNo)

theorem State.setMembers_vending : s.setMembers (.vending g) = [0xF, 9, 0xB, 0xA].map fun sub => (0x3200 + (g : Nat), sub) := rfl

theorem State.setAgrees_vending :
    s.setAgrees (.vending g) = true ↔ s.writ (0x3200 + g) 0xF ≤ s.writ (0x3200 + g) 9
      ∧ s.writ (0x3200 + g) 9 < s.writ (0x3200 + g) 0xB ∧ s.writ (0x3200 + g) 0xB < s.writ (0x3200 + g) 0xA := by
  simp [State.setAgrees, State.setMembers_vending, rising]

theorem State.setsOf_vending {sub : Nat} (h : sub ∈ [0xF, 9, 0xB, 0xA]) : s.setsOf (0x3200 + g) sub = [.vending g] := by
  have := g.isLt
  have member : sub = 0xF ∨ sub = 9 ∨ sub = 0xA ∨ sub = 0xB := by simpa [or_comm, or_left_comm] using h
  rw [State.setsOf, if_neg (by omega), if_neg (by omega), if_pos (by omega), if_pos member, Nat.add_sub_cancel_left]

end

section
variable {s : State} {i : SetId}

/-- A set that its written values do not meet is pending once it is tested (R295). -/
theorem State.testSet_isPending (h : s.setAgrees i = false) : (s.testSet i).isPending i = true := by
  rw [State.testSet, if_neg (ne_true_of_eq_false h)]
  split
  next pending => exact pending
  next => simp [State.isPending, Pending.is]

/-- The adoption point of a pending set does nothing (R295). -/
theorem State.adoptSet_pending (h : s.isPending i = true) : s.adoptSet i = s := if_pos (.inl h)

end

/-- Settles O57: the set's own predicate and members, and what a set that disagrees comes to at its test and at its adoption point. -/
theorem vendingSet : Obligations.VendingSet := fun s g =>
  ⟨s.setAgrees_vending g, fun _ => s.setsOf_vending g, fun h => ⟨State.testSet_isPending h, fun _ => State.adoptSet_pending⟩⟩

end Sys2Proof.Machine

/-! PROOF. The writes of a group's ENABLE and CLEAR (R130, R137, R156). -/

namespace Sys2Proof.Machine

section
variable {s : State} {g : GroupNo}

/-! ENABLE (R130, R132, R156). -/

/-- ENABLE 0 stops a running group (R132). -/
theorem writeGroupEnable_zero_run (h : s.groups[g].st.run = true) :
    writeGroupEnable g 0 s = (0, (s.setWritten (0x3200 + g) 2 0).laneStop g 1) := if_pos h

/-- ENABLE 0 leaves a discharge to its end. -/
theorem writeGroupEnable_zero_discharging (h : s.groups[g].st = .discharging) :
    writeGroupEnable g 0 s = (0, s.setWritten (0x3200 + g) 2 0) :=
  (if_neg (by rw [h]; exact Bool.false_ne_true)).trans (if_pos h)

theorem writeGroupEnable_zero_idle (hr : s.groups[g].st.run = false) (hd : s.groups[g].st ≠ .discharging) :
    writeGroupEnable g 0 s = (0, (s.setWritten (0x3200 + g) 2 0).groupTo g .disabled) :=
  (if_neg (ne_true_of_eq_false hr)).trans (if_neg hd)

/-- ENABLE 1 of a group that is enabled has no effect (R156). -/
theorem writeGroupEnable_one_enabled (h : s.groups[g].st ≠ .disabled) : writeGroupEnable g 1 s = (0, s) := if_pos h

/-- The group is enabled, with all its retries and no stop cause (R130, R133). -/
def State.groupEnabled (g : GroupNo) (s : State) : State :=
  (s.setWritten (0x3200 + g) 2 1).modGroup g fun x => { x with retryLeft := s.group g 0x16, stopCause := 0 }

theorem writeGroupEnable_one_disabled (hd : s.groups[g].st = .disabled) (he : s.groupEnables g = true) :
    writeGroupEnable g 1 s = (0, if (s.groupEnabled g).mustDisable g then s.groupEnabled g
      else (s.groupEnabled g).groupTo g ((s.groupEnabled g).byVend g)) :=
  (if_neg (not_not.mpr hd)).trans (if_neg (Bool.not_not_eq.mpr he))

/-! CLEAR (R137). -/

theorem writeGroupClear_zero : writeGroupClear g 0 s = (0, s) := rfl

/-- A lock-out ends once its cause is gone: no LEAK input of the group is asserted, and its energy is not over the limit. -/
theorem writeGroupClear_one (hs : s.groups[g].st = .lockedOut)
    (hl : s.group g 0xE < 8 → s.pins.leak.getLsbD (s.group g 0xE) = false)
    (he : s.groups[g].stopCause = 3 → s.overEnergy g s.groups[g].energyUj = false) :
    let u := s.modGroup g fun x => { x with retryLeft := s.group g 0x16 }
    writeGroupClear g 1 s = (0, u.groupTo g (if u.mustDisable g then .disabled else u.byVend g)) := by
  refine if_neg ?_
  rintro (h | ⟨h8, h⟩ | ⟨h3, h⟩)
  · exact h hs
  · exact ne_true_of_eq_false (hl h8) h
  · exact ne_true_of_eq_false (he h3) h

section
variable {t : State} {who : Key} {h : HostNo} {data : Bytes} {v : Int} (hs : s.serves who h)
include hs

/-- A host's ENABLE of a group, served and admitted. -/
theorem State.hostWrite_groupEnable (ha : s.admits h (0x3200 + g) 2 data v) (hw : writeGroupEnable g v.toNat (s.touch h) = (0, t)) :
    s.hostWrite who (0x3200 + g) 2 data = .next (s.wrote (0x3200 + g) 2 t) :=
  State.hostWrite_served hs ha (by omega) (by omega) ((writeValue_groupEnable h g v _).trans hw)

/-- A host's CLEAR of a group, served and admitted. -/
theorem State.hostWrite_groupClear (ha : s.admits h (0x3200 + g) 0x1A data v) (hw : writeGroupClear g v.toNat (s.touch h) = (0, t)) :
    s.hostWrite who (0x3200 + g) 0x1A data = .next (s.wrote (0x3200 + g) 0x1A t) :=
  State.hostWrite_served hs ha (by omega) (by omega) ((writeValue_groupClear h g v _).trans hw)

end

end

/-- Settles O11: each write, served and admitted, comes to the rule of its entry in the group's state. -/
theorem groupWrites : Obligations.GroupWrites := by
  rintro s t who h g data v hs rfl
  refine ⟨?stop, ?leave, ?disable, ?still, ?enable, ?none, ?clear⟩
  case stop =>
    rintro ha rfl hr
    exact State.hostWrite_groupEnable hs ha (writeGroupEnable_zero_run hr)
  case leave =>
    rintro ha rfl hd
    exact State.hostWrite_groupEnable hs ha (writeGroupEnable_zero_discharging hd)
  case disable =>
    rintro ha rfl hr hd
    exact State.hostWrite_groupEnable hs ha (writeGroupEnable_zero_idle hr hd)
  case still =>
    rintro ha rfl hd
    exact State.hostWrite_groupEnable hs ha (writeGroupEnable_one_enabled hd)
  case enable =>
    rintro ha rfl hd he
    exact State.hostWrite_groupEnable hs ha (writeGroupEnable_one_disabled hd he)
  case none =>
    rintro ha rfl
    exact State.hostWrite_groupClear hs ha writeGroupClear_zero
  case clear =>
    rintro ha rfl hst hl he
    exact State.hostWrite_groupClear hs ha (writeGroupClear_one hst hl he)

end Sys2Proof.Machine

/-! PROOF. The states of a line group (R127, R128, R131 to R136, R140), command by command. -/

namespace Sys2Proof.Machine

theorem State.modCell_modCell (s : State) (c : CellNo) (f f' : Cell → Cell) :
    (s.modCell c f).modCell c f' = s.modCell c fun x => f' (f x) := by
  simp [State.modCell]

section
variable {s : State} {g : GroupNo}

/-! LINE_VEND_SAMPLE (R127, R128). -/

/-- The AUX decimator has taken bits of the bitstream. -/
def Cell.auxFed (q : Sinc) (x : Cell) : Cell := { x with auxSinc := q }

/-- An output of the AUX decimator is the cell's AUX sample. -/
def Cell.auxTaken (out : Rat) (x : Cell) : Cell := { x with aux := x.correctAux out, auxValid := true }

/-- The AUX sample of cell `c` is judged as V_end of group `g`. -/
def State.vendJudged (g : GroupNo) (c : CellNo) (s : State) : State :=
  s.vendSample g ((s.cells[c].aux : Rat) * (s.group g 0x12 * 1000) / 32768)

section
variable {c : CellNo} (bits : List Bool) (hc : s.groupCell g = some c) (hr : s.cells[c].role = .line) (hs : s.groups[g].st.run = false)
include hc hr hs

theorem exec_lineVendSample_line :
    let t := s.adoptSet (.vending g)
    let q := t.cells[c].auxSinc.feed (t.cell c 0xD) bits
    exec (.lineVendSample g bits) s = .next (if q.2 = [] then t.modCell c (Cell.auxFed q.1)
      else ((t.modCell c (Cell.auxFed q.1)).modCell c (Cell.auxTaken q.1.out)).vendJudged g c) := by
  change execLineVendSample g bits s = _
  unfold execLineVendSample
  simp only [hc]
  exact congrArg Host.Outcome.next (if_neg (not_or.mpr ⟨not_not.mpr hr, ne_true_of_eq_false hs⟩))

end

/-! GROUP_START and GROUP_RAMP_COMPLETE (R131). -/

/-- What a start clears of the group's ramp, runs and ceiling. -/
def Group.rampCleared (x : Group) : Group :=
  { x with startTick := true, rampSteps := 0, targetUa := 0, deficitRun := 0, revRun := 0, energyRun := 0, limitRun := 0, lostSteps := 0
           overSteps := 0, lowUs := 0, exchLimit := false, ceilingUa := 0 }

/-- The cell of a starting group, as a new member of full weight. -/
def Cell.lineJoining (x : Cell) : Cell :=
  { x.clearedMember with target := 0, weight := 1, weightGoal := 1, vEndPrev := x.aux * 256 }

/-- The group starts on its cell, before the cell's loop is looked at. -/
def State.groupJoining (g : GroupNo) (c : CellNo) (s : State) : State :=
  ((s.modGroup g Group.rampCleared).modCell c Cell.lineJoining).groupTo g .starting

/-- The cell takes its place in its loop, if it has one. -/
def State.joinLoop (c : CellNo) (t : State) : State :=
  match t.loopOf c with
  | some k => (t.modCell c fun x => { x with offset := t.offsetGoal k c }).recapacity k
  | none => t

theorem State.joinLoop_member {t : State} {c : CellNo} {k : LoopNo} (h : t.loopOf c = some k) :
    t.joinLoop c = (t.modCell c fun x => { x with offset := t.offsetGoal k c }).recapacity k := by
  simp only [State.joinLoop, h]

theorem State.joinLoop_free {t : State} {c : CellNo} (h : t.loopOf c = none) : t.joinLoop c = t := by
  simp only [State.joinLoop, h]

theorem exec_groupStart {c : CellNo} (hc : s.groupCell g = some c) (hs : s.groupStarts g = true) :
    let u := (s.groupJoining g c).joinLoop c
    exec (.groupStart g) s = .next (u.event u.srcLane 0x3002 g (byte g)) := by
  change execGroupStart g s = _
  unfold execGroupStart
  simp only [hc]
  exact congrArg Host.Outcome.next (if_pos hs)

theorem exec_groupRampComplete (hs : s.groups[g].st = .starting) (hr : (s.group g 5 : Rat) * 1000 ≤ s.rampLimit g) :
    exec (.groupRampComplete g) s = .next ((s.groupTo g .delivering).modGroup g fun x => { x with deliverUs := s.clk.timeUs }) :=
  congrArg Host.Outcome.next (if_pos ⟨hs, hr⟩)

/-! GROUP_STOP, HELD_TEST_MET and LEAK_TRIP (R132, R136, R140). -/

theorem exec_groupStop {cause : StopCause} (hr : s.groups[g].st.run = true) (hm : s.stopMet g cause = true) :
    exec (.groupStop g cause) s = .next ((s.stopEvent g cause).laneStop g (stopCode cause)) :=
  congrArg Host.Outcome.next (if_pos ⟨hr, hm⟩)

theorem exec_heldTestMet {cause : HeldCause} (ht : s.heldTests g = true) (hc : s.groups[g].heldCause = 0)
    (hm : s.groups[g].heldMet cause = true) :
    let t := (s.groupLow g).modGroup g fun x => { x with heldCause := heldCode cause, dieLow := true }
    exec (.heldTestMet g cause) s = .next ((t.event (t.srcGroup g) 0x3004 g (byte g ++ byte (heldCode cause))).takeHeld g) :=
  congrArg Host.Outcome.next (if_pos ⟨ht, hc, hm⟩)

theorem exec_leakTrip_released (l : LeakNo) :
    exec (.leakTrip l false) s = .next (s.modPins fun p => { p with leak := p.leak &&& ~~~(BitVec.ofNat 8 (2 ^ (l : Nat))) }) := rfl

theorem exec_leakTrip_asserted (l : LeakNo) :
    let t := s.modPins fun p => { p with leak := p.leak ||| BitVec.ofNat 8 (2 ^ (l : Nat)) }
    let gs := t.leakGroups l
    exec (.leakTrip l true) s =
      .next ((t.over gs State.leakStop).event (srcWatch 0) 0x3008 l (byte l ++ le 4 (maskOf (gs.map fun g => (g : Nat))))) := by
  change execLeakTrip l true s = _
  unfold execLeakTrip
  simp only [if_true]

/-! DISCHARGE_END (R134, R135). -/

/-- DISCH_TIME_MS of the group's discharge has passed, and a lane can judge its end. -/
def State.dischargeOver (s : State) (g : GroupNo) : Prop :=
  s.groups[g].st = .discharging ∧ s.groups[g].sinceUs + s.group g 0x10 * 1000 ≤ s.clk.timeUs ∧ s.lanes.token.isSome = true
    ∧ s.modes.safe = false

section
variable (h : s.dischargeOver g)
include h

theorem exec_dischargeEnd_decayed {ms : Nat} (hd : s.groups[g].decayMs = some ms) :
    exec (.dischargeEnd g) s = .next ((s.event s.srcLane 0x3005 g (byte g ++ le 4 ms)).afterDischarge g) := by
  refine congrArg Host.Outcome.next ((if_pos h).trans ?_)
  simp only [hd]

/-- A line that its feed holds at or above QUAL_OFF_V needs no decay. -/
theorem exec_dischargeEnd_driven (hd : s.groups[g].decayMs = none) (hv : voltsMv (s.group g 0xB) ≤ s.groups[g].vEndMv) :
    exec (.dischargeEnd g) s = .next (s.afterDischarge g) := by
  refine congrArg Host.Outcome.next ((if_pos h).trans ?_)
  simp only [hd]
  exact if_pos hv

/-- A discharge path that failed: the line neither decayed nor is held up by its feed. -/
theorem exec_dischargeEnd_lockedOut (hd : s.groups[g].decayMs = none) (hv : s.groups[g].vEndMv < voltsMv (s.group g 0xB)) :
    exec (.dischargeEnd g) s =
      .next ((s.event s.srcLane 0x3006 g (byte g ++ le 4 (quantN s.groups[g].vEndMv))).groupTo g .lockedOut) := by
  refine congrArg Host.Outcome.next ((if_pos h).trans ?_)
  simp only [hd]
  exact if_neg (not_le.mpr hv)

end

/-! GROUP_RETRY and GROUP_RETRY_RELOAD (R133). -/

theorem exec_groupRetry (hs : s.groups[g].st = .retryWait) (ht : s.groups[g].sinceUs + s.group g 0x17 * 1000000 ≤ s.clk.timeUs) :
    exec (.groupRetry g) s = .next (s.retryGroup g) :=
  congrArg Host.Outcome.next (if_pos ⟨hs, ht⟩)

theorem exec_groupRetryReload (hd : s.groups[g].delivers = true) (ht : s.groups[g].deliverUs + 600000000 ≤ s.clk.timeUs) :
    exec (.groupRetryReload g) s = .next (s.modGroup g fun x => { x with retryLeft := s.group g 0x16 }) :=
  congrArg Host.Outcome.next (if_pos ⟨hd, ht⟩)

end

/-- Settles O23, from the equation of each command. -/
theorem groupCommands : Obligations.GroupCommands := by
  refine ⟨?vend, ?start, fun s g => exec_groupRampComplete, fun s g cause => exec_groupStop, fun s g cause => exec_heldTestMet,
    fun s l => ⟨exec_leakTrip_released l, exec_leakTrip_asserted l⟩, ?discharge, fun s g => exec_groupRetry,
    fun s g => exec_groupRetryReload⟩
  case vend =>
    rintro s t g bits c hc hr hs rfl
    refine ⟨fun h => (exec_lineVendSample_line bits hc hr hs).trans (congrArg _ (if_pos h)),
      fun h => (exec_lineVendSample_line bits hc hr hs).trans (congrArg _ ((if_neg h).trans ?_))⟩
    rw [State.modCell_modCell]
    rfl
  case start =>
    intro s g c hc hs
    have started := exec_groupStart hc hs
    refine ⟨fun h => started.trans ?_, fun k h => started.trans ?_⟩
    · rw [State.joinLoop_free (t := s.groupJoining g c) h]; rfl
    · rw [State.joinLoop_member (t := s.groupJoining g c) h]; rfl
  case discharge =>
    intro s g hst ht hl hm
    have ended : s.dischargeOver g := ⟨hst, ht, hl, hm⟩
    exact ⟨fun ms => exec_dischargeEnd_decayed ended, exec_dischargeEnd_driven ended, exec_dischargeEnd_lockedOut ended⟩

end Sys2Proof.Machine

/-! PROOF. A row of one feeder or ORing cell changes that cell alone (R159, R163, R170, R178, R180, R181). -/

namespace Sys2Proof.Machine

theorem State.onlyCell.refl (c : CellNo) (s : State) : s.onlyCell c s :=
  ⟨fun _ _ => rfl, rfl, rfl, rfl, rfl, rfl, rfl, rfl, rfl, rfl, rfl, rfl⟩

theorem State.onlyCell.trans {c : CellNo} {s t u : State} (h : s.onlyCell c t) (h' : t.onlyCell c u) : s.onlyCell c u := by
  obtain ⟨cells, loops, groups, strings, packs, bus, seq, thermal, lanes, modes, phase, written⟩ := h
  obtain ⟨cells', loops', groups', strings', packs', bus', seq', thermal', lanes', modes', phase', written'⟩ := h'
  exact ⟨fun d hd => (cells' d hd).trans (cells d hd), loops'.trans loops, groups'.trans groups, strings'.trans strings,
    packs'.trans packs, bus'.trans bus, seq'.trans seq, thermal'.trans thermal, lanes'.trans lanes, modes'.trans modes,
    phase'.trans phase, written'.trans written⟩

/-- Recording and sending change no cell and nothing of the plant. -/
theorem State.Told.onlyCell {s t : State} (h : s.Told t) (c : CellNo) : s.onlyCell c t := by
  obtain ⟨_, _, _, _, _, rfl⟩ := h
  exact .refl c s

section
variable {c : CellNo} {s0 s t : State} (h : s0.onlyCell c s)
include h

/-! The writers, recording and sending. -/

theorem State.onlyCell.modCell (f : Cell → Cell) : s0.onlyCell c (s.modCell c f) :=
  h.trans ⟨fun _ hd => s.modCell_ne c f hd, rfl, rfl, rfl, rfl, rfl, rfl, rfl, rfl, rfl, rfl, rfl⟩

theorem State.onlyCell.modFeeder (f : Feeder → Feeder) : s0.onlyCell c (s.modFeeder c f) := h.modCell _

theorem State.onlyCell.modOring (f : Oring → Oring) : s0.onlyCell c (s.modOring c f) := h.modCell _

theorem State.onlyCell.modLedger (f : Ledger → Ledger) : s0.onlyCell c (s.modLedger f) := h.trans (.refl c s)

theorem State.onlyCell.modSink (x : SinkNo) (f : Sink → Sink) : s0.onlyCell c (s.modSink x f) := h.modLedger _

/-- A change of the dictionary that leaves the written values alone. -/
theorem State.onlyCell.modDict (f : DictState → DictState) (hf : (f s.dict).written = s.dict.written) : s0.onlyCell c (s.modDict f) :=
  h.trans ⟨fun _ _ => rfl, rfl, rfl, rfl, rfl, rfl, rfl, rfl, rfl, rfl, rfl, hf⟩

theorem State.onlyCell.event (src code inst : Nat) (b : Bytes) : s0.onlyCell c (s.event src code inst b) :=
  h.trans ((s.event_noted src code inst b).told.onlyCell c)

theorem State.onlyCell.latchEmcy (d : CellNo) (cause : Nat) : s0.onlyCell c (s.latchEmcy d cause) :=
  h.trans ((State.emcy_told _ _ s).onlyCell c)

theorem State.onlyCell.errReset (before : State) : s0.onlyCell c (State.errReset before s) :=
  h.trans ((State.errReset_told before s).onlyCell c)

omit h in
theorem State.onlyCell.ite {p : Prop} [Decidable p] (hs : s0.onlyCell c s) (ht : s0.onlyCell c t) :
    s0.onlyCell c (if p then s else t) := by
  split
  · exact hs
  · exact ht

theorem State.onlyCell.over {α : Type} {f : α → State → State} (hf : ∀ a u, s0.onlyCell c u → s0.onlyCell c (f a u)) (xs : List α) :
    s0.onlyCell c (s.over xs f) := State.over_ind (P := s0.onlyCell c) hf xs s h

/-! The fault latch (R48, R49). -/

theorem State.onlyCell.setFault (b : Nat) : s0.onlyCell c (s.setFault c b) := by
  unfold State.setFault
  exact .ite h (.ite ((h.modCell _).event _ _ _ _) (h.modCell _))

theorem State.onlyCell.calCheck : s0.onlyCell c (s.calCheck c) := by
  unfold State.calCheck
  extract_lets x ok
  exact .ite h (h.setFault 6)

theorem State.onlyCell.clearFault (mask : BitVec 16) : s0.onlyCell c (s.clearFault c mask) := by
  unfold State.clearFault
  exact ((h.modCell _).over (fun b _ hu => hu.setFault b) _).calCheck

/-! Adoption of written values: it changes what is in force, never what is written (R181, R295). -/

theorem State.onlyCell.adopt (index sub : Nat) : s0.onlyCell c (s.adopt index sub) := h.modDict _ rfl

theorem State.onlyCell.noteAdopted (i : SetId) : s0.onlyCell c (s.noteAdopted i) := by
  unfold State.noteAdopted
  split
  · exact (h.modDict _ rfl).event _ _ _ _
  · exact h

theorem State.onlyCell.adoptSet (i : SetId) : s0.onlyCell c (s.adoptSet i) := by
  unfold State.adoptSet
  extract_lets t
  have ht : s0.onlyCell c t := h.over (fun _ _ hu => .ite (hu.adopt _ _) hu) _
  exact .ite h (ht.noteAdopted i)

theorem State.onlyCell.adoptEntry (index sub : Nat) : s0.onlyCell c (s.adoptEntry index sub) := by
  unfold State.adoptEntry
  exact .ite ((h.over (fun i _ hu => hu.noteAdopted i) _).adopt index sub) h

theorem State.onlyCell.feederStartAdopt : s0.onlyCell c (s.feederStartAdopt c) := by
  unfold State.feederStartAdopt
  exact (h.over (fun x _ hu => hu.adoptEntry _ x) _).adoptSet _

/-! What happens to a feeder (R159 to R171). -/

theorem State.onlyCell.startUnseat : s0.onlyCell c (s.startUnseat c) := by
  unfold State.startUnseat
  exact ((h.modCell _).modFeeder _).event _ _ _ _

theorem State.onlyCell.startFeeder : s0.onlyCell c (s.startFeeder c) := by
  unfold State.startFeeder
  exact (((h.feederStartAdopt.modLedger _).modCell _).modFeeder _).event _ _ _ _

theorem State.onlyCell.feederOff : s0.onlyCell c (s.feederOff c) := h.modCell _

theorem State.onlyCell.tripFeeder (cause : Nat) : s0.onlyCell c (s.tripFeeder c cause) := by
  unfold State.tripFeeder
  extract_lets f past off tripped noted latched us
  have hn : s0.onlyCell c noted := ((h.feederOff.modSink _ _).modFeeder _).event _ _ _ _
  exact .ite (((hn.modFeeder _).event _ _ _ _).latchEmcy c cause) (hn.modFeeder _)

theorem State.onlyCell.feederComplete : s0.onlyCell c (s.feederComplete c) := by
  unfold State.feederComplete
  exact .ite ((h.modFeeder _).event _ _ _ _) h

theorem State.onlyCell.inrushDrive : s0.onlyCell c (s.inrushDrive c) := by
  unfold State.inrushDrive
  exact ((h.modFeeder _).modCell _).feederComplete

theorem State.onlyCell.feederMeasure : s0.onlyCell c (s.feederMeasure c) := h.modFeeder _

theorem State.onlyCell.countSample : s0.onlyCell c (s.countSample c) := h.modFeeder _

/-- The sample of a control period by the feeder's state, and the trip cause that it meets (R163, R166, R168). -/
def State.gateSample (c : CellNo) (s : State) : Option Nat × State :=
  if s.cells[c].held then (none, s)
  else if s.cells[c].feeder.st = .inrush then s.inrushSample c
  else if s.cells[c].feeder.st = .on then s.onSample c
  else (none, s.offSample c)

omit h in
/-- A control period is its sample, then the lowest cause met as a trip, or the drive of an INRUSH without one. -/
theorem State.feederPeriod_eq (c : CellNo) (s : State) :
    s.feederPeriod c =
      let t := (s.gateSample c).2
      match lowerCause t.cells[c].feeder.tripDue (s.gateSample c).1 with
      | some k => if t.cells[c].feeder.canTrip then t.tripFeeder c k else t.modFeeder c fun f => { f with tripDue := none }
      | none => if s.cells[c].feeder.st = .inrush ∧ !t.cells[c].held then t.inrushDrive c else t := rfl

theorem State.onlyCell.gateSample : s0.onlyCell c (s.gateSample c).2 := by
  unfold State.gateSample
  split
  · exact h
  · split
    · exact h.modFeeder _
    · split
      · exact h.modFeeder _
      · exact (h.modCell _).modFeeder _

theorem State.onlyCell.feederPeriod : s0.onlyCell c (s.feederPeriod c) := by
  have ht := h.gateSample
  rw [State.feederPeriod_eq]
  extract_lets t
  split
  next k _ => exact .ite (ht.tripFeeder k) (ht.modFeeder _)
  next => exact .ite ht.inrushDrive ht

/-! What happens to an ORing cell (R176 to R179). -/

theorem State.onlyCell.oringMeasure : s0.onlyCell c (s.oringMeasure c) := (h.modOring _).modOring _

theorem State.onlyCell.orBlock : s0.onlyCell c (s.orBlock c) := (h.modCell _).modOring _

theorem State.onlyCell.oringStep : s0.onlyCell c (s.oringStep c) := by
  unfold State.oringStep
  extract_lets o v fwd on w run b neg full t was u
  have hb : s0.onlyCell c b := h.modOring _
  have ht : s0.onlyCell c t := h.modOring _
  have hu : s0.onlyCell c u := ht.orBlock
  split
  case h_1 | h_2 => exact h
  case h_3 => exact h.modOring _
  case h_4 => exact .ite (hb.modOring _) hb
  case h_5 | h_6 =>
    exact .ite ht.orBlock (.ite (.ite (hu.event _ _ _ _) hu) (.ite (.ite ((ht.modOring _).modCell _) (ht.modCell _))
      (.ite ((ht.modOring _).modCell _) (ht.modCell _))))

end

/-! The rows (R159 to R180). -/

/-- If the command goes on, no other cell and nothing of the plant has changed. -/
def Out.onlyCell (c : CellNo) (s : State) (o : Out) : Prop := ∀ t, o = .next t → s.onlyCell c t

section
variable {c : CellNo} {s : State}

theorem Out.onlyCell.next {t : State} (h : s.onlyCell c t) : Out.onlyCell c s (.next t) := fun _ e => Host.Outcome.next.inj e ▸ h

theorem Out.onlyCell.settle {t : State} (h : s.onlyCell c t) : Out.onlyCell c s (settle s t) := .next (h.errReset s)

theorem Out.onlyCell.ite {p : Prop} [Decidable p] {o o' : Out} (h : Out.onlyCell c s o) (h' : Out.onlyCell c s o') :
    Out.onlyCell c s (if p then o else o') := by
  split
  · exact h
  · exact h'

end

section
variable (c : CellNo) (s : State)

theorem execSlotPresent_onlyCell : Out.onlyCell c s (execSlotPresent c s) := by
  unfold execSlotPresent
  exact .next (.ite (((State.onlyCell.refl c s).modFeeder _).event _ _ _ _) (.refl c s))

theorem execUnseat_onlyCell : Out.onlyCell c s (execUnseat c s) := by
  unfold execUnseat
  exact .next (.ite (State.onlyCell.refl c s).startUnseat (.refl c s))

theorem execInsertionCountDone_onlyCell : Out.onlyCell c s (execInsertionCountDone c s) := by
  unfold execInsertionCountDone
  exact .next (.ite ((State.onlyCell.refl c s).modFeeder _) (.refl c s))

theorem execFeederStart_onlyCell : Out.onlyCell c s (execFeederStart c s) := by
  unfold execFeederStart
  exact .next (.ite (State.onlyCell.refl c s).startFeeder (.refl c s))

theorem execFeederControlPeriod_onlyCell (x : ControlSample) : Out.onlyCell c s (execFeederControlPeriod c x s) := by
  have hs := State.onlyCell.refl c s
  unfold execFeederControlPeriod
  extract_lets a m t was u
  have ht : s.onlyCell c t := ((hs.adoptSet _).modCell _).feederMeasure.countSample
  have hu : s.onlyCell c u := ht.feederPeriod
  exact .ite (.next hs) (.ite (.next (hs.modCell _)) (.ite (.next ht) (.settle (.ite (hu.modCell _) hu))))

theorem execInrushTimeout_onlyCell : Out.onlyCell c s (execInrushTimeout c s) := by
  have hs := State.onlyCell.refl c s
  unfold execInrushTimeout
  extract_lets f
  exact .ite (.ite (.next hs.feederComplete) (.settle (hs.tripFeeder 5))) (.next hs)

theorem execPassDeviceFault_onlyCell (cause : PassCause) : Out.onlyCell c s (execPassDeviceFault c cause s) := by
  have hs := State.onlyCell.refl c s
  unfold execPassDeviceFault
  exact .ite (.settle (((((hs.feederOff.setFault 9).modSink _ _).modFeeder _).event _ _ _ _).latchEmcy c _)) (.next hs)

theorem execFeederUnloaded_onlyCell : Out.onlyCell c s (execFeederUnloaded c s) := by
  have hs := State.onlyCell.refl c s
  unfold execFeederUnloaded
  exact .next (.ite ((hs.feederOff.modFeeder _).event _ _ _ _) hs)

theorem execFeederRetry_onlyCell : Out.onlyCell c s (execFeederRetry c s) := by
  have hs := State.onlyCell.refl c s
  unfold execFeederRetry
  extract_lets t again u
  have ht : s.onlyCell c t := (hs.modFeeder _).clearFault _
  exact .ite (.settle (.ite (ht.tripFeeder 6) (.ite (ht.tripFeeder 7) (.ite ht.startFeeder ht)))) (.next hs)

theorem execFeederRetryReload_onlyCell : Out.onlyCell c s (execFeederRetryReload c s) := by
  unfold execFeederRetryReload
  exact .next (.ite ((State.onlyCell.refl c s).modFeeder _) (.refl c s))

theorem execOringReverse_onlyCell (x : TripSense) : Out.onlyCell c s (execOringReverse c x s) := by
  have hs := State.onlyCell.refl c s
  unfold execOringReverse
  extract_lets o t times t' u v
  have ht : s.onlyCell c t := (hs.modCell _).setFault 0
  have hu : s.onlyCell c u := (ht.modOring _).event _ _ _ _
  exact .ite (.next hs) (.ite (.next ht) (.ite (.settle (((hu.setFault 9).modOring _).event _ _ _ _)) (.next hu)))

theorem execOringControlPeriod_onlyCell (x : ControlSample) : Out.onlyCell c s (execOringControlPeriod c x s) := by
  have hs := State.onlyCell.refl c s
  unfold execOringControlPeriod
  extract_lets a t was u
  have ht : s.onlyCell c t := (((hs.adoptSet _).adoptSet _).modCell _).oringMeasure
  have hu : s.onlyCell c u := ht.oringStep
  exact .next (.ite hs (.ite (hs.modCell _) (.ite ht (.ite (hu.modCell _) hu))))

theorem execOringRearm_onlyCell : Out.onlyCell c s (execOringRearm c s) := by
  have hs := State.onlyCell.refl c s
  unfold execOringRearm
  exact .next (.ite ((hs.clearFault _).modOring _) hs)

end

/-- Settles O52, row by row. -/
theorem cellFrame : Obligations.CellFrame := by
  intro i c s t hi
  unfold cellOnly at hi
  split at hi <;> cases hi
  case h_1 => exact execSlotPresent_onlyCell c s t
  case h_2 => exact execUnseat_onlyCell c s t
  case h_3 => exact execInsertionCountDone_onlyCell c s t
  case h_4 => exact execFeederStart_onlyCell c s t
  case h_5 => exact execFeederControlPeriod_onlyCell c s _ t
  case h_6 => exact execInrushTimeout_onlyCell c s t
  case h_7 => exact execPassDeviceFault_onlyCell c s _ t
  case h_8 => exact execFeederUnloaded_onlyCell c s t
  case h_9 => exact execFeederRetry_onlyCell c s t
  case h_10 => exact execFeederRetryReload_onlyCell c s t
  case h_11 => exact execOringReverse_onlyCell c s _ t
  case h_12 => exact execOringControlPeriod_onlyCell c s _ t
  case h_13 => exact execOringRearm_onlyCell c s t

end Sys2Proof.Machine

/-! PROOF. The writes of a feeder's and an ORing cell's enables and clears (R160, R172, R174, R175, R177, R179). -/

namespace Sys2Proof.Machine

section
variable {s : State} {c : CellNo}

/-! CLEAR of a feeder (R172). -/

/-- CLEAR of a feeder that waits to retry gives it all its retries. -/
theorem writeFeederClear_waiting {opr : Bool} {host : Nat} (hs : s.cells[c].feeder.st = .retryWait) :
    let u := s.modFeeder c fun f => { f with retryLeft := s.cell c 0x31 }
    writeFeederClear c 1 opr host s = (0, u.event (srcManage 0) 0x4008 c (u.slotByte c ++ byte host)) :=
  if_pos hs

/-- A pass-device latch needs a writer that ranks at OPR or above; its bit 9 is cleared with it. -/
theorem writeFeederClear_latched {opr : Bool} {host : Nat} (hs : s.cells[c].feeder.st = .latched)
    (ho : s.cells[c].feeder.tripCause = 0x10 ∨ opr = true) :
    let u := (if s.cells[c].feeder.tripCause = 0x10 then s else s.clearFault c 0x0200#16).modFeeder c fun f =>
      ({ f with retryLeft := s.cell c 0x31 }).byPresence
    writeFeederClear c 1 opr host s = (0, u.event (srcManage 0) 0x4008 c (u.slotByte c ++ byte host)) := by
  refine (if_neg (by rw [hs]; decide)).trans ((if_neg (not_not.mpr hs)).trans (if_neg ?_))
  rintro ⟨hc, hn⟩
  exact ho.elim hc (ne_true_of_eq_false ((Bool.not_eq_true' _).mp hn))

/-! FEED_ENABLE (R160, R174). -/

/-- A disabled feeder: no accumulator runs, and its insertion count is at 0. -/
def Feeder.disable (f : Feeder) : Feeder := { f.discard with st := .disabled, countDone := false, countUs := 0 }

theorem writeFeedEnable_zero_on (hr : s.cells[c].role = .feeder) (hg : s.cells[c].feeder.gateOn = true) :
    writeFeedEnable c 0 s =
      (0, ((((s.setWritten (0x3000 + c) 0x20 0).feederOff c).modFeeder c Feeder.disable).feederAdopt c)) :=
  congrArg (fun t : State => (0, (t.modFeeder c Feeder.disable).feederAdopt c)) (if_pos ⟨hr, hg⟩)

theorem writeFeedEnable_zero_off (h : s.cells[c].role ≠ .feeder ∨ s.cells[c].feeder.gateOn = false) :
    writeFeedEnable c 0 s = (0, (((s.setWritten (0x3000 + c) 0x20 0).modFeeder c Feeder.disable).feederAdopt c)) :=
  congrArg (fun t : State => (0, (t.modFeeder c Feeder.disable).feederAdopt c))
    (if_neg fun ⟨hr, hg⟩ => h.elim (· hr) (ne_true_of_eq_false · hg))

theorem writeFeedEnable_one (he : s.feederEnables c = true) :
    let u := s.setWritten (0x3000 + c) 0x20 1
    writeFeedEnable c 1 s = (0, u.modFeeder c fun f =>
      if f.st = .disabled then { f.byPresence with retryLeft := u.cell c 0x31, tripCause := 0 } else { f with retryLeft := u.cell c 0x31 }) :=
  if_neg (Bool.not_not_eq.mpr he)

/-! OR_CLEAR and OR_ENABLE (R177, R179). -/

theorem writeOrClear_one (hs : s.cells[c].oring.st = .latched) :
    let u := s.modOring c fun o => { o with st := .blocking, onRun := 0, negRun := 0, fullRun := 0 }
    writeOrClear c 1 s = (0, u.event u.srcLane 0x4043 c (byte c)) :=
  if_neg (not_not.mpr hs)

theorem writeOrEnable_zero :
    let u := s.setWritten (0x3000 + c) 0x40 0
    writeOrEnable c 0 s = (0, (if s.cells[c].role = .oring then u.modCell c Cell.gateOff else u).modOring c fun o =>
      { o with st := .disabled, onRun := 0, fullRun := 0, negRun := 0, rearmRun := 0 }) := rfl

theorem writeOrEnable_one (he : s.oringEnables c = true) :
    writeOrEnable c 1 s = (0, (s.setWritten (0x3000 + c) 0x40 1).modOring c fun o =>
      if o.st = .disabled then { o with st := .blocking, onRun := 0 } else o) :=
  if_neg (Bool.not_not_eq.mpr he)

end

/-- Settles O12: each write, served and admitted, comes to its entry's own rule. -/
theorem slotWrites : Obligations.SlotWrites := by
  rintro s t who h c data v hs rfl
  refine ⟨?clearNone, ?clearWaiting, ?clearLatched, ?disableOn, ?disableOff, ?enable, ?orClearNone, ?orClear, ?orDisable, ?orEnable⟩
  case clearNone =>
    rintro ha rfl
    exact State.hostWrite_cell hs ha rfl
  case clearWaiting =>
    rintro ha rfl hst
    exact State.hostWrite_cell hs ha (writeFeederClear_waiting hst)
  case clearLatched =>
    rintro ha rfl hst ho
    exact State.hostWrite_cell hs ha (writeFeederClear_latched hst ho)
  case disableOn =>
    rintro ha rfl hr hg
    exact State.hostWrite_cell hs ha (writeFeedEnable_zero_on hr hg)
  case disableOff =>
    rintro ha rfl hoff
    exact State.hostWrite_cell hs ha (writeFeedEnable_zero_off hoff)
  case enable =>
    rintro ha rfl he
    exact State.hostWrite_cell hs ha (writeFeedEnable_one he)
  case orClearNone =>
    rintro ha rfl
    exact State.hostWrite_cell hs ha rfl
  case orClear =>
    rintro ha rfl hst
    exact State.hostWrite_cell hs ha (writeOrClear_one hst)
  case orDisable =>
    rintro ha rfl
    exact State.hostWrite_cell hs ha writeOrEnable_zero
  case orEnable =>
    rintro ha rfl he
    exact State.hostWrite_cell hs ha (writeOrEnable_one he)

end Sys2Proof.Machine

/-! PROOF. The commands of a feeder (R159 to R166, R170 to R173), each in the state that its clause names. -/

namespace Sys2Proof.Machine

section
variable {s : State} {c : CellNo}

/-! SLOT_PRESENT, UNSEAT and UNSEAT_50MS (R159, R160, R173). -/

/-- A slot that shows a card: present, with a fresh insertion count. -/
def Feeder.inserted (f : Feeder) : Feeder :=
  { f with present := true, countDone := false, countUs := 0, unseatUs := 0, st := if f.st = .empty then .inserting else f.st }

theorem exec_slotPresent (hr : s.cells[c].role = .feeder) (hp : s.cells[c].feeder.present = false)
    (hs : fltUse s.cells[c].pinMode = 3 ∨ s.drainPresent c = true ∨ s.cell c 0x26 = 0) :
    let t := s.modFeeder c Feeder.inserted
    exec (.slotPresent c) s = .next (t.event t.srcLane 0x4007 c (t.slotByte c)) :=
  congrArg Host.Outcome.next (if_pos ⟨hr, hp, hs⟩)

theorem exec_unseat (hr : s.cells[c].role = .feeder) (hp : s.cells[c].feeder.present = true)
    (hs : fltUse s.cells[c].pinMode = 3 ∨ (s.cells[c].feeder.gateOn = false ∧ s.cell c 0x26 ≠ 0 ∧ s.drainPresent c = false)) :
    exec (.unseat c) s = .next (s.startUnseat c) :=
  congrArg Host.Outcome.next (if_pos ⟨hr, hp, hs.imp_right fun ⟨hg, hn, hd⟩ => ⟨hg, hn, (Bool.not_eq_true' _).mpr hd⟩⟩)

/-- The card has been away for 50 ms: what the unseat undoes, and the sink's grants as broken (R173, R196). -/
def State.cardGone (c : CellNo) (s : State) : State :=
  (s.unseated50 c).modSink (cellSink c) fun k => { k with broken := if k.broken = 0 then 6 else k.broken }

theorem exec_unseat50ms (hr : s.cells[c].role = .feeder) (hp : s.cells[c].feeder.present = false)
    (hu : 50000 ≤ s.cells[c].feeder.unseatUs) :
    let t := s.cardGone c
    exec (.unseat50ms c) s = .next (State.errReset s
      (t.over (pick 32 fun h => t.hosts[h].used && decide (t.hosts[h].ownSink = some (cellSink c))) (State.releaseHost 2)).cocoonCheck) :=
  if_pos ⟨hr, hp, hu⟩

/-! INSERTION_COUNT_DONE and FEEDER_START (R161). -/

theorem exec_insertionCountDone (hr : s.cells[c].role = .feeder) (hd : s.cells[c].feeder.st ≠ .disabled) (hc : s.countRuns c = true)
    (hu : s.cell c 0x24 * 1000 ≤ s.cells[c].feeder.countUs) :
    exec (.insertionCountDone c) s = .next (s.modFeeder c fun f =>
      { f with countDone := true, st := if f.st = .inserting then .held else f.st }) :=
  congrArg Host.Outcome.next (if_pos ⟨hr, hd, hc, hu⟩)

theorem exec_feederStart (hg : s.feederGates c = true) (hl : s.lanesRun = true) :
    exec (.feederStart c) s = .next (s.startFeeder c) :=
  congrArg Host.Outcome.next (if_pos ⟨hg, hl⟩)

/-! FEEDER_CONTROL_PERIOD (R10, R163). -/

/-- A feeder after the measures and counts of a control period: its set adopted, its sample corrected and added to the means. -/
def State.feederSampled (s : State) (c : CellNo) (x : ControlSample) : State :=
  let a := s.adoptSet ⟨8, c, 0xFF⟩
  ((a.modCell c fun y => { y.noteCs a.clk.timeUs (y.correctCs (meanCs x)) with vs := y.correctVs (meanVs x) }).feederMeasure c).countSample c

section
variable (x : ControlSample) (hr : s.cells[c].role = .feeder) (ht : s.cells[c].st ≠ .testing)
include hr ht

theorem exec_feederControlPeriod_lost (hl : s.cells[c].lostSample = true) :
    exec (.feederControlPeriod c x) s = .next (s.modCell c fun y => { y with lostSample := false }) :=
  (if_neg (not_or.mpr ⟨not_not.mpr hr, ht⟩)).trans (if_pos hl)

/-- With a sample, the lanes step the feeder unless none runs; a lost command leaves the drive of the last period. -/
theorem exec_feederControlPeriod_sampled (hl : s.cells[c].lostSample = false) :
    let t := s.feederSampled c x
    exec (.feederControlPeriod c x) s =
      if !t.lanesRun then .next t
      else settle s (if t.cells[c].lostCommand then (t.feederPeriod c).modCell c (t.cells[c].keepDrive) else t.feederPeriod c) :=
  (if_neg (not_or.mpr ⟨not_not.mpr hr, ht⟩)).trans (if_neg (ne_true_of_eq_false hl))

theorem exec_feederControlPeriod_lanes (hl : s.cells[c].lostSample = false) (hn : (s.feederSampled c x).lanesRun = true) :
    let t := s.feederSampled c x
    exec (.feederControlPeriod c x) s =
      settle s (if t.cells[c].lostCommand then (t.feederPeriod c).modCell c (t.cells[c].keepDrive) else t.feederPeriod c) :=
  (exec_feederControlPeriod_sampled x hr ht hl).trans (if_neg (Bool.not_not_eq.mpr hn))

end

/-! INRUSH_TIMEOUT (R165). -/

section
variable (hr : s.cells[c].role = .feeder) (hs : s.cells[c].feeder.st = .inrush) (hn : s.cell c 0x2C ≠ 0)
  (hu : s.cell c 0x2C * 1000 ≤ s.cells[c].feeder.startUs)
include hr hs hn hu

/-- Completion in the same period wins. -/
theorem exec_inrushTimeout_complete (hf : s.cells[c].feeder.fetOn = true) :
    exec (.inrushTimeout c) s = .next (s.feederComplete c) :=
  (if_pos ⟨hr, hs, hn, hu⟩).trans (if_pos hf)

theorem exec_inrushTimeout_trip (hf : s.cells[c].feeder.fetOn = false) :
    exec (.inrushTimeout c) s = .next (State.errReset s (s.tripFeeder c 5)) :=
  (if_pos ⟨hr, hs, hn, hu⟩).trans (if_neg (ne_true_of_eq_false hf))

end

/-! PASS_DEVICE_FAULT and FEEDER_UNLOADED (R162, R166). -/

/-- The gate off, latch bit 9 set, and the feeder LATCHED with the cause of its pass device. -/
def State.passLatched (c : CellNo) (cause : PassCause) (s : State) : State :=
  (((s.feederOff c).setFault c 9).modSink (sinkOfCell c) fun k => { k with broken := 4 }).modFeeder c fun f =>
    { f.discard with st := .latched, tripCause := passCode cause }

theorem exec_passDeviceFault {cause : PassCause} (hr : s.cells[c].role = .feeder) (hm : s.passMet c cause = true)
    (hl : s.cells[c].feeder.st ≠ .latched ∨ s.cells[c].feeder.tripCause < 0x11) :
    let t := s.passLatched c cause
    exec (.passDeviceFault c cause) s = .next (State.errReset s
      ((t.event t.srcLane 0x4005 c (t.slotByte c ++ byte (passCode cause))).latchEmcy c (passCode cause))) :=
  if_pos ⟨hr, hm, fun ⟨h, hc⟩ => hl.elim (· h) (Nat.not_lt.mpr hc)⟩

theorem exec_feederUnloaded (hr : s.cells[c].role = .feeder) (hs : s.cells[c].feeder.st = .on) (hm : s.cell c 0x21 = 0)
    (hf : fltUse s.cells[c].pinMode ≠ 3) (hn : s.cell c 0x27 ≠ 0) (hu : 100000 ≤ s.cells[c].feeder.unloadUs) :
    let t := (s.feederOff c).modFeeder c fun f => { f.discard with st := .inserting, countDone := false, countUs := 0, unloadUs := 0 }
    exec (.feederUnloaded c) s = .next (t.event t.srcLane 0x4009 c (t.slotByte c)) :=
  congrArg Host.Outcome.next (if_pos ⟨hr, hs, hm, hf, hn, hu⟩)

/-! FEEDER_RETRY and FEEDER_RETRY_RELOAD (R171). -/

theorem Feeder.timerEnds_iff {f : Feeder} : f.timerEnds = true ↔ f.retryTimerUs ≠ 0 ∧ f.retryTimerUs ≤ 1000 := by
  simp [Feeder.timerEnds]

/-- The back-off is over: its timer at 0, and the latch bits of the trip cleared. -/
def State.backOffOver (c : CellNo) (s : State) : State := (s.modFeeder c fun f => { f with retryTimerUs := 0 }).clearFault c 0x000F#16

section
variable (hr : s.cells[c].role = .feeder) (hn : s.cells[c].feeder.retryTimerUs ≠ 0) (ht : s.cells[c].feeder.retryTimerUs ≤ 1000)
include hr hn ht

/-- A latch bit that sets again is a new trip, DRIVER_FLT before an invalid sense; else the feeder starts if its gates allow it. -/
theorem exec_feederRetry :
    let t := s.backOffOver c
    exec (.feederRetry c) s = .next (State.errReset s (
      if t.cells[c].feeder.canTrip ∧ t.cells[c].faultLatch.getLsbD 1 then t.tripFeeder c 6
      else if t.cells[c].feeder.canTrip ∧ t.cells[c].faultLatch &&& 0x000C#16 ≠ 0 then t.tripFeeder c 7
      else if t.feederGates c ∧ t.lanesRun then t.startFeeder c
      else t)) :=
  if_pos ⟨hr, Feeder.timerEnds_iff.mpr ⟨hn, ht⟩⟩

end

theorem exec_feederRetryReload (hr : s.cells[c].role = .feeder) (hs : s.cells[c].feeder.st = .on)
    (hu : 60000000 ≤ s.cells[c].feeder.onUs) :
    exec (.feederRetryReload c) s = .next (s.modFeeder c fun f => { f with retryLeft := s.cell c 0x31 }) :=
  congrArg Host.Outcome.next (if_pos ⟨hr, hs, hu⟩)

end

/-- With bits 1 to 3 clear, neither DRIVER_FLT nor an invalid CS or VS is latched. -/
theorem tripBits_clear {x : BitVec 16} (h : x &&& 0x000E#16 = 0) : x.getLsbD 1 = false ∧ x &&& 0x000C#16 = 0 := by
  constructor
  · simpa using congrArg (·.getLsbD 1) h
  · calc x &&& 0x000C#16 = x &&& 0x000E#16 &&& 0x000C#16 := by rw [BitVec.and_assoc]; rfl
      _ = 0 := by rw [h]; rfl

/-- Settles O25, from the equation of each command. -/
theorem feederCommands : Obligations.FeederCommands := by
  refine ⟨fun _ _ => exec_slotPresent, fun _ _ => exec_unseat, fun _ _ => exec_unseat50ms, fun _ _ => exec_insertionCountDone,
    fun _ _ => exec_feederStart,
    fun s c x hr ht => ⟨exec_feederControlPeriod_lost x hr ht, fun hl => ⟨fun hn => ?gap, fun hn hc => ?period, fun hn hc => ?kept⟩⟩,
    fun _ _ hr hs hn hu => ⟨exec_inrushTimeout_complete hr hs hn hu, exec_inrushTimeout_trip hr hs hn hu⟩,
    fun _ _ _ => exec_passDeviceFault, fun _ _ => exec_feederUnloaded, ?retry, fun _ _ => exec_feederRetryReload⟩
  case gap => exact (exec_feederControlPeriod_sampled x hr ht hl).trans (if_pos ((Bool.not_eq_true' _).mpr hn))
  case period => exact (exec_feederControlPeriod_lanes x hr ht hl hn).trans (congrArg (settle s) (if_neg (ne_true_of_eq_false hc)))
  case kept => exact (exec_feederControlPeriod_lanes x hr ht hl hn).trans (congrArg (settle s) (if_pos hc))
  case retry =>
    rintro s t c hr hn ht rfl
    refine ⟨fun hc h => ?driver, fun hc h h' => ?sense, fun h => ?starts⟩ <;>
      refine (exec_feederRetry hr hn ht).trans (congrArg (settle s) ?_)
    case driver => exact if_pos ⟨hc, h⟩
    case sense => exact (if_neg fun e => ne_true_of_eq_false h e.2).trans (if_pos ⟨hc, h'⟩)
    case starts =>
      have clear := h.imp_right tripBits_clear
      refine (if_neg fun ⟨e, e'⟩ => ?_).trans (if_neg fun ⟨e, e'⟩ => ?_)
      · exact clear.elim (ne_true_of_eq_false · e) fun b => ne_true_of_eq_false b.1 e'
      · exact clear.elim (ne_true_of_eq_false · e) fun b => e' b.2

end Sys2Proof.Machine

/-! PROOF. The idle step of an empty queue (log 18), and a host's lane commands and grant request (R187, R264, R265). -/

namespace Sys2Proof.Machine

theorem step_of_empty {s : State} (h : s.pending = []) : step s = .next (s.modClk fun c => { c with timeUs := c.timeUs + 1 }) := by
  rw [step, h]

/-- Settles O2: the branch of `step` on an empty queue, where only TIME moves. -/
theorem idleStep : Obligations.IdleStep := fun _ => step_of_empty

/-! LANE_CMD (R264, R265). -/

section
variable {s : State} {l : Lane}

/-- RETURN_A and RETURN_B, each lane by its code: a retired lane whose return is not barred begins its return. -/
theorem writeLaneCmd_return (hr : (s.lanes.lane l).st = .retired) (hb : s.returnBarred = false) :
    writeLaneCmd (Lane.code l + 1) s =
      (0, (s.modLanes fun p => { p with cmd := Lane.code l + 1, cmdResult := 1, cmdRunning := true }).beginReturn l) := by
  have free : ¬ ((s.lanes.lane l).st ≠ .retired ∨ s.returnBarred = true) := by simp [hr, hb]
  cases l with
  | a => exact if_neg free
  | b => exact if_neg free

/-- RETIRE_STANDBY retires the standby of a live pair, whatever return was under way. -/
theorem writeLaneCmd_retireStandby (hs : s.standby = some l) (hl : s.laneLive = true) :
    writeLaneCmd 3 s =
      (0, (s.modLanes fun p => { p with cmd := 3, cmdResult := 2, returning := none, cmdRunning := false }).retireLane l 5) := by
  simp only [writeLaneCmd, hs, hl]
  rfl

theorem writeValue_laneCmd (h : HostNo) (v : Int) (s : State) : writeValue h 0x2500 0xC v s = writeLaneCmd v.toNat s := by
  rw [writeValue, if_neg (by decide), if_pos (by decide), writeShelf, if_neg (by decide), if_pos ⟨rfl, rfl⟩]

/-- A host's LANE_CMD, served and admitted. -/
theorem State.hostWrite_laneCmd {t : State} {who : Key} {h : HostNo} {data : Bytes} {v : Int} (hs : s.serves who h)
    (ha : s.admits h 0x2500 0xC data v) (hw : writeLaneCmd v.toNat (s.touch h) = (0, t)) :
    s.hostWrite who 0x2500 0xC data = .next (s.wrote 0x2500 0xC t) :=
  State.hostWrite_served hs ha (by decide) (by decide) ((writeValue_laneCmd h v _).trans hw)

end

/-! GRANT_REQUEST (R187). -/

section
variable {s : State} {h : HostNo} {data : Bytes}

/-- A latched request: it waits for the ledger as the newest, and its host's result reads PENDING with the next two free values (log 3). -/
def State.latchGrant (h : HostNo) (port : Option TwNo) (b : Bytes) (s : State) : State :=
  ({ s with
      freeCount := s.freeCount + 2
      ledger := { s.ledger with
        requests := s.ledger.requests ++ [{ host := h, req := readGrant b, record := b, port := port }] } } : State).modHost h fun x =>
    { x with grantPending := true
             grantResult := grantResult 2 0xFFFF (Config.free s.freeCount) (Config.free (s.freeCount + 1)) 0xFF }

/-- A record of 1 to 8 parts, of the right length, format and class, its reserved bits 0, is latched when none of its host is pending. -/
theorem writeGrantRequest_latched {port : Option TwNo} {n : Nat} (h1 : 1 ≤ n) (h8 : n ≤ 8) (hn : numAt data 2 1 = n)
    (hlen : data.length = 16 + 4 * n) (hf : numAt data 0 1 = 1) (hc : numAt data 1 1 ≤ 3) (hr : grantReserved data n = false)
    (hp : s.hosts[h].grantPending = false) : writeGrantRequest h port data s = (0, s.latchGrant h port data) := by
  subst hn
  have length_ok : ¬ (data.length < 20 ∨ numAt data 2 1 < 1 ∨ 8 < numAt data 2 1 ∨ data.length ≠ 16 + 4 * numAt data 2 1) := by omega
  have fields_ok : ¬ (numAt data 0 1 ≠ 1 ∨ 3 < numAt data 1 1 ∨ grantReserved data (numAt data 2 1) = true) := by
    simp [hf, hc, hr]
  exact (if_neg length_ok).trans ((if_neg fields_ok).trans (if_neg (ne_true_of_eq_false hp)))

/-- A host's GRANT_REQUEST, served and admitted; the decision's Host Notify goes to the port of the host. -/
theorem State.hostWrite_grantRequest {t : State} {who : Key} (hs : s.serves who h) (ha : s.admitsDomain h 0x2220 1)
    (hw : writeGrantRequest h ((s.touch h).hostPort h) data (s.touch h) = (0, t)) :
    s.hostWrite who 0x2220 1 data = .next (s.wrote 0x2220 1 t) :=
  State.hostWrite_domain hs ha (by decide) (by decide) ((if_pos rfl).trans hw)

end

/-- Settles O14: each write, served and admitted, comes to its entry's own rule. -/
theorem laneAndGrantWrites : Obligations.LaneAndGrantWrites := by
  refine ⟨?lanes, ?grant⟩
  case lanes =>
    rintro s t who h hs rfl
    exact ⟨fun ha hr hb => State.hostWrite_laneCmd hs ha (writeLaneCmd_return (l := .a) hr hb),
      fun ha hr hb => State.hostWrite_laneCmd hs ha (writeLaneCmd_return (l := .b) hr hb),
      fun _ ha hst hl => State.hostWrite_laneCmd hs ha (writeLaneCmd_retireStandby hst hl)⟩
  case grant =>
    rintro s t who h data hs rfl ha n h1 h8 hn hlen hf hc hr hp
    exact State.hostWrite_grantRequest hs ha (writeGrantRequest_latched h1 h8 hn hlen hf hc hr hp)

end Sys2Proof.Machine

/-! PROOF. The writes of a string's ENABLE, CLEAR and RECORD_RESET and of a rail's CLEAR (R203, R204, R206, R223, R230). -/

namespace Sys2Proof.Machine

section
variable {s : State} {n : StringNo}

/-! ENABLE of a string (R204, R206). -/

/-- A disabled string: no capacity, stage or learning interval. -/
def Batt.disable (b : Batt) : Batt := { b with st := .disabled, capAh := 0, stage := .none, steering := false, learnOk := false }

/-- ENABLE 0 opens the disconnect and disables the string, unless the global safe state keeps a closed contactor (log 141). -/
theorem writeStringEnable_zero (h : s.modes.safe = false ∨ s.strings[n].st ≠ .connected) :
    writeStringEnable n 0 s = (0, ((s.setWritten (0x3300 + n) 1 0).disconnect n 1 .disabled).modString n Batt.disable) :=
  (if_pos rfl).trans (if_neg fun ⟨hs, hc⟩ => h.elim (ne_true_of_eq_false · hs) (· hc))

theorem writeStringEnable_one (he : s.stringEnables n = true) :
    writeStringEnable n 1 s = (0, (s.setWritten (0x3300 + n) 1 1).modString n fun b =>
      if b.st = .disabled then
        { b with st := if b.present then .authenticating else .absent, disconnectCause := 0, authResult := 0 }
      else b) :=
  if_neg (Bool.not_not_eq.mpr he)

/-! CLEAR of a string (Table 09-2) and of a rail (R230). -/

theorem writeStringClear_rejected (hs : s.strings[n].st = .rejected) :
    writeStringClear n 1 s = (0, s.modString n fun b => { b with st := .authenticating }) :=
  if_neg (not_not.mpr hs)

theorem writeRailClear_latched {r : RailNo} (hr : s.seq.rails[r].st = .latchedOff)
    (hm : s.inModes [.rising, .settling, .dormant] = false) (hs : s.modes.safe = false) :
    writeRailClear r 1 s = (0, (s.railOn r).followers .latchedOff r) :=
  if_neg (not_or.mpr ⟨not_not.mpr hr, not_or.mpr ⟨ne_true_of_eq_false hm, ne_true_of_eq_false hs⟩⟩)

section
variable {t : State} {who : Key} {h : HostNo} {data : Bytes} {v : Int} (hs : s.serves who h)
include hs

/-- A host's write of a string entry, served and admitted. -/
theorem State.hostWrite_string {sub : Nat} (ha : s.admits h (0x3300 + n) sub data v)
    (hw : writeString n sub v (s.touch h) = (0, t)) :
    s.hostWrite who (0x3300 + n) sub data = .next (s.wrote (0x3300 + n) sub t) :=
  State.hostWrite_served hs ha (by omega) (by omega) ((writeValue_string h n sub v _).trans hw)

/-- A host's RECORD_RESET of a string, served and admitted. -/
theorem State.hostWrite_recordReset (ha : s.admits h (0x4320 + n) 2 data v)
    (hw : writeRecordReset n v.toNat (s.touch h) = (0, t)) :
    s.hostWrite who (0x4320 + n) 2 data = .next (s.wrote (0x4320 + n) 2 t) :=
  State.hostWrite_served hs ha (by omega) (by omega) ((writeValue_recordReset h n v _).trans hw)

/-- A host's CLEAR of a rail, served and admitted. -/
theorem State.hostWrite_railClear {r : RailNo} (ha : s.admits h (0x2310 + r) 0xE data v)
    (hw : writeRailClear r v.toNat (s.touch h) = (0, t)) :
    s.hostWrite who (0x2310 + r) 0xE data = .next (s.wrote (0x2310 + r) 0xE t) :=
  State.hostWrite_served hs ha (by omega) (by omega) ((writeValue_rail h r v _).trans hw)

end

end

/-- Settles O13: each write, served and admitted, comes to its entry's own rule. -/
theorem stringRailWrites : Obligations.StringRailWrites := by
  rintro s t who h data v hs rfl
  refine ⟨fun n => ⟨?disable, ?enable, ?clearNone, ?clear, ?resetNone, ?reset⟩, fun r => ⟨?railNone, ?rail⟩⟩
  case disable =>
    rintro ha rfl hk
    exact State.hostWrite_string hs ha (writeStringEnable_zero hk)
  case enable =>
    rintro ha rfl he
    exact State.hostWrite_string hs ha (writeStringEnable_one he)
  case clearNone =>
    rintro ha rfl
    exact State.hostWrite_string hs ha rfl
  case clear =>
    rintro ha rfl hr
    exact State.hostWrite_string hs ha (writeStringClear_rejected hr)
  case resetNone =>
    rintro ha rfl
    exact State.hostWrite_recordReset hs ha rfl
  case reset =>
    rintro ha rfl
    exact State.hostWrite_recordReset hs ha rfl
  case railNone =>
    rintro ha rfl
    exact State.hostWrite_railClear hs ha rfl
  case rail =>
    rintro ha rfl hr hm hsafe
    exact State.hostWrite_railClear hs ha (writeRailClear_latched hr hm hsafe)

end Sys2Proof.Machine

/-! PROOF. The estimator of a string, its anchors and rest windows, and a known step's RC factor (R209 to R214, R216, R217, R220). -/

namespace Sys2Proof.Machine

section
variable {s : State} {n : StringNo}

/-! ESTIMATOR_UPDATE (R209, R210, R211, R213, R214). -/

/-- The estimator's values adopted, and the band of the string taken from its thermal input. -/
def State.estimatorReady (n : StringNo) (s : State) : State :=
  (s.estimatorAdopt n).modString n fun b => { b with band := (s.estimatorAdopt n).stringBand n }

/-- The second of a frozen estimator: its mean current, and its sums begun anew (R208). -/
def Batt.frozenSecond (b : Batt) : Batt :=
  { b.secondV with iMa := b.sumI / max 1 b.tickCount, sumI := 0, sumSigma := 0, sumBeta := 0, tickCount := 0 }

/-- The filter's second: the prediction, its reports, and the clocks of rest, taper and anchors. -/
def State.filtered (n : StringNo) (s : State) : State := ((s.predict n).report n).updateClocks n

section
variable (hr : s.estimatorRuns = true)
include hr

theorem exec_estimatorUpdate_frozen (ho : (s.estimatorReady n).strings[n].st ≠ .open)
    (hc : (s.estimatorReady n).strings[n].st ≠ .connected) :
    exec (.estimatorUpdate n) s = .next ((s.estimatorReady n).modString n Batt.frozenSecond) :=
  congrArg Host.Outcome.next ((if_neg (Bool.not_not_eq.mpr hr)).trans (if_neg (not_or.mpr ⟨ho, hc⟩)))

theorem exec_estimatorUpdate_filter
    (h : (s.estimatorReady n).strings[n].st = .open ∨ (s.estimatorReady n).strings[n].st = .connected) :
    let u := (s.estimatorReady n).filtered n
    exec (.estimatorUpdate n) s = .next (
      if u.strings[n].windowOpen then u.windowSecond n else if u.windowOpens n then u.openWindow n else u) :=
  congrArg Host.Outcome.next ((if_neg (Bool.not_not_eq.mpr hr)).trans (if_pos h))

end

/-! REST_WINDOW_END (R214). -/

theorem exec_restWindowEnd_time (h : s.string n 0x1B * 60 ≤ s.strings[n].windowS) :
    exec (.restWindowEnd n .time) s = .next (s.endWindow n 2) :=
  congrArg Host.Outcome.next (if_pos h)

theorem exec_restWindowEnd_shortfall (h : s.ledger.now.shortfall = true) :
    exec (.restWindowEnd n .shortfall) s = .next (s.endWindow n 3) :=
  congrArg Host.Outcome.next (if_pos h)

theorem exec_restWindowEnd_mode (h : s.inModes [.serving] = false) :
    exec (.restWindowEnd n .mode) s = .next (s.endWindow n 4) :=
  congrArg Host.Outcome.next (if_neg (ne_true_of_eq_false h))

theorem exec_restWindowEnd_string (h : s.strings[n].st ≠ .connected ∨ s.strings.toList.any (·.steering) = true) :
    exec (.restWindowEnd n .string) s = .next (s.endWindow n 5) :=
  congrArg Host.Outcome.next (if_pos h)

/-! REST_ANCHOR, FULL_ANCHOR and ABSORB_TIMEOUT (R212, R213, R216, R220). -/

/-- The rest anchor of an open window is the window's, of kind 3, and ends it. -/
theorem exec_restAnchor (hs : s.strings[n].st = .open ∨ s.strings[n].st = .connected) (hr : s.strings[n].restS ≠ 0)
    (hm : s.strings[n].restS % (s.string n 0x1A * 60) = 0) (ha : s.strings[n].anchorAgeS ≠ 0) :
    exec (.restAnchor n) s =
      .next (((s.anchorUpdate n s.strings[n].restMv).anchored n (if s.strings[n].windowOpen then 3 else 1) s.strings[n].bias).endWindow n 1) :=
  congrArg Host.Outcome.next (if_pos ⟨hs, hr, hm, ha⟩)

/-- The string taken as full, with the variance of FULL_SIGMA and no bias. -/
def State.fullKnown (n : StringNo) (s : State) : State :=
  let f : Rat := (s.string n 0x20 : Rat) / 100
  s.modString n fun b => { b with soc := 100, p11 := f * f, bias := 0 }

theorem exec_fullAnchor (hs : s.strings[n].st = .connected) (hg : s.strings[n].stage = .absorb) (ht : s.string n 0x1D ≠ 0)
    (h60 : 60 ≤ s.strings[n].taperS) :
    exec (.fullAnchor n) s = .next (((s.fullKnown n).anchored n 2 s.strings[n].bias).endAbsorb n) :=
  congrArg Host.Outcome.next (if_pos ⟨hs, hg, ht, h60⟩)

theorem exec_absorbTimeout (hs : s.strings[n].st = .connected) (hg : s.strings[n].stage = .absorb) (hm : s.modes.safe = false)
    (ht : s.strings[n].stageUs + s.string n 0x1E * 60000000 ≤ s.clk.timeUs) :
    exec (.absorbTimeout n) s = .next (s.endAbsorb n) :=
  congrArg Host.Outcome.next (if_pos ⟨hs, hg, ne_true_of_eq_false hm, ht⟩)

/-! IMPEDANCE_RC_UPDATE (R217). -/

/-- The change of one RC pair in 60 s by the table, of resistance r and time constant t; without a time constant none (log 76). -/
def pairChange (r t : Rat) : Rat := if t = 0 then 0 else r * (1 - decay 60000 t)

/-- The factor of the RC pairs that a known step shows: the change of the voltage that Rs leaves over, by the table's (R217). -/
def State.rcFactor (s : State) (n : StringNo) (k : KnownStep) : Rat :=
  let w := fun (j : Nat) => (s.cfgN (0x4310 + n) (48 * j + k.g + 1) : Rat)
  ratio (-(meanOf s.strings[n].vTicks - k.vBefore) / k.dI * 1000000 - k.rsM) (pairChange (w 1) (w 2) + pairChange (w 3) (w 4))

/-- An eighth of the way to a new factor at a grid point, and one more of its updates. -/
def Batt.learnRc (g : Fin 48) (f : Rat) (x : Batt) : Batt :=
  { x with frc := x.frc.set g (x.frc[g] + (f - x.frc[g]) / 8), updates := x.updates.set g (min 255 (x.updates[g] + 1)) }

section
variable {k : KnownStep} (hk : s.strings[n].step = some k) (ha : s.strings[n].stepAged = true)
include hk ha

theorem exec_impedanceRcUpdate :
    let t := s.modString n fun x => { x with step := none }
    exec (.impedanceRcUpdate n) s = .next (
      if factorOk (s.rcFactor n k) then (t.modString n (Batt.learnRc k.g (s.rcFactor n k))).factorEvent 0x6021 n k.g
      else t.factorEvent 0x6022 n k.g) := by
  change execImpedanceRcUpdate n s = _
  simp only [execImpedanceRcUpdate, hk, ha]
  rfl

theorem exec_impedanceRcUpdate_learned (hf : factorOk (s.rcFactor n k) = true) :
    let t := s.modString n fun x => { x with step := none }
    exec (.impedanceRcUpdate n) s = .next ((t.modString n (Batt.learnRc k.g (s.rcFactor n k))).factorEvent 0x6021 n k.g) :=
  (exec_impedanceRcUpdate hk ha).trans (congrArg Host.Outcome.next (if_pos hf))

theorem exec_impedanceRcUpdate_refused (hf : factorOk (s.rcFactor n k) = false) :
    let t := s.modString n fun x => { x with step := none }
    exec (.impedanceRcUpdate n) s = .next (t.factorEvent 0x6022 n k.g) :=
  (exec_impedanceRcUpdate hk ha).trans (congrArg Host.Outcome.next (if_neg (ne_true_of_eq_false hf)))

end

end

/-- Settles O28, from the equation of each command. -/
theorem estimatorCommands : Obligations.EstimatorCommands := by
  refine ⟨fun _ _ hr => ⟨exec_estimatorUpdate_frozen hr, exec_estimatorUpdate_filter hr⟩,
    fun _ _ => ⟨exec_restWindowEnd_time, exec_restWindowEnd_shortfall, exec_restWindowEnd_mode, exec_restWindowEnd_string⟩,
    fun _ _ => exec_restAnchor, fun _ _ => exec_fullAnchor, fun _ _ => exec_absorbTimeout, ?rc⟩
  case rc =>
    rintro s n k f hk ha w den rfl
    exact ⟨exec_impedanceRcUpdate_learned hk ha, exec_impedanceRcUpdate_refused hk ha⟩

end Sys2Proof.Machine

/-! PROOF. The packs (R202 to R204, R207, R208, R218, R219): their polls, authentication, disconnects and records, command by command. -/

namespace Sys2Proof.Machine

section
variable {s : State} {n : StringNo}

/-! PACK_POLL (R202). -/

/-- A poll ends: a pack that has been silent three times is gone. -/
def State.pollEnds (n : StringNo) (u : State) : State := if u.strings[n].silent then u.becomeGone n else u

section
variable (hi : s.string n 7 ≠ 0) (ha : s.string n 8 ≠ 0) (hd : s.twDrives 11 = true)
include hi ha hd

theorem exec_packPoll_blocks (ds : List (Tries × Tries)) (ht : s.strings[n].pollUs + 1000000 ≤ s.clk.timeUs) :
    exec (.packPoll n (.blocks ds)) s = .next
      ((((s.twRan 11).modString n fun b => { b with pollUs := s.clk.timeUs }).blockPoll n
        (if s.string n 7 = 1 then ds.take 1 else ds.take 4)).pollEnds n) :=
  (if_neg (not_or.mpr ⟨hi, not_or.mpr ⟨ha, Bool.not_not_eq.mpr hd⟩⟩)).trans (if_neg (Nat.not_lt.mpr ht))

/-- Only a pack, with PACK_IF 1, is asked for its temperature. -/
theorem exec_packPoll_temperature (a : Tries) (ht : s.strings[n].tempUs + 10000000 ≤ s.clk.timeUs) (h1 : s.string n 7 = 1) :
    exec (.packPoll n (.temperature a)) s = .next
      ((((s.twRan 11).modString n fun b => { b with tempUs := s.clk.timeUs }).tempPoll n a).pollEnds n) :=
  (if_neg (not_or.mpr ⟨hi, not_or.mpr ⟨ha, Bool.not_not_eq.mpr hd⟩⟩)).trans
    (if_neg (not_or.mpr ⟨Nat.not_lt.mpr ht, not_not.mpr h1⟩))

end

/-! STRING_AUTHENTICATE (R207, R208, Table 09-4). -/

/-- The identity of a string: its pack's PACK_ID, where that can be read, or its own without a pack interface (R202). -/
def State.identity (s : State) (n : StringNo) (x : PackAnswer) : Option Bytes :=
  if s.string n 7 = 1 then triesSized 16 x.packId else some (ownIdentity n)

theorem State.authFails_reject (h : s.string n 9 = 1) :
    s.authFails n = (s.authEnds n 3 .rejected).event srcLedger 0x6006 n (byte n ++ byte 3) := if_pos h

theorem State.authFails_unverified (h : s.string n 9 ≠ 1) :
    s.authFails n = ((s.startDefaults n true).authEnds n 4 .open).event srcLedger 0x6006 n (byte n ++ byte 4) := if_neg h

theorem State.twin_iff {id : Bytes} :
    s.twin n id = true ↔ (pick 4 fun m => m ≠ n && s.strings[m].present && s.strings[m].packId = some id) ≠ [] := decide_eq_true_iff

/-- A fresh challenge drawn for the string. -/
def State.challenged (n : StringNo) (s : State) : State :=
  ({ s with freeCount := s.freeCount + 1 } : State).modString n fun b => { b with challenge := some (Config.random16 s.freeCount) }

/-- The challenge of `s` reached the pack, and the pack answered it with the secret of its string (R207). -/
def State.provesItself (s : State) (n : StringNo) (id : Bytes) (x : PackAnswer) : Prop :=
  (x.challenge.1 = true ∨ x.challenge.2 = true)
    ∧ answerGood ((s.challenged n).secret ((s.challenged n).string n 0xA)) (packResponse x) (Config.random16 s.freeCount ++ id) = true

section
variable {id : Bytes} {x : PackAnswer}

theorem State.challengePack_proved (h : s.provesItself n id x) :
    s.challengePack n id x = (((s.challenged n).event srcLedger 0x6005 n (byte n ++ byte 1)).startPack n id
      (triesSized 12 x.history)).authEnds n 1 .open :=
  if_pos ((Bool.and_eq_true_iff).mpr ⟨(Bool.or_eq_true_iff).mpr h.1, h.2⟩)

theorem State.challengePack_failed (h : ¬ s.provesItself n id x) : s.challengePack n id x = (s.challenged n).authFails n :=
  if_neg fun e => h (((Bool.and_eq_true_iff).mp e).imp_left (Bool.or_eq_true_iff).mp)

end

section
variable {x : PackAnswer} (hs : s.strings[n].st = .authenticating) (hr : s.recorderUp = true)
include hs hr

theorem exec_stringAuthenticate_unread (hi : s.identity n x = none) (hp : s.string n 9 ≠ 0) :
    exec (.stringAuthenticate n x) s = .next (s.authFails n) := by
  refine congrArg Host.Outcome.next ((if_neg (not_or.mpr ⟨not_not.mpr hs, Bool.not_not_eq.mpr hr⟩)).trans ?_)
  rw [← State.identity, hi]
  exact if_neg hp

theorem exec_stringAuthenticate_read {id : Bytes} (hi : s.identity n x = some id) :
    let t := s.modString n fun b => { b with packId := some id }
    exec (.stringAuthenticate n x) s = .next (
      if t.twin n id then (t.authEnds n 5 .rejected).event srcLedger 0x6006 n (byte n ++ byte 5)
      else if s.string n 9 = 0 then (t.startPack n id (triesSized 12 x.history)).authEnds n 2 .open
      else t.challengePack n id x) := by
  refine congrArg Host.Outcome.next ((if_neg (not_or.mpr ⟨not_not.mpr hs, Bool.not_not_eq.mpr hr⟩)).trans ?_)
  rw [← State.identity, hi]

end

/-! STRING_ABSENT (R203, R219). -/

/-- The global safe state keeps a closed contactor (R204), so a connected string goes absent outside that state only. -/
theorem exec_stringAbsent (hp : s.strings[n].present = false) (hd : s.strings[n].st ≠ .disabled) (ha : s.strings[n].st ≠ .absent)
    (ht : s.strings[n].goneUs + 3000000 ≤ s.clk.timeUs) (hk : s.modes.safe = false ∨ s.strings[n].st ≠ .connected) :
    let t := (s.disconnect n 5 .absent).modString n fun b => { b with st := .absent, writeDue := true, learnOk := false, steering := false }
    exec (.stringAbsent n) s = .next (t.event srcLedger 0x6003 n (byte n ++ idHead s.strings[n].packId)) := by
  refine congrArg Host.Outcome.next (if_neg ?_)
  rintro (h | h | h | h | ⟨hsafe, hc⟩)
  · exact ne_true_of_eq_false hp h
  · exact hd h
  · exact ha h
  · exact Nat.not_lt.mpr ht h
  · exact hk.elim (ne_true_of_eq_false · hsafe) (· hc)

/-! STRING_LVD (R204). -/

theorem State.lvdDue_of_since {since : Nat} (hl : s.strings[n].lvdUs = some since) (ht : since + s.string n 0xC * 1000 ≤ s.clk.timeUs) :
    s.lvdDue n = true := by
  simp only [State.lvdDue, hl]
  exact decide_eq_true ht

theorem exec_stringLvd_linkLost (hs : s.modes.safe = true) (hw : s.modes.safeWhy = 2)
    (ht : s.modes.safeUs + s.string n 0xC * 1000 ≤ s.clk.timeUs) :
    exec (.stringLvd n) s = .next (s.disconnect n 7 .open) :=
  congrArg Host.Outcome.next ((if_pos ⟨hs, hw⟩).trans (if_pos ht))

theorem exec_stringLvd_low (hs : s.modes.safe = false ∨ s.modes.safeWhy ≠ 2) (hd : s.lvdDue n = true) :
    exec (.stringLvd n) s = .next (s.disconnect n 2 .open) :=
  congrArg Host.Outcome.next ((if_neg fun ⟨h, hw⟩ => hs.elim (ne_true_of_eq_false · h) (· hw)).trans (if_pos hd))

/-! STRING_BLOCK_LIMIT (R204). -/

/-- The record of the first block outside a limit, and the disconnect that follows. -/
def State.blockOut (n : StringNo) (p : Nat → Bool) (cause : Nat) (s : State) : State :=
  let w := firstBlock p s.strings[n].blocks
  (s.event srcLedger 0x6040 n (byte n ++ byte w.1 ++ le 2 w.2)).disconnect n cause .open

theorem State.secondSince_some {since : Nat} (h : since + 1000000 ≤ s.clk.timeUs) : s.secondSince (some since) = true :=
  decide_eq_true h

section
variable (hc : s.strings[n].st = .connected) (hm : s.modes.safe = false)
include hc hm

/-- With blocks outside both limits, the lower one is named. -/
theorem exec_stringBlockLimit (h : s.secondSince s.strings[n].lowUs = true ∨ s.secondSince s.strings[n].highUs = true) :
    let low := s.secondSince s.strings[n].lowUs
    exec (.stringBlockLimit n) s = .next (s.blockOut n (if low then s.blockLow n else s.blockHigh n) (if low then 3 else 4)) := by
  refine congrArg Host.Outcome.next (if_neg ?_)
  rintro (hn | hs | hn)
  · exact hn hc
  · exact ne_true_of_eq_false hm hs
  · obtain ⟨low, high⟩ := Bool.and_eq_true_iff.mp hn
    exact h.elim (ne_true_of_eq_false ((Bool.not_eq_true' _).mp low)) (ne_true_of_eq_false ((Bool.not_eq_true' _).mp high))

theorem exec_stringBlockLimit_low (hl : s.secondSince s.strings[n].lowUs = true) :
    exec (.stringBlockLimit n) s = .next (s.blockOut n (s.blockLow n) 3) := by
  rw [exec_stringBlockLimit hc hm (.inl hl), if_pos hl, if_pos hl]

theorem exec_stringBlockLimit_high (hl : s.secondSince s.strings[n].lowUs = false) (hh : s.secondSince s.strings[n].highUs = true) :
    exec (.stringBlockLimit n) s = .next (s.blockOut n (s.blockHigh n) 4) := by
  have not_low := ne_true_of_eq_false hl
  rw [exec_stringBlockLimit hc hm (.inr hh), if_neg not_low, if_neg not_low]

end

/-! RECORD_WRITEBACK (R218, R219). -/

/-- The sequence number of a slot's next record: 1 for its first. -/
def PackSlot.nextSeq (p : PackSlot) : Nat :=
  match p.record with
  | some r => wrap32 (recordSeq r + 1)
  | none => 1

theorem PackSlot.eq_nextSeq {p : PackSlot} {seq : Nat} (hn : ∀ r, p.record = some r → seq = wrap32 (recordSeq r + 1))
    (h1 : p.record = none → seq = 1) : seq = p.nextSeq := by
  unfold PackSlot.nextSeq
  split
  next r h => exact hn r h
  next h => exact h1 h

/-- A record of the string stored in the slots of its pack, over the older copy, and no write-back due any more. -/
def State.storeRecord (n : StringNo) (p : PackSlot) (seq : Nat) (t : State) : State :=
  ({ t with packs := t.packs.map fun (q : PackSlot) => if q.packId = p.packId then q.store (t.recordOf n seq) else q } : State).modString n
    fun b => { b with writeDue := false, writebackS := 0, anchoredSince := false }

theorem exec_recordWriteback {p : PackSlot} (hp : s.strings[n].packId.bind s.slotOf = some p) (hw : s.strings[n].writeDue = true)
    (hu : s.strings[n].unverified = false) (hr : s.strings[n].st ≠ .rejected) (ha : s.strings[n].st ≠ .authenticating)
    (hf : s.seq.pfi = false) (hg : s.seq.gaspPending = none) (hm : s.manage = .running) :
    let t := if s.strings[n].resetDue then s.resetLearned n else s
    exec (.recordWriteback n) s =
      .next ((t.storeRecord n p p.nextSeq).event srcLedger 0x6030 n (byte n ++ le 4 p.nextSeq)) := by
  change execRecordWriteback n s = _
  simp only [execRecordWriteback, hp]
  refine congrArg Host.Outcome.next (if_neg ?_)
  simp [-Fin.getElem_fin, hw, hu, hr, ha, hf, hg, hm]

end

/-- Settles O29, from the equation of each command. -/
theorem packCommands : Obligations.PackCommands := by
  refine ⟨fun s u n hi ha hd => ⟨?blocks, ?temperature⟩, fun s n x hs hr h7 hx => ?unread, fun s n x id hs hr hi => ?read,
    fun _ _ => exec_stringAbsent, fun s n => ⟨exec_stringLvd_linkLost, fun since hs hl ht => exec_stringLvd_low hs (State.lvdDue_of_since hl ht)⟩,
    fun s n hc hm => ⟨fun since hl ht => ?low, fun since hl hh ht => ?high⟩,
    fun s n p hp hw hu hr ha hf hg hm seq hn h1 => ?record⟩
  case blocks =>
    rintro ds ht rfl
    exact exec_packPoll_blocks hi ha hd ds ht
  case temperature =>
    rintro a ht h1 rfl
    exact exec_packPoll_temperature hi ha hd a ht h1
  case unread =>
    have unread : s.identity n x = none := (if_pos h7).trans hx
    refine ⟨fun hp => ?_, fun h0 hp => ?_⟩
    · rw [exec_stringAuthenticate_unread hs hr unread (by omega), State.authFails_reject hp]
    · rw [exec_stringAuthenticate_unread hs hr unread h0, State.authFails_unverified hp]
  case read =>
    have read := exec_stringAuthenticate_read hs hr hi
    refine ⟨fun ht => read.trans ?twin, fun ht h0 => read.trans ?off, fun ht h0 => read.trans ?challenge⟩ <;>
      refine congrArg Host.Outcome.next ?_
    case twin => exact if_pos (State.twin_iff.mpr ht)
    case off => exact (if_neg (mt State.twin_iff.mp ht)).trans (if_pos h0)
    case challenge =>
      refine (if_neg (mt State.twin_iff.mp ht)).trans ((if_neg h0).trans ?_)
      by_cases h : (s.modString n fun b => { b with packId := some id }).provesItself n id x
      · exact (State.challengePack_proved h).trans (if_pos h).symm
      · exact (State.challengePack_failed h).trans (if_neg h).symm
  case low => exact exec_stringBlockLimit_low hc hm (by rw [hl]; exact State.secondSince_some ht)
  case high => exact exec_stringBlockLimit_high hc hm (by rw [hl]; rfl) (by rw [hh]; exact State.secondSince_some ht)
  case record =>
    obtain rfl := PackSlot.eq_nextSeq hn h1
    exact exec_recordWriteback hp hw hu hr ha hf hg hm

end Sys2Proof.Machine

/-! PROOF. The rails, command by command: a sample of power-good, a slot, a timeout, a retry and a rail still good when off (R224 to R231). -/

namespace Sys2Proof.Machine

/-! PG_SAMPLE (R225, R229). -/

/-- The on-sequence is complete once no rail in use holds it up (R229). -/
def State.completeOn (s : State) : State :=
  if s.seq.st = .onSequence ∧ (List.finRange 32).all fun r => s.railKind r = 0 || s.seq.rails[r].settled then
    let t := s.modSeq fun q => { q with st := .onComplete, onComplete := true }
    t.event srcLedger 0x7011 0xFF (le 4 (t.railMask .good) ++ le 4 (t.railMask .failed))
  else s

/-- In the global safe state the rails keep their states (Table 10-4). -/
theorem exec_pgSample_safe (s : State) (pins : BitVec 16) (hs : s.modes.safe = true) :
    exec (.pgSample pins) s = .next (s.modPins fun p => { p with pg := pins }) :=
  congrArg Host.Outcome.next (if_pos hs)

theorem exec_pgSample_judged (s : State) (pins : BitVec 16) (hs : s.modes.safe = false) :
    exec (.pgSample pins) s =
      .next ((s.modPins fun p => { p with pg := pins }).each 32 (State.judgeRail pins)).completeOn :=
  congrArg Host.Outcome.next (if_neg (ne_true_of_eq_false hs))

section
variable {s : State} {r : RailNo}

/-! RAIL_SLOT (R227, R231). -/

/-- A rail's slot in the off-sequence: a rail that is on goes off, and its power-good is watched to fall (R231). -/
def State.offSlot (r : RailNo) (s : State) : State :=
  let t := if s.seq.rails[r].st.isOn then (s.railOff .off r).modRail r fun x => { x with offWatch := true } else s
  (t.modRail r fun x => { x with slotDue := false }).offCheck

/-- A rail's slot outside the off-sequence: the rail is shed, skipped or turned on (R227, log 71). -/
def State.onSlot (r : RailNo) (s : State) : State :=
  if s.railShed r then s.modRail r fun x => { x with st := .shed, slotDue := false }
  else if s.railSkips r then s.modRail r fun x => { x with st := .skipped, slotDue := false }
  else s.railOn r

theorem State.onSlot_shed (h : s.railShed r = true) : s.onSlot r = s.modRail r fun x => { x with st := .shed, slotDue := false } :=
  if_pos h

theorem State.onSlot_skipped (h : s.railShed r = false) (hk : s.railSkips r = true) :
    s.onSlot r = s.modRail r fun x => { x with st := .skipped, slotDue := false } :=
  (if_neg (ne_true_of_eq_false h)).trans (if_pos hk)

theorem State.onSlot_on (h : s.railShed r = false) (hk : s.railSkips r = false) : s.onSlot r = s.railOn r :=
  (if_neg (ne_true_of_eq_false h)).trans (if_neg (ne_true_of_eq_false hk))

theorem exec_railSlot (hs : s.modes.safe = false) (hk : s.railKind r ≠ 0) (hd : s.seq.rails[r].slotDue = true)
    (ht : s.seq.rails[r].slotUs ≤ s.clk.timeUs) :
    exec (.railSlot r) s = .next (if s.seq.st = .offSequence then s.offSlot r else s.onSlot r) := by
  refine congrArg Host.Outcome.next (if_neg ?_)
  rintro (h | h | h | h)
  · exact ne_true_of_eq_false hs h
  · exact hk h
  · exact ne_true_of_eq_false h hd
  · exact Nat.not_lt.mpr ht h

/-! RAIL_PG_TIMEOUT (R227, Table 10-2). -/

/-- A rail that has timed out retries: its policy says so, it has retries left, and its timeout does not act as CONTINUE. -/
abbrev State.retries (s : State) (r : RailNo) : Prop :=
  s.rail r 8 = 2 ∧ 0 < s.seq.rails[r].retriesLeft ∧ s.seq.rails[r].asContinue = false

theorem State.not_retries (h : s.rail r 8 ≠ 2 ∨ s.seq.rails[r].retriesLeft = 0 ∨ s.seq.rails[r].asContinue = true) :
    ¬ s.retries r := by
  rintro ⟨policy, left, own⟩
  rcases h with h | h | h
  · exact h policy
  · exact Nat.ne_of_gt left h
  · exact ne_true_of_eq_false own h

/-- What a rail's timeout does in `t`, the state with its record: a retry, or FAILED and, in RISING, the end of the on-sequence by ABORT_ALL. -/
def State.timeOut (s : State) (r : RailNo) (t : State) : State :=
  if s.retries r then t.retryRail r
  else
    let u := t.modRail r fun x => { x with st := .failed }
    if s.rail r 8 ≠ 1 ∧ s.seq.rails[r].asContinue = false ∧ u.inModes [.rising] then u.modSeq fun q => { q with abortAll := true } else u

theorem State.timeOut_retries {t : State} (h : s.retries r) : s.timeOut r t = t.retryRail r := if_pos h

theorem State.timeOut_fails {t : State} (h : ¬ s.retries r) :
    let u := t.modRail r fun x => { x with st := .failed }
    s.timeOut r t =
      if s.rail r 8 ≠ 1 ∧ s.seq.rails[r].asContinue = false ∧ u.inModes [.rising] then u.modSeq fun q => { q with abortAll := true } else u :=
  if_neg h

theorem exec_railPgTimeout (hs : s.modes.safe = false) (hq : s.seq.st ≠ .offSequence) (hk : s.railKind r ≠ 0)
    (hj : s.seq.rails[r].st = .judging) (hl : s.seq.rails[r].pgLost = false) (hp : s.railPg r = false) (hm : s.rail r 7 ≠ 0)
    (ht : s.seq.rails[r].markUs + s.rail r 7 * 1000 ≤ s.clk.timeUs) :
    exec (.railPgTimeout r) s = .next (s.timeOut r (s.event srcLedger 0x7012 r (byte r ++ byte (s.rail r 8)))) := by
  refine congrArg Host.Outcome.next (if_neg ?_)
  rintro (h | h | h | h | h | h | h | h)
  · exact ne_true_of_eq_false hs h
  · exact hq h
  · exact hk h
  · exact h hj
  · exact ne_true_of_eq_false hl h
  · exact ne_true_of_eq_false hp h
  · exact hm h
  · exact Nat.not_lt.mpr ht h

/-! RAIL_RETRY (R227) and RAIL_NOT_OFF (R231). -/

theorem exec_railRetry (hw : s.seq.rails[r].st = .retryWait) (ho : s.seq.rails[r].retryOwn = true) (hq : s.seq.st ≠ .offSequence)
    (hs : s.modes.safe = false) (ht : s.seq.rails[r].markUs + s.rail r 0xA * 1000 ≤ s.clk.timeUs) :
    exec (.railRetry r) s = .next ((s.railOn r).followers .retryWait r) :=
  congrArg Host.Outcome.next (if_pos ⟨hw, ho, hq, ne_true_of_eq_false hs, ht⟩)

theorem exec_railNotOff (hk : s.railKind r ≠ 0) (hw : s.seq.rails[r].offWatch = true) (hm : s.inModes [.settling] = true)
    (hs : s.modes.safe = false) (hf : s.rail r 0xF ≠ 0) (hp : s.railPg r = true)
    (ht : s.seq.rails[r].markUs + s.rail r 0xF * 1000 ≤ s.clk.timeUs) :
    exec (.railNotOff r) s = .next ((s.modRail r fun x => { x with offWatch := false }).event srcLedger 0x7018 r (byte r)) :=
  congrArg Host.Outcome.next (if_pos ⟨hk, hw, hm, ne_true_of_eq_false hs, hf, hp, ht⟩)

end

/-- Settles O30, from the equation of each command. -/
theorem railCommands : Obligations.RailCommands := by
  refine ⟨fun s pins => ⟨exec_pgSample_safe s pins, exec_pgSample_judged s pins⟩, fun s r hs hk hd ht => ?slot,
    fun s r hs hq hk hj hl hp hm ht => ?timeout, fun _ _ => exec_railRetry, fun _ _ => exec_railNotOff⟩
  case slot =>
    have slot := exec_railSlot hs hk hd ht
    refine ⟨fun hq => slot.trans (congrArg _ (if_pos hq)), fun hq => ?_⟩
    rw [slot, if_neg hq]
    exact ⟨fun h => congrArg _ (State.onSlot_shed h), fun h hk => congrArg _ (State.onSlot_skipped h hk),
      fun h hk => congrArg _ (State.onSlot_on h hk)⟩
  case timeout =>
    have timeout := exec_railPgTimeout hs hq hk hj hl hp hm ht
    exact ⟨fun policy left own => timeout.trans (congrArg _ (State.timeOut_retries ⟨policy, left, own⟩)),
      fun h => timeout.trans (congrArg _ (State.timeOut_fails (State.not_retries h)))⟩

end Sys2Proof.Machine

/-! PROOF. Power fail and the black-box commits: the records of SETTLING and of the last gasp, and record mode (R232 to R236, R353). -/

namespace Sys2Proof.Machine

section
variable {s : State}

/-! The commits of SETTLING and of the last gasp, and the restart delay (R232, R235, R353). -/

theorem exec_settleCommitted {r : Bytes} (hr : s.seq.settlePending = some r) (hg : s.seq.gaspPending = none) :
    exec .settleCommitted s = .next (((s.commitSlot r).modSeq fun q => { q with settlePending := none }).event
      (srcManage 0) 0x7023 0xFF (le 4 r.length)).committed := by
  change execSettleCommitted s = _
  simp only [execSettleCommitted, hr, hg]

theorem exec_lastgaspCommitted (us : Nat) {r : Bytes} (hg : s.seq.gaspPending = some r) :
    exec (.lastgaspCommitted us) s = .next (((s.commitSlot r).modSeq fun q =>
      { q with gaspPending := none, commitUs := us, commitBytes := r.length }).event (srcManage 0) 0x7021 0xFF
        (le 4 us ++ le 2 r.length)).committed := by
  change execLastgaspCommitted us s = _
  simp only [execLastgaspCommitted, hg]

theorem exec_restartDelayEnd (hm : s.inModes [.settling] = true) (ho : s.seq.offDone = true) (hc : s.seq.committed = true)
    (ht : s.seq.doneUs + s.cfgN 0x2300 3 * 1000 ≤ s.clk.timeUs) :
    exec .restartDelayEnd s = .next (s.modSeq fun q => { q with delayElapsed := true }) :=
  congrArg Host.Outcome.next (if_pos ⟨hm, ho, hc, ht⟩)

/-! PFI_ASSERT where no record is formed (R233, log 80); `exec_pfiAssert` is the other case. -/

/-- PFI is counted, and its moment noted. -/
def State.pfiCounted (s : State) : State :=
  s.modSeq fun q => { q with pfi := true, pfiCount := wrap32 (q.pfiCount + 1), pfiUs := s.clk.timeUs }

theorem exec_pfiAssert_counted (h : s.modes.mode = none ∨ s.modes.mode = some .dormant) : exec .pfiAssert s = .next s.pfiCounted := by
  change execPfiAssert s = _
  rcases h with h | h <;> simp only [execPfiAssert, h] <;> rfl

theorem exec_pfiAssert_again {m : Mode} (hm : s.modes.mode = some m) (hd : m ≠ .dormant) (hr : s.seq.recordMode = true) :
    exec .pfiAssert s = settle s (s.pfiCounted.event (srcWatch 4) 0x7020 0xFF (byte m.code)) := by
  change execPfiAssert s = _
  simp only [execPfiAssert, hm, if_neg hd, hr]
  rfl

/-! PFI_RELEASE (R236). -/

/-- Record mode ends `us` after PFI: the queued writes proceed, the watchdog is armed anew and the CAN ports rejoin (R236). -/
def State.leaveRecordMode (us : Nat) (s : State) : State :=
  let t := s.modSeq fun q => { q with recordMode := false }
  let t := if t.manage = .running then t.drainQueue else t
  (t.event (srcWatch 4) 0x7022 0xFF (le 4 (us / 1000))).armWatchdog.each 2 State.rejoin

section
variable (hp : s.seq.pfi = true) (ht : s.cfgN 0x2301 4 * 1000 ≤ s.clk.timeUs - s.seq.pfiUs)
include hp ht

theorem exec_pfiRelease_only (hr : s.seq.recordMode = false) : exec .pfiRelease s = .next (s.modSeq fun q => { q with pfi := false }) :=
  (if_pos ⟨hp, ht⟩).trans (if_neg (ne_true_of_eq_false hr))

theorem exec_pfiRelease_leaves (hr : s.seq.recordMode = true) :
    exec .pfiRelease s = settle s ((s.modSeq fun q => { q with pfi := false }).leaveRecordMode (s.clk.timeUs - s.seq.pfiUs)) :=
  (if_pos ⟨hp, ht⟩).trans (if_pos hr)

end

end

/-- Settles O31, from the equation of each command. -/
theorem holdupCommands : Obligations.HoldupCommands := by
  refine ⟨fun s r => exec_settleCommitted, fun s => exec_restartDelayEnd, fun s => ⟨exec_pfiAssert_counted, fun m hm hd => ?assert⟩,
    fun s us r => exec_lastgaspCommitted us, fun s us hp hus ht => ?release⟩
  case assert => exact ⟨exec_pfiAssert_again hm hd, exec_pfiAssert hm hd⟩
  case release =>
    subst hus
    exact ⟨exec_pfiRelease_only hp ht, exec_pfiRelease_leaves hp ht⟩

end Sys2Proof.Machine

/-! PROOF. Thermal management: the means of an input, its rate test, its release, and the end of the region difference (R239 to R247,
R383). -/

namespace Sys2Proof.Machine

section
variable {s : State} {i : InputNo}

/-! THERMAL_EVALUATION (R239 to R243). -/

/-- An evaluation begins: the sets of the band boundaries and of the input's levels come into force, and the input's conversions are
counted anew (R241, R295). -/
def State.evaluationBegun (i : InputNo) (s : State) : State :=
  ((s.adoptSet ⟨0x12, 0, 0xFF⟩).adoptSet ⟨0x11, i, 0xFF⟩).modThermal i fun x => { x with rawSum := 0, rawN := 0, evalUs := s.clk.timeUs }

/-- An input switched off acts no more; it keeps its band and the time of its evaluation (log 82). -/
def State.inputOff (i : InputNo) (t : State) : State :=
  (if t.thermal[i].acts then t.releaseCaps i else t).modThermal i fun x =>
    { Thermal.reset with st := .off, band := x.band, seen := x.seen, evalUs := x.evalUs }

/-- What the mean of 100 ms brings an input that is on: a valid one its tests, any other the state INVALID (R241 to R243). -/
def State.evaluated (i : InputNo) (mean : Option Rat) (t : State) : State :=
  match mean with
  | some m => if meanOk i m then t.validMean i m else t.inputInvalid i
  | none => t.inputInvalid i

theorem State.evaluated_valid {m : Rat} (t : State) (hm : meanOk i m = true) : t.evaluated i (some m) = t.validMean i m := if_pos hm

theorem State.evaluated_invalid {m : Rat} (t : State) (hm : meanOk i m = false) : t.evaluated i (some m) = t.inputInvalid i :=
  if_neg (ne_true_of_eq_false hm)

section
variable {die : Option Rat} (hr : s.thermalRuns = true) (ht : s.thermal[i].evalUs + 100000 ≤ s.clk.timeUs)
include hr ht

theorem exec_thermalEvaluation_off (hi : (i : Nat) < 0x10) (h : (s.evaluationBegun i).therm i 1 = 0) :
    exec (.thermalEvaluation i die) s = settle s ((s.evaluationBegun i).inputOff i) :=
  (if_pos ⟨hr, ht⟩).trans (congrArg (settle s) (if_pos ⟨hi, h⟩))

theorem exec_thermalEvaluation_on {mean : Option Rat} (hmean : mean = if (i : Nat) < 0x10 then s.thermal[i].mean else die)
    (h : 0x10 ≤ (i : Nat) ∨ (s.evaluationBegun i).therm i 1 ≠ 0) :
    exec (.thermalEvaluation i die) s = settle s ((s.evaluationBegun i).evaluated i mean) :=
  hmean ▸ (if_pos ⟨hr, ht⟩).trans (congrArg (settle s) (if_neg fun ⟨hi, hoff⟩ => h.elim (Nat.not_le.mpr hi) fun hon => hon hoff))

end

/-! THERMAL_RATE_EVALUATION, THERMAL_RELEASE and REGION_DIFF_CLEAR (R242, R243, R247, R383). -/

/-- The mean of 1 s joins the input's last 601, and its rates are tested (R242). -/
def State.rateTested (i : InputNo) (s : State) : State :=
  (s.modThermal i fun x => { x with seconds := (meanOf x.tenths :: x.seconds).take 601, tenths := [] }).modThermal i fun x =>
    Thermal.keepClear (old := x) (now := s.clk.timeUs)
      { x with warnRate := x.rateTest (s.therm i 8).toNat (s.therm i 9).toNat
               limRate := x.rateTest (s.therm i 0xA).toNat (s.therm i 0xB).toNat
               rateNow := (x.rate (s.therm i 9).toNat).getD 0 }

theorem exec_thermalRateEvaluation (hr : s.thermalRuns = true) (hv : s.thermal[i].st ≠ .invalid) (ho : s.thermal[i].st ≠ .off)
    (hl : s.thermal[i].tenths.length = 10) :
    exec (.thermalRateEvaluation i) s = settle s
      ((if 0x10 ≤ (i : Nat) then (s.rateTested i).dieDifference else s.rateTested i).thermalStep i) :=
  if_pos ⟨hr, hv, ho, hl⟩

/-- The input's throttle actions end with event 0x8004; in the safe state its caps stay as they are (R243, R247). -/
def State.throttleEnds (i : InputNo) (s : State) : State := (if s.modes.safe then s else s.releaseCaps i).thermalEvent 0x8004 i

theorem exec_thermalRelease (hr : s.thermalRuns = true) (ha : s.thermal[i].acts = true) (hv : s.thermal[i].st ≠ .invalid)
    (hc : s.thermal[i].throttles = false) (ht : s.thermal[i].clearUs + s.cfgN 0x2400 9 * 1000000 ≤ s.clk.timeUs) :
    exec (.thermalRelease i) s = settle s
      (if s.thermal[i].st = .throttle then (s.throttleEnds i).toWarnOrNormal i else s.throttleEnds i) :=
  if_pos ⟨hr, ha, hv, hc, ht⟩

theorem exec_regionDiffClear (hd : s.clk.regionDiff = true) (hm : s.clk.dieDiff ≤ 18) (ht : s.clk.diffUs + 10000000 ≤ s.clk.timeUs) :
    exec .regionDiffClear s = .next ((s.modClk fun c => { c with regionDiff := false }).event
      (srcWatch 0) 0xD011 0xFF (leI 2 (quant (s.clk.dieDiff * 10)))) :=
  congrArg Host.Outcome.next (if_pos ⟨hd, hm, ht⟩)

end

/-- Settles O32, from the equation of each command. -/
theorem thermalCommands : Obligations.ThermalCommands := by
  refine ⟨fun s i die mean hr ht hmean => ⟨exec_thermalEvaluation_off hr ht, fun h => ?evaluated⟩,
    fun s i => exec_thermalRateEvaluation, fun s i => exec_thermalRelease, fun s => exec_regionDiffClear⟩
  case evaluated =>
    have on := exec_thermalEvaluation_on hr ht hmean h
    refine ⟨fun m hm hok => ?valid, fun m hm hbad => ?invalid, fun hm => ?none⟩ <;> subst hm
    case valid => exact on.trans (congrArg (settle s) (State.evaluated_valid _ hok))
    case invalid => exact on.trans (congrArg (settle s) (State.evaluated_invalid _ hbad))
    case none => exact on

end Sys2Proof.Machine

/-! PROOF. What every command keeps, read off `exec_keeps`: the invariant, the queue and the firmware's guards; and the dictionary's stores. -/

namespace Sys2Proof.Machine

/-- Settles O1: the queue is not empty, so the second branch of `step` is taken. -/
theorem stepRunsFront : Obligations.StepRunsFront := by
  intro s c rest h
  unfold step
  rw [h]

/-- Settles O48, from what every command keeps. -/
theorem commandsComplete : Obligations.CommandsComplete := fun c s =>
  let ⟨t, ht, hk⟩ := exec_keeps c s
  ⟨t, ht, hk.pending⟩

/-- Settles O49, from what every command keeps. -/
theorem guardsKept : Obligations.GuardsKept := by
  intro c s t ht
  obtain ⟨u, hu, hk⟩ := exec_keeps c s
  obtain rfl : u = t := Host.Outcome.next.inj (hu.symm.trans ht)
  exact hk.guards

/-- The invariant is the dictionary's and the recorder's alone. -/
theorem State.Inv.of_keeps {strict : Bool} {s t : State} (h : s.Inv) (hk : s.Keeps strict t) : t.Inv :=
  ⟨hk.dict h.1, hk.recorder h.2⟩

/-- Settles O47: an idle microsecond leaves both stores alone, and a command of the queue keeps them. -/
theorem stepKeepsInv : Obligations.StepKeepsInv := by
  intro s t h ht
  cases hp : s.pending with
  | nil =>
    obtain rfl := Host.Outcome.next.inj ((idleStep s hp).symm.trans ht)
    exact h
  | cons c rest =>
    obtain ⟨u, hu, hk⟩ := exec_keeps c { s with pending := rest }
    obtain rfl := Host.Outcome.next.inj ((hu.symm.trans (stepRunsFront s c rest hp).symm).trans ht)
    exact State.Inv.of_keeps (s := { s with pending := rest }) h hk

end Sys2Proof.Machine

/-! PROOF. The sparse stores of the dictionary (R295), and the requests that a silent channel loses (R233, R283). -/

namespace Sys2Proof.Machine

theorem Dict.get_put (d : Dict) (k k' : Nat) (v : Int) : Dict.get (Dict.put d k v) k' = if k = k' then some v else Dict.get d k' := by
  induction d with
  | nil => rfl
  | cons p r ih =>
    rw [Dict.put]
    split
    · rfl
    · split
      case isTrue e =>
        simp only [Dict.get, e]
        split <;> rfl
      case isFalse ne =>
        simp only [Dict.get, ih]
        split
        · rw [if_neg (by omega)]
        · rfl

theorem Dict.get_del (d : Dict) (k k' : Nat) : Dict.get (Dict.del d k) k' = if k = k' then none else Dict.get d k' := by
  unfold Dict.del
  induction d with
  | nil => simp [Dict.get]
  | cons p r ih =>
    by_cases hp : p.1 = k
    · simp only [List.filter_cons, hp, ne_eq, not_true_eq_false, decide_false, Bool.false_eq_true, if_false, ih, Dict.get]
      split <;> rfl
    · simp only [List.filter_cons, ne_eq, hp, not_false_eq_true, decide_true, if_true, Dict.get, ih]
      split
      · rw [if_neg (by omega)]
      · rfl

/-- A store lists the value, or nothing where it is the default; every other key it leaves alone. -/
theorem Dict.get_store (d : Dict) (index sub : Nat) (v : Int) (k : Nat) :
    Dict.get (Dict.store d index sub v) k =
      if keyOf index sub = k then (if v = dfltOf index sub then none else some v) else Dict.get d k := by
  unfold Dict.store
  split
  · rw [Dict.get_del]
  · rw [Dict.get_put]

theorem Dict.value_store_same (d : Dict) (index sub : Nat) (v : Int) : Dict.value (Dict.store d index sub v) index sub = v := by
  rw [Dict.value, Dict.get_store, if_pos rfl]
  split
  case isTrue e => exact e.symm
  case isFalse => rfl

theorem Dict.value_store_ne (d : Dict) {index sub i n : Nat} (v : Int) (h : keyOf index sub ≠ keyOf i n) :
    Dict.value (Dict.store d index sub v) i n = Dict.value d i n := by
  rw [Dict.value, Dict.get_store, if_neg h, Dict.value]

/-- A subindex fits the low byte of its key, so a key names one entry. -/
theorem keyOf_inj {index sub i n : Nat} (hs : sub < 256) (hn : n < 256) (h : keyOf index sub = keyOf i n) : (i, n) = (index, sub) := by
  unfold keyOf at h
  rw [Prod.mk.injEq]
  omega

/-- Settles O60, from what a store lists under each key. -/
theorem dictionaryStore : Obligations.DictionaryStore := fun d index sub v hd hs =>
  ⟨Dict.value_store_same d index sub v, fun _ _ hn hne => Dict.value_store_ne d v fun e => hne (keyOf_inj hs hn e), Dict.wf_store index sub v hd⟩

theorem State.serve_lost {s : State} {who : Key} (h : s.channelUp who = false) (f : HostNo → State → State) : s.serve who f = .next s :=
  if_pos ((Bool.not_eq_true' _).mpr h)

/-- Every row that a host requests is an access served on that host's channel. -/
theorem exec_requester {c : Instr} {who : Key} (h : requester c = some who) (s : State) :
    (∃ f, exec c s = s.serve who f) ∨ exec c s = .next s := by
  cases c
  case usdoRequest k access =>
    obtain rfl : k = who := Option.some.inj h
    by_cases hk : k.kind ≠ .usdo ∧ k.kind ≠ .sdo
    · exact .inr (if_pos hk)
    · refine .inl ?_
      cases access <;> exact ⟨_, if_neg hk⟩
  case window k store | cursor k store _ | ringRetire k store _ =>
    obtain rfl : k = who := Option.some.inj h
    cases store <;> exact .inl ⟨_, rfl⟩
  all_goals cases h <;> exact .inl ⟨_, rfl⟩

/-- Settles O53: a request is served on its channel, and one that does not answer loses it. -/
theorem unservedLost : Obligations.UnservedLost := by
  intro c s who hc hd
  rcases exec_requester hc s with ⟨f, e⟩ | e
  · exact e.trans (State.serve_lost hd f)
  · exact e

end Sys2Proof.Machine

/-! PROOF. The lanes: a mismatch and its decision, the standby's faults and window, and the steps of a return (R254 to R265). -/

namespace Sys2Proof.Machine

section
variable {s : State} {l : Lane}

/-! A mismatch and its decision (R258 to R260). -/

theorem exec_mismatch (kind inst : Nat) (a b : BitVec 32) (h : s.laneLive = true) :
    exec (.mismatch kind inst a b) s = .next (s.laneMismatch kind inst a.toNat b.toNat) :=
  congrArg Host.Outcome.next (if_pos h)

theorem exec_selftestDecision (a b : LaneTest) (ns : Nat) (hp : s.lanes.pair = .switching) (hs : s.modes.safe = false) :
    exec (.selftestDecision a b ns) s = .next (State.errReset s (s.decideLanes a b ns)) :=
  if_pos ⟨hp, by simp [hs]⟩

/-! The standby's own error and a background fault (R255, R262). -/

theorem exec_standbyInternalError (hl : s.standby = some l) (hv : s.laneLive = true) :
    exec .standbyInternalError s = .next (State.errReset s ((s.modLanes fun p => { p with returning := none }).retireLane l 1)) := by
  change execStandbyInternalError s = _
  rw [execStandbyInternalError, hl]
  exact if_pos hv

/-- The state in which a background fault of a lane is counted and recorded (R262). -/
def State.bgFault (l : Lane) (unit : Nat) (s : State) : State :=
  (s.modLane l fun x => { x with bgFails := wrap32 (x.bgFails + 1) }).event (srcLoop (Lane.code l)) 0x9008 (Lane.code l) (laneByte l ++ byte unit)

theorem exec_bgSelftestFail (unit : Nat) (hv : s.laneLive = true) (hl : s.lanes.active = some l ∨ s.standby = some l) :
    exec (.bgSelftestFail l unit) s =
      if (s.bgFault l unit).lanes.active = some l then .next ((s.bgFault l unit).laneMismatch 0x12 0 0 0)
      else .next (State.errReset s (((s.bgFault l unit).modLanes fun p => { p with returning := none }).retireLane l 2)) :=
  if_pos ⟨hv, hl⟩

/-! The standby's window (R263). -/

theorem State.windowDue_iff : s.windowDue = true ↔ s.lanes.pair = .paired ∧ s.cfgN 0x2500 8 ≠ 0 ∧
    s.lanes.windowUs + s.cfgN 0x2500 8 * 1000000 ≤ s.clk.timeUs ∧ s.modes.safe = false ∧ s.seq.recordMode = false ∧
    s.inModes [.settling] = false := by
  simp only [State.windowDue, Bool.and_eq_true, Bool.not_eq_true', decide_eq_true_eq, and_assoc]

/-- The state in which the standby's self-test of a window is counted (R263). -/
def State.windowTested (l : Lane) (test : LaneTest) (s : State) : State :=
  (s.modLane l (LaneUnit.tested test test.pass)).modLanes fun p => { p with windowUs := s.clk.timeUs }

/-- The state in which a window's self-test has passed and is recorded (R263). -/
def State.windowPassed (l : Lane) (test : LaneTest) (s : State) : State :=
  ((s.windowTested l test).modLanes fun p => { p with windowPassUs := some s.clk.timeUs }).event (srcWatch 0) 0x9009 (Lane.code l) (laneByte l)

theorem exec_laneWindow {test : LaneTest} {us : Nat} (hl : s.standby = some l) (hd : s.windowDue = true) :
    exec (.laneWindow test us) s =
      if test.pass = true then
        (if us ≤ 200 then .next ((s.windowPassed l test).laneSynced l us)
         else .next (State.errReset s ((s.windowPassed l test).copyFails l)))
      else .next (State.errReset s ((s.windowTested l test).retireLane l 3)) := by
  change execLaneWindow test us s = _
  rw [execLaneWindow, hl]
  exact if_neg (by simp [hd])

/-! The steps of a return (R265, Table 12-6). -/

theorem exec_autoReturn (hr : (s.lanes.lane l).st = .retired) (ha : 0 < (s.lanes.lane l).autoLeft) (hb : s.returnBarred = false)
    (ht : (s.lanes.lane l).retiredUs + s.cfgN 0x2500 0xB * 1000000 ≤ s.clk.timeUs) :
    exec (.autoReturn l) s = .next ((s.modLane l fun x => { x with autoLeft := x.autoLeft - 1 }).beginReturn l) :=
  congrArg Host.Outcome.next (if_pos ⟨hr, ha, by simp [hb], ht⟩)

theorem exec_laneReturnSelftestDone (test : LaneTest) (hl : s.lanes.returning = some l) (ht : (s.lanes.lane l).st = .testing)
    (hs : s.modes.safe = false) :
    let t := s.modLane l (LaneUnit.tested test test.pass)
    exec (.laneReturnSelftestDone test) s =
      if test.pass = true then .next ((t.modLane l fun x => { x with st := .syncing }).modLanes fun p => { p with pair := .syncing })
      else .next (State.errReset s (((t.modLanes fun p =>
        { p with returning := none, cmdRunning := false, cmdResult := if t.lanes.cmdRunning then 0x10 else p.cmdResult }).event
          (srcWatch 0) 0x9002 (Lane.code l) (laneByte l ++ byte 0 ++ le 8 test.signature.toNat)).retireLane l 6)) := by
  change execLaneReturnSelftestDone test s = _
  rw [execLaneReturnSelftestDone, hl]
  exact if_neg (by simp [ht, hs])

theorem exec_laneResyncDone (us : Nat) (hl : s.standby = some l) (ht : (s.lanes.lane l).st = .syncing) (hp : s.lanes.pair = .syncing) :
    exec (.laneResyncDone us) s = .next (State.errReset s (s.laneSynced l us)) := by
  change execLaneResyncDone us s = _
  rw [execLaneResyncDone, hl]
  exact if_pos ⟨ht, hp⟩

theorem exec_laneCopyTimeout (hl : s.standby = some l) (ht : (s.lanes.lane l).st = .syncing) (hp : s.lanes.pair = .syncing) :
    exec .laneCopyTimeout s = .next (State.errReset s (s.copyFails l)) := by
  change execLaneCopyTimeout s = _
  rw [execLaneCopyTimeout, hl]
  exact if_pos ⟨ht, hp⟩

end

/-- Settles O33, from the equation of each command. -/
theorem laneCommands : Obligations.LaneCommands := by
  refine ⟨fun s kind inst a b h => exec_mismatch kind inst a b h, fun s a b ns => exec_selftestDecision a b ns,
    fun s l => exec_standbyInternalError, ?background, ?window, fun s l => exec_autoReturn, ?tested,
    fun s l us => exec_laneResyncDone us, fun s l => exec_laneCopyTimeout⟩
  case background =>
    exact fun s l unit hv => ⟨fun ha ht => (exec_bgSelftestFail unit hv (.inl ha)).trans (if_pos ht),
      fun hl ht => (exec_bgSelftestFail unit hv (.inr hl)).trans (if_neg ht)⟩
  case window =>
    intro s l test us hl hp hc ht hs hr hm
    have e := exec_laneWindow (test := test) (us := us) hl (State.windowDue_iff.mpr ⟨hp, hc, ht, hs, hr, hm⟩)
    refine ⟨fun hf => e.trans (if_neg (by simp [hf])), fun hf => ?_⟩
    rw [if_pos hf] at e
    exact ⟨fun hu => e.trans (if_pos hu), fun hu => e.trans (if_neg (Nat.not_le.mpr hu))⟩
  case tested =>
    intro s l test hl ht hs
    have e := exec_laneReturnSelftestDone test hl ht hs
    exact ⟨fun hf => e.trans (if_pos hf), fun hf => e.trans (if_neg (by simp [hf]))⟩

end Sys2Proof.Machine

/-! PROOF. The CAN ports: their lines, NMT and heartbeats (R268, R270, R271), TIME, LSS, PDOs and the EMCY queue (R275 to R277, R287),
command by command. -/

namespace Sys2Proof.Machine

section
variable {s : State} {p : CanNo}

/-! The lines and NMT (R268, R270, R278). -/

theorem exec_canBusOff (h : s.onBus p = true) : exec (.canBusOff p) s = .next (State.errReset s ((s.modCan p fun x =>
    { x with port := .busOff, busOffCount := wrap32 (x.busOffCount + 1) }).event (srcManage (8 + p)) 0xA001 p (byte p))) :=
  if_pos h

theorem exec_errorPassive (into : Bool) (h : s.onBus p = true) :
    exec (.errorPassive p into) s = .next (State.errReset s (s.modCan p fun x => { x with port := if into then .passive else .active })) :=
  if_pos h

theorem exec_busOffRecovery (hp : s.can[p].port = .busOff) (hm : s.manage = .running) :
    exec (.busOffRecovery p) s = .next (State.errReset s ((s.modCan p fun x => { x with port := .active }).emcy 0x8140
      (byte (s.can[p].busOffCount % 256)))) :=
  if_pos ⟨hp, hm⟩

theorem exec_nmtResetNode (h : s.canLive p = true) : exec (.nmtResetNode p) s = .next (State.errReset s (s.warmReset 1)) := if_pos h

theorem exec_nmtResetCommunication (h : s.canLive p = true) :
    exec (.nmtResetCommunication p) s = .next (State.errReset s (s.reinitPort p)) := if_pos h

theorem exec_nmtStart (h : s.canLive p = true) : exec (.nmtStart p) s = .next (s.setNmt p .operational) := if_pos h

theorem exec_nmtStop (h : s.canLive p = true) :
    exec (.nmtStop p) s = .next ((s.setNmt p .stopped).modCan p fun x => { x with emcyQueue := [] }) := if_pos h

theorem exec_nmtEnterPreoperational (h : s.canLive p = true) :
    exec (.nmtEnterPreoperational p) s = .next (s.setNmt p .preOperational) := if_pos h

/-! Heartbeats and TIME (R271). -/

theorem exec_heartbeatReceived (node : Nat) (h : s.canLive p = true) :
    exec (.heartbeatReceived p node) s = .next (State.errReset s ((s.over (pick 32 fun h => s.ofNode p node s.hosts[h]) State.touch).modCan p
      fun x => { x with lost := x.lost.filter fun n => decide (n ≠ node)
                        heard := x.heard.filter (fun n => decide (n.1 ≠ node)) ++ [(node, s.clk.timeUs)] })) :=
  if_pos h

theorem exec_heartbeatLost {node : Nat} (h : s.canLive p = true) (ho : s.overdue p node = true) :
    exec (.heartbeatLost p node) s = .next (State.errReset s (((s.modCan p fun x =>
      { x with lost := x.lost ++ [node], heard := x.heard.filter fun n => decide (n.1 ≠ node) }).event
        (srcManage (8 + p)) 0xA003 p (byte p ++ byte node)).emcy 0x8130 (byte node))) :=
  if_pos ⟨h, ho⟩

theorem exec_heartbeatProduce (h : s.canLive p = true) (hc : s.cfg 0x1017 0 ≠ 0) (hn : s.can[p].nmt ≠ .initialising)
    (ht : s.can[p].beatUs + s.cfgN 0x1017 0 * 1000 ≤ s.clk.timeUs) : exec (.heartbeatProduce p) s = .next (s.sendBeat p) :=
  if_pos ⟨h, hc, hn, ht⟩

theorem exec_timeReceived (days ms : Nat) (h : s.canLive p = true) : exec (.timeReceived p days ms) s = .next
    { s with wallOffsetMs := (timeOfDayBase + days * 86400000 + ms : Nat) - ((s.clk.timeUs / 1000 : Nat) : Int) } :=
  if_pos h

/-! LSS (R271). -/

theorem exec_lssConfigureBitTiming (k : Nat) (h : s.onBus p = true) :
    exec (.lssConfigureBitTiming p k) s = if arbRates.contains k = true then
      .next (((s.setWritten (0x2102 + p) 3 k).afterWrite (0x2102 + p) 3).send (.lss p 0)) else .next (s.send (.lss p 1)) :=
  if_pos h

theorem exec_lssConfigureNodeId (n : Nat) (h : s.onBus p = true) :
    exec (.lssConfigureNodeId p n) s = if 1 ≤ n ∧ n ≤ 127 ∨ n = 255 then
      .next ((s.modCan p fun x => { x with lssNode := some n }).send (.lss p 0)) else .next (s.send (.lss p 1)) :=
  if_pos h

theorem exec_lssStoreConfiguration_some {n : Nat} (h : s.onBus p = true) (hn : s.can[p].lssNode = some n) :
    exec (.lssStoreConfiguration p) s =
      .next (((s.setWritten (0x2102 + p) 2 n).modCan p fun x => { x with lssNode := none }).send (.lss p 0)) := by
  change execLssStoreConfiguration p s = _
  rw [execLssStoreConfiguration, if_pos h, hn]

theorem exec_lssStoreConfiguration_none (h : s.onBus p = true) (hn : s.can[p].lssNode = none) :
    exec (.lssStoreConfiguration p) s = .next (s.send (.lss p 0)) := by
  change execLssStoreConfiguration p s = _
  rw [execLssStoreConfiguration, if_pos h, hn]

/-! PDOs (R275, R276). -/

theorem exec_syncReceived (h : s.canLive p = true) : exec (.syncReceived p) s = .next (s.each 32 fun n t =>
    if t.tpdoPort n = some p ∧ 1 ≤ t.tpdoType n ∧ t.tpdoType n ≤ 240 then
      if t.tpdoType n ≤ t.tpdoSync[n] + 1 then t.sendTpdo p n else { t with tpdoSync := t.tpdoSync.set n (t.tpdoSync[n] + 1) }
    else t) :=
  if_pos h

theorem exec_tpdoEventCheck (hr : s.recorderUp = true) (ht : s.checkUs + s.telemetryMs * 1000 ≤ s.clk.timeUs) :
    exec .tpdoEventCheck s = .next (({ s with checkUs := s.clk.timeUs } : State).each 32 State.checkTpdo) :=
  if_pos ⟨hr, ht⟩

section
variable {n : Fin 32}

theorem exec_tpdoEventTimer_inhibit (hp : s.tpdoPort n = some p) (hy : 254 ≤ s.tpdoType n) (hi : s.tpdoInhibit[n] = true)
    (ht : s.tpdoTimeUp n (s.cfgN (0x1800 + n) 3 * 100) = true) :
    let t : State := { s with tpdoInhibit := s.tpdoInhibit.set n false }
    exec (.tpdoEventTimer n) s = .next (if s.tpdoDue[n] then t.sendTpdo p n else t) := by
  change execTpdoEventTimer n s = _
  rw [execTpdoEventTimer, hp]
  exact (if_neg (Nat.not_lt.mpr hy)).trans ((if_pos hi).trans (if_neg (by simp [ht])))

theorem exec_tpdoEventTimer_event (hp : s.tpdoPort n = some p) (hy : 254 ≤ s.tpdoType n) (hi : s.tpdoInhibit[n] = false)
    (hc : s.cfgN (0x1800 + n) 5 ≠ 0) (ht : s.tpdoTimeUp n (s.cfgN (0x1800 + n) 5 * 1000) = true) :
    exec (.tpdoEventTimer n) s = .next (s.sendTpdo p n) := by
  change execTpdoEventTimer n s = _
  rw [execTpdoEventTimer, hp]
  exact (if_neg (Nat.not_lt.mpr hy)).trans ((if_neg (by simp [hi])).trans (if_pos ⟨hc, ht⟩))

end

theorem exec_rpdoReceived {t : State} {n : Fin 16} {data : Bytes} {h : HostNo} {items : List ((Nat × Nat) × Bytes)}
    (hp : toFin? 2 (s.cfgN 0x2107 (n + 1)) = some p) (hl : s.canLive p = true) (hn : s.can[p].nmt = .operational)
    (hv : s.pdoValid (0x1400 + n) = true) (ho : s.cfgN 0x2108 (n + 1) ≠ 0) (hd : data.length ≤ s.pdoLimit p)
    (hi : rpdoItems (s.mapping (0x1600 + n)) data = some items)
    (hc : s.contact { kind := .usdo, port := p, addr := s.cfgN 0x2108 (n + 1) } = (some h, t)) :
    exec (.rpdoReceived n data) s = .next (State.errReset s (t.over items (State.rpdoEntry p n h))) := by
  change execRpdoReceived n data s = _
  rw [execRpdoReceived, hp]
  dsimp only
  rw [if_pos ⟨hl, hn, hv, ho, hd⟩, hi]
  dsimp only
  rw [hc]
  rfl

/-! The EMCY queue (R277). -/

theorem exec_emcyInhibitExpiry_nil (hi : s.can[p].inhibited = true) (ht : s.can[p].emcyUs + s.cfgN 0x1015 0 * 100 ≤ s.clk.timeUs)
    (hq : s.can[p].emcyQueue = []) : exec (.emcyInhibitExpiry p) s = .next (s.modCan p fun x => { x with inhibited := false }) := by
  change execEmcyInhibitExpiry p s = _
  rw [execEmcyInhibitExpiry, if_pos ⟨hi, ht⟩, hq]

theorem exec_emcyInhibitExpiry_cons {code : Nat} {b : Bytes} {q : List (Nat × Bytes)} (hi : s.can[p].inhibited = true)
    (ht : s.can[p].emcyUs + s.cfgN 0x1015 0 * 100 ≤ s.clk.timeUs) (hq : s.can[p].emcyQueue = (code, b) :: q) :
    exec (.emcyInhibitExpiry p) s = .next ((s.modCan p fun x => { x with emcyQueue := q, inhibited := false }).emcyOn p code b) := by
  change execEmcyInhibitExpiry p s = _
  rw [execEmcyInhibitExpiry, if_pos ⟨hi, ht⟩, hq]

end

/-- Settles O34, from the equation of each command. -/
theorem canCommands : Obligations.CanCommands :=
  ⟨fun _ _ h => ⟨exec_canBusOff h, exec_errorPassive true h, exec_errorPassive false h⟩, fun _ _ => exec_busOffRecovery,
    fun _ _ h => ⟨exec_nmtResetNode h, exec_nmtResetCommunication h, exec_nmtStart h, exec_nmtStop h, exec_nmtEnterPreoperational h,
      fun _ => exec_heartbeatReceived _ h, fun _ => exec_heartbeatLost h, exec_heartbeatProduce h⟩⟩

/-- Settles O35, from the equation of each command. -/
theorem canMessages : Obligations.CanMessages := by
  refine ⟨fun _ _ _ _ => exec_timeReceived _ _, fun s p h => ⟨?rate, ?otherRate, ?node, ?otherNode, fun n => exec_lssStoreConfiguration_some h,
      exec_lssStoreConfiguration_none h⟩, fun _ _ => exec_syncReceived, fun s => exec_tpdoEventCheck,
    fun s n p hp hy => ⟨?due, ?idle, exec_tpdoEventTimer_event hp hy⟩, ?rpdo,
    fun s p hi ht => ⟨exec_emcyInhibitExpiry_nil hi ht, fun _ _ _ => exec_emcyInhibitExpiry_cons hi ht⟩⟩
  case rate => exact fun k hk => (exec_lssConfigureBitTiming k h).trans (if_pos hk)
  case otherRate => exact fun k hk => (exec_lssConfigureBitTiming k h).trans (if_neg (Bool.eq_false_iff.mp hk))
  case node => exact fun n hn => (exec_lssConfigureNodeId n h).trans (if_pos hn)
  case otherNode => exact fun n hn => (exec_lssConfigureNodeId n h).trans (if_neg (by omega))
  case due => exact fun hi ht hd => (exec_tpdoEventTimer_inhibit hp hy hi ht).trans (congrArg _ (if_pos hd))
  case idle => exact fun hi ht hd => (exec_tpdoEventTimer_inhibit hp hy hi ht).trans (congrArg _ (if_neg (by simp [hd])))
  case rpdo => exact fun s t n data p h items hp hl hn hv ho hd hi hc => exec_rpdoReceived hp hl hn hv ho hd hi hc

end Sys2Proof.Machine

/-! PROOF. The timers of the hosts, the stored copy and the agreement sets (R282, R284, R295, R299), and the DAP ports of the application
cores (R273, R285), command by command. -/

namespace Sys2Proof.Machine

theorem State.onFin_val {n : Nat} (s : State) (c : Fin n) (f : Fin n → State → State) : s.onFin n c f = f c s := by
  rw [State.onFin, toFin?_val]

section
variable {s : State}

/-! Contexts, lease and stored copy (R282, R284, R299). -/

theorem exec_lingerExpiry {h : HostNo} (hu : s.hosts[h].used = true) (hm : s.manage = .running)
    (ht : s.cfgN 0x2100 2 * 1000 ≤ s.hosts[h].silenceMs) :
    exec (.lingerExpiry h) s = .next (State.errReset s (s.releaseHost 1 h).cocoonCheck) :=
  if_pos ⟨hu, hm, ht⟩

theorem State.endLock_some {h : HostNo} (cause : Nat) (hl : s.lockOwner = some h) :
    s.endLock cause = State.event (srcManage 0) 0xA00A h (byte h ++ byte cause) { s with lockOwner := none, lockMs := 0 } := by
  rw [State.endLock, hl]

theorem State.endLock_none (cause : Nat) (hl : s.lockOwner = none) : s.endLock cause = s := by
  rw [State.endLock, hl]

theorem exec_lockLeaseExpiry {h : HostNo} (hl : s.lockOwner = some h) (ht : s.lockMs = 0) (hm : s.manage = .running) :
    exec .lockLeaseExpiry s = .next (State.event (srcManage 0) 0xA00A h (byte h ++ byte 2) { s with lockOwner := none, lockMs := 0 }) :=
  congrArg Host.Outcome.next ((if_pos ⟨Option.isSome_of_eq_some hl, ht, hm⟩).trans (State.endLock_some 2 hl))

theorem exec_storeWritten {scope : Nat} {i : Image} {k : Key} (ms : Nat) (hm : s.manage = .running) (hg : s.seq.gaspPending = none)
    (hp : s.seq.settlePending = none) (hs : s.dict.storing = some (scope, i, k)) :
    exec (.storeWritten ms) s = .next (((s.modDict fun d =>
      { d.commitImage i with storing := none, restore := restoreAfter scope d.restore, lastStoreMs := ms }).storeEvent scope i).answerStore k) := by
  change execStoreWritten ms s = _
  rw [execStoreWritten, if_pos ⟨hm, hg, hp⟩, hs]

/-! Agreement sets (R295). -/

theorem exec_agreementAdoption_feeder {set inst : Nat} (band : Nat) {c : CellNo} (hi : inst < setCount set) (hs : set = 6 ∨ set = 7 ∨ set = 9)
    (hc : (c : Nat) = inst) : exec (.agreementAdoption set inst band) s = .next (s.feederAdopt c) := by
  subst hc
  exact (if_neg (Nat.not_le.mpr hi)).trans ((if_pos hs).trans (congrArg _ (s.onFin_val c _)))

theorem exec_agreementAdoption_band {set inst band : Nat} (hi : inst < setCount set) (hs : set = 0xE ∨ set = 0xF) (hb : band < 6) :
    exec (.agreementAdoption set inst band) s = .next (s.adoptSet ⟨set, inst, band⟩) :=
  (if_neg (Nat.not_le.mpr hi)).trans ((if_neg (by omega)).trans ((if_pos hs).trans (if_pos hb)))

theorem exec_agreementAdoption_plain {set inst : Nat} (band : Nat) (hi : inst < setCount set)
    (hs : set ∈ [2, 3, 4, 5, 8, 0xA, 0xB, 0xC, 0xD, 0x11, 0x12, 0x14]) :
    exec (.agreementAdoption set inst band) s = .next (s.adoptSet ⟨set, inst, 0xFF⟩) := by
  simp only [List.mem_cons, List.not_mem_nil, or_false] at hs
  exact (if_neg (Nat.not_le.mpr hi)).trans ((if_neg (by omega)).trans ((if_neg (by omega)).trans (if_neg (by omega))))

/-! The DAP ports (R273, R285). -/

section
variable {d : DapNo}

/-- The row of a request's GO: each of the three is the port's one GO (Table 13-6). -/
theorem exec_dapGo (stores : Stores) (r : DapReq) : exec (match r with
    | .read i n o => .dapRead d stores i n o
    | .write i n b => .dapWrite d stores i n b
    | .multi b => .dapMultiWrite d stores b) s = s.dapGo d stores r := by
  cases r <;> rfl

theorem State.dapGo_busy {stores : Stores} (r : DapReq) (hv : s.dapServes d = true) (hq : (s.over stores (State.storeDap d)).dap[d].req ≠ none) :
    s.dapGo d stores r = .next (s.over stores (State.storeDap d)) :=
  (if_pos hv).trans (if_pos (Option.isSome_iff_ne_none.mpr hq))

theorem State.dapGo_some {stores : Stores} {r : DapReq} {h : HostNo} {u : State} (hv : s.dapServes d = true)
    (hq : (s.over stores (State.storeDap d)).dap[d].req = none)
    (hc : ((s.over stores (State.storeDap d)).modDap d (Dap.load r)).contact (dapKey d) = (some h, u)) :
    s.dapGo d stores r = if r.lengthOk = true then .next (State.errReset s ((u.modDap d fun x => { x with req := some r }).dapLevel d))
      else .next (State.errReset s (u.endDap d 0x06070010)) := by
  rw [State.dapGo, if_pos hv]
  dsimp only
  rw [hq, hc]
  rfl

theorem State.dapGo_none {stores : Stores} {r : DapReq} {u : State} (hv : s.dapServes d = true)
    (hq : (s.over stores (State.storeDap d)).dap[d].req = none)
    (hc : ((s.over stores (State.storeDap d)).modDap d (Dap.load r)).contact (dapKey d) = (none, u)) :
    s.dapGo d stores r = .next (State.errReset s (u.endDap d 0x05040005)) := by
  rw [State.dapGo, if_pos hv]
  dsimp only
  rw [hq, hc]
  rfl

theorem exec_dapAbort (hv : s.dapServes d = true) (hq : s.dap[d].req ≠ none) (hs : s.dapStoring d = false) :
    exec (.dapAbort d) s = .next (s.endDap d 0x08000000) :=
  if_pos ⟨hv, Option.isSome_iff_ne_none.mpr hq, (Bool.not_eq_true' _).mpr hs⟩

section
variable {h : HostNo} (hr : s.recorderUp = true) (hp : s.phase = .running) (hs : s.dapStoring d = false) (hc : s.ctxOf (dapKey d) = some h)
include hr hp hs hc

theorem exec_dapRequestEnd_read {i n o : Nat} (hq : s.dap[d].req = some (.read i n o)) :
    exec (.dapRequestEnd d) s = .next (State.errReset s (s.dapReadEnd d h i n o)) := by
  change execDapRequestEnd d s = _
  rw [execDapRequestEnd, if_pos ⟨hr, hp, (Bool.not_eq_true' _).mpr hs⟩, hq, hc]
  rfl

theorem exec_dapRequestEnd_write {i n code : Nat} {b : Bytes} {t : State} (hq : s.dap[d].req = some (.write i n b))
    (hw : s.write h i n b = (code, t)) :
    exec (.dapRequestEnd d) s = .next (State.errReset s (if code = 0 ∧ i = 0x1010 then t else t.endDap d code)) := by
  change execDapRequestEnd d s = _
  rw [execDapRequestEnd, if_pos ⟨hr, hp, (Bool.not_eq_true' _).mpr hs⟩, hq, hc]
  dsimp only
  rw [hw]
  rfl

theorem exec_dapRequestEnd_multi {code : Nat} {b : Bytes} {t : State} (hq : s.dap[d].req = some (.multi b))
    (hw : s.write h 0x2104 1 b = (code, t)) : exec (.dapRequestEnd d) s = .next (State.errReset s (t.endDap d code)) := by
  change execDapRequestEnd d s = _
  rw [execDapRequestEnd, if_pos ⟨hr, hp, (Bool.not_eq_true' _).mpr hs⟩, hq, hc]
  dsimp only
  rw [hw]
  rfl

end
end
end

/-- Settles O36, from the equation of each command. -/
theorem hostTimers : Obligations.HostTimers :=
  ⟨fun _ _ => exec_lingerExpiry, fun _ _ => exec_lockLeaseExpiry, fun _ ms _ _ _ => exec_storeWritten ms,
    fun _ _ _ band hi => ⟨fun _ => exec_agreementAdoption_feeder band hi, exec_agreementAdoption_band hi, exec_agreementAdoption_plain band hi⟩⟩

/-- Settles O37, from what a GO and the end of a request come to. -/
theorem dapCommands : Obligations.DapCommands := by
  refine ⟨?go, fun s d hv hq hs => exec_dapAbort hv hq hs, fun s d h hr hp hs hc => ⟨fun i n o => exec_dapRequestEnd_read hr hp hs hc,
    ?write, ?store, fun b code t => exec_dapRequestEnd_multi hr hp hs hc⟩⟩
  case go =>
    rintro s t d regs hv rfl r c rfl
    have e := exec_dapGo (s := s) (d := d) regs r
    refine ⟨fun hq => e.trans (State.dapGo_busy r hv hq), fun h u hq hc => ?_, fun u hq hc => e.trans (State.dapGo_none hv hq hc)⟩
    have e := e.trans (State.dapGo_some hv hq hc)
    exact ⟨fun hl => e.trans (if_pos hl), fun hl => e.trans (if_neg (Bool.eq_false_iff.mp hl))⟩
  case write =>
    intro i n b code t hq hw hne
    exact (exec_dapRequestEnd_write hr hp hs hc hq hw).trans (congrArg (settle s) (if_neg fun ⟨h0, hi⟩ => hne.elim (· h0) (· hi)))
  case store =>
    intro n b t hq hw
    exact (exec_dapRequestEnd_write hr hp hs hc hq hw).trans (congrArg (settle s) (if_pos ⟨rfl, rfl⟩))

end Sys2Proof.Machine

/-! PROOF. The interrupt unit: its commands (R330 to R336), and a source at priority 0 (R336). -/

namespace Sys2Proof.Machine

/-! The commands (R330 to R336). -/

section
variable {s : State} {c : CoreNo}

theorem exec_swset (m : BitVec 8) (hu : s.coreUp c = true) (hc : (c : Nat) < 2) :
    exec (.swset c m) s = .next (s.each 8 fun i t => if m.getLsbD i then t.irqEvent ⟨52 + i, by omega⟩ else t) :=
  if_pos ⟨hu, hc⟩

theorem exec_moderationRelease {n : SharedNo} (hm : s.manage = .running) (hc : 0 < s.srcs[n].counted) (hh : s.srcs[n].modHold ≠ 0)
    (ht : s.srcs[n].firstUs + s.srcs[n].modHold ≤ s.clk.timeUs) :
    exec (.moderationRelease n) s = .next ((s.modSrc n fun x => { x with released := true }).wakeCore s.srcs[n].target) :=
  if_pos ⟨hm, hc, hh, ht⟩

theorem exec_claim_some {src : IrqSource} (hu : s.coreUp c = true) (ht : s.topSource c = some src) :
    exec (.claim c) s = .next ((s.claimSource c src).answer 0 (le 4 (irqId src)) 4) := by
  change execClaim c s = _
  rw [execClaim, if_pos hu, ht]

theorem exec_claim_none (hu : s.coreUp c = true) (ht : s.topSource c = none) :
    exec (.claim c) s = .next (s.answer 0 (le 4 0) 4) := by
  change execClaim c s = _
  rw [execClaim, if_pos hu, ht]

theorem exec_complete_priv {id : BitVec 8} (hu : s.coreUp c = true) (h1 : 1 ≤ id.toNat) (h32 : id.toNat ≤ 32) :
    exec (.complete c id) s =
      .next (s.modCore c fun x => { x with privClaimed := x.privClaimed &&& ~~~ BitVec.ofNat 32 (2 ^ (id.toNat - 1)) }) :=
  (if_pos hu).trans (if_pos ⟨h1, h32⟩)

theorem exec_complete_shared {id : BitVec 8} {n : SharedNo} (hu : s.coreUp c = true) (hi : id.toNat = 33 + n)
    (hn : s.srcs[n].claimedBy = some c) : exec (.complete c id) s =
      .next ((s.modSrc n fun x => { x with claimedBy := none, pending := decide (0 < x.duringClaim), events := x.duringClaim
                                           duringClaim := 0 }).refreshSrc n) := by
  change execComplete c id s = _
  unfold execComplete
  dsimp only
  rw [hi, if_pos hu, if_neg (by omega), inst?_self]
  exact if_pos hn

theorem exec_prioWrite_priv (m : Fin 4) (w : BitVec 32) (hu : s.coreUp c = true) :
    exec (.prioWrite c (.priv c m) w) s = .next ((s.modCore c fun x => { x with privPrio := Vector.ofFn fun (p : Fin 32) =>
      if (p : Nat) / 8 = m then w.toNat / 16 ^ ((p : Nat) % 8) % 16 else x.privPrio[p] }).wakeCore c) :=
  if_pos ⟨hu, rfl⟩

theorem exec_thresholdWrite (v : Fin 16) (hu : s.coreUp c = true) :
    exec (.thresholdWrite c v) s = .next (s.modCore c fun x => { x with threshold := v }) :=
  if_pos hu

theorem exec_targetWrite (n : SharedNo) (w : BitVec 32) (h : s.sharedPage c = true) :
    exec (.targetWrite c n w) s = .next (s.writeSrcCfg n w) := if_pos h

theorem exec_prioWrite_shared (n : SharedNo) (w : BitVec 32) (h : s.sharedPage c = true) :
    exec (.prioWrite c (.shared n) w) s = .next (s.writeSrcCfg n w) := if_pos h

/-! What is offered and claimed (R331). -/

/-- What a fold that keeps its best or takes the next element ends with came from its start or from the list. -/
theorem foldl_best_mem {α : Type} {f : Option α → α → Option α} (hf : ∀ o x, f o x = some x ∨ f o x = o) {a : α} :
    ∀ {xs : List α} {o : Option α}, xs.foldl f o = some a → o = some a ∨ a ∈ xs
  | [], _, h => .inl h
  | x :: xs, o, h => by
    rcases foldl_best_mem hf (xs := xs) h with e | hm
    · rcases hf o x with e' | e'
      · obtain rfl : x = a := Option.some.inj (e'.symm.trans e)
        exact .inr List.mem_cons_self
      · exact .inl (e'.symm.trans e)
    · exact .inr (List.mem_cons_of_mem _ hm)

/-- A claim returns a deliverable source. -/
theorem State.ready_of_topSource {src : IrqSource} (h : s.topSource c = some src) : ∃ k, (k, src) ∈ s.ready c := by
  obtain ⟨⟨k, src'⟩, hb, rfl⟩ := Option.map_eq_some_iff.mp h
  refine ⟨k, (foldl_best_mem (fun o x => ?_) hb).resolve_left (nofun)⟩
  cases o with
  | none => exact .inl rfl
  | some b => exact ite_eq_or_eq _ _ _

theorem State.sharedReady_of_ready {k : Nat} {n : SharedNo} (h : (k, .shared n) ∈ s.ready c) : s.sharedReady c n = true := by
  have h' : s.sharedReady c n = true ∧ s.srcs[n].prio = k := by simpa [State.ready, pick] using h
  exact h'.1

theorem State.sharedReady_prio {n : SharedNo} (h : s.sharedReady c n = true) :
    s.srcs[n].prio ≠ 0 ∧ s.cores[c].threshold < s.srcs[n].prio := by
  simp only [State.sharedReady, Bool.and_eq_true, decide_eq_true_eq] at h
  exact ⟨h.1.2, h.2⟩

/-! What a shared source keeps (R330, R332). -/

@[simp] theorem State.wakeCore_srcs : (s.wakeCore c).srcs = s.srcs := by
  unfold State.wakeCore
  split <;> rfl

/-- Moderation may release a source; its other fields stand. -/
theorem State.refreshSrc_self (n : SharedNo) : ∃ b, (s.refreshSrc n).srcs[n] = { s.srcs[n] with released := b } :=
  ⟨_, by simp only [State.refreshSrc, State.wakeCore_srcs, Fin.getElem_fin, State.modSrc_self]; rfl⟩

theorem State.irqEvent_running {n : SharedNo} (hm : s.manage = .running) (hp : s.phase ≠ .held) (hn : (n : Nat) < 100)
    (hc : s.srcs[n].claimedBy = none) :
    (s.irqEvent n).srcs[n].events = s.srcs[n].events + 1 ∧ (s.irqEvent n).srcs[n].pending = true := by
  rw [State.irqEvent, if_neg (not_or.mpr ⟨Nat.not_le.mpr hn, hp⟩), if_pos hm]
  extract_lets t
  obtain ⟨b, e⟩ := t.refreshSrc_self n
  rw [e]
  simp only [t, Fin.getElem_fin, State.modSrc_self] at hc ⊢
  by_cases h : s.srcs[(n : Nat)].counted = 0 <;> simp [h, hc]

end

/-- Settles O38, from the equation of each command. -/
theorem icuCommands : Obligations.IcuCommands :=
  ⟨fun _ _ => rfl, fun _ _ _ => rfl, fun _ _ m => exec_swset m, fun _ _ => exec_moderationRelease,
    fun _ _ hu => ⟨fun _ => exec_claim_some hu, exec_claim_none hu, fun _ => exec_complete_priv hu, fun _ _ => exec_complete_shared hu,
      fun m w => exec_prioWrite_priv m w hu, fun v => exec_thresholdWrite v hu⟩,
    fun _ _ n w h => ⟨exec_targetWrite n w h, exec_prioWrite_shared n w h⟩⟩

/-- Settles O58: a claim returns a deliverable source, and one is deliverable only at a priority above 0 and above the threshold. -/
theorem priorityZero : Obligations.PriorityZero := by
  refine ⟨fun s c n w h hp hw => ⟨_, exec_prioWrite_shared n w h, ?written⟩, fun s c n h => ?offered,
    fun s n hm hp hn hc => ⟨_, rfl, State.irqEvent_running hm hp hn hc⟩⟩
  case written =>
    obtain ⟨b, e⟩ := State.refreshSrc_self (s := s.modSrc n fun x =>
      { x with modCount := w.toNat / 65536 % 256, modHold := w.toNat / 256 % 256, prio := w.toNat % 16
               target := ⟨w.toNat / 16 % 4, Nat.mod_lt _ (by decide)⟩ }) n
    rw [State.writeSrcCfg, e]
    simpa [hw] using hp
  case offered =>
    have hr : s.sharedReady c n ≠ true := fun hr =>
      let ⟨h0, ht⟩ := State.sharedReady_prio hr
      h.elim h0 (Nat.not_le.mpr ht)
    refine ⟨Bool.eq_false_iff.mpr hr, fun ht => ?_⟩
    obtain ⟨k, hk⟩ := State.ready_of_topSource ht
    exact hr (State.sharedReady_of_ready hk)

end Sys2Proof.Machine

/-! PROOF. The cores: WFI, timers, ECC, the scrubber and application faults (R326, R333, R338 to R344), command by command. -/

namespace Sys2Proof.Machine

section
variable {s : State} {c : CoreNo}

/-! WFI and the timers (R333, R338). -/

theorem exec_coreWfi (hu : s.coreUp c = true) :
    let deep := decide ((c : Nat) < 2) && decide (s.openOn 0 + s.openOn 1 = 0) && decide (1 ≤ s.governing fun _ => true)
    let t := s.modCore c fun x => { x with run := if deep then .retention else .wfi }
    exec (.coreWfi c) s = .next ((t.each 160 fun n u => if u.srcs[n].target = c then u.refreshSrc n else u).wakeCore c) :=
  if_pos hu

theorem exec_timerCompareWrite (n : Fin 4) (hi : BitVec 16) (lo : BitVec 32) (hu : s.coreUp c = true) :
    exec (.timerCompareWrite c n hi lo) s = .next (s.modCore c fun x =>
      { x with cmpLo := x.cmpLo.set n lo.toNat, cmp := x.cmp.set n (hi.toNat * 0x100000000 + lo.toNat) }) :=
  if_pos hu

theorem exec_timeLoRead (hu : s.coreUp c = true) : exec (.timeLoRead c) s =
    .next ((s.modCore c fun x => { x with timeHi := s.now / 0x100000000 }).answer 0 (le 4 (s.now % 0x100000000)) 4) :=
  if_pos hu

/-! The scrubber (R343, R344). -/

/-- The scrubber's page once a GO has loaded its range (Table 16-9). -/
def State.scrubLoaded (c : CoreNo) (start words : Nat) (s : State) : State :=
  s.modCore c fun x => { x with scrubStart := start % 0x100000000 / 4 * 4, scrubWords := words % 0x400000 }

section
variable {r : Stores} {m : Bool} {start words : Nat}

theorem exec_scrubGo_busy (hu : s.coreUp c = true)
    (hb : (s.over r (State.storeScrub c)).cores[c].scrubBusy = true ∨ (s.over r (State.storeScrub c)).cores[c].scrubQueued = true) :
    exec (.scrubGo c r m start words) s = .next (s.over r (State.storeScrub c)) :=
  (if_pos hu).trans (if_pos hb)

theorem exec_scrubGo (hu : s.coreUp c = true) (hb : (s.over r (State.storeScrub c)).cores[c].scrubBusy = false)
    (hq : (s.over r (State.storeScrub c)).cores[c].scrubQueued = false) :
    let u := (s.over r (State.storeScrub c)).scrubLoaded c start words
    let v := u.modCore c fun x => { x with corr := 0, uncorr := 0, firstBad := 0xFFFFFFFF#32, scrubQueued := true }
    exec (.scrubGo c r m start words) s =
      if words % 0x400000 = 0 then .next ((u.modCore c fun x =>
        { x with corr := 0, uncorr := 0, firstBad := 0xFFFFFFFF#32, scrubDone := true }).scrubLevel c)
      else if u.scrubOk c m (start % 0x100000000 / 4 * 4) (4 * (words % 0x400000)) = true then
        .next (({ v with scrubOrder := v.scrubOrder ++ [c] } : State).nextScrub.scrubLevel c)
      else .next ((u.modCore c fun x => { x with scrubErr := true }).scrubLevel c) :=
  (if_pos hu).trans (if_neg (not_or.mpr ⟨Bool.eq_false_iff.mp hb, Bool.eq_false_iff.mp hq⟩))

end

theorem exec_scrubAbort_write (k l : Nat) (b : BitVec 32) (hu : s.coreUp c = true) :
    exec (.scrubAbort c false k l b) s = if s.cores[c].scrubQueued = true then .next (s.endScrub c true 0 0 0xFFFFFFFF#32)
      else .next (s.modCore c fun x => { x with scrubAbortDue := x.scrubBusy }) :=
  if_pos hu

theorem exec_scrubAbort_atWord (k l : Nat) (b : BitVec 32) (hm : s.manage = .running) (hb : s.cores[c].scrubBusy = true)
    (hd : s.cores[c].scrubAbortDue = true) : exec (.scrubAbort c true k l b) s = .next (s.endScrub c true k l b) :=
  if_pos ⟨hm, hb, hd⟩

theorem exec_scrubDone (k l : Nat) (b : BitVec 32) (hm : s.manage = .running) (hb : s.cores[c].scrubBusy = true) :
    exec (.scrubDone c k l b) s = .next (s.endScrub c false k l b) :=
  if_pos ⟨hm, hb⟩

/-! Application faults (R326). -/

/-- The state in which an application fault is recorded and its core's units are reset (R326). -/
def State.faulted (c : CoreNo) (mcause mtval : Nat) (s : State) : State :=
  (((s.event (srcManage c) 0xB020 c (byte c ++ le 4 mcause ++ le 4 mtval)).modFw fun w => { w with settleMs := 0 }).modCore c
    fun x => { x with faultTimes := recentFaults s.now s.cores[c].faultTimes ++ [s.now] }).resetCoreUnits c

theorem exec_appFault (x y : BitVec 32) (hu : s.coreUp c = true) (hc : 2 ≤ (c : Nat)) :
    let t := s.faulted c x.toNat y.toNat
    exec (.appFault c x y) s = .next (if 3 ≤ (recentFaults s.now s.cores[c].faultTimes ++ [s.now]).length then
      (t.modCore c fun x => { x with run := .halted }).event (srcManage c) 0xB021 c (byte c) else t) :=
  if_pos ⟨hu, hc⟩

end

/-- Settles O39, from the equation of each command. -/
theorem coreCommands : Obligations.CoreCommands := by
  refine ⟨fun s c hu => ⟨exec_coreWfi hu, fun n hi lo => exec_timerCompareWrite n hi lo hu, exec_timeLoRead hu, ?scrubGo, ?scrubAbort,
    ?appFault⟩, fun _ _ _ => rfl, fun _ _ _ _ => rfl, ?uncorrectable,
    fun s c k l b hm hb => ⟨exec_scrubDone k l b hm hb, exec_scrubAbort_atWord k l b hm hb⟩⟩
  case scrubGo =>
    intro r m start words t
    refine ⟨exec_scrubGo_busy hu, fun hb hq => ?_⟩
    have e := exec_scrubGo (m := m) (start := start) (words := words) hu hb hq
    exact ⟨fun h0 => e.trans (if_pos h0), fun h0 hk => e.trans ((if_neg h0).trans (if_pos hk)),
      fun h0 hk => e.trans ((if_neg h0).trans (if_neg (Bool.eq_false_iff.mp hk)))⟩
  case scrubAbort =>
    exact fun k l b => ⟨fun hq => (exec_scrubAbort_write k l b hu).trans (if_pos hq),
      fun hq => (exec_scrubAbort_write k l b hu).trans (if_neg (Bool.eq_false_iff.mp hq))⟩
  case appFault =>
    exact fun x y hc => ⟨fun hl => (exec_appFault x y hu hc).trans (congrArg _ (if_neg (Nat.not_le.mpr hl))),
      fun hl => (exec_appFault x y hu hc).trans (congrArg _ (if_pos hl))⟩
  case uncorrectable =>
    rintro s t m a r rfl
    refine ⟨?core, ?host, ?other⟩
    case core => rintro c k rfl; rfl
    case host => rintro k rfl; rfl
    case other => rintro (rfl | rfl | rfl) <;> rfl

end Sys2Proof.Machine

/-! PROOF. The state after a power-on reset (R350, R384, R386). -/

namespace Sys2Proof.Machine

/-- The stores of the dictionary and the recorder are empty after a power-on reset. -/
theorem State.reset_inv : State.reset.Inv := by
  have hd : State.reset.dict.canonical := ⟨.nil, .nil, nofun⟩
  have hr : State.reset.recorder.bounded := ⟨Nat.zero_le _, Nat.zero_le _, Nat.zero_le _, Nat.zero_le _⟩
  exact ⟨hd, hr⟩

theorem State.reset_cells (c : CellNo) : State.reset.cells[c] = Cell.reset := Vector.getElem_replicate _

theorem State.reset_loops (k : LoopNo) : State.reset.loops[k] = Loop.reset := Vector.getElem_replicate _

theorem State.reset_groups (g : GroupNo) : State.reset.groups[g] = Group.reset := Vector.getElem_replicate _

theorem State.reset_strings (n : StringNo) : State.reset.strings[n] = Batt.reset := Vector.getElem_replicate _

theorem State.reset_hosts (h : HostNo) : State.reset.hosts[h] = HostCtx.reset := Vector.getElem_replicate _

theorem State.reset_grants (g : GrantNo) : State.reset.ledger.grants[g] = Grant.reset := Vector.getElem_replicate _

/-- Settles O3: all units of a kind are alike, and the stated fields of each are written out in its reset value. -/
theorem resetState : Obligations.ResetState := by
  refine ⟨rfl, rfl, rfl, rfl, rfl, State.reset_inv, fun c => ?cell, fun k => ?loop, fun g => ?group, fun n => ?string, fun h => ?host,
    fun g => ?grant, rfl, rfl, rfl, rfl, rfl⟩
  case cell => simp only [State.reset_cells, Cell.reset, and_self]
  case loop => rw [State.reset_loops]; rfl
  case group => rw [State.reset_groups]; rfl
  case string => rw [State.reset_strings]; rfl
  case host => rw [State.reset_hosts]; rfl
  case grant => rw [State.reset_grants]; rfl

end Sys2Proof.Machine

/-! PROOF. The recorder: its own work (R347, R349, R352), and what leaves its ring (R350). -/

namespace Sys2Proof.Machine

section
variable {s : State}

/-! The recorder's commands (R347, R349, R352). -/

theorem exec_foldTimeout (b : BitVec 8) (hm : s.manage = .running) (hc : s.cfgN 0x2600 5 ≠ 0) : exec (.foldTimeout b) s =
    .next (s.closeRecs (fun r => decide (r.source = b.toNat) && decide (r.last + s.cfgN 0x2600 5 * 1000 ≤ s.now)) false) :=
  if_pos ⟨hm, hc⟩

theorem exec_peatAppend {seq : Nat} {r : Rec} (hm : s.manage = .running) (hg : s.seq.gaspPending = none) (hp : s.seq.settlePending = none)
    (hr : (s.recorder.appendDue.find? fun r => r.seq = seq) = some r) : exec (.peatAppend seq) s = .next (s.modRec fun q =>
      { q with log := logTrim (q.log ++ [r]), peatGone := goneAfter q.peatGone (q.log ++ [r]) (logTrim (q.log ++ [r]))
               appendDue := q.appendDue.filter fun x => decide (x.seq ≠ seq) }) := by
  change execPeatAppend seq s = _
  rw [execPeatAppend, if_pos ⟨hm, hg, hp⟩, hr]

theorem exec_numberReserveWrite (hm : s.manage = .running) (hd : s.recorder.reserveDue = true) (hg : s.seq.gaspPending = none)
    (hp : s.seq.settlePending = none) : exec .numberReserveWrite s =
      .next ((s.modRec fun q => { q.reserveNext with reserveDue := false, waiting := [] }).over s.recorder.waiting State.writeRec) :=
  if_pos ⟨hm, hd, hg, hp⟩

/-! The ring (R350). -/

theorem dropOldest_eq_drop (f : Rec → Nat) (n : Nat) (rs : List Rec) : ∃ k, dropOldest f n rs = rs.drop k := by
  induction rs generalizing n with
  | nil => exact ⟨0, by cases n <;> rfl⟩
  | cons r rs ih =>
    cases n with
    | zero => exact ⟨0, rfl⟩
    | succ n =>
      obtain ⟨k, hk⟩ := ih (n + 1 - f r)
      exact ⟨k + 1, hk⟩

/-- Closing records changes nothing of them that closing one leaves as it was. -/
theorem State.closeRecs_map {α : Type} {g : Rec → α} (hg : ∀ peat pfi r, g (Rec.close peat pfi r) = g r) (p : Rec → Bool) (pfi : Bool) :
    (s.closeRecs p pfi).recorder.ring.map g = s.recorder.ring.map g := by
  simp only [State.closeRecs, State.modRec, List.map_map]
  refine List.map_congr_left fun r _ => ?_
  rw [Function.comp_apply, apply_ite g, hg, ite_self]

/-- What tells a record apart: its number, code and payload. -/
theorem Rec.close_shown (peat : Nat) (pfi : Bool) (r : Rec) :
    ((r.close peat pfi).seq, (r.close peat pfi).code, (r.close peat pfi).payload) = (r.seq, r.code, r.payload) := by
  unfold Rec.close
  split <;> rfl

/-- A record whose number may be given goes behind the ring, whose oldest make room. -/
theorem State.writeRec_ring (r : Rec) (hl : s.recorder.nextSeq ≠ s.recorder.limit) : ∃ n, (s.writeRec r).recorder.ring =
    ((s.closeRecs (fun x => x.source = r.source) false).recorder.ring ++ [{ r with seq := s.recorder.nextSeq }]).drop n := by
  unfold State.writeRec
  extract_lets t
  have hl' : t.recorder.nextSeq ≠ t.recorder.limit := hl
  simp only [State.modRec, if_neg hl']
  exact dropOldest_eq_drop _ _ _

theorem State.endSession_recorder (h : s.ctxOf serviceKey = none) : s.endSession.recorder = s.recorder := by
  rw [State.endSession, h]
  rfl

/-- A warm reset closes the records of its ring. -/
theorem State.warmReset_recorder (cause : Nat) :
    (s.warmReset cause).recorder = (s.endSession.closeRecs (fun _ => true) false).recorder := rfl

end

/-- Settles O40, from the equation of each command. -/
theorem recorderSteps : Obligations.RecorderSteps :=
  ⟨fun _ b => exec_foldTimeout b, fun _ _ _ => exec_peatAppend, fun _ => exec_numberReserveWrite⟩

/-- Settles O59: writing keeps the ring's bound and drops from its front, and closing a record keeps its number, code and payload. -/
theorem recorderRing : Obligations.RecorderRing := by
  refine ⟨fun s r hb => ((State.writeRec_keeps (.refl true s) r).recorder hb).1, fun s r hl => ?written, fun s cause hc => ?warm,
    fun s cause f => ⟨_, rfl, rfl⟩⟩
  case written =>
    obtain ⟨n, hn⟩ := State.writeRec_ring r hl
    exact ⟨n, by rw [hn, List.map_drop, List.map_append, State.closeRecs_map Rec.close_shown]; rfl⟩
  case warm =>
    rw [State.warmReset_recorder, State.closeRecs_map Rec.close_shown, State.endSession_recorder hc]

end Sys2Proof.Machine

/-! PROOF. Dictionary accesses of a host: writes, MULTI_WRITE, reads and the transfer timeout (R272 to R274, R291, R302 to R304), and the
lock, store and restore (R284, R298 to R300). -/

namespace Sys2Proof.Machine

section
variable {s : State} {who : Key} {h : HostNo}

/-! A served access (R272, R273). -/

/-- A served request comes to its effect after the contact, whatever the effect. -/
theorem State.serve_served (hs : s.serves who h) (f : HostNo → State → State) :
    s.serve who f = .next (State.errReset s (f h (s.touch h))) := by
  rw [State.serve, hs.1, State.contact_of_serves hs]
  rfl

/-- The contact of a served host leaves a session of its port free. -/
theorem State.portFull_of_serves (hs : s.serves who h) : (s.touch h).portFull who = false := (s.touch_portFull h who).trans hs.2.2

/-- What a served write answers, whatever it comes to. -/
theorem State.hostWrite_answer {index sub code : Nat} {data : Bytes} {t : State} (hs : s.serves who h)
    (hw : (s.touch h).write h index sub data = (code, t)) : s.hostWrite who index sub data =
      .next (State.errReset s (t.answer (if code = 0 ∧ index = 0x1010 then notYet else code) [] 0)) := by
  rw [State.hostWrite, State.serve_served hs, State.answerWrite, State.portFull_of_serves hs, hw]
  rfl

theorem exec_usdoRequest_write {index sub : Nat} {data : Bytes} (hk : who.kind = .usdo ∨ who.kind = .sdo) :
    exec (.usdoRequest who (.write index sub data)) s = s.hostWrite who index sub data :=
  if_neg fun ⟨hu, hd⟩ => hk.elim hu hd

theorem exec_usdoRequest_read {index sub offset : Nat} (hk : who.kind = .usdo ∨ who.kind = .sdo) :
    exec (.usdoRequest who (.read index sub offset)) s = s.serve who (State.answerRead who index sub offset) :=
  if_neg fun ⟨hu, hd⟩ => hk.elim hu hd

/-- MULTI_WRITE (R274): any class but SLT may write it, and its result waits in 2104:02. -/
theorem State.hostWrite_multi {data : Bytes} {t : State} (hs : s.serves who h) (hc : (s.touch h).hosts[h].cls ≠ .slt)
    (hw : writeMulti h data (s.touch h) = (0, t)) : s.hostWrite who 0x2104 1 data = .next (State.errReset s (t.answer 0 [] 0)) := by
  have hw' : (s.touch h).write h 0x2104 1 data = (0, t) := (if_pos ⟨rfl, rfl⟩).trans ((if_neg hc).trans hw)
  exact (State.hostWrite_answer hs hw').trans rfl

/-- The plain parameters of a cell: those with no rule of their own (Table 03-10). -/
theorem writeCell_plain {c : CellNo} {sub : Nat} {v : Int} (hsub : sub ∉ [5, 7, 9, 0xB, 0x20, 0x33, 0x34, 0x38, 0x40, 0x4C])
    (hm : sub = 1 ∨ sub = 2 → s.cells[c].maintained = true ∧ s.cells[c].st = .drained ∧ s.inModes [.tending] = true) :
    writeCell h c sub v s = (0, s.setWritten (0x3000 + c) sub (if sub = 2 then (pinModeOf v.toNat).toNat else v)) := by
  simp only [List.mem_cons, List.not_mem_nil, or_false, not_or] at hsub
  have assignable : ¬((sub = 1 ∨ sub = 2) ∧ (s.cells[c].mayAssign = false ∨ (!s.inModes [.tending]) = true)) := by
    rintro ⟨h12, hn⟩
    obtain ⟨h1, h2, h3⟩ := hm h12
    have ha : s.cells[c].mayAssign = true := by simp only [Cell.mayAssign, h1, h2, decide_true, Bool.and_self]
    simp only [ha, h3, Bool.true_eq_false, Bool.not_true, Bool.false_eq_true, or_self] at hn
  simp only [writeCell, if_neg assignable]
  split
  case isTrue e => rw [e]
  case isFalse => simp [hsub]

/-! Reads (R272, R303). -/

/-- A read from the start: whole, or its first part and a session for the rest. -/
theorem State.serve_readStart {index sub : Nat} {b : Bytes} {u : State} (hs : s.serves who h)
    (hr : (s.touch h).read h index sub = (0, b, u)) :
    s.serve who (State.answerRead who index sub 0) = .next (State.errReset s
      ((u.setSessions h ((if who.kind = .sdo then [] else (s.touch h).hosts[h].sessions) ++ (if copyLimit < b.length then
          [{ index := index, sub := sub, next := copyLimit, content := b, frameUs := (s.touch h).clk.timeUs }] else []))).answer
        0 (slice b 0 copyLimit) b.length)) := by
  rw [State.serve_served hs]
  simp only [State.answerRead, hr, State.portFull_of_serves hs, if_true, and_true, Nat.zero_add, Nat.not_lt_zero, if_false,
    Bool.false_eq_true, ne_eq, not_true_eq_false]
  by_cases hb : copyLimit < b.length <;> simp only [hb, if_true, if_false, List.append_nil]

/-- A read that goes on an open session, whose content still stands: the next part, and the session for what is left. -/
theorem State.serve_readNext {index sub offset : Nat} {x : Transfer} {u : State} (hs : s.serves who h) (ho : offset ≠ 0)
    (hx : ((s.touch h).hosts[h].sessions.find? fun y => y.index = index && y.sub = sub && y.next = offset) = some x)
    (hr : (s.touch h).read h index sub = (0, x.content, u)) :
    let rest := (s.touch h).hosts[h].sessions.filter fun y => !(y.index = index && y.sub = sub && y.next = offset)
    s.serve who (State.answerRead who index sub offset) = .next (State.errReset s
      ((u.setSessions h (if offset + copyLimit < x.content.length then
          rest ++ [{ x with next := offset + copyLimit, frameUs := (s.touch h).clk.timeUs }] else rest)).answer
        0 (slice x.content offset copyLimit) x.content.length)) := by
  intro rest
  rw [State.serve_served hs]
  simp only [State.answerRead, hr, hx, ho, and_false, if_false, ne_eq, not_true_eq_false]
  rfl

/-- A transfer without a frame for 1 000 ms (R272). -/
theorem exec_segmentedTransferTimeout (hs : s.serves who h) (hk : who.kind = .usdo ∨ who.kind = .sdo)
    (hx : ∃ x ∈ s.hosts[h].sessions, x.frameUs + 1000000 ≤ s.clk.timeUs) :
    exec (.segmentedTransferTimeout who) s = .next ((s.setSessions h (s.hosts[h].sessions.filter fun x =>
      !decide (x.frameUs + 1000000 ≤ s.clk.timeUs))).answer 0x05040000 [] 0) := by
  obtain ⟨hup, hctx, -⟩ := hs
  change execSegmentedTransferTimeout who s = _
  have answered : ¬((who.kind ≠ .usdo ∧ who.kind ≠ .sdo) ∨ (!s.channelUp who) = true) := by
    rintro (⟨hu, hd⟩ | hn)
    · exact hk.elim hu hd
    · simp [hup] at hn
  rw [execSegmentedTransferTimeout, if_neg answered, hctx]
  exact if_pos (by simpa using hx)

end

/-- Settles O15, from what each kind of access comes to. -/
theorem dictionaryAccess : Obligations.DictionaryAccess := by
  rintro s t who h hs rfl
  refine ⟨?write, ?cell, ?domain, ?multi, ?read, ?next, exec_segmentedTransferTimeout hs⟩
  case write =>
    intro index sub data v u ha hm hi hw
    have e := State.hostWrite_served hs ha hm hi hw
    exact ⟨e, fun hk => (exec_usdoRequest_write hk).trans e⟩
  case cell =>
    intro c sub data v ha hsub hm
    have hlt := c.isLt
    exact State.hostWrite_served hs ha (by omega) (by omega) ((writeValue_cell h c sub v _).trans (writeCell_plain hsub hm))
  case domain => exact fun index sub data u ha hm hi hw => State.hostWrite_domain hs ha hm hi hw
  case multi => exact fun data u hc hw => State.hostWrite_multi hs hc hw
  case read => exact fun index sub b u hk hr => (exec_usdoRequest_read hk).trans (State.serve_readStart hs hr)
  case next => exact fun index sub offset x u hk ho hx hr => (exec_usdoRequest_read hk).trans (State.serve_readNext hs ho hx hr)

/-! The lock, store and restore (R284, R298 to R300). -/

section
variable {s : State} {who : Key} {h : HostNo} {data : Bytes} {v : Int}

theorem writeLockCmd_release (s : State) (h : HostNo) : writeLockCmd h 0 s =
    if s.lockOwner = some h then (0, s.endLock 1) else if s.hosts[h].cls = .vnd then (0, s.endLock 4) else (0, s) := by
  simp only [writeLockCmd, if_true, decide_eq_true_eq]

theorem writeLockCmd_take (s : State) (h : HostNo) : writeLockCmd h 1 s =
    if s.lockOwner = some h then (0, s) else if s.lockOwner = none then (0, s.takeLock h)
    else if s.hosts[h].cls = .vnd then (0, (s.endLock 5).takeLock h) else (0x08000021, s) := by
  simp only [writeLockCmd, Nat.one_ne_zero, if_false, decide_eq_true_eq]

theorem State.hostWrite_lockCmd {t : State} (hs : s.serves who h) (ha : s.admits h 0x2100 3 data v)
    (hw : writeLockCmd h v.toNat (s.touch h) = (0, t)) : s.hostWrite who 0x2100 3 data = .next (s.wrote 0x2100 3 t) :=
  State.hostWrite_served hs ha (by decide) (by decide) ((writeValue_comm (by decide) h 3 v _).trans hw)

/-- STORE (R299): the image waits to be written, and the answer for its commit. -/
theorem exec_storeSave {sub : Nat} (hs : s.serves who h) (ha : s.admits h 0x1010 sub data v) (hv : v = 0x65766173)
    (hn : (s.touch h).dict.storing = none) : exec (.storeSave who sub data) s = .next (State.errReset s
      (((s.touch h).modDict fun d => { d with storing := some (sub, (s.touch h).newImage sub, (s.touch h).hosts[h].key) }).afterWrite
        0x1010 sub |>.answer notYet [] 0)) := by
  subst hv
  obtain ⟨e, h1, h2, h3, h4, h5, h6⟩ := State.touch_admits ha
  have hw : (s.touch h).write h 0x1010 sub data = (0, ((s.touch h).modDict fun d =>
      { d with storing := some (sub, (s.touch h).newImage sub, (s.touch h).hosts[h].key) }).afterWrite 0x1010 sub) := by
    simp [State.write, State.writeEntry, h1, h2, h3, h4, h5, h6, writeValue, writeComm, writeStore, hn]
  exact (State.hostWrite_answer hs hw).trans rfl

/-- RESTORE (R300): the bit of its scope waits for the next restart. -/
theorem exec_restoreLoad {sub : Nat} (hs : s.serves who h) (ha : s.admits h 0x1011 sub data v) (hv : v = 0x64616F6C)
    (hn : (s.touch h).dict.storing = none) : exec (.restoreLoad who sub data) s = .next (s.wrote 0x1011 sub
      ((s.touch h).modDict fun d => { d with restore := d.restore ||| BitVec.ofNat 8 (2 ^ (sub - 1)) })) := by
  subst hv
  refine State.hostWrite_served hs ha (by decide) (by decide) ((writeValue_comm (by decide) h sub _ _).trans ?_)
  simp [writeComm, writeRestore, hn]

end

/-- Settles O16, from what LOCK_CMD, STORE and RESTORE come to. -/
theorem lockAndStore : Obligations.LockAndStore := by
  rintro s t who h data v hs rfl
  refine ⟨fun ha => ?lock, fun sub ha hv hn => exec_storeSave hs ha hv hn, fun sub ha hv hn => exec_restoreLoad hs ha hv hn⟩
  have take := writeLockCmd_take (s.touch h) h
  have release := writeLockCmd_release (s.touch h) h
  have written {u : State} (hw : writeLockCmd h v.toNat (s.touch h) = (0, u)) := State.hostWrite_lockCmd hs ha hw
  refine ⟨?free, ?renew, ?other, ?own, ?ended, ?nothing⟩ <;> rintro rfl
  case free => exact fun hl => written (take.trans ((if_neg (by simp [hl])).trans (if_pos hl)))
  case renew => exact fun hl => written (take.trans (if_pos hl))
  case other => exact fun hn hl hc => written (take.trans ((if_neg hl).trans ((if_neg hn).trans (if_pos hc))))
  case own => exact fun hl => written (release.trans (if_pos hl))
  case ended => exact fun hl hc => written (release.trans ((if_neg hl).trans (if_pos hc)))
  case nothing => exact fun hl hc => written (release.trans ((if_neg hl).trans (if_neg hc)))

end Sys2Proof.Machine

/-! PROOF. A host's commands on the recorder (R354, R355) and on a trial (R365, R366), each a served read or write. -/

namespace Sys2Proof.Machine

section
variable {s : State} {who : Key} {h : HostNo} {data : Bytes} {v : Int}

/-- A read of a window that goes whole opens no session. -/
theorem State.serve_readWhole {index sub : Nat} {b : Bytes} {u : State} (hs : s.serves who h)
    (hr : (s.touch h).read h index sub = (0, b, u)) (hb : b.length ≤ copyLimit) :
    s.serve who (State.answerRead who index sub 0) = .next (State.errReset s
      ((u.setSessions h (if who.kind = .sdo then [] else (s.touch h).hosts[h].sessions)).answer 0 (slice b 0 copyLimit) b.length)) := by
  rw [State.serve_readStart hs hr, if_neg (Nat.not_lt.mpr hb), List.append_nil]

/-- A served and admitted write of an entry from 2200 to 2FFF comes to its rule in `writeShelf`. -/
theorem State.hostWrite_shelf {index sub : Nat} {t : State} (hs : s.serves who h) (ha : s.admits h index sub data v) (h1 : 0x2200 ≤ index)
    (h2 : index < 0x3000) (hw : writeShelf h index sub v (s.touch h) = (0, t)) :
    s.hostWrite who index sub data = .next (s.wrote index sub t) :=
  State.hostWrite_served hs ha (by omega) (by omega) ((if_neg (Nat.not_lt.mpr h1)).trans ((if_pos h2).trans hw))

/-! The recorder's rules (R354, R355). -/

theorem writeCursor_some {n m : Nat} (hn : cursorFor s.recorder.ringGone s.recorder.ring m = some n) :
    writeCursor h m s = (0, s.modHost h fun x => { x with ringCursor := n, tw := { x.tw with partSeq := 0, part := 0 } }) := by
  rw [writeCursor, hn]

theorem writePeatCursor_some {n m : Nat} (hn : cursorFor s.recorder.peatGone s.recorder.log m = some n) :
    writePeatCursor h m s = (0, s.modHost h fun x => { x with peatCursor := n }) := by
  rw [writePeatCursor, hn]

theorem writeRingRetire_below {m : Nat} (h0 : m ≠ 0) (ht : aboveTop s.recorder.ringGone s.recorder.ring m = false) :
    writeRingRetire h m s = (0, (s.modRec fun q =>
      { q with ring := q.ring.filter (fun r => !seqLe r.seq m), ringRetired := m, ringGone := goneRetired q.ringGone m q.ring }).event
        (srcManage 23) 0xB031 h (le 4 m ++ byte h)) :=
  (if_neg h0).trans (if_neg (Bool.eq_false_iff.mp ht))

theorem writePeatRetire_below {m : Nat} (h0 : m ≠ 0) (ht : aboveTop s.recorder.peatGone s.recorder.log m = false) :
    writePeatRetire h m s = (0, (s.modRec fun q =>
      { q with log := q.log.filter (fun r => !seqLe r.seq m), peatRetired := m, peatGone := goneRetired q.peatGone m q.log }).event
        (srcManage 23) 0xB032 h (le 4 m ++ byte h)) :=
  (if_neg h0).trans (if_neg (Bool.eq_false_iff.mp ht))

/-! The trial's rules (R365, R366). -/

theorem State.touch_key (s : State) (h c : HostNo) : (s.touch h).hosts[c].key = s.hosts[c].key := by
  obtain ⟨n, e⟩ := s.touch_eq h
  simp only [e, Fin.getElem_fin, Vector.getElem_set]
  split
  case isTrue i =>
    obtain rfl := Fin.ext i
    rfl
  case isFalse => rfl

theorem writeRollback_trial (ht : s.fw.trial ≠ none) : writeRollback 1 s = (0, s.modFw fun w => { w with rollbackDue := true }) :=
  (if_neg Nat.one_ne_zero).trans (if_neg (by simpa using ht))

theorem writeAppConfirm_trial {d : DapNo} (hk : s.hosts[h].key = dapKey d) (ht : s.fw.trial ≠ none) :
    writeAppConfirm h 1 s = (0, s.modFw fun w => { w with appConfirmed := true }) :=
  (if_neg (not_not.mpr (congrArg Key.kind hk))).trans (congrArg (Prod.mk 0) (if_pos ⟨rfl, Option.isSome_iff_ne_none.mpr ht⟩))

end

/-- Settles O17: each command is a served read, or a served and admitted write that comes to its entry's own rule. -/
theorem recorderAndTrialWrites : Obligations.RecorderAndTrialWrites := by
  refine ⟨?recorder, ?trial⟩
  case recorder =>
    rintro s t who h data v hs rfl
    have served {index sub : Nat} {t : State} (ha : s.admits h index sub data v) (h1 : 0x2200 ≤ index) (h2 : index < 0x3000)
        (hw : writeShelf h index sub v (s.touch h) = (0, t)) := State.hostWrite_shelf hs ha h1 h2 hw
    refine ⟨fun b u hr hb => State.serve_readWhole hs hr hb, fun b u hr hb => State.serve_readWhole hs hr hb,
      fun n ha hn => served ha (by decide) (by decide) (writeCursor_some hn),
      fun n ha hn => served ha (by decide) (by decide) (writePeatCursor_some hn),
      fun ha h0 ht => served ha (by decide) (by decide) (writeRingRetire_below h0 ht),
      fun ha h0 ht => served ha (by decide) (by decide) (writePeatRetire_below h0 ht), ?_⟩
    rintro ha rfl
    exact served ha (by decide) (by decide) rfl
  case trial =>
    rintro s t h data v rfl
    refine ⟨?rollback, ?none, ?confirm⟩
    case rollback =>
      rintro who hs ha rfl ht
      exact State.hostWrite_shelf hs ha (by decide) (by decide) (writeRollback_trial ht)
    case none =>
      rintro who hs ha rfl
      exact State.hostWrite_shelf hs ha (by decide) (by decide) rfl
    case confirm =>
      rintro d hs hk ha rfl ht
      exact State.hostWrite_shelf hs ha (by decide) (by decide) (writeAppConfirm_trial ((s.touch_key h h).trans hk) ht)

end Sys2Proof.Machine

/-! PROOF. The judgement of a write, step by step, and what it refuses (R304). -/

namespace Sys2Proof.Machine

section
variable {s : State} {h : HostNo} {index sub : Nat} {data : Bytes} {e : Entry}

/-! The steps of the judgement (R304). -/

theorem State.writeEntry_noEntry (he : entryOf index sub = none) : s.writeEntry h index sub data = (0x06020000, s) := by
  rw [State.writeEntry, he]

theorem State.writeEntry_class (he : entryOf index sub = some e) (hm : s.mayWrite h index sub e = false) :
    s.writeEntry h index sub data = (0x06010002, s) := by
  simp [State.writeEntry, he, hm]

theorem State.writeEntry_locked (he : entryOf index sub = some e) (hm : s.mayWrite h index sub e = true) (hl : s.lockBars h e = true) :
    s.writeEntry h index sub data = (0x08000021, s) := by
  simp [State.writeEntry, he, hm, hl]

theorem State.writeEntry_length {n : Nat} (he : entryOf index sub = some e) (hm : s.mayWrite h index sub e = true)
    (hl : s.lockBars h e = false) (hn : e.ty.size = some n) (hd : data.length ≠ n) :
    s.writeEntry h index sub data = (0x06070010, s) := by
  simp [State.writeEntry, he, hm, hl, hn, hd]

/-- A fixed-size value of the right length: its own code, or the rule of its entry. -/
theorem State.writeEntry_value {n : Nat} (he : entryOf index sub = some e) (hm : s.mayWrite h index sub e = true)
    (hl : s.lockBars h e = false) (hn : e.ty.size = some n) (hd : data.length = n) : s.writeEntry h index sub data =
      if checkValue e (e.ty.decode data) ≠ 0 then (checkValue e (e.ty.decode data), s)
      else writeValue h index sub (e.ty.decode data) s := by
  simp [State.writeEntry, he, hm, hl, hn, hd]

/-! What a class may not write (R6, R175). -/

theorem State.mayWrite_none (hw : e.wr = none) : s.mayWrite h index sub e = false := by
  rw [State.mayWrite, hw]

theorem State.mayWrite_below {w : Class} (hw : e.wr = some w) (hc : s.hosts[h].cls ≠ .slt) (ha : s.hosts[h].cls.atLeast w = false) :
    s.mayWrite h index sub e = false := by
  rw [State.mayWrite, hw]
  exact (if_neg hc).trans ha

/-- A slot host writes nothing but a grant request and the CLEAR of its own slot. -/
theorem State.sltMay_false (hg : ¬(index = 0x2220 ∧ sub = 1))
    (hc : ∀ c : CellNo, s.hosts[h].ownSink = some (cellSink c) → ¬(index = 0x3000 + c ∧ sub = 0x38)) : s.sltMay h index sub = false := by
  refine Bool.eq_false_iff.mpr fun ht => ?_
  simp only [State.sltMay, Bool.or_eq_true, Bool.and_eq_true, decide_eq_true_eq, Option.map_eq_some_iff] at ht
  rcases ht with hg' | ⟨⟨⟨h1, h2⟩, hs⟩, x, hx, hi⟩
  · exact hg hg'
  · have hlt : index - 0x3000 < 48 := by omega
    refine hc ⟨index - 0x3000, hlt⟩ (hx.trans (congrArg some (Fin.ext hi))) ⟨?_, hs⟩
    change index = 0x3000 + (index - 0x3000)
    omega

theorem State.mayWrite_slt (ht : s.hosts[h].cls = .slt) (hg : ¬(index = 0x2220 ∧ sub = 1))
    (hc : ∀ c : CellNo, s.hosts[h].ownSink = some (cellSink c) → ¬(index = 0x3000 + c ∧ sub = 0x38)) : s.mayWrite h index sub e = false := by
  rw [State.mayWrite]
  split
  · rfl
  · exact (if_pos ht).trans (State.sltMay_false hg hc)

/-- A role or pin mode is written in TENDING to a maintained DRAINED cell only (Table 03-10). -/
theorem writeCell_unassignable {c : CellNo} {v : Int} (hsub : sub = 1 ∨ sub = 2)
    (hm : ¬(s.cells[c].maintained = true ∧ s.cells[c].st = .drained ∧ s.inModes [.tending] = true)) :
    writeCell h c sub v s = (0x08000022, s) := by
  refine if_pos ⟨hsub, ?_⟩
  by_cases ha : s.cells[c].mayAssign = false
  · exact .inl ha
  · refine .inr ((Bool.not_eq_true' _).mpr (Bool.eq_false_iff.mpr fun ht => hm ?_))
    have ha' : s.cells[c].mayAssign = true := Bool.not_eq_false _ ▸ ha
    simp only [Cell.mayAssign, Bool.and_eq_true, decide_eq_true_eq] at ha'
    exact ⟨ha'.1, ha'.2, ht⟩

end

/-- A served write that the judgement refuses answers its code and leaves the state as the contact made it. -/
theorem exec_dictWrite_refused {s : State} {who : Key} {h : HostNo} {index sub code : Nat} {data : Bytes} (hs : s.serves who h)
    (hm : ¬(index = 0x2104 ∧ sub = 1)) (hc : code ≠ 0) (hw : (s.touch h).writeEntry h index sub data = (code, s.touch h)) :
    exec (.dictWrite who index sub data) s = .next (State.errReset s ((s.touch h).answer code [] 0)) := by
  have hw' : (s.touch h).write h index sub data = (code, s.touch h) := by
    rw [State.write, if_neg hm, hw]
    exact if_neg hc
  exact (State.hostWrite_answer hs hw').trans (by rw [if_neg fun ⟨h0, _⟩ => hc h0])

/-- Settles O54: each clause is one step of the judgement, under what the steps before it let pass. -/
theorem writeRefusals : Obligations.WriteRefusals := by
  rintro s t who h index sub data hs rfl hm refused
  have code {c : Nat} (hc : c ≠ 0) (hw : (s.touch h).writeEntry h index sub data = (c, s.touch h)) : refused c :=
    exec_dictWrite_refused hs hm hc hw
  refine ⟨fun he => code (by decide) (State.writeEntry_noEntry he), fun e he => ⟨fun hw => ?_, fun w hw hc ha => ?_, fun hc hg hown => ?_,
    fun hw hl => code (by decide) (State.writeEntry_locked he hw hl), fun hw hl n hn => ⟨fun hd => ?length, fun hd hv => ?value, ?role⟩⟩⟩
  · exact code (by decide) (State.writeEntry_class he (State.mayWrite_none hw))
  · exact code (by decide) (State.writeEntry_class he (State.mayWrite_below hw hc ha))
  · exact code (by decide) (State.writeEntry_class he (State.mayWrite_slt hc hg hown))
  case length => exact code (by decide) (State.writeEntry_length he hw hl hn hd)
  case value => exact code hv ((State.writeEntry_value he hw hl hn hd).trans (if_pos hv))
  case role =>
    rintro c rfl hsub hd hv hno
    exact code (by decide) ((State.writeEntry_value he hw hl hn hd).trans ((if_neg (not_not.mpr hv)).trans
      ((writeValue_cell h c sub _ _).trans (writeCell_unassignable hsub hno))))

end Sys2Proof.Machine

/-! PROOF. The read frames of a two-wire port (R307 to R313, R316). -/

namespace Sys2Proof.Machine

section
variable {s t : State} {p : TwNo} {src : BitVec 7} {h : HostNo}

/-! A read frame, whatever it reads (R307 to R310). -/

section
variable {cmd : Nat} (data : HostNo → State → Bytes × State) (done : HostNo → State → State)

theorem State.twRead_stop (ht : s.twTakes p src h t) : s.twRead p src cmd .stop data done = .next (State.errReset s t) :=
  State.twFrame_taken _ ht

theorem State.twRead_extra (ht : s.twTakes p src h t) :
    s.twRead p src cmd .extra data done = .next (State.errReset s (t.frameFault p h 1)) :=
  State.twFrame_taken _ ht

/-- The answer to `n` clocked bytes of a block: those of it and of the PEC that follows it (R307, R308). -/
def State.twReply (t : State) (p : TwNo) (src : BitVec 7) (cmd n : Nat) (b : Bytes) (u : State) : State :=
  u.answer 0 ((b ++ [crc8 (t.frameHead p cmd src ++ byte (2 * t.cfgN (0x2800 + p) 4 + 1) ++ b)]).take n) b.length

theorem State.twRead_clocked {n : Nat} {b : Bytes} {u : State} (ht : s.twTakes p src h t) (hb : data h t = (b, u)) :
    s.twRead p src cmd (.clocked n) data done = .next (State.errReset s
      (if b.length ≤ n then done h (t.twReply p src cmd n b u) else t.twReply p src cmd n b u)) := by
  rw [State.twRead, State.twFrame_taken _ ht]
  dsimp only
  rw [hb]
  rfl

end

theorem State.twShow_eq {cmd : Nat} {r : TwRead} {data : HostNo → State → Bytes} :
    s.twShow p src cmd r data = s.twRead p src cmd r (fun h t => (data h t, t)) fun _ t => t := rfl

theorem State.twShow_clocked {cmd n : Nat} (data : HostNo → State → Bytes) (ht : s.twTakes p src h t) :
    s.twShow p src cmd (.clocked n) data = .next (State.errReset s (t.twReply p src cmd n (data h t) t)) := by
  rw [State.twShow_eq, State.twRead_clocked _ _ ht rfl, ite_self]

theorem withCount_length (b : Bytes) : (withCount b).length = b.length + 1 := by
  rw [withCount, List.length_append, byte, List.length_singleton, Nat.add_comm]

theorem State.statusBytes_length : (t.statusBytes h).length = 4 := rfl

/-! The blocks (R310 to R313). -/

theorem exec_twDictRead_free (r : TwRead) (hb : s.twBusy p src = false) : exec (.twDictRead p src r) s = s.dictRead p src r :=
  if_neg (Bool.eq_false_iff.mp hb)

theorem exec_twStatus_clocked (n : Nat) (ht : s.twTakes p src h t) :
    let u := t.twReply p src 1 n (t.statusBytes h) t
    exec (.twStatus p src (.clocked n)) s = .next (State.errReset s (if 4 ≤ n then u.modCtx h fun c => { c with frameError := 0 } else u)) := by
  intro u
  change execTwStatus p src (.clocked n) s = _
  rw [execTwStatus, State.twRead_clocked _ _ ht rfl, State.statusBytes_length]

/-- DICT_READ moves on in the caller's copy when every byte was clocked (R309, R311). -/
theorem exec_twDictRead_clocked (n : Nat) (ht : s.twTakes p src h t) (hb : s.twBusy p src = false) :
    let b := t.hosts[h].tw.nextBytes
    let u := t.twReply p src 0x11 n (withCount b) t
    exec (.twDictRead p src (.clocked n)) s =
      .next (State.errReset s (if b.length + 1 ≤ n then u.modCtx h fun c => { c with copy := c.copy.drop b.length } else u)) := by
  intro b u
  rw [exec_twDictRead_free _ hb, State.dictRead, State.twRead_clocked _ _ ht rfl, withCount_length]
  rfl

/-- EVENT_WINDOW moves the caller's cursor when every byte was clocked (R309, R313). -/
theorem exec_eventWindow_clocked {n cursor ps k : Nat} {b : Bytes} (ht : s.twTakes p src h t)
    (hb : (t.closeWindow h).eventBlockOf h = (b, cursor, ps, k)) :
    let v := t.twReply p src 0x21 n (withCount b) (t.closeWindow h)
    exec (.eventWindow p src (.clocked n)) s = .next (State.errReset s (if b.length + 1 ≤ n then
      v.modHost h fun y => { y with ringCursor := cursor, tw := { y.tw with partSeq := ps, part := k } } else v)) := by
  intro v
  change execEventWindow p src (.clocked n) s = _
  have hv : v.eventBlockOf h = (b, cursor, ps, k) := hb
  have block : (withCount ((t.closeWindow h).eventBlockOf h).1, t.closeWindow h) = (withCount b, t.closeWindow h) := by rw [hb]
  rw [execEventWindow, State.twRead_clocked _ _ ht block, withCount_length]
  dsimp only
  rw [hv]

theorem exec_alertCause_none (n : Nat) (ht : s.twTakes p src h t) (ha : t.alertSink p h = none) :
    exec (.alertCause p src (.clocked n)) s = .next (State.errReset s (t.twReply p src 0x3E n [0xFF#8, 0, 0, 0] t)) := by
  change execAlertCause p src (.clocked n) s = _
  rw [execAlertCause, State.twShow_clocked _ ht]
  dsimp only
  rw [ha]

theorem exec_alertCause_some {x : SinkNo} (n : Nat) (ht : s.twTakes p src h t) (ha : t.alertSink p h = some x) :
    exec (.alertCause p src (.clocked n)) s = .next (State.errReset s (t.twReply p src 0x3E n
      (byte x ++ byte t.ledger.sinks[x].throttle ++ le 2 (min 65535 t.ledger.sinks[x].targetW)) t)) := by
  change execAlertCause p src (.clocked n) s = _
  rw [execAlertCause, State.twShow_clocked _ ht]
  dsimp only
  rw [ha]

/-- DICT_READ on a busy port (R316): held by LIMITED, lost by NEVER. -/
theorem exec_twDictRead_busy (r : TwRead) (hb : s.twBusy p src = true) (ha : s.twAwake p = true) :
    exec (.twDictRead p src r) s =
      .next (if s.twPolicy p = 0 then s.modTw p fun x => { x with stretch := some (src, r, s.clk.timeUs) } else s) := by
  change execTwDictRead p src r s = _
  rw [execTwDictRead, if_pos hb, ha]
  simp only [true_and]

/-- The rows that read a block are read frames of one command each (Table 15-3). -/
theorem exec_twRead {c : TwRead → Instr} (hc : c ∈ [Instr.twStatus p src, Instr.dictResult p src, Instr.eventWindow p src,
    Instr.grantState p src, Instr.alertCause p src, Instr.portInfo p src] ∨ (c = Instr.twDictRead p src ∧ s.twBusy p src = false)) :
    ∃ cmd data done, ∀ r, exec (c r) s = s.twRead p src cmd r data done := by
  simp only [List.mem_cons, List.not_mem_nil, or_false] at hc
  rcases hc with (rfl | rfl | rfl | rfl | rfl | rfl) | ⟨rfl, hb⟩
  · exact ⟨_, _, _, fun r => (rfl : execTwStatus p src r s = _)⟩
  · exact ⟨_, _, _, fun _ => State.twShow_eq⟩
  · exact ⟨_, _, _, fun r => (rfl : execEventWindow p src r s = _)⟩
  · exact ⟨_, _, _, fun _ => State.twShow_eq⟩
  · exact ⟨_, _, _, fun _ => State.twShow_eq⟩
  · exact ⟨_, _, _, fun _ => State.twShow_eq⟩
  · exact ⟨_, _, _, fun r => exec_twDictRead_free r hb⟩

end

/-- Settles O41, from what a read frame of each kind comes to. -/
theorem twoWireReads : Obligations.TwoWireReads := by
  refine ⟨?unread, ?read, fun s p src r hb ha => exec_twDictRead_busy r hb ha⟩
  case unread =>
    intro s t p src h c ht hc
    obtain ⟨cmd, data, done, e⟩ := exec_twRead (s := s) hc
    exact ⟨(e _).trans (State.twRead_stop data done ht), (e _).trans (State.twRead_extra data done ht)⟩
  case read =>
    intro s t p src h n ht
    exact ⟨exec_twStatus_clocked n ht, exec_twDictRead_clocked n ht, State.twShow_clocked _ ht, State.twShow_clocked _ ht,
      exec_alertCause_none n ht, fun x ha => exec_alertCause_some n ht ha, State.twShow_clocked _ ht,
      fun b cursor ps k hb => exec_eventWindow_clocked ht hb⟩

end Sys2Proof.Machine

/-! PROOF. The write frames of a two-wire port (R307 to R314). -/

namespace Sys2Proof.Machine

section
variable {s t : State} {p : TwNo} {src : BitVec 7} {h : HostNo} {b d : Bytes}

/-! A write frame, whatever it writes (R307, R308). -/

/-- A frame with no bytes that its command takes is a length error. -/
theorem State.twWrite_length {cmd : Nat} (f : Bytes → HostNo → State → State) (ht : s.twTakes p src h t) :
    s.twWrite p src cmd none f = .next (State.errReset s (t.frameFault p h 1)) :=
  State.twFrame_taken _ ht

/-- A frame whose last byte is no PEC of the bytes before it is a PEC error. -/
theorem State.twWrite_pec {cmd : Nat} {x : Byte} (f : Bytes → HostNo → State → State) (ht : s.twTakes p src h t)
    (hx : x ≠ crc8 (t.frameHead p cmd src ++ b)) :
    s.twWrite p src cmd (some (b, some x)) f = .next (State.errReset s (t.frameFault p h 2)) := by
  rw [State.twWrite, State.twFrame_taken _ ht]
  dsimp only
  rw [if_neg (by simpa using hx)]

theorem fixedBytes_none {n : Nat} (h0 : d.length ≠ n) (h1 : d.length ≠ n + 1) : fixedBytes n d = none :=
  (if_neg h0).trans (if_neg h1)

theorem fixedBytes_pec {n : Nat} {x : Byte} (hb : b.length = n) : fixedBytes n (b ++ [x]) = some (b, some x) := by
  subst hb
  simp [fixedBytes]

/-- A write of fixed length, with a good PEC or with none where the port asks for none, comes to its effect. -/
theorem State.twWrite_fixed {n cmd : Nat} (f : Bytes → HostNo → State → State) (ht : s.twTakes p src h t) (hb : b.length = n)
    (hd : d = b ++ [crc8 (t.frameHead p cmd src ++ b)] ∨ (d = b ∧ t.cfgN (0x2800 + p) 5 = 0)) :
    s.twWrite p src cmd (fixedBytes n d) f = .next (State.errReset s (f b h t)) :=
  State.twWrite_framed f ht (fixed_of_framed hb hd)

/-- A PEC behind the data leaves their first byte, the COUNT, as it is. -/
theorem numAt_count_append (x : Byte) (hb : 0 < b.length) : numAt (b ++ [x]) 0 1 = numAt b 0 1 :=
  congrArg unle (List.take_append_of_le_length hb)

/-- The same for a counted write, whose COUNT its command admits. -/
theorem State.twWrite_counted {cmd : Nat} {q : Bytes × Option Byte → Bool} (f : Bytes → HostNo → State → State) (ht : s.twTakes p src h t)
    (hb : b.length = numAt b 0 1 + 1) (hq : ∀ o, q (b, o) = true)
    (hd : d = b ++ [crc8 (t.frameHead p cmd src ++ b)] ∨ (d = b ∧ t.cfgN (0x2800 + p) 5 = 0)) :
    s.twWrite p src cmd ((countedBytes d).filter q) f = .next (State.errReset s (f b h t)) := by
  have hn : numAt d 0 1 = numAt b 0 1 := by
    rcases hd with rfl | ⟨rfl, -⟩
    · exact numAt_count_append _ (by omega)
    · rfl
  refine State.twWrite_framed f ht ?_
  rw [countedBytes, hn]
  rcases fixed_of_framed hb hd with ⟨e, hc⟩ | e
  · exact .inl ⟨by rw [e, Option.filter_some_pos (hq _)], hc⟩
  · exact .inr (by rw [e, Option.filter_some_pos (hq _)])

/-! What the writes do (R311 to R313). -/

theorem State.dictSelect_pending (hr : s.hosts[h].tw.result = 1) : s.dictSelect p b h = s.frameFault p h 3 := if_pos hr

theorem State.dictSelect_read (hr : s.hosts[h].tw.result ≠ 1) (ho : numAt b 0 1 = 1) (hz : numAt b 4 1 = 0) :
    s.dictSelect p b h = s.selectRead h (numAt b 1 2) (numAt b 3 1) (numAt b 5 4) :=
  (if_neg hr).trans (if_pos ⟨ho, decide_eq_true hz⟩)

theorem State.dictSelect_write (hr : s.hosts[h].tw.result ≠ 1) (ho : numAt b 0 1 = 2) (hz : numAt b 4 1 = 0) (hoff : numAt b 5 4 = 0) :
    s.dictSelect p b h =
      s.modCtx h fun c => { c with selWrite := some (numAt b 1 2, numAt b 3 1), buffer := [], bufferOver := false } :=
  (if_neg hr).trans ((if_neg (by omega)).trans (if_pos ⟨ho, decide_eq_true hz, hoff⟩))

theorem State.dictWrite_none (hn : s.hosts[h].tw.selWrite = none) : s.dictWrite p b h = s.frameFault p h 3 := by
  rw [State.dictWrite, hn]

/-- The value bytes of a DICT_WRITE join the caller's buffer (R311). -/
def State.gather (b : Bytes) (h : HostNo) (s : State) : State :=
  s.modCtx h fun c => if 1024 < c.buffer.length + (b.drop 2).length then { c with bufferOver := true }
    else { c with buffer := c.buffer ++ b.drop 2 }

theorem State.dictWrite_some {i n : Nat} (hn : s.hosts[h].tw.selWrite = some (i, n)) : s.dictWrite p b h =
    if numAt b 1 1 % 2 = 1 ∧ s.hosts[h].tw.result = 1 then s.frameFault p h 3
    else if numAt b 1 1 % 2 = 1 then (s.gather b h).applyLast h i n else s.gather b h := by
  rw [State.dictWrite, hn]
  simp only [decide_eq_true_eq]
  rfl

theorem State.eventCursor_oldest (ho : numAt b 0 1 = 1) : s.eventCursor p b h = (writeCursor h 0 s).2 := if_pos ho

theorem State.eventCursor_newest (ho : numAt b 0 1 = 2) : s.eventCursor p b h =
    (writeCursor h (if newestOf s.recorder.ring = 0 then 0xFFFFFFFF else newestOf s.recorder.ring) s).2 :=
  (if_neg (by omega)).trans (if_pos ho)

theorem State.eventCursor_number {u : State} (ho : numAt b 0 1 = 3) (hw : writeCursor h (numAt b 1 4) s = (0, u)) :
    s.eventCursor p b h = u := by
  rw [State.eventCursor]
  dsimp only
  rw [if_neg (by omega), if_neg (by omega), if_pos ho, hw]
  rfl

theorem State.submitGrant_eq {code : Nat} {u : State} (hw : s.write h 0x2220 1 (b.drop 1) = (code, u)) :
    s.submitGrant b h = u.modCtx h (TwCtx.report 3 0x2220 1 code 0) := by
  rw [State.submitGrant, hw]

end

/-- Settles O42: each frame, of the right length and PEC, comes to what its data ask for. -/
theorem twoWireWrites : Obligations.TwoWireWrites := by
  intro s t p src h b d ht framed shows
  refine ⟨fun hb hd => ?select, fun hb h2 hd => ?write, fun hb hd => ?cursor, fun hb h1 h2 hd code u hw => ?grant, fun h0 h1 => ?selectLength,
    fun h0 h1 => ?cursorLength, fun x hx => ?pec⟩
  case select =>
    have e : shows (.dictSelect p src d) (t.dictSelect p b h) := State.twWrite_fixed (State.dictSelect p) ht hb hd
    exact ⟨fun hr => State.dictSelect_pending hr ▸ e, fun hr ho hz => State.dictSelect_read hr ho hz ▸ e,
      fun hr ho hz hoff => State.dictSelect_write hr ho hz hoff ▸ e⟩
  case write =>
    have e : shows (.twDictWrite p src d) (t.dictWrite p b h) :=
      State.twWrite_counted (State.dictWrite p) ht hb (fun _ => decide_eq_true h2) hd
    refine ⟨fun hn => State.dictWrite_none hn ▸ e, fun i n hn => ?_⟩
    rw [State.dictWrite_some hn] at e
    refine ⟨fun h0 => ?_, fun h1 hr => ?_, fun h1 hr => ?_⟩
    · rwa [if_neg (by omega), if_neg (by omega)] at e
    · rwa [if_neg fun ⟨_, hr'⟩ => hr hr', if_pos h1] at e
    · rwa [if_pos ⟨h1, hr⟩] at e
  case cursor =>
    have e : shows (.eventCursor p src d) (t.eventCursor p b h) := State.twWrite_fixed (State.eventCursor p) ht hb hd
    exact ⟨fun ho => State.eventCursor_oldest ho ▸ e, fun ho => State.eventCursor_newest ho ▸ e,
      fun u ho hw => State.eventCursor_number ho hw ▸ e⟩
  case grant =>
    have e : shows (.twGrantRequest p src d) (t.submitGrant b h) :=
      State.twWrite_counted State.submitGrant ht hb (fun _ => decide_eq_true ⟨h1, h2⟩) hd
    exact State.submitGrant_eq hw ▸ e
  case selectLength =>
    have e := State.twWrite_length (cmd := 0x10) (State.dictSelect p) ht
    rwa [← fixedBytes_none h0 h1] at e
  case cursorLength =>
    have e := State.twWrite_length (cmd := 0x20) (State.eventCursor p) ht
    rwa [← fixedBytes_none h0 h1] at e
  case pec =>
    subst hx
    refine ⟨fun hb hx => ?_, fun hb hx => ?_⟩
    · have e := State.twWrite_pec (State.dictSelect p) ht hx
      rwa [← fixedBytes_pec hb] at e
    · have e := State.twWrite_pec (State.eventCursor p) ht hx
      rwa [← fixedBytes_pec hb] at e

end Sys2Proof.Machine

/-! PROOF. The Fafort session: frames, IDENTIFY, AUTH_BEGIN, AUTH_PROVE, CLOSE, the timeout and the lockout (R361, R362). -/

namespace Sys2Proof.Machine

section
variable {s t u : State} {f : Sys2Proof.Fafort} {h : HostNo} {type status : Nat} {b : Bytes} {fits : Nat → Bool}

/-! Frames, whatever they ask (R361). -/

/-- A new and whole frame of an admitted length answers what its body does. -/
theorem State.frame_answer {body : Bytes → State → Answer} (ht : s.fafortTakes type f) (hl : fits f.payload.length = true)
    (hb : body f.payload s.requested = (status, b, t)) : s.frame type f fits body = .next (s.framed f status b t) := by
  rw [State.frame_taken _ ht hl, hb]

/-- The same inside an authenticated session. -/
theorem State.sessionFrame_answer {body : Bytes → HostNo → State → Answer} (ht : s.sessionTakes type f h t)
    (hl : fits f.payload.length = true) (hb : body f.payload h t = (status, b, u)) :
    s.sessionFrame type f fits body = .next (s.framed f status b u) := by
  rw [State.sessionFrame_taken _ ht hl, hb]

/-- A frame of no payload has the one length that its row admits. -/
theorem exactly_zero (hp : f.payload = []) : exactly 0 f.payload.length = true := by rw [hp]; rfl

theorem exactly_self {n : Nat} (hp : f.payload.length = n) : exactly n f.payload.length = true := decide_eq_true hp

theorem State.frame_bad {body : Bytes → State → Answer} (hu : s.fafortUp = true) (hw : Fafort.whole type f = false) :
    s.frame type f fits body = .next { s.requested with reply := { code := 2, data := [], total := 0 } } :=
  (if_pos hu).trans (if_pos (.inl ((Bool.not_eq_true' _).mpr hw)))

theorem State.frame_repeated {body : Bytes → State → Answer} (hu : s.fafortUp = true) (hw : Fafort.whole type f = true)
    (hl : fits f.payload.length = true) (hq : s.fw.session.lastSeq = some f.seq) :
    s.frame type f fits body = .next { s.requested with reply := s.fw.session.lastReply } :=
  (if_pos hu).trans ((if_neg (by simp [hw, hl])).trans (if_pos hq))

theorem State.sessionFrame_eq {body : Bytes → HostNo → State → Answer} : s.sessionFrame type f fits body = s.frame type f fits fun b t =>
    match t.fw.session.authed, t.ctxOf serviceKey with
    | true, some h => body b h (t.touch h)
    | _, _ => (3, [], t) := rfl

/-- Every request row of the service port is a frame of its own type (Table 18-3). -/
theorem exec_frame {c : Sys2Proof.Fafort → Instr} (hc : (c, type) ∈ [(Instr.identify, 1), (Instr.authBegin, 2), (Instr.authProve, 3),
    (Instr.fafortDictRead, 0x10), (Instr.fafortDictWrite, 0x11), (Instr.imageBegin, 0x20), (Instr.imageData, 0x21), (Instr.imageEnd, 0x22),
    (Instr.activate, 0x23), (Instr.keyWrite, 0x30), (Instr.close, 0x3F)]) : ∃ fits body, exec (c f) s = s.frame type f fits body := by
  simp only [List.mem_cons, Prod.mk.injEq, List.not_mem_nil, or_false] at hc
  rcases hc with ⟨rfl, rfl⟩ | ⟨rfl, rfl⟩ | ⟨rfl, rfl⟩ | ⟨rfl, rfl⟩ | ⟨rfl, rfl⟩ | ⟨rfl, rfl⟩ | ⟨rfl, rfl⟩ | ⟨rfl, rfl⟩ | ⟨rfl, rfl⟩ | ⟨rfl, rfl⟩ | ⟨rfl, rfl⟩
  · exact ⟨_, _, (rfl : execIdentify f s = _)⟩
  · exact ⟨_, _, (rfl : execAuthBegin f s = _)⟩
  · exact ⟨_, _, (rfl : execAuthProve f s = _)⟩
  · exact ⟨_, _, (State.sessionFrame_eq : execFafortDictRead f s = _)⟩
  · exact ⟨_, _, (State.sessionFrame_eq : execFafortDictWrite f s = _)⟩
  · exact ⟨_, _, (State.sessionFrame_eq : execImageBegin f s = _)⟩
  · exact ⟨_, _, (State.sessionFrame_eq : execImageData f s = _)⟩
  · exact ⟨_, _, (State.sessionFrame_eq : execImageEnd f s = _)⟩
  · exact ⟨_, _, (State.sessionFrame_eq : execActivate f s = _)⟩
  · exact ⟨_, _, (State.sessionFrame_eq : execKeyWrite f s = _)⟩
  · exact ⟨_, _, (rfl : execClose f s = _)⟩

/-- Those whose request has no payload (Table 18-3). -/
theorem exec_frame_empty {c : Sys2Proof.Fafort → Instr} (hc : (c, type) ∈ [(Instr.identify, 1), (Instr.authBegin, 2), (Instr.imageEnd, 0x22),
    (Instr.activate, 0x23), (Instr.close, 0x3F)]) : ∃ body, exec (c f) s = s.frame type f (exactly 0) body := by
  simp only [List.mem_cons, Prod.mk.injEq, List.not_mem_nil, or_false] at hc
  rcases hc with ⟨rfl, rfl⟩ | ⟨rfl, rfl⟩ | ⟨rfl, rfl⟩ | ⟨rfl, rfl⟩ | ⟨rfl, rfl⟩
  · exact ⟨_, (rfl : execIdentify f s = _)⟩
  · exact ⟨_, (rfl : execAuthBegin f s = _)⟩
  · exact ⟨_, (State.sessionFrame_eq : execImageEnd f s = _)⟩
  · exact ⟨_, (State.sessionFrame_eq : execActivate f s = _)⟩
  · exact ⟨_, (rfl : execClose f s = _)⟩

/-! The session's own frames (R362). -/

/-- IDENTIFY is a contact of an authenticated session's context, and of nobody otherwise. -/
theorem exec_identify (ht : s.fafortTakes 1 f) (hp : f.payload = [])
    (hin : s.requested.fw.session.authed = true → ∀ h, s.requested.ctxOf serviceKey = some h → t = s.requested.touch h)
    (hout : s.requested.fw.session.authed = false ∨ s.requested.ctxOf serviceKey = none → t = s.requested) :
    exec (.identify f) s = .next (s.framed f 0 (uniqueIdBytes ++ le 2 (dfltOf 0x2000 2).toNat ++ le 4 t.release
      ++ byte (b2n (decide (t.phase = .recovery))) ++ [0]) t) := by
  change execIdentify f s = _
  unfold execIdentify
  refine State.frame_answer ht (exactly_zero hp) ?_
  dsimp only
  cases ha : s.requested.fw.session.authed with
  | false =>
    obtain rfl := hout (.inl ha)
    rfl
  | true =>
    cases hc : s.requested.ctxOf serviceKey with
    | none =>
      obtain rfl := hout (.inr hc)
      rfl
    | some h =>
      obtain rfl := hin ha h hc
      rfl

theorem exec_authBegin (ht : s.fafortTakes 2 f) (hp : f.payload = []) (ho : s.fw.session.open_ = false) (hl : s.fw.session.lockout = false) :
    let t : State := { s.requested with freeCount := s.freeCount + 1 }
    exec (.authBegin f) s = .next (s.framed f 0 (Config.random16 s.freeCount) (t.modSession fun x =>
      { Session.reset with failures := x.failures, lockout := x.lockout, lockoutUs := x.lockoutUs, requestUs := x.requestUs, open_ := true
                           nonce := Config.random16 s.freeCount, wrapKey := (t.fw.key 0x22).getD [] })) := by
  intro t
  change execAuthBegin f s = _
  unfold execAuthBegin
  exact State.frame_answer ht (exactly_zero hp) (if_neg (not_or.mpr ⟨Bool.eq_false_iff.mp ho, Bool.eq_false_iff.mp hl⟩))

section
variable (ht : s.fafortTakes 3 f) (hp : f.payload.length = 16) (ho : s.fw.session.open_ = true) (ha : s.fw.session.authed = false)
include ht hp ho ha

theorem exec_authProve_right (hr : f.payload = Config.hmac16 s.fw.session.wrapKey (s.fw.session.nonce ++ uniqueIdBytes))
    (hn : s.requested.newHost serviceKey = (some h, u)) : exec (.authProve f) s = .next (s.framed f 0 []
      ((u.modSession fun x => { x with authed := true, host := some h, failures := 0 }).event (srcManage 22) 0xC001 h (byte h))) := by
  change execAuthProve f s = _
  unfold execAuthProve
  refine State.frame_answer ht (exactly_self hp) ?_
  refine (if_neg (Bool.eq_false_iff.mp ((Bool.not_eq_false' _).mpr ho))).trans ((if_neg (Bool.eq_false_iff.mp ha)).trans ((if_pos hr).trans ?_))
  rw [hn]

theorem exec_authProve_wrong (hr : f.payload ≠ Config.hmac16 s.fw.session.wrapKey (s.fw.session.nonce ++ uniqueIdBytes)) :
    exec (.authProve f) s = .next (s.framed f 6 [] s.requested.authFailed) := by
  change execAuthProve f s = _
  unfold execAuthProve
  refine State.frame_answer ht (exactly_self hp) ?_
  exact (if_neg (Bool.eq_false_iff.mp ((Bool.not_eq_false' _).mpr ho))).trans ((if_neg (Bool.eq_false_iff.mp ha)).trans (if_neg hr))

end

theorem exec_close (ht : s.fafortTakes 0x3F f) (hp : f.payload = []) (ho : s.fw.session.open_ = true) :
    exec (.close f) s = .next (s.framed f 0 [] s.requested.endSession.cocoonCheck) := by
  change execClose f s = _
  unfold execClose
  exact State.frame_answer ht (exactly_zero hp) (if_pos ho)

theorem exec_sessionTimeout (ho : s.fw.session.open_ = true) (hm : s.manage = .running)
    (ht : s.fw.session.requestUs + 10000000 ≤ s.clk.timeUs) :
    exec .sessionTimeout s = .next (State.errReset s s.endSession.cocoonCheck) :=
  if_pos ⟨ho, hm, ht⟩

theorem exec_authLockoutEnd (hl : s.fw.session.lockout = true) (ht : s.fw.session.lockoutUs + 60000000 ≤ s.clk.timeUs) :
    exec .authLockoutEnd s = .next (s.modSession fun x => { x with lockout := false, failures := 0 }) :=
  congrArg Host.Outcome.next (if_pos ⟨hl, ht⟩)

end

/-- Settles O44, from what a frame comes to and the equation of each command. -/
theorem fafortSession : Obligations.FafortSession := by
  refine ⟨?frames, ?session, fun s => exec_sessionTimeout, fun s => exec_authLockoutEnd⟩
  case frames =>
    rintro s u f c type rfl hu
    refine ⟨fun hw hc => ?_, fun hw hp hq hc => ?_⟩
    · obtain ⟨fits, body, e⟩ := exec_frame (f := f) (s := s) hc
      exact e.trans (State.frame_bad hu hw)
    · obtain ⟨body, e⟩ := exec_frame_empty (f := f) (s := s) hc
      exact e.trans (State.frame_repeated hu hw (exactly_zero hp) hq)
  case session =>
    rintro s u f rfl
    exact ⟨fun ht hp t hin hout => exec_identify ht hp hin hout, exec_authBegin, fun h v => exec_authProve_right, exec_authProve_wrong,
      exec_close⟩

end Sys2Proof.Machine

/-! PROOF. The frames of an authenticated Fafort session: dictionary accesses, images and keys (R273, R358 to R363, R369). -/

namespace Sys2Proof.Machine

section
variable {s t u : State} {f : Sys2Proof.Fafort} {h : HostNo} {b : Bytes}

/-! Dictionary frames (R273, R285). -/

section
variable {first : Bytes}

/-- A read from the start takes the entry's content. -/
theorem State.fafortRead_start (ho : numAt b 4 4 = 0) (hr : t.read h (numAt b 0 2) (numAt b 2 1) = (0, first, u)) :
    t.fafortRead b h = (0, slice first 0 1024, u.modSession fun x => { x with readOf := some (numAt b 0 2, numAt b 2 1), first := first }) := by
  simp [State.fafortRead, ho, hr]

/-- A read that goes on with a content held whole. -/
theorem State.fafortRead_held (ho : numAt b 4 4 ≠ 0) (hq : t.fw.session.readOf = some (numAt b 0 2, numAt b 2 1))
    (hl : t.fw.session.first.length ≤ copyLimit) (hn : numAt b 4 4 ≤ t.fw.session.first.length) :
    t.fafortRead b h = (0, slice t.fw.session.first (numAt b 4 4) 1024, t.modSession fun x =>
      { x with readOf := some (numAt b 0 2, numAt b 2 1), first := t.fw.session.first }) := by
  simp [State.fafortRead, ho, hq, hl, Nat.not_lt.mpr hn]

/-- A read that goes on with a longer content, which is read again and must still be the same (R303). -/
theorem State.fafortRead_same (ho : numAt b 4 4 ≠ 0) (hq : t.fw.session.readOf = some (numAt b 0 2, numAt b 2 1))
    (hl : copyLimit < t.fw.session.first.length) (hr : t.read h (numAt b 0 2) (numAt b 2 1) = (0, t.fw.session.first, u))
    (hn : numAt b 4 4 ≤ t.fw.session.first.length) :
    t.fafortRead b h = (0, slice t.fw.session.first (numAt b 4 4) 1024, u.modSession fun x =>
      { x with readOf := some (numAt b 0 2, numAt b 2 1), first := t.fw.session.first }) := by
  simp [State.fafortRead, ho, hq, Nat.not_le.mpr hl, hr, Nat.not_lt.mpr hn]

end

/-- The value that a FAFORT_DICT_WRITE has gathered so far, its own bytes included. -/
def Session.gathered (q : Session) (b : Bytes) : Bytes :=
  (if q.writeSel = some (numAt b 0 2, numAt b 2 1) then q.writeBuf else []) ++ b.drop 4

theorem State.fafortWrite_part (hb : bit (numAt b 3 1) 0 = false) : t.fafortWrite b h = (0, [], t.modSession fun x =>
    { x with writeSel := some (numAt b 0 2, numAt b 2 1), writeBuf := t.fw.session.gathered b }) :=
  if_neg (Bool.eq_false_iff.mp hb)

theorem State.fafortWrite_last {code : Nat} (hb : bit (numAt b 3 1) 0 = true)
    (hw : (t.modSession fun x => { x with writeSel := none, writeBuf := [] }).write h (numAt b 0 2) (numAt b 2 1) (t.fw.session.gathered b) =
      (code, u)) :
    t.fafortWrite b h = if code ≠ 0 then (8, le 4 code, u) else (if numAt b 0 2 = 0x1010 then 1 else 0, [], u) := by
  unfold Session.gathered at hw
  unfold State.fafortWrite
  dsimp only
  rw [if_pos hb, hw]
  dsimp only [refusal]
  split
  · rfl
  · split <;> rfl

theorem exec_fafortDictRead {status : Nat} {out : Bytes} (ht : s.sessionTakes 0x10 f h t) (hl : f.payload.length = 8)
    (hr : t.fafortRead f.payload h = (status, out, u)) : exec (.fafortDictRead f) s = .next (s.framed f status out u) := by
  change execFafortDictRead f s = _
  exact State.sessionFrame_answer ht (exactly_self hl) hr

theorem exec_fafortDictWrite {status : Nat} {out : Bytes} (ht : s.sessionTakes 0x11 f h t) (hl : 4 ≤ f.payload.length)
    (hr : t.fafortWrite f.payload h = (status, out, u)) : exec (.fafortDictWrite f) s = .next (s.framed f status out u) := by
  change execFafortDictWrite f s = _
  exact State.sessionFrame_answer ht (decide_eq_true hl) hr

/-! Images (R358 to R360, R363). -/

theorem exec_imageBegin (ht : s.sessionTakes 0x20 f h t) (hl : f.payload.length = 512) (hn : t.fw.trialSlot = none) :
    let i := otherSlot t.fw.active
    let u := (t.modSlot i fun x => { x with st := .writing, factory := false, header := f.payload, body := [], trialBegun := false }).modSession
      fun x => { x with transfer := true, nextOffset := 0, lastChunk := none, cipher := [] }
    exec (.imageBegin f) s = .next (
      if t.fw.headerStatus f.payload ≠ 0 then s.framed f (t.fw.headerStatus f.payload) [] t
      else if t.fw.contentKey f.payload = none then s.framed f 7 [] t
      else s.framed f 0 (byte i) (u.event (srcManage 22) 0xC010 i (slotRelease i f.payload))) := by
  intro i u
  have noTrial : ¬t.fw.trialSlot.isSome = true := by rw [hn]; exact Bool.false_ne_true
  change execImageBegin f s = _
  unfold execImageBegin
  split_ifs with hs hk
  · exact State.sessionFrame_answer ht (exactly_self hl) ((if_neg noTrial).trans (if_pos hs))
  · exact State.sessionFrame_answer ht (exactly_self hl)
      ((if_neg noTrial).trans ((if_neg hs).trans (if_pos (Option.isNone_iff_eq_none.mpr hk))))
  · exact State.sessionFrame_answer ht (exactly_self hl)
      ((if_neg noTrial).trans ((if_neg hs).trans (if_neg (mt Option.isNone_iff_eq_none.mp hk))))

/-- A chunk in its place, whole words or the image's end (R363). -/
theorem exec_imageData {o : Nat} (ht : s.sessionTakes 0x21 f h t) (h5 : 5 ≤ f.payload.length) (hl : f.payload.length ≤ 1024)
    (hx : t.fw.session.transfer = true) (hq : t.fw.session.nextOffset = o) (ho : numAt f.payload 0 4 = o)
    (hc : t.fw.session.lastChunk ≠ some (o, (f.payload.drop 4).length))
    (hf : o + (f.payload.drop 4).length ≤ numAt t.fw.slots[otherSlot t.fw.active].header 16 4)
    (hw : (f.payload.drop 4).length % 4 = 0 ∨ o + (f.payload.drop 4).length = numAt t.fw.slots[otherSlot t.fw.active].header 16 4) :
    let chunk := f.payload.drop 4
    exec (.imageData f) s = .next (s.framed f 0 (le 4 (o + chunk.length)) (t.modSession fun x =>
      { x with cipher := x.cipher ++ chunk, nextOffset := o + chunk.length, lastChunk := some (o, chunk.length) })) := by
  intro chunk
  subst ho
  change execImageData f s = _
  unfold execImageData
  refine State.sessionFrame_answer ht (decide_eq_true ⟨h5, hl⟩) ?_
  refine (if_neg (Bool.eq_false_iff.mp ((Bool.not_eq_false' _).mpr hx))).trans ((if_neg hc).trans ((if_neg (not_not.mpr hq.symm)).trans ?_))
  exact if_neg (not_or.mpr ⟨Nat.not_lt.mpr hf, fun ⟨h4, he⟩ => hw.elim h4 he⟩)

theorem exec_imageEnd (ht : s.sessionTakes 0x22 f h t) (hp : f.payload = []) :
    let i := otherSlot t.fw.active
    let header := t.fw.slots[i].header
    t.fw.session.transfer = true → numAt header 16 4 ≤ t.fw.session.nextOffset →
    let key := (t.fw.contentKey header).getD []
    let body := Config.gcmDecrypt key (slice header 80 12) (slice header 0 256) t.fw.session.cipher
    let u := t.modSession fun x => { x with transfer := false, cipher := [] }
    exec (.imageEnd f) s = .next (
      if Config.gcmTag key (slice header 80 12) (slice header 0 256) t.fw.session.cipher = slice header 256 16
          ∧ Config.sha256 body = slice header 92 32 then
        s.framed f 0 (slotRelease i header) (((u.modSlot i fun x =>
          { x with st := .valid, body := body }).modFw fun w => { w with lastUpdate := 0 }).event (srcManage 22) 0xC011 i (slotRelease i header))
      else
        s.framed f 6 [] (((u.modSlot i fun x => { x with st := .failed }).modFw fun w =>
          { w with lastUpdate := 6 }).event (srcManage 22) 0xC012 i (slotRelease i header ++ byte 6))) := by
  intro i header hx hn key body u
  have whole : ¬((!t.fw.session.transfer) = true ∨ t.fw.session.nextOffset < numAt header 16 4) :=
    not_or.mpr ⟨Bool.eq_false_iff.mp ((Bool.not_eq_false' _).mpr hx), Nat.not_lt.mpr hn⟩
  change execImageEnd f s = _
  unfold execImageEnd
  split_ifs with hok
  · exact State.sessionFrame_answer ht (exactly_zero hp) ((if_neg whole).trans (if_pos ((Bool.and_eq_true ..).mpr (hok.imp decide_eq_true decide_eq_true))))
  · refine State.sessionFrame_answer ht (exactly_zero hp) ((if_neg whole).trans (if_neg fun hb => hok ?_))
    exact ((Bool.and_eq_true ..).mp hb).imp of_decide_eq_true of_decide_eq_true

/-! Keys (R369). -/

theorem exec_keyWrite (ht : s.sessionTakes 0x30 f h t) (hl : f.payload.length = 44) :
    let slot := numAt f.payload 0 1
    keySlotOk slot = true → (∀ k ∈ t.fw.keys, k.slot = slot → k.locked = false) →
    exec (.keyWrite f) s = .next ((Config.keyUnwrap t.fw.session.wrapKey (f.payload.drop 4)).elim
      (s.framed f 7 [] (t.event (srcManage 24) 0xC031 0xFF (byte slot ++ byte 7)))
      fun key => s.framed f 0 (slice (Config.sha256 key) 0 4) ((t.modFw fun w =>
        { w with keys := w.keys.filter (fun k => decide (k.slot ≠ slot))
          ++ [{ slot := slot, key := key, locked := bit (numAt f.payload 1 1) 0 }] }).event (srcManage 24) 0xC030 0xFF (byte slot))) := by
  intro slot hok hk
  have writable : ¬((!keySlotOk slot) = true ∨ (t.fw.keys.any fun k => decide (k.slot = slot) && k.locked) = true) := by
    refine not_or.mpr ⟨Bool.eq_false_iff.mp ((Bool.not_eq_false' _).mpr hok), fun ha => ?_⟩
    obtain ⟨k, hm, hb⟩ := List.any_eq_true.mp ha
    obtain ⟨hs, hlocked⟩ := (Bool.and_eq_true ..).mp hb
    exact Bool.eq_false_iff.mp (hk k hm (of_decide_eq_true hs)) hlocked
  change execKeyWrite f s = _
  unfold execKeyWrite
  cases hu : Config.keyUnwrap t.fw.session.wrapKey (f.payload.drop 4) with
  | none =>
    refine State.sessionFrame_answer ht (exactly_self hl) ((if_neg writable).trans ?_)
    dsimp only
    rw [hu]
    rfl
  | some key =>
    refine State.sessionFrame_answer ht (exactly_self hl) ((if_neg writable).trans ?_)
    dsimp only
    rw [hu]

end

/-- Settles O45, from what each frame answers. -/
theorem fafortFrames : Obligations.FafortFrames := by
  intro s t f h
  refine ⟨fun ht hl => ⟨fun b u ho hr => exec_fafortDictRead ht hl (State.fafortRead_start ho hr), fun ho hq hc hn => ?held,
    fun u ho hq hc hr hn => exec_fafortDictRead ht hl (State.fafortRead_same ho hq hc hr hn)⟩, fun ht hl => ⟨fun hb => ?part, fun code u hb hw => ?last⟩,
    exec_imageBegin, fun ht h5 hl hx ho hc hf hw => exec_imageData ht h5 hl hx rfl ho hc hf hw, exec_imageEnd, exec_keyWrite⟩
  case held => exact exec_fafortDictRead ht hl (State.fafortRead_held ho hq hc hn)
  case part => exact exec_fafortDictWrite ht hl (State.fafortWrite_part hb)
  case last =>
    have e := State.fafortWrite_last hb hw
    by_cases hc : code ≠ 0
    · rw [if_pos hc] at e ⊢
      exact exec_fafortDictWrite ht hl e
    · rw [if_neg hc] at e ⊢
      exact exec_fafortDictWrite ht hl e

end Sys2Proof.Machine

/-! PROOF. Activation, trial and fallback (R364 to R366), command by command. -/

namespace Sys2Proof.Machine

section
variable {s t : State} {i : FwSlot}

section
variable {f : Sys2Proof.Fafort} {h : HostNo} (ht : s.sessionTakes 0x23 f h t) (hp : f.payload = []) (hi : otherSlot t.fw.active = i)
  (hv : t.fw.slots[i].st = .valid) (hn : t.fw.secVersion ≤ numAt t.fw.slots[i].header 12 4) (ho : t.fw.trialSlot = none)
include ht hp hi hv hn ho

/-- ACTIVATE of a VALID slot that is not too old is recorded and accepted: in recovery the slot is TRIAL at once, else a TENDING request is
placed (R364, R368). -/
theorem exec_activate : exec (.activate f) s = .next (s.framed f 0 (byte i)
    (if (t.event (srcManage 22) 0xC020 i (byte i)).phase = .recovery then (t.event (srcManage 22) 0xC020 i (byte i)).markTrial i
      else ((t.event (srcManage 22) 0xC020 i (byte i)).placeRequest h 5 3).modFw fun w =>
        { w with activating := some i, activateUs := (t.event (srcManage 22) 0xC020 i (byte i)).clk.timeUs })) := by
  have admitted : ¬(t.fw.slots[i].st ≠ .valid ∨ numAt t.fw.slots[i].header 12 4 < t.fw.secVersion ∨ t.fw.trialSlot.isSome = true) := by
    refine not_or.mpr ⟨not_not.mpr hv, not_or.mpr ⟨Nat.not_lt.mpr hn, ?_⟩⟩
    rw [ho]
    exact Bool.false_ne_true
  subst hi
  change execActivate f s = _
  unfold execActivate
  refine State.sessionFrame_answer ht (exactly_zero hp) ((if_neg admitted).trans ?_)
  dsimp only
  split <;> rfl

theorem exec_activate_running (hr : (t.event (srcManage 22) 0xC020 i (byte i)).phase ≠ .recovery) :
    exec (.activate f) s = .next (s.framed f 0 (byte i) (((t.event (srcManage 22) 0xC020 i (byte i)).placeRequest h 5 3).modFw fun w =>
      { w with activating := some i, activateUs := (t.event (srcManage 22) 0xC020 i (byte i)).clk.timeUs })) := by
  rw [exec_activate ht hp hi hv hn ho, if_neg hr]

theorem exec_activate_recovery (hr : (t.event (srcManage 22) 0xC020 i (byte i)).phase = .recovery) :
    exec (.activate f) s = .next (s.framed f 0 (byte i) ((t.event (srcManage 22) 0xC020 i (byte i)).markTrial i)) := by
  rw [exec_activate ht hp hi hv hn ho, if_pos hr]

end

theorem exec_activation (hi : s.fw.activating = some i) (hm : s.inModes [.tending] = true) (hs : s.modes.safe = false)
    (hr : s.manage = .running) (hv : s.fw.slots[i].st = .valid) :
    let t := ((s.markTrial i).modFw fun w => { w with tendingHeld := some s.modes.orderCount }).modModes fun m =>
      { m with orderCount := s.modes.orderCount + 1 }
    exec .activation s = .next (State.errReset s (t.heartbeats.warmReset 2)) := by
  intro t
  change execActivation s = _
  rw [execActivation, hi]
  exact if_pos ⟨hm, (Bool.not_eq_true' _).mpr hs, hr, hv⟩

section
variable (hi : s.fw.activating = some i) (hd : s.fw.activateUs + 60000000 ≤ s.clk.timeUs) (hr : s.manage = .running)
include hi hd hr

theorem exec_activateCancelled_host {h : HostNo} (hc : (s.modFw fun w => { w with activating := none }).ctxOf serviceKey = some h) :
    exec .activateCancelled s = .next ((((s.modFw fun w => { w with activating := none }).modHost h fun x =>
      { x with request := if x.request = 3 then 0 else x.request }).chooseRequest).event (srcManage 0) 0xC024 i (byte i)) := by
  change execActivateCancelled s = _
  rw [execActivateCancelled, hi]
  dsimp only
  rw [if_pos ⟨hd, hr⟩, hc]

theorem exec_activateCancelled_nobody (hc : (s.modFw fun w => { w with activating := none }).ctxOf serviceKey = none) :
    exec .activateCancelled s =
      .next ((s.modFw fun w => { w with activating := none }).event (srcManage 0) 0xC024 i (byte i)) := by
  change execActivateCancelled s = _
  rw [execActivateCancelled, hi]
  dsimp only
  rw [if_pos ⟨hd, hr⟩, hc]

end

theorem exec_trialConfirm (hi : s.fw.trial = some i) (hr : s.manage = .running) (hc : s.confirmable i = true) :
    let t := ((s.modSlot i fun x => { x with st := .confirmed }).modSlot (otherSlot i) fun x => { x with st := .valid }).modFw fun w =>
      { w with trial := none, trialLeftMs := 0, secVersion := max w.secVersion (numAt s.fw.slots[i].header 12 4), rollbackDue := false }
    exec .trialConfirm s = .next (t.withdrawTending.event (srcManage 0) 0xC022 i (byte i)) := by
  intro t
  change execTrialConfirm s = _
  rw [execTrialConfirm, hi]
  exact if_pos ⟨hr, hc⟩

theorem exec_fallback (hi : s.fw.trial = some i) (hr : s.manage = .running) (hd : s.fw.rollbackDue = true ∨ s.fw.trialLeftMs = 0) :
    exec .fallback s = .next (State.errReset s ((s.failTrial (if s.fw.rollbackDue then 2 else 1) i).warmReset 4)) := by
  change execFallback s = _
  rw [execFallback, hi]
  exact if_pos ⟨hr, hd⟩

end

/-- Settles O46, from the equation of each command. -/
theorem activationCommands : Obligations.ActivationCommands := by
  refine ⟨fun s t f h ht hp => ?activate, fun s i => exec_activation, fun s i hi hd hr => ?cancelled, fun s i => exec_trialConfirm,
    fun s i => exec_fallback⟩
  case activate =>
    intro i hv hn ho
    exact ⟨exec_activate_running ht hp rfl hv hn ho, exec_activate_recovery ht hp rfl hv hn ho⟩
  case cancelled =>
    exact ⟨fun h => exec_activateCancelled_host hi hd hr, exec_activateCancelled_nobody hi hd hr⟩

end Sys2Proof.Machine

/-! PROOF. The rows of the channels, the cores, the interrupt controller, the scrubber and the recorder leave the plant as it was
(R270, R283, R317, R327, R337, R346, R361). -/

namespace Sys2Proof.Machine

theorem State.samePlant.refl (s : State) : s.samePlant s :=
  ⟨rfl, rfl, rfl, rfl, rfl, rfl, rfl, rfl, rfl, rfl, rfl, rfl, rfl, rfl, rfl⟩

theorem State.samePlant.trans {s t u : State} (h : s.samePlant t) (h' : t.samePlant u) : s.samePlant u := by
  obtain ⟨cells, loops, groups, bus, ledger, strings, packs, seq, thermal, lanes, dict, modes, pins, phase, clk⟩ := h
  obtain ⟨cells', loops', groups', bus', ledger', strings', packs', seq', thermal', lanes', dict', modes', pins', phase', clk'⟩ := h'
  exact ⟨cells'.trans cells, loops'.trans loops, groups'.trans groups, bus'.trans bus, ledger'.trans ledger, strings'.trans strings,
    packs'.trans packs, seq'.trans seq, thermal'.trans thermal, lanes'.trans lanes, dict'.trans dict, modes'.trans modes,
    pins'.trans pins, phase'.trans phase, clk'.trans clk⟩

/-- Recording and sending leave the plant as it was. -/
theorem State.Told.samePlant {s t : State} (h : s.Told t) : s.samePlant t := by
  obtain ⟨_, _, _, _, _, rfl⟩ := h
  exact .refl s

section
variable {s0 s t : State} (h : s0.samePlant s)
include h

/-! The writers of what is no part of the plant, recording and sending. -/

theorem State.samePlant.modCan (p : CanNo) (f : Can → Can) : s0.samePlant (s.modCan p f) := h.trans (.refl s)
theorem State.samePlant.modHost (x : HostNo) (f : HostCtx → HostCtx) : s0.samePlant (s.modHost x f) := h.trans (.refl s)
theorem State.samePlant.modTw (p : TwNo) (f : Tw → Tw) : s0.samePlant (s.modTw p f) := h.trans (.refl s)
theorem State.samePlant.modReg (r : Fin 256) (f : Reg → Reg) : s0.samePlant (s.modReg r f) := h.trans (.refl s)
theorem State.samePlant.modDap (d : DapNo) (f : Dap → Dap) : s0.samePlant (s.modDap d f) := h.trans (.refl s)
theorem State.samePlant.modCore (c : CoreNo) (f : Core → Core) : s0.samePlant (s.modCore c f) := h.trans (.refl s)
theorem State.samePlant.modSrc (n : SharedNo) (f : Src → Src) : s0.samePlant (s.modSrc n f) := h.trans (.refl s)
theorem State.samePlant.modRec (f : Recorder → Recorder) : s0.samePlant (s.modRec f) := h.trans (.refl s)
theorem State.samePlant.modFw (f : Firmware → Firmware) : s0.samePlant (s.modFw f) := h.trans (.refl s)
theorem State.samePlant.modSession (f : Session → Session) : s0.samePlant (s.modSession f) := h.modFw _
theorem State.samePlant.modSlot (i : FwSlot) (f : Fw → Fw) : s0.samePlant (s.modSlot i f) := h.modFw _
theorem State.samePlant.send (m : Msg) : s0.samePlant (s.send m) := h.trans (.refl s)
theorem State.samePlant.answer (code : Nat) (b : Bytes) (n : Nat) : s0.samePlant (s.answer code b n) := h.trans (.refl s)
theorem State.samePlant.reply (r : Reply) : s0.samePlant { s with reply := r } := h.trans (.refl s)
theorem State.samePlant.scrubOrder (q : List CoreNo) : s0.samePlant { s with scrubOrder := q } := h.trans (.refl s)

theorem State.samePlant.event (src code inst : Nat) (b : Bytes) : s0.samePlant (s.event src code inst b) :=
  h.trans (s.event_noted src code inst b).told.samePlant

theorem State.samePlant.emcyOn (p : CanNo) (code : Nat) (b : Bytes) : s0.samePlant (s.emcyOn p code b) :=
  h.trans (s.emcyOn_told p code b).samePlant

theorem State.samePlant.emcy (code : Nat) (b : Bytes) : s0.samePlant (s.emcy code b) := h.trans (s.emcy_told code b).samePlant

theorem State.samePlant.errReset (before : State) : s0.samePlant (State.errReset before s) :=
  h.trans (State.errReset_told before s).samePlant

omit h in
theorem State.samePlant.ite {p : Prop} [Decidable p] (hs : s0.samePlant s) (ht : s0.samePlant t) :
    s0.samePlant (if p then s else t) := by
  split
  · exact hs
  · exact ht

theorem State.samePlant.over {α : Type} {f : α → State → State} (hf : ∀ a u, s0.samePlant u → s0.samePlant (f a u)) (xs : List α) :
    s0.samePlant (s.over xs f) := State.over_ind (P := s0.samePlant) hf xs s h

theorem State.samePlant.each {n : Nat} {f : Fin n → State → State} (hf : ∀ i u, s0.samePlant u → s0.samePlant (f i u)) :
    s0.samePlant (s.each n f) := State.each_ind (P := s0.samePlant) hf s h

/-- A contact restarts the silence of its context, and the lease when it holds the lock. -/
theorem State.samePlant.touch (x : HostNo) : s0.samePlant (s.touch x) := by
  unfold State.touch
  exact .ite (h.trans (.refl s)) (h.modHost x _)

/-! CAN (R270, R271, R275). -/

theorem State.samePlant.sendBeat (p : CanNo) : s0.samePlant (s.sendBeat p) := (h.send _).modCan p _

theorem State.samePlant.sendTpdo (p : CanNo) (n : Fin 32) : s0.samePlant (s.sendTpdo p n) := by
  unfold State.sendTpdo
  extract_lets b hold t
  have ht : s0.samePlant t := .ite (h.send _) h
  clear_value t
  exact ht.trans (.refl t)

theorem State.samePlant.checkTpdo (n : Fin 32) : s0.samePlant (s.checkTpdo n) := by
  unfold State.checkTpdo State.raiseTpdo
  split
  next p _ => exact .ite (.ite (h.trans (.refl s)) (h.sendTpdo p n)) h
  next => exact h

/-! Two-wire ports (R315 to R321). -/

theorem State.samePlant.frameFault (p : TwNo) (x : HostNo) (n : Nat) : s0.samePlant (s.frameFault p x n) := (h.modTw p _).modHost x _

theorem State.samePlant.notifyNack (p : TwNo) : s0.samePlant (s.notifyNack p) := by
  unfold State.notifyNack
  split
  · exact .ite (h.modTw p _) ((h.modTw p _).event _ _ _ _)
  · exact h

theorem State.samePlant.sendNotify (p : TwNo) (acked : Bool) : s0.samePlant (s.sendNotify p acked) := by
  have ht : ∀ m f, s0.samePlant (((s.send m).twRan p).modTw p f) := fun m f => ((h.send m).modTw p _).modTw p f
  unfold State.sendNotify
  split
  · exact .ite ((ht _ _).modTw p _) ((ht _ _).notifyNack p)
  · exact h

theorem State.samePlant.pollFailed (r : Fin 256) : s0.samePlant (s.pollFailed r) := by
  unfold State.pollFailed
  extract_lets t x
  have ht : s0.samePlant t := h.modReg r _
  exact .ite ((ht.modReg r _).event _ _ _ _) ht

/-! Cores, interrupts, the scrubber and the DAP channels (R330 to R344). -/

theorem State.samePlant.wakeCore (c : CoreNo) : s0.samePlant (s.wakeCore c) := by
  unfold State.wakeCore
  exact .ite (h.modCore c _) h

theorem State.samePlant.refreshSrc (n : SharedNo) : s0.samePlant (s.refreshSrc n) := (h.modSrc n _).wakeCore _

theorem State.samePlant.accrue (n : SharedNo) : s0.samePlant (s.accrue n) := by
  unfold State.accrue
  exact .ite ((h.modSrc n _).event _ _ _ _) (h.modSrc n _)

theorem State.samePlant.irqEvent (n : SharedNo) : s0.samePlant (s.irqEvent n) := by
  unfold State.irqEvent
  exact .ite h (.ite ((h.modSrc n _).refreshSrc n) (h.accrue n))

theorem State.samePlant.privSet (c : CoreNo) (p : Fin 32) (high : Bool) : s0.samePlant (s.privSet c p high) := by
  unfold State.privSet
  exact .ite ((h.modCore c _).wakeCore c) h

theorem State.samePlant.claimSource (c : CoreNo) (src : IrqSource) : s0.samePlant (s.claimSource c src) := by
  cases src with
  | priv d p => exact h.modCore c _
  | shared n => exact (h.modSrc n _).modCore c _

theorem State.samePlant.writeSrcCfg (n : SharedNo) (word : BitVec 32) : s0.samePlant (s.writeSrcCfg n word) := (h.modSrc n _).refreshSrc n

theorem State.samePlant.scrubLevel (c : CoreNo) : s0.samePlant (s.scrubLevel c) := h.privSet c 9 _

theorem State.samePlant.storeScrub (c : CoreNo) (w : BitVec 12 × BitVec 32) : s0.samePlant (s.storeScrub c w) := (h.modCore c _).scrubLevel c

theorem State.samePlant.nextScrub : s0.samePlant s.nextScrub := by
  unfold State.nextScrub
  split
  next c _ _ => exact h.modCore c _
  next => exact h

theorem State.samePlant.endScrub (c : CoreNo) (aborted : Bool) (corr uncorr : Nat) (bad : BitVec 32) :
    s0.samePlant (s.endScrub c aborted corr uncorr bad) := by
  unfold State.endScrub
  extract_lets t u xip v w
  have hu : s0.samePlant u := (h.modCore c _).scrubOrder _
  have hv : s0.samePlant v := .ite hu ((hu.event _ _ _ _).irqEvent 45)
  exact ((hv.event _ _ _ _).scrubLevel c).nextScrub

theorem State.samePlant.endDap (d : DapNo) (code : Nat) : s0.samePlant (s.endDap d code) := (h.modDap d _).privSet _ 8 _

/-! The recorder (R347, R349). -/

theorem State.samePlant.closeRecs (p : Rec → Bool) (pfi : Bool) : s0.samePlant (s.closeRecs p pfi) := h.modRec _

theorem State.samePlant.writeRec (r : Rec) : s0.samePlant (s.writeRec r) := h.trans (s.writeRec_noted r).told.samePlant

end

/-! The rows. -/

/-- If the command goes on, the plant is as it was. -/
def Out.samePlant (s : State) (o : Out) : Prop := ∀ t, o = .next t → s.samePlant t

section
variable {s : State}

theorem Out.samePlant.next {t : State} (h : s.samePlant t) : Out.samePlant s (.next t) := fun _ e => Host.Outcome.next.inj e ▸ h

theorem Out.samePlant.settle {t : State} (h : s.samePlant t) : Out.samePlant s (settle s t) := .next (h.errReset s)

theorem Out.samePlant.ite {p : Prop} [Decidable p] {o o' : Out} (h : Out.samePlant s o) (h' : Out.samePlant s o') :
    Out.samePlant s (if p then o else o') := by
  split
  · exact h
  · exact h'

/-- A row with one condition that changes nothing where it does not hold. -/
theorem Out.samePlant.guard {p : Prop} [Decidable p] {o : Out} (h : Out.samePlant s o) : Out.samePlant s (if p then o else .next s) :=
  .ite h (.next (.refl s))

end

section
variable (s : State)

/-! The CAN ports' own rows. -/

theorem execCanBusOff_samePlant (p : CanNo) : Out.samePlant s (execCanBusOff p s) := by
  unfold execCanBusOff
  exact .guard (.settle (((State.samePlant.refl s).modCan p _).event _ _ _ _))

theorem execBusOffRecovery_samePlant (p : CanNo) : Out.samePlant s (execBusOffRecovery p s) := by
  unfold execBusOffRecovery
  exact .guard (.settle (((State.samePlant.refl s).modCan p _).emcy _ _))

theorem execErrorPassive_samePlant (p : CanNo) (into : Bool) : Out.samePlant s (execErrorPassive p into s) := by
  unfold execErrorPassive
  exact .guard (.settle ((State.samePlant.refl s).modCan p _))

theorem execNmtStart_samePlant (p : CanNo) : Out.samePlant s (execNmtStart p s) := by
  unfold execNmtStart
  exact .guard (.next ((State.samePlant.refl s).modCan p _))

theorem execNmtStop_samePlant (p : CanNo) : Out.samePlant s (execNmtStop p s) := by
  unfold execNmtStop
  exact .guard (.next (((State.samePlant.refl s).modCan p _).modCan p _))

theorem execNmtEnterPreoperational_samePlant (p : CanNo) : Out.samePlant s (execNmtEnterPreoperational p s) := by
  unfold execNmtEnterPreoperational
  exact .guard (.next ((State.samePlant.refl s).modCan p _))

theorem execHeartbeatReceived_samePlant (p : CanNo) (node : Nat) : Out.samePlant s (execHeartbeatReceived p node s) := by
  unfold execHeartbeatReceived
  exact .guard (.settle (((State.samePlant.refl s).over (fun x _ hu => hu.touch x) _).modCan p _))

theorem execHeartbeatLost_samePlant (p : CanNo) (node : Nat) : Out.samePlant s (execHeartbeatLost p node s) := by
  unfold execHeartbeatLost
  exact .guard (.settle ((((State.samePlant.refl s).modCan p _).event _ _ _ _).emcy _ _))

theorem execHeartbeatProduce_samePlant (p : CanNo) : Out.samePlant s (execHeartbeatProduce p s) := by
  unfold execHeartbeatProduce
  exact .guard (.next ((State.samePlant.refl s).sendBeat p))

theorem execTimeReceived_samePlant (p : CanNo) (days ms : Nat) : Out.samePlant s (execTimeReceived p days ms s) := by
  unfold execTimeReceived
  exact .guard (.next (.refl s))

theorem execLssConfigureNodeId_samePlant (p : CanNo) (node : Nat) : Out.samePlant s (execLssConfigureNodeId p node s) := by
  unfold execLssConfigureNodeId
  exact .guard (.ite (.next (((State.samePlant.refl s).modCan p _).send _)) (.next ((State.samePlant.refl s).send _)))

theorem execSyncReceived_samePlant (p : CanNo) : Out.samePlant s (execSyncReceived p s) := by
  unfold execSyncReceived
  exact .guard (.next ((State.samePlant.refl s).each fun n u hu => .ite (.ite (hu.sendTpdo p n) (hu.trans (.refl u))) hu))

theorem execTpdoEventCheck_samePlant : Out.samePlant s (execTpdoEventCheck s) := by
  have checked : s.samePlant { s with checkUs := s.clk.timeUs } := .refl s
  unfold execTpdoEventCheck
  exact .guard (.next (checked.each fun n _ hu => hu.checkTpdo n))

theorem execTpdoEventTimer_samePlant (n : Fin 32) : Out.samePlant s (execTpdoEventTimer n s) := by
  have hs := State.samePlant.refl s
  have free : s.samePlant { s with tpdoInhibit := s.tpdoInhibit.set n false } := .refl s
  unfold execTpdoEventTimer
  split
  next p _ => exact .ite (.next hs) (.ite (.ite (.next hs) (.next (.ite (free.sendTpdo p n) free))) (.guard (.next (hs.sendTpdo p n))))
  next => exact .next free

theorem execEmcyInhibitExpiry_samePlant (p : CanNo) : Out.samePlant s (execEmcyInhibitExpiry p s) := by
  have hs := State.samePlant.refl s
  unfold execEmcyInhibitExpiry
  refine .next (.ite ?_ hs)
  split
  · exact (hs.modCan p _).emcyOn p _ _
  · exact hs.modCan p _

/-! The two-wire ports' lines and transactions. -/

theorem execQuickCommand_samePlant (p : TwNo) : Out.samePlant s (execQuickCommand p s) := by
  unfold execQuickCommand
  exact .next (.ite ((State.samePlant.refl s).modTw p _) (.refl s))

theorem execAlertResponse_samePlant (p : TwNo) (rival : Option (BitVec 7)) (pec : Bool) :
    Out.samePlant s (execAlertResponse p rival pec s) := by
  unfold execAlertResponse
  exact .guard (.guard (.next (((State.samePlant.refl s).answer _ _ _).modTw p _)))

theorem execErrCmd_samePlant (p : TwNo) : Out.samePlant s (execErrCmd p s) := by
  unfold execErrCmd
  exact .next (.ite ((State.samePlant.refl s).modTw p _) (.refl s))

theorem execTwBusError_samePlant (p : TwNo) (src : Option (BitVec 7)) : Out.samePlant s (execTwBusError p src s) := by
  unfold execTwBusError
  extract_lets t
  have ht : s.samePlant t := (State.samePlant.refl s).modTw p _
  refine .guard ?_
  split
  · split
    next x _ => exact .next (ht.frameFault p x 3)
    next => exact .next (ht.modTw p _)
  · exact .next ht

theorem execStretchLimit_samePlant (p : TwNo) : Out.samePlant s (execStretchLimit p s) := by
  unfold execStretchLimit
  split
  · exact .next (.ite ((State.samePlant.refl s).modTw p _) (.refl s))
  · exact .next (.refl s)

theorem execPortSleep_samePlant (p : TwNo) : Out.samePlant s (execPortSleep p s) := by
  unfold execPortSleep
  exact .guard (.next ((State.samePlant.refl s).modTw p _))

theorem execAddressRecognisedAsleep_samePlant (p : TwNo) : Out.samePlant s (execAddressRecognisedAsleep p s) := by
  unfold execAddressRecognisedAsleep
  exact .next (.ite ((State.samePlant.refl s).modTw p _) (.refl s))

theorem execTwTimeout_samePlant (p : TwNo) (controller : Bool) : Out.samePlant s (execTwTimeout p controller s) := by
  unfold execTwTimeout
  exact .guard (.next (((State.samePlant.refl s).modTw p _).event _ _ _ _))

theorem execBusRecovery_samePlant (p : TwNo) (sda : List Bool) : Out.samePlant s (execBusRecovery p sda s) := by
  have hs := State.samePlant.refl s
  unfold execBusRecovery
  exact .guard (.ite (.next (hs.modTw p _)) (.ite (.next (hs.modTw p _)) (.next ((hs.modTw p _).event _ _ _ _))))

theorem execPortFaultCheck_samePlant (p : TwNo) (linesHigh : Bool) : Out.samePlant s (execPortFaultCheck p linesHigh s) := by
  have hs := State.samePlant.refl s
  unfold execPortFaultCheck
  exact .guard (.ite (.next ((hs.modTw p _).event _ _ _ _)) (.next (hs.modTw p _)))

theorem execHostNotify_samePlant (p : TwNo) (acked : Bool) : Out.samePlant s (execHostNotify p acked s) := by
  unfold execHostNotify
  exact .next (.ite ((State.samePlant.refl s).sendNotify p acked) (.refl s))

theorem execHostNotifyRetry_samePlant (p : TwNo) (acked : Bool) : Out.samePlant s (execHostNotifyRetry p acked s) := by
  unfold execHostNotifyRetry
  exact .next (.ite ((State.samePlant.refl s).sendNotify p acked) (.refl s))

theorem execArbitrationLost_samePlant (p : TwNo) (own : OwnFrame) : Out.samePlant s (execArbitrationLost p own s) := by
  unfold execArbitrationLost
  extract_lets t u
  have ht : s.samePlant t := (State.samePlant.refl s).modTw p _
  have hu : s.samePlant u := ht.modTw p _
  refine .guard (.ite (.next ht) ?_)
  split
  · exact .next ((hu.modTw p _).notifyNack p)
  · split
    next r _ => exact .next (hu.pollFailed r)
    next => exact .next hu

/-! The Fafort rows (R361 to R363, R369). -/

/-- What a frame's body leaves of the plant, the frame leaves. -/
theorem State.frame_samePlant {type : Nat} {f : Sys2Proof.Fafort} {fits : Nat → Bool} {body : Bytes → State → Answer}
    (hb : ∀ b t, s.samePlant t → s.samePlant (body b t).2.2) : Out.samePlant s (s.frame type f fits body) := by
  unfold State.frame
  extract_lets q u
  have hu : s.samePlant u := (State.samePlant.refl s).modSession _
  exact .guard (.ite (.next (hu.reply _)) (.ite (.next (hu.reply _)) (.settle (((hb f.payload u hu).modSession _).reply _))))

theorem State.sessionFrame_samePlant {type : Nat} {f : Sys2Proof.Fafort} {fits : Nat → Bool} {body : Bytes → HostNo → State → Answer}
    (hb : ∀ b x t, s.samePlant t → s.samePlant (body b x t).2.2) : Out.samePlant s (s.sessionFrame type f fits body) := by
  unfold State.sessionFrame
  refine s.frame_samePlant fun b t ht => ?_
  split
  next x _ _ => exact hb b x _ (ht.touch x)
  next => exact ht

theorem execAuthLockoutEnd_samePlant : Out.samePlant s (execAuthLockoutEnd s) := by
  unfold execAuthLockoutEnd
  exact .next (.ite ((State.samePlant.refl s).modSession _) (.refl s))

theorem execIdentify_samePlant (f : Sys2Proof.Fafort) : Out.samePlant s (execIdentify f s) := by
  unfold execIdentify
  refine s.frame_samePlant fun b t ht => ?_
  dsimp only
  split
  next x _ _ => exact ht.touch x
  next => exact ht

theorem execAuthBegin_samePlant (f : Sys2Proof.Fafort) : Out.samePlant s (execAuthBegin f s) := by
  unfold execAuthBegin
  refine s.frame_samePlant fun b t ht => ?_
  split
  · exact ht
  · have drawn : s.samePlant { t with freeCount := t.freeCount + 1 } := ht.trans (.refl t)
    exact drawn.modSession _

theorem execImageBegin_samePlant (f : Sys2Proof.Fafort) : Out.samePlant s (execImageBegin f s) := by
  unfold execImageBegin
  refine s.sessionFrame_samePlant fun header _ t ht => ?_
  extract_lets i status u v
  split
  · exact ht
  · split
    · exact ht
    · split
      · exact ht
      · have begun : s.samePlant v := (ht.modSlot i _).modSession _
        clear_value v
        dsimp only
        exact begun.event _ _ _ _

theorem execImageData_samePlant (f : Sys2Proof.Fafort) : Out.samePlant s (execImageData f s) := by
  unfold execImageData
  refine s.sessionFrame_samePlant fun b _ t ht => ?_
  extract_lets offset chunk q i n full
  split
  · exact ht
  · split
    · exact ht
    · split
      · exact ht
      · split
        · exact ht
        · exact ht.modSession _

theorem execImageEnd_samePlant (f : Sys2Proof.Fafort) : Out.samePlant s (execImageEnd f s) := by
  unfold execImageEnd
  refine s.sessionFrame_samePlant fun _ _ t ht => ?_
  extract_lets q i h key body ok u valid failed
  have hu : s.samePlant u := ht.modSession _
  have hvalid : s.samePlant valid := (hu.modSlot i _).modFw _
  have hfailed : s.samePlant failed := (hu.modSlot i _).modFw _
  clear_value valid failed
  split
  · exact ht
  · split
    · dsimp only
      exact hvalid.event _ _ _ _
    · dsimp only
      exact hfailed.event _ _ _ _

theorem keyRefused_samePlant {t : State} (ht : s.samePlant t) (slot status : Nat) : s.samePlant (keyRefused slot status t).2.2 := by
  unfold keyRefused
  dsimp only
  exact ht.event _ _ _ _

theorem execKeyWrite_samePlant (f : Sys2Proof.Fafort) : Out.samePlant s (execKeyWrite f s) := by
  unfold execKeyWrite
  refine s.sessionFrame_samePlant fun b _ t ht => ?_
  extract_lets slot lock wrapped
  split
  · exact keyRefused_samePlant s ht slot 5
  · split
    · exact keyRefused_samePlant s ht slot 7
    · extract_lets u
      have written : s.samePlant u := ht.modFw _
      clear_value u
      dsimp only
      exact written.event _ _ _ _

/-! The DAP channels, the interrupt controller and the cores. -/

theorem execDapAbort_samePlant (d : DapNo) : Out.samePlant s (execDapAbort d s) := by
  unfold execDapAbort
  exact .guard (.next ((State.samePlant.refl s).endDap d _))

theorem execIcuSourceEvent_samePlant (src : IrqSource) : Out.samePlant s (execIcuSourceEvent src s) := by
  cases src with
  | shared n => exact .next ((State.samePlant.refl s).irqEvent n)
  | priv c p => exact .next (.ite ((State.samePlant.refl s).wakeCore c) (.refl s))

theorem execSwset_samePlant (c : CoreNo) (mask : BitVec 8) : Out.samePlant s (execSwset c mask s) := by
  unfold execSwset
  exact .guard (.next ((State.samePlant.refl s).each fun _ _ hu => .ite (hu.irqEvent _) hu))

theorem execModerationRelease_samePlant (n : SharedNo) : Out.samePlant s (execModerationRelease n s) := by
  unfold execModerationRelease
  exact .guard (.next (((State.samePlant.refl s).modSrc n _).wakeCore _))

theorem execCoreWfi_samePlant (c : CoreNo) : Out.samePlant s (execCoreWfi c s) := by
  unfold execCoreWfi
  exact .guard (.next ((((State.samePlant.refl s).modCore c _).each fun n _ hu => .ite (hu.refreshSrc n) hu).wakeCore c))

theorem execClaim_samePlant (c : CoreNo) : Out.samePlant s (execClaim c s) := by
  unfold execClaim
  refine .guard ?_
  split
  next src _ => exact .next (((State.samePlant.refl s).claimSource c src).answer _ _ _)
  next => exact .next ((State.samePlant.refl s).answer _ _ _)

theorem execComplete_samePlant (c : CoreNo) (id : BitVec 8) : Out.samePlant s (execComplete c id s) := by
  unfold execComplete
  extract_lets i
  refine .guard (.ite (.next ((State.samePlant.refl s).modCore c _)) ?_)
  split
  next n _ => exact .guard (.next (((State.samePlant.refl s).modSrc n _).refreshSrc n))
  next => exact .next (.refl s)

theorem execTargetWrite_samePlant (c : CoreNo) (n : SharedNo) (word : BitVec 32) : Out.samePlant s (execTargetWrite c n word s) := by
  unfold execTargetWrite
  exact .guard (.next ((State.samePlant.refl s).writeSrcCfg n word))

theorem execPrioWrite_samePlant (c : CoreNo) (reg : PrioReg) (word : BitVec 32) : Out.samePlant s (execPrioWrite c reg word s) := by
  cases reg with
  | shared n => exact .guard (.next ((State.samePlant.refl s).writeSrcCfg n word))
  | priv d m => exact .guard (.next (((State.samePlant.refl s).modCore c _).wakeCore c))

theorem execThresholdWrite_samePlant (c : CoreNo) (threshold : Fin 16) : Out.samePlant s (execThresholdWrite c threshold s) := by
  unfold execThresholdWrite
  exact .guard (.next ((State.samePlant.refl s).modCore c _))

theorem execTimerCompareWrite_samePlant (c : CoreNo) (n : Fin 4) (hi : BitVec 16) (lo : BitVec 32) :
    Out.samePlant s (execTimerCompareWrite c n hi lo s) := by
  unfold execTimerCompareWrite
  exact .guard (.next ((State.samePlant.refl s).modCore c _))

theorem execTimerCompareMatch_samePlant (c : CoreNo) (n : Fin 4) : Out.samePlant s (execTimerCompareMatch c n s) := by
  unfold execTimerCompareMatch
  exact .next (.ite ((State.samePlant.refl s).wakeCore c) (.refl s))

theorem execTimeLoRead_samePlant (c : CoreNo) : Out.samePlant s (execTimeLoRead c s) := by
  unfold execTimeLoRead
  exact .guard (.next (((State.samePlant.refl s).modCore c _).answer _ _ _))

theorem execEccCorrected_samePlant (mem : Sys2Proof.Memory) (addr : BitVec 32) (requester : Fin 12) :
    Out.samePlant s (execEccCorrected mem addr requester s) :=
  .next (((State.samePlant.refl s).event _ _ _ _).irqEvent 44)

/-! The scrubber. -/

theorem execScrubGo_samePlant (c : CoreNo) (stores : Stores) (machineMode : Bool) (start words : Nat) :
    Out.samePlant s (execScrubGo c stores machineMode start words s) := by
  have hstored : s.samePlant (s.over stores (State.storeScrub c)) := (State.samePlant.refl s).over (fun w _ hu => hu.storeScrub c w) _
  unfold execScrubGo
  extract_lets stored a n loaded queued
  have hl : s.samePlant loaded := hstored.modCore c _
  have hq : s.samePlant queued := hl.modCore c _
  exact .guard (.ite (.next hstored) (.ite (.next ((hl.modCore c _).scrubLevel c))
    (.ite (.next ((hq.scrubOrder _).nextScrub.scrubLevel c)) (.next ((hl.modCore c _).scrubLevel c)))))

theorem execScrubAbort_samePlant (c : CoreNo) (atWord : Bool) (corr uncorr : Nat) (firstBad : BitVec 32) :
    Out.samePlant s (execScrubAbort c atWord corr uncorr firstBad s) := by
  have hs := State.samePlant.refl s
  unfold execScrubAbort
  exact .ite (.guard (.next (hs.endScrub c _ _ _ _))) (.guard (.ite (.next (hs.endScrub c _ _ _ _)) (.next (hs.modCore c _))))

theorem execScrubDone_samePlant (c : CoreNo) (corr uncorr : Nat) (firstBad : BitVec 32) :
    Out.samePlant s (execScrubDone c corr uncorr firstBad s) := by
  unfold execScrubDone
  exact .guard (.next ((State.samePlant.refl s).endScrub c _ _ _ _))

/-! The recorder's own writes. -/

theorem execFoldTimeout_samePlant (source : BitVec 8) : Out.samePlant s (execFoldTimeout source s) := by
  unfold execFoldTimeout
  exact .guard (.next ((State.samePlant.refl s).closeRecs _ _))

theorem execPeatAppend_samePlant (seq : Nat) : Out.samePlant s (execPeatAppend seq s) := by
  unfold execPeatAppend
  refine .guard ?_
  split
  · exact .next ((State.samePlant.refl s).modRec _)
  · exact .next (.refl s)

theorem execNumberReserveWrite_samePlant : Out.samePlant s (execNumberReserveWrite s) := by
  unfold execNumberReserveWrite
  exact .guard (.next (((State.samePlant.refl s).modRec _).over (fun r _ hu => hu.writeRec r) _))

end

/-- Settles O51, row by row. -/
theorem plantFrame : Obligations.PlantFrame := by
  intro c s t hc
  cases c
  case canBusOff p => exact execCanBusOff_samePlant s p t
  case busOffRecovery p => exact execBusOffRecovery_samePlant s p t
  case errorPassive p into => exact execErrorPassive_samePlant s p into t
  case nmtStart p => exact execNmtStart_samePlant s p t
  case nmtStop p => exact execNmtStop_samePlant s p t
  case nmtEnterPreoperational p => exact execNmtEnterPreoperational_samePlant s p t
  case heartbeatReceived p node => exact execHeartbeatReceived_samePlant s p node t
  case heartbeatLost p node => exact execHeartbeatLost_samePlant s p node t
  case heartbeatProduce p => exact execHeartbeatProduce_samePlant s p t
  case timeReceived p days ms => exact execTimeReceived_samePlant s p days ms t
  case lssConfigureNodeId p node => exact execLssConfigureNodeId_samePlant s p node t
  case syncReceived p => exact execSyncReceived_samePlant s p t
  case tpdoEventCheck => exact execTpdoEventCheck_samePlant s t
  case tpdoEventTimer n => exact execTpdoEventTimer_samePlant s n t
  case emcyInhibitExpiry p => exact execEmcyInhibitExpiry_samePlant s p t
  case quickCommand p => exact execQuickCommand_samePlant s p t
  case alertResponse p rival pec => exact execAlertResponse_samePlant s p rival pec t
  case errCmd p => exact execErrCmd_samePlant s p t
  case twBusError p src => exact execTwBusError_samePlant s p src t
  case stretchLimit p => exact execStretchLimit_samePlant s p t
  case portSleep p => exact execPortSleep_samePlant s p t
  case addressRecognisedAsleep p => exact execAddressRecognisedAsleep_samePlant s p t
  case twTimeout p controller => exact execTwTimeout_samePlant s p controller t
  case busRecovery p sda => exact execBusRecovery_samePlant s p sda t
  case portFaultCheck p linesHigh => exact execPortFaultCheck_samePlant s p linesHigh t
  case hostNotify p acked => exact execHostNotify_samePlant s p acked t
  case hostNotifyRetry p acked => exact execHostNotifyRetry_samePlant s p acked t
  case arbitrationLost p own => exact execArbitrationLost_samePlant s p own t
  case authLockoutEnd => exact execAuthLockoutEnd_samePlant s t
  case identify f => exact execIdentify_samePlant s f t
  case authBegin f => exact execAuthBegin_samePlant s f t
  case imageBegin f => exact execImageBegin_samePlant s f t
  case imageData f => exact execImageData_samePlant s f t
  case imageEnd f => exact execImageEnd_samePlant s f t
  case keyWrite f => exact execKeyWrite_samePlant s f t
  case dapAbort d => exact execDapAbort_samePlant s d t
  case icuSourceEvent src => exact execIcuSourceEvent_samePlant s src t
  case swset c mask => exact execSwset_samePlant s c mask t
  case moderationRelease n => exact execModerationRelease_samePlant s n t
  case coreWfi c => exact execCoreWfi_samePlant s c t
  case claim c => exact execClaim_samePlant s c t
  case complete c id => exact execComplete_samePlant s c id t
  case targetWrite c n word => exact execTargetWrite_samePlant s c n word t
  case prioWrite c reg word => exact execPrioWrite_samePlant s c reg word t
  case thresholdWrite c threshold => exact execThresholdWrite_samePlant s c threshold t
  case timerCompareWrite c n hi lo => exact execTimerCompareWrite_samePlant s c n hi lo t
  case timerCompareMatch c n => exact execTimerCompareMatch_samePlant s c n t
  case timeLoRead c => exact execTimeLoRead_samePlant s c t
  case eccCorrected mem addr requester => exact execEccCorrected_samePlant s mem addr requester t
  case scrubGo c stores machineMode start words => exact execScrubGo_samePlant s c stores machineMode start words t
  case scrubAbort c atWord corr uncorr firstBad => exact execScrubAbort_samePlant s c atWord corr uncorr firstBad t
  case scrubDone c corr uncorr firstBad => exact execScrubDone_samePlant s c corr uncorr firstBad t
  case foldTimeout source => exact execFoldTimeout_samePlant s source t
  case peatAppend seq => exact execPeatAppend_samePlant s seq t
  case numberReserveWrite => exact execNumberReserveWrite_samePlant s t
  all_goals cases hc

end Sys2Proof.Machine
